-- ==== Sys2Proof/Word.lean ====
section
/-! DEFINITION. The word types, the fixed-size tables and the plainest byte arithmetic of the model. -/

namespace Sys2Proof

/-- One byte of the maintenance link. -/
abbrev Byte := BitVec 8

/-- Signal groups G1 to G16, channels CH1 to CH48, inputs D1 to D32, stages S1 to S16, plans P1 to P8,
cables C1 to C24, probe program entries 1 to 64, schedule entries 1 to 32, special days 1 to 16 and auxiliary
outputs AX1 to AX8 (00_scope.md, Numbering). Number k of the manual is the value k - 1 here. -/
abbrev Gid := Fin 16
/-- A channel, CH1 to CH48. -/
abbrev Ch := Fin 48
/-- A detector input, D1 to D32. -/
abbrev Det := Fin 32
/-- A stage, S1 to S16. -/
abbrev Stg := Fin 16
/-- A timing plan, P1 to P8. -/
abbrev Pln := Fin 8
/-- A cable, C1 to C24. -/
abbrev Cab := Fin 24
/-- A probe program entry, 1 to 64. -/
abbrev PEnt := Fin 64

/-- A table of exactly `n` entries: a list that carries its own length. -/
structure Tab (n : Nat) (α : Type) where
  items : List α
  len : items.length = n
  deriving DecidableEq, Repr

/-- Every index of a table of `n` entries, in ascending order. -/
def allFin (n : Nat) : List (Fin n) := List.finRange n

/-- The entry at an index. -/
def Tab.get {n : Nat} {α : Type} (t : Tab n α) (i : Fin n) : α :=
  t.items[i.val]'(by rw [t.len]; exact i.isLt)

/-- The table with one entry replaced. -/
def Tab.put {n : Nat} {α : Type} (t : Tab n α) (i : Fin n) (a : α) : Tab n α :=
  ⟨t.items.set i.val a, by simp [t.len]⟩

/-- The table whose entries are all equal. -/
def Tab.fill (n : Nat) {α : Type} (a : α) : Tab n α := ⟨List.replicate n a, by simp⟩

/-- The table with a function applied to every entry. -/
def Tab.map {n : Nat} {α β : Type} (f : α → β) (t : Tab n α) : Tab n β :=
  ⟨t.items.map f, by simp [t.len]⟩

/-- The table of a function of the index. -/
def Tab.ofFn (n : Nat) {α : Type} (f : Fin n → α) : Tab n α :=
  ⟨(List.finRange n).map f, by simp⟩

/-- One entry changed by a function. -/
def Tab.modify {n : Nat} {α : Type} (t : Tab n α) (i : Fin n) (f : α → α) : Tab n α :=
  t.put i (f (t.get i))

end Sys2Proof
end

