-- ==== Sys2Proof/Syntax.lean ====
section
/-! DEFINITION. The commands of the JC62: one constructor for each row of spec/opcode_table.json. -/

namespace Sys2Proof

/-- The level of a voltage indication (R100). -/
inductive Level where
  | none | low | full
  deriving DecidableEq, Repr

/-- The steps of the part (spec/opcode_table.json). A request row carries the tag and the body of its frame;
an event row carries what the event reports. -/
inductive Instr where
  /-- POWER_ON_RESET: what the backup monitor recorded, the tenths the backup domain counted while the power was
  off, the present VBAK state and the two speed straps (R70, R78, R192). -/
  | powerOnReset (backupHeld : Bool) (offTenths : Nat) (vbakLow spd1 spd0 : Bool)
  /-- RESET_INPUT: RSTN asserted, with the straps read at its release (R192, R199). -/
  | resetInput (spd1 spd0 : Bool)
  /-- RX_FRAME: the last byte of a frame, given whole, has been received (R193). -/
  | rxFrame (tag code : Byte) (body : List Byte) (crc : BitVec 16)
  | interbyteTimeout
  | linkBreak
  | requestTaken
  | frameSent
  | identify (tag : Byte) (body : List Byte)
  | status (tag : Byte) (body : List Byte)
  | editOpen (tag : Byte) (body : List Byte)
  | editWrite (tag : Byte) (body : List Byte)
  | editRead (tag : Byte) (body : List Byte)
  | editCommit (tag : Byte) (body : List Byte)
  | editDiscard (tag : Byte) (body : List Byte)
  | configRead (tag : Byte) (body : List Byte)
  | clockSet (tag : Byte) (body : List Byte)
  | clockRead (tag : Byte) (body : List Byte)
  | clockTrim (tag : Byte) (body : List Byte)
  | start (tag : Byte) (body : List Byte)
  | restart (tag : Byte) (body : List Byte)
  | modeSet (tag : Byte) (body : List Byte)
  | planForce (tag : Byte) (body : List Byte)
  | planRelease (tag : Byte) (body : List Byte)
  | demandPlace (tag : Byte) (body : List Byte)
  | maintUpdate (tag : Byte) (body : List Byte)
  | lampRelearn (tag : Byte) (body : List Byte)
  | sweepStart (tag : Byte) (body : List Byte)
  | sweepStop (tag : Byte) (body : List Byte)
  | probeRun (tag : Byte) (body : List Byte)
  | groupRead (tag : Byte) (body : List Byte)
  | channelRead (tag : Byte) (body : List Byte)
  | detectorRead (tag : Byte) (body : List Byte)
  | cableRead (tag : Byte) (body : List Byte)
  | faultRead (tag : Byte) (body : List Byte)
  | faultAck (tag : Byte) (body : List Byte)
  | faultPurge (tag : Byte) (body : List Byte)
  | attentionRead (tag : Byte) (body : List Byte)
  | noticeEnable (tag : Byte) (body : List Byte)
  | attentionPulseEnd
  | zeroCrossing
  | crystalTick
  | mainsTimingLoss
  /-- DETECTOR_PIN_CHANGE: the pin DIN of an input is at this level (true is high). -/
  | detectorPinChange (d : Det) (high : Bool)
  | detectorAcceptedChange (d : Det)
  | stuckOn (d : Det)
  | stuckOff (d : Det)
  | priorityOverstay
  | stageChangeStart
  | redAmberStart (g : Gid)
  | greenInstant (g : Gid)
  | amberEnd (g : Gid)
  | clearanceEnd (g : Gid)
  | stageChangeComplete
  | lateJoin (g : Gid)
  | gapOut
  | maxOut
  | coordinatedGapOut
  | endOfEntryDecision
  | skipPoint
  | holdEnd
  | cycleStart
  | changePoint
  | modeColoursApply
  | clearingGreensEnd
  | voltageIndication (c : Ch) (level : Level)
  | supplyOutputIndication (level : Level)
  | fullDriveEnd (c : Ch)
  | pullInLimit (c : Ch)
  | releaseLimit (c : Ch)
  | contactorCloseLimit
  | contactorOpenLimit
  | flashPhaseChange
  /-- CURRENT_SAMPLE: an RMS sample in mA, 0 to 4000 (R119). -/
  | currentSample (c : Ch) (mA : Nat)
  | leakRequest (c : Ch)
  | probeStart
  | probeClosingEnd
  /-- PROBE_CLASSIFY: the measurement the front end reports at the end of MEASURING (R136, R141). -/
  | probeClassify (measurement : BitVec 16)
  | probeReleaseEnd
  | sweepEnd
  | conflictFound (i j : Gid)
  | redFailure (g : Gid)
  | startupCheckComplete
  | startupFlashEnd
  | startupRedEnd
  | holdoffExpiry
  | probationExpiry
  | supplyLoss
  | supplyReturn
  | byteReceived (b : Byte) (framingError : Bool)
  | crossingGap50Ms
  deriving DecidableEq, Repr

end Sys2Proof
end

