-- ==== Sys2Proof/Config.lean ====
section
/-! DEFINITION. The part's fixed capacities and times, and the values the manual leaves free. -/

namespace Sys2Proof.Config

/-- Fault table entries (R175). -/
def faultCapacity : Nat := 64
/-- Output queue slots (R194). -/
def outputSlots : Nat := 8
/-- Input buffer frames (R193). -/
def inputFrames : Nat := 2
/-- Free slots a notice needs (R184). -/
def noticeSlots : Nat := 3
/-- Urgent queue entries (R139). -/
def urgentCapacity : Nat := 8
/-- Priority list requests (R38). -/
def priorityCapacity : Nat := 4
/-- The longest body of a request, in bytes (R192). -/
def maxBody : Nat := 240
/-- The longest body of a reply after the status and summary bytes (R192). -/
def maxReplyBody : Nat := 238
/-- The full-drive time of a channel coil, in ms (R103). -/
def fullDrive : Nat := 100
/-- The least pull-in limit after a dropout, in ms (R105). -/
def dropoutFloor : Nat := 50
/-- The close limit and the open limit of the supply contactor, in ms (R114). -/
def contactorLimit : Nat := 200
/-- Tenths in a day (R53). -/
def dayTenths : Nat := 864000
/-- The time at space at which a link break is declared, in ms (R195). -/
def breakTime : Nat := 25
/-- Oscillator cycles in one second (R76). -/
def oscillator : Nat := 32768
/-- The divider length of a pattern position, in oscillator cycles (R76). -/
def dividerLength (pattern : Nat) : Nat := if pattern = 5 then 3276 else 3277
/-- The silicon revision number that IDENTIFY answers (R198). -/
def siliconRevision : Nat := 1

/-- FREE VALUE. The four bytes that stand for a tenth-tick time in a GROUP_READ reply: R2 and R4 give the latest
green end instant as "a tenth-tick time" and state neither its origin nor its layout (notes/assumptions/11.md). -/
opaque tickTimeCode : Nat → BitVec 32

/-- FREE VALUE. What a reply carries whose body, laid out by the rule that owns it, is longer than the 238 bytes
R192 allows (a CABLE_READ of a cable with many entries): the manual states no result
(notes/assumptions/12.md). -/
opaque overlongBody : List Byte → List Byte

/-- FREE VALUE. The code of a reply to a request whose code is 0x80 or above: R192 gives "the request's code plus
0x80", which is then no byte, and the manual states no result (notes/assumptions/12.md). -/
opaque highReplyCode : Byte → Byte

/-- FREE VALUE. Whether LRX has returned to mark at a millisecond of the 1 ms timebase, after a byte that left it at
space: the line is driven from outside, and no row gives its level (notes/assumptions/7.md). -/
opaque lineReturns : Nat → Bool

/-- FREE VALUE. Whether VBAK is LOW at a millisecond of the 1 ms timebase while the main supply is present: the
backup monitor's input is driven from outside, and no row gives it (notes/assumptions/8.md). -/
opaque vbakLowAt : Nat → Bool

end Sys2Proof.Config
end

