-- ==== Sys2Proof/Machine/Records.lean ====
section
/-! DEFINITION. The configuration records of the fourteen record classes and the empty configuration
(11_configuration_sessions.md, 11.1). -/

namespace Sys2Proof.Machine

/-- R1. -/
inductive GroupKind where
  | traffic | pedestrian | arrow
  deriving DecidableEq, Repr

/-- R5. -/
inductive Aspect where
  | red | amber | green
  deriving DecidableEq, Repr

/-- R5. -/
inductive LampKind where
  | filament | led
  deriving DecidableEq, Repr

/-- GROUP (R1). -/
structure GroupRec where
  kind : Option GroupKind
  red : List Ch
  amber : List Ch
  green : List Ch
  deriving DecidableEq, Repr

/-- CHANNEL (R5): the group and aspect are absent together. -/
structure ChannelRec where
  group : Option Gid
  aspect : Option Aspect
  lamp : LampKind
  heads : Nat
  deriving DecidableEq, Repr

/-- R136. -/
inductive ProbeKind where
  | loop | insulation | coupling
  deriving DecidableEq, Repr

/-- PROBE (R136). -/
structure ProbeRec where
  kind : Option ProbeKind
  subject : Ch
  partner : Option Ch
  limit : Nat
  deriving DecidableEq, Repr

/-- R17. -/
inductive DemandMode where
  | fixed | demand
  deriving DecidableEq, Repr

/-- R17. -/
inductive RedFailAction where
  | inhibit | flash
  deriving DecidableEq, Repr

/-- GROUP_TIMING (R17). -/
structure GroupTiming where
  minGreen : Nat
  amber : Nat
  redAmber : Nat
  clearance : Nat
  extension : Nat
  demandMode : DemandMode
  redMin : Nat
  redFailAction : RedFailAction
  redFailGrace : Nat
  deriving DecidableEq, Repr

/-- R118. -/
inductive RefMode where
  | learn | fixed
  deriving DecidableEq, Repr

/-- CHANNEL_SETTINGS (R101, R118). -/
structure ChanSettings where
  pullIn : Nat
  release : Nat
  holdDuty : Nat
  wear : Nat
  refMode : RefMode
  fixedRef : Nat
  confirm : Nat
  deriving DecidableEq, Repr

/-- R46. -/
inductive CorrectionMethod where
  | shortest | lengthenOnly
  deriving DecidableEq, Repr

/-- A plan entry (R47). -/
structure PlanEntry where
  stage : Stg
  endPos : Nat
  maxGreen : Nat
  dwell : Bool
  gapOut : Bool
  deriving DecidableEq, Repr

/-- PLAN (R46). -/
structure PlanRec where
  cycle : Nat
  offset : Nat
  pmax : Nat
  method : CorrectionMethod
  entries : List PlanEntry
  deriving DecidableEq, Repr

/-- R86. -/
inductive DetKind where
  | presence | button | priority
  deriving DecidableEq, Repr

/-- R86, R183. -/
inductive Polarity where
  | activeHigh | activeLow
  deriving DecidableEq, Repr

/-- DETECTOR (R86). -/
structure DetectorRec where
  kind : Option DetKind
  polarity : Polarity
  debounce : Nat
  served : List Gid
  maxPresence : Nat
  maxAbsence : Nat
  target : Option Stg
  priorityMax : Nat
  deriving DecidableEq, Repr

/-- A schedule action or a selection (R81, R82). -/
inductive Action where
  | plan (p : Pln)
  | flash
  deriving DecidableEq, Repr

/-- SCHEDULE (R81). Bit k of the selector is MONDAY to SUNDAY for k = 0 to 6 and SPECIAL for k = 7. -/
structure ScheduleRec where
  days : BitVec 8
  minute : Nat
  action : Action
  deriving DecidableEq, Repr

/-- A used SPECIAL_DAY (R81); year absent means ANY. -/
structure SpecialRec where
  month : Nat
  day : Nat
  year : Option Nat
  deriving DecidableEq, Repr

/-- R70. -/
inductive ClockSource where
  | mains | crystal
  deriving DecidableEq, Repr

/-- R70. -/
inductive MainsFreq where
  | hz50 | hz60
  deriving DecidableEq, Repr

/-- R157. -/
inductive BreakAction where
  | none | flash
  deriving DecidableEq, Repr

/-- R183. -/
inductive AttnMode where
  | level | pulse
  deriving DecidableEq, Repr

/-- CABINET (R75, R81, R87, R112, R157, R183). -/
structure CabinetRec where
  preference : ClockSource
  freq : MainsFreq
  defaultPlan : Pln
  aux : Tab 8 (Option Gid)
  flashRate : Nat
  startFlash : Nat
  startRed : Nat
  attempts : Nat
  holdoff : Nat
  probation : Nat
  breakAction : BreakAction
  attnPolarity : Polarity
  attnMode : AttnMode
  deriving DecidableEq, Repr

/-- The records of the structural classes (R185, 11.1). -/
structure Structural where
  groups : Tab 16 GroupRec
  channels : Tab 48 ChannelRec
  conflicts : Tab 16 (List Gid)
  intergreens : Tab 16 (Tab 16 Nat)
  cables : Tab 24 (List Ch)
  probes : Tab 64 ProbeRec
  deriving DecidableEq, Repr

/-- The records of the timing classes (R185, 11.1). -/
structure Timing where
  groupTimings : Tab 16 GroupTiming
  settings : Tab 48 ChanSettings
  stages : Tab 16 (List Gid)
  plans : Tab 8 PlanRec
  detectors : Tab 32 DetectorRec
  schedule : Tab 32 ScheduleRec
  specials : Tab 16 (Option SpecialRec)
  cabinet : CabinetRec
  deriving DecidableEq, Repr

/-- One record of every class at every index (R185). -/
structure ConfigSet where
  st : Structural
  tm : Timing
  deriving DecidableEq, Repr

/-- R16. -/
def GroupRec.empty : GroupRec := ⟨none, [], [], []⟩

/-- R16. -/
def ChannelRec.empty : ChannelRec := ⟨none, none, .filament, 1⟩

/-- R136. -/
def ProbeRec.empty : ProbeRec := ⟨none, 0, none, 1⟩

/-- R17. -/
def GroupTiming.empty : GroupTiming := ⟨40, 30, 0, 30, 5, .demand, 1, .inhibit, 0⟩

/-- R101, R118. -/
def ChanSettings.empty : ChanSettings := ⟨60, 60, 50, 0, .learn, 100, 3⟩

/-- R46. -/
def PlanRec.empty : PlanRec := ⟨0, 0, 10, .shortest, []⟩

/-- R86. -/
def DetectorRec.empty : DetectorRec := ⟨none, .activeHigh, 50, [], 0, 0, none, 0⟩

/-- R81 gives the empty selector; the start minute and the action of an unused entry are not given
(DESIGN CHOICE, notes/assumptions/13.md). -/
def ScheduleRec.empty : ScheduleRec := ⟨0, 0, .plan 0⟩

/-- R75, R81, R87, R112, R157, R183. -/
def CabinetRec.empty : CabinetRec :=
  ⟨.crystal, .hz50, 0, Tab.fill 8 none, 60, 50, 30, 0, 5, 15, .none, .activeLow, .level⟩

/-- R16, R135, R136. -/
def Structural.empty : Structural :=
  { groups := Tab.fill 16 GroupRec.empty
    channels := Tab.fill 48 ChannelRec.empty
    conflicts := Tab.fill 16 []
    intergreens := Tab.fill 16 (Tab.fill 16 0)
    cables := Tab.fill 24 []
    probes := Tab.fill 64 ProbeRec.empty }

/-- R16, R17, R46, R81, R86, R101, R118. -/
def Timing.empty : Timing :=
  { groupTimings := Tab.fill 16 GroupTiming.empty
    settings := Tab.fill 48 ChanSettings.empty
    stages := Tab.fill 16 []
    plans := Tab.fill 8 PlanRec.empty
    detectors := Tab.fill 32 DetectorRec.empty
    schedule := Tab.fill 32 ScheduleRec.empty
    specials := Tab.fill 16 none
    cabinet := CabinetRec.empty }

/-- The empty configuration (R185). -/
def ConfigSet.empty : ConfigSet := ⟨Structural.empty, Timing.empty⟩

/-- A plan is defined when it has entries (R46). -/
def PlanRec.defined (p : PlanRec) : Bool := !p.entries.isEmpty

/-- A coordinated plan (R46). -/
def PlanRec.coordinated (p : PlanRec) : Bool := p.defined && p.cycle != 0

/-- An isolated plan that is defined (R46). -/
def PlanRec.isolated (p : PlanRec) : Bool := p.defined && p.cycle == 0

/-- The entry with a number, counted from 1 (R47). -/
def PlanRec.entry? (p : PlanRec) (k : Nat) : Option PlanEntry :=
  if k = 0 then none else p.entries[k - 1]?

/-- The end position of an entry; E_0 means 0 (R47). -/
def PlanRec.endOf (p : PlanRec) (k : Nat) : Nat :=
  match p.entry? k with
  | some e => e.endPos
  | none => 0

/-- The entry after `k`, wrapping to entry 1 after the last (R51). -/
def PlanRec.next (p : PlanRec) (k : Nat) : Nat := if k < p.entries.length then k + 1 else 1

/-- The number of the first entry that names a stage (R39, R40). -/
def PlanRec.firstNaming (p : PlanRec) (b : Stg) : Option Nat :=
  (p.entries.findIdx? (fun e => e.stage == b)).map (· + 1)

/-- The set of groups without repeats, in ascending order (R10, R13, R86, R187). -/
def groupSet (l : List Gid) : List Gid := (allFin 16).filter (fun g => l.contains g)

end Sys2Proof.Machine
end

