-- ==== Sys2Proof/Machine/State.lean ====
section
/-! DEFINITION. The state of the part, block by block, and the state right after a power-on reset that finds the
backup fell. -/

namespace Sys2Proof.Machine

/-! ### Names of values -/

/-- The colour states of R2. -/
inductive Colour where
  | red | redAmber | green | amber | flashAmber | darkAll | clear | off | dark
  deriving DecidableEq, Repr

/-- R4, R129. -/
inductive RedHealth where
  | ok | unknown | deficient
  deriving DecidableEq, Repr

/-- R6. -/
inductive Command where
  | off | on | flashing
  deriving DecidableEq, Repr

/-- R6, R114. -/
inductive RelayState where
  | released | pullingIn | held | releasing
  deriving DecidableEq, Repr

/-- R6, R114. -/
inductive Proof where
  | unproven | opened | closed
  deriving DecidableEq, Repr

/-- R6. -/
inductive RelayFault where
  | none | failToClose | failToOpen | foreignVoltage
  deriving DecidableEq, Repr

/-- How a channel coil is driven (R103). -/
inductive Drive where
  | off | full | hold
  deriving DecidableEq, Repr

/-- R6, R113. -/
inductive TestBus where
  | no | drive | sense
  deriving DecidableEq, Repr

/-- R6, R117. `learning k` is LEARNING (k of 8). -/
inductive LearnState where
  | unlearned
  | learning (k : Nat)
  | learned
  deriving DecidableEq, Repr

/-- R6, R117. -/
inductive Verdict where
  | unknown | good | partialFail | failed | overcurrent | circuitOpen | held
  deriving DecidableEq, Repr

/-- The categories of R124. -/
inductive Category where
  | over | good | partialFail | dark
  deriving DecidableEq, Repr

/-- R6, R144. -/
inductive CableState where
  | untested | sound | suspect | opened | earthLeak
  | crossed (partner : Ch)
  deriving DecidableEq, Repr

/-- Status codes of replies (R197). -/
inductive Status where
  | ok | okClamped | unknownRequest | badLength | outOfRange | wrongMode | busy | noSession | sessionOpen
  | invalidConfig | notTestable | conditionPresent | undefinedPlan
  deriving DecidableEq, Repr

/-- Cabinet modes (R156). -/
inductive Mode where
  | unconfigured | startupCheck | startupFlash | startupRed | normal | clearing | flash | dark
  deriving DecidableEq, Repr

/-- Fallback reasons (R156). -/
inductive Reason where
  | hostRequest | linkBreak | redFail | conflict | cross | weld | foreignGreen | supplyLoss | contactor | lockout
  deriving DecidableEq, Repr

/-- Fault kinds (section 10.1), in the order of the codes of 12.6. -/
inductive FaultKind where
  | conflict | crossDangerous | relayFailToOpen | foreignVoltage | redDeficient | supplyContactor
  | relayFailToClose | relayWear | lampPartial | lampFailed | lampOvercurrent | circuitOpen | earthLeak
  | crossNuisance | testStarved | detectorStuckOn | detectorStuckOff | priorityOverstay | timeInvalid
  | planUndefined | supplyLoss | linkBreak | recoveryLockout
  deriving DecidableEq, Repr

/-- The subject of a fault (R175). A pair has its lower group first. -/
inductive Subject where
  | nothing
  | channel (c : Ch)
  | group (g : Gid)
  | pair (i j : Gid)
  | input (d : Det)
  | entry (e : PEnt)
  deriving DecidableEq, Repr

/-! ### The calendar (CLK, SCH) -/

/-- A date, 2000-01-01 to 2199-12-31 (R70). -/
structure Date where
  year : Nat
  month : Nat
  day : Nat
  deriving DecidableEq, Repr

/-- A stamp (R72): the date and the tenth of the day, or the invalid marker with seconds since reset. -/
inductive Stamp where
  | valid (date : Date) (tenth : Nat)
  | invalid (secs : Nat)
  deriving DecidableEq, Repr

/-- The Calendar Clock (R70). `tod` is the time of day in tenths. `sinceCrossing` (ms since the last counted
crossing, 50 meaning 50 or more) and `divider` (oscillator cycles counted, in thousandths) hold what R73, R74 and
R76 time; `setTags` are the requests that wait for the pending set (R79); `vbakLow` is the present level of the VBAK
input (R78). -/
structure Clk where
  date : Date
  tod : Nat
  valid : Bool
  trim : Int
  interval : Nat
  preference : ClockSource
  freq : MainsFreq
  source : ClockSource
  mainsCount : Nat
  stability : Nat
  pattern : Nat
  secs : Nat
  pendingSet : Option (Date × Nat)
  setTags : List Byte
  sinceCrossing : Nat
  divider : Nat
  vbakLow : Bool
  deriving DecidableEq, Repr

/-- The source of a selection (R82). -/
inductive SelSource where
  | forced | schedule | defaultNoEntry | defaultTimeInvalid | defaultUndefined
  deriving DecidableEq, Repr

/-- The Day Schedule (R82, R84). -/
structure Sch where
  action : Option Action
  source : Option SelSource
  governing : Option (Fin 32 × Date)
  forced : Option Pln
  deriving DecidableEq, Repr

/-! ### The Stage Sequencer and its Plan Runner (SEQ) -/

/-- The runtime fields of a group (R4) and the timings in force (R18). -/
structure GroupRun where
  colour : Colour
  timeIn : Nat
  greenEnd : Option Nat
  demand : Bool
  latch : Bool
  inhibited : Bool
  redHealth : RedHealth
  observedGreen : Bool
  minInForce : Nat
  amberInForce : Nat
  clearanceInForce : Nat
  redAmberInForce : Nat
  deriving DecidableEq, Repr

/-- A change record (R24): the target, t0, the losing groups at t0, the gaining groups that are not yet in GREEN
with their green instants, and the largest minimum green of those that are (R57). -/
structure StageChange where
  target : Stg
  t0 : Nat
  losing : List Gid
  gaining : List (Gid × Nat)
  minMax : Nat
  deriving DecidableEq, Repr

/-- An end due (R24). `jump` is the end position a skip-point end jumps to (R58). -/
structure EndDue where
  target : Stg
  entry : Option Nat
  jump : Option Nat
  deriving DecidableEq, Repr

/-- A priority request (R24, R38). -/
structure PriorityReq where
  input : Det
  target : Stg
  service : Nat
  deriving DecidableEq, Repr

/-- The sequencer record (R24), the Plan Runner record (R49) and what the rules of a tenth tick need: `joined` keeps
the green instants g_j of the late joiners that are on their way to GREEN (R31, R32); `tick` counts tenth ticks; `tickOpen` holds from a tenth tick to the next millisecond, the instant at which the steps "at the tick"
are taken; `reached`, `cycleStart` and `changePoint` say that the advance of this tick made L reach E_d (R50), made a
cycle start whose correction is not yet computed (R53) and made a change point (R63); `decided` that an end-of-entry
decision was taken at this tick (R51); `coloursDue` and `clearingDue` that the colours of a mode (R43) or of the entry
to CLEARING (R45) are still to be taken. -/
structure Seq where
  groups : Tab 16 GroupRun
  running : Option Stg
  entry : Option Nat
  change : Option StageChange
  dropped : List (Gid × Nat)
  joined : List (Gid × Nat)
  endDue : Option EndDue
  gap : Nat
  maxTimer : Option Nat
  maxLimit : Nat
  priority : List PriorityReq
  barred : List Det
  active : Option Pln
  pos : Option Nat
  decision : Option Nat
  shorten : Nat
  holdBudget : Nat
  hold : Option Nat
  allowance : Nat
  greenStart : Nat
  stageMin : Nat
  pendingPlan : Option Pln
  tick : Nat
  tickOpen : Bool
  reached : Bool
  cycleStart : Bool
  changePoint : Bool
  decided : Bool
  coloursDue : Bool
  clearingDue : Bool
  deriving DecidableEq, Repr

/-! ### The Detector Interface (DET) -/

/-- R88. -/
inductive DetFault where
  | none | stuckOn | stuckOff
  deriving DecidableEq, Repr

/-- The runtime record of an input (R88), with the level of its pin DIN (true is high). `nextMs` holds back, to the
next millisecond, the acceptance of a change whose running count a commit's new debounce finds complete (R89). -/
structure DetRun where
  pin : Bool
  reading : Bool
  accepted : Bool
  debounceTime : Nat
  stateTime : Nat
  fault : DetFault
  count : Nat
  nextMs : Bool
  deriving DecidableEq, Repr

/-! ### The Output Controller (OUT) -/

/-- A limit being timed: ms elapsed and the limit (R103 to R106). -/
structure Limit where
  elapsed : Nat
  limit : Nat
  deriving DecidableEq, Repr

/-- The OUT fields of a channel (R6) with its coil drive, full-drive time and running limit (R103 to R107). -/
structure ChanRun where
  command : Command
  relay : RelayState
  proof : Proof
  indication : Level
  fault : RelayFault
  opCount : Nat
  steadySince : Option Nat
  testBus : TestBus
  drive : Drive
  fullTime : Option Nat
  limit : Option Limit
  deriving DecidableEq, Repr

/-- R114. -/
inductive ContactorFault where
  | none | failToClose | failToOpen
  deriving DecidableEq, Repr

/-- The contactor record (R114) with its coil drive and the ms of the running close or open limit. -/
structure Contactor where
  closeCommand : Bool
  state : RelayState
  proof : Proof
  indication : Level
  fault : ContactorFault
  driven : Bool
  limit : Option Nat
  deriving DecidableEq, Repr

/-- The flash generator (R112); `phaseLength` is the length in force of the present phase. -/
structure FlashGen where
  running : Bool
  onPhase : Bool
  phaseTime : Nat
  phaseLength : Nat
  deriving DecidableEq, Repr

/-- What OUT owns (R6, R112 to R116). -/
structure Out where
  chans : Tab 48 ChanRun
  contactor : Contactor
  flash : FlashGen
  trip : Bool
  deriving DecidableEq, Repr

/-! ### The Lamp Monitor (LMP) -/

/-- A learning set (R117); its k is in the learn state. -/
structure LearnSet where
  sum : Nat
  lowest : Nat
  highest : Nat
  deriving DecidableEq, Repr

/-- A confirmation run (R117). -/
structure ConfirmRun where
  candidate : Category
  count : Nat
  lowest : Nat
  deriving DecidableEq, Repr

/-- A lamp record (R117). `leakAsked` is set once the leak time stopped at 1000 ms has made its request (R134). -/
structure LampRec where
  iref : Option Nat
  learn : LearnState
  set : Option LearnSet
  healthy : Option Nat
  verdict : Verdict
  saved : Option Verdict
  run : Option ConfirmRun
  maintenance : Bool
  leak : Option Nat
  leakAsked : Bool
  deriving DecidableEq, Repr

/-! ### The Cable Tester (CBT) -/

/-- R138. -/
inductive Standing where
  | none | pass | suspect | fault
  deriving DecidableEq, Repr

/-- R138. -/
inductive CrossClass where
  | none | dangerous | nuisance
  deriving DecidableEq, Repr

/-- R138. -/
inductive ProbeResult where
  | pass | passMarginal | suspect | fault | abandoned
  deriving DecidableEq, Repr

/-- A result record (R138). -/
structure ResultRec where
  standing : Standing
  failures : Nat
  cross : CrossClass
  last : Option ProbeResult
  measurement : Option Nat
  time : Option Stamp
  starved : Nat
  done : Bool
  deriving DecidableEq, Repr

/-- R139. -/
inductive BusPhase where
  | idle | closing | measuring | releasing
  deriving DecidableEq, Repr

/-- R139; REQUEST carries the tag of the request. -/
inductive Origin where
  | sweep | urgent
  | request (tag : Byte)
  deriving DecidableEq, Repr

/-- A probe in progress (R139). `sweepEnded` marks one whose sweep ended while it was working (R150). -/
structure ProbeRun where
  entry : PEnt
  origin : Origin
  sweepEnded : Bool
  deriving DecidableEq, Repr

/-- The Cable Tester (R138, R139, R144). `period` present means STARTED. `choice` holds from an instant at which R149
lets CBT choose a probe until the choice is made. `sweepNext` marks a sweep that a new period found at its end, which ends
at the next tenth tick (R148); `uncounted` marks a sweep that is not counted toward the starved counts (R154). -/
structure Cbt where
  results : Tab 64 ResultRec
  cable : Tab 48 CableState
  phase : BusPhase
  probe : Option ProbeRun
  phaseTime : Nat
  period : Option Nat
  sweepTime : Nat
  walk : Nat
  deferred : List PEnt
  urgent : List PEnt
  quietSince : Tab 48 (Option Nat)
  choice : Bool
  sweepNext : Bool
  uncounted : Bool
  deriving DecidableEq, Repr

/-! ### The Cabinet Supervisor (SUP) -/

/-- The check exit (R156). -/
inductive CheckExit where
  | startupFlash
  | flash (reason : Option Reason) (latched : Bool)
  deriving DecidableEq, Repr

/-- The saved state of a supply loss (R156, R169). -/
inductive SavedState where
  | startup
  | flash (reason : Option Reason) (latched : Bool)
  | dark (reason : Option Reason) (latched : Bool)
  deriving DecidableEq, Repr

/-- The grace time of a group (R160): idle, running, or stopped after its red failure was taken. -/
inductive Grace where
  | idle
  | running (tenths : Nat)
  | stopped
  deriving DecidableEq, Repr

/-- The conflict time of a pair, lower group first, that is not idle (R158). -/
structure PairTime where
  low : Gid
  high : Gid
  ms : Nat
  found : Bool
  deriving DecidableEq, Repr

/-- The supervisor record (R156). `holdoffPending` marks a soft fallback on its way to FLASH (R162); `flashNext` is
the FLASH that a red failure of STARTUP_RED enters at the next tick (R163); `graceNext`, `holdoffNext` and
`probationNext` mark the lengths that a commit changed and that are judged at the next tenth tick (R157, R160);
`crossingSeen` says that a zero-crossing has arrived since the last gap of 50 ms (R169). -/
structure Sup where
  mode : Mode
  reason : Option Reason
  latched : Bool
  exit : CheckExit
  phaseTime : Nat
  phaseLength : Nat
  recovering : Bool
  attempts : Nat
  holdoff : Option Nat
  probation : Nat
  grace : Tab 16 Grace
  conflicts : List PairTime
  supplyPresent : Bool
  supplyGap : Nat
  supplyStable : Nat
  saved : Option SavedState
  holdoffPending : Bool
  flashNext : Option (Option Reason × Bool)
  graceNext : Tab 16 Bool
  holdoffNext : Bool
  probationNext : Bool
  crossingSeen : Bool
  deriving DecidableEq, Repr

/-! ### The Fault Table (FLT) -/

/-- A fault entry (R175). -/
structure FaultEntry where
  kind : FaultKind
  subject : Subject
  safety : Bool
  active : Bool
  acked : Bool
  first : Stamp
  last : Stamp
  count : Nat
  deriving DecidableEq, Repr

/-- The pending set (R182). -/
structure PendingSet where
  faultNew : Bool
  faultChange : Bool
  modeChange : Bool
  planChange : Bool
  commitApplied : Bool
  probeDone : Bool
  clock : Bool
  deriving DecidableEq, Repr

/-- The Fault Table (R175, R182, R183). `added` says that the event being taken has made an addition; it is false
between steps. -/
structure Flt where
  entries : List FaultEntry
  overflow : Bool
  pendingSet : PendingSet
  pulse : Option Nat
  added : Bool
  deriving DecidableEq, Repr

/-! ### The Link Interface (LNK) and the Configuration Store (CFG) -/

/-- A request frame in the input buffer (R193). -/
structure ReqFrame where
  tag : Byte
  code : Byte
  body : List Byte
  deriving DecidableEq, Repr

/-- A frame of the output queue (R192, R196): the payload is everything between the length byte and the CRC. -/
structure OutFrame where
  tag : Byte
  code : Byte
  payload : List Byte
  deriving DecidableEq, Repr

/-- The receive assembler (R193): HUNT, or ASSEMBLING with the bytes after the sync byte. -/
inductive Assembler where
  | hunt
  | assembling (bytes : List Byte)
  deriving DecidableEq, Repr

/-- The line LRX as the break detector times it (R195): at mark, or at space for some ms, with whether the break of this
period has been declared. -/
inductive Line where
  | mark
  | space (ms : Nat) (declared : Bool)
  deriving DecidableEq, Repr

/-- The line at a reset: the detector restarts, and a line at space is timed from the reset (R199). -/
def Line.restart : Line → Line
  | .mark => .mark
  | .space _ _ => .space 0 false

/-- The Link Interface (R192 to R199). `reserved` counts the slots reserved for replies; `interbyte` is the ms since
the last byte of the frame in assembly; `sent` is how much of the first queued frame has been sent, in hundredths of a
bit. -/
structure Lnk where
  assembler : Assembler
  interbyte : Nat
  input : List ReqFrame
  output : List OutFrame
  reserved : Nat
  overrun : Bool
  linkError : Bool
  notices : Bool
  fast : Bool
  sent : Nat
  line : Line
  deriving DecidableEq, Repr

/-- The Configuration Store (R185). -/
structure Cfg where
  running : ConfigSet
  buffer : Option ConfigSet
  pendingCommit : Option Timing
  committed : Bool
  deriving DecidableEq, Repr

/-! ### The state -/

/-- The state of the part: one field for each block, the waiting commands, and `now`, the milliseconds counted on the
1 ms timebase. -/
structure State where
  pending : List Instr
  now : Nat
  lnk : Lnk
  cfg : Cfg
  clk : Clk
  sch : Sch
  seq : Seq
  det : Tab 32 DetRun
  out : Out
  lmp : Tab 48 LampRec
  cbt : Cbt
  sup : Sup
  flt : Flt
  deriving DecidableEq, Repr

/-- Why a step can stop the machine with a fault: no rule of the manual stops the part, so there is no reason. Every
command answers a next state (safe: nothing is lost by an empty type). -/
inductive Fault where
  deriving DecidableEq, Repr

/-- Why a command can be refused. -/
inductive Refusal where
  /-- Raised by `exec` alone, for a row that has no meaning yet (safe). No row is left so. -/
  | notModelled (mnemonic : String)
  deriving DecidableEq, Repr

/-! ### The state after reset -/

/-- The first date of the calendar (R70). -/
def Date.epoch : Date := ⟨2000, 1, 1⟩

/-- R4; the timings in force of a group in no state that uses them are 0 (DESIGN CHOICE,
notes/assumptions/14.md). -/
def GroupRun.reset : GroupRun :=
  { colour := .darkAll, timeIn := 0, greenEnd := none, demand := false, latch := false, inhibited := false
    redHealth := .ok, observedGreen := false, minInForce := 0, amberInForce := 0, clearanceInForce := 0
    redAmberInForce := 0 }

/-- R24, R49. -/
def Seq.reset : Seq :=
  { groups := Tab.fill 16 GroupRun.reset, running := none, entry := none, change := none, dropped := []
    joined := [], endDue := none, gap := 0, maxTimer := none, maxLimit := 0, priority := [], barred := [], active := none
    pos := none, decision := none, shorten := 0, holdBudget := 0, hold := none, allowance := 0, greenStart := 0
    stageMin := 0, pendingPlan := none, tick := 0, tickOpen := false, reached := false, cycleStart := false
    changePoint := false, decided := false, coloursDue := false, clearingDue := false }

/-- R88. -/
def DetRun.reset : DetRun :=
  { pin := false, reading := false, accepted := false, debounceTime := 0, stateTime := 0, fault := .none, count := 0
    nextMs := false }

/-- R8. -/
def ChanRun.reset : ChanRun :=
  { command := .off, relay := .released, proof := .unproven, indication := .none, fault := .none, opCount := 0
    steadySince := none, testBus := .no, drive := .off, fullTime := none, limit := none }

/-- R114: RELEASING, with the open limit starting at the reset. -/
def Contactor.reset : Contactor :=
  { closeCommand := false, state := .releasing, proof := .unproven, indication := .none, fault := .none
    driven := false, limit := some 0 }

/-- R112. The phase length is that of the rate of the empty configuration. -/
def FlashGen.reset : FlashGen := { running := false, onPhase := true, phaseTime := 0, phaseLength := 500 }

/-- R8, R114, R116. -/
def Out.reset : Out :=
  { chans := Tab.fill 48 ChanRun.reset, contactor := Contactor.reset, flash := FlashGen.reset, trip := false }

/-- R117. -/
def LampRec.reset : LampRec :=
  { iref := none, learn := .unlearned, set := none, healthy := none, verdict := .unknown, saved := none
    run := none, maintenance := false, leak := none, leakAsked := false }

/-- R138. -/
def ResultRec.reset : ResultRec :=
  { standing := .none, failures := 0, cross := .none, last := none, measurement := none, time := none
    starved := 0, done := false }

/-- R138, R139; quiet since is the instant of the reset. -/
def Cbt.reset (now : Nat) : Cbt :=
  { results := Tab.fill 64 ResultRec.reset, cable := Tab.fill 48 .untested, phase := .idle, probe := none
    phaseTime := 0, period := none, sweepTime := 0, walk := 1, deferred := [], urgent := []
    quietSince := Tab.fill 48 (some now), choice := false, sweepNext := false, uncounted := false }

/-- R156. -/
def Sup.reset : Sup :=
  { mode := .unconfigured, reason := none, latched := false, exit := .startupFlash, phaseTime := 0
    phaseLength := 0, recovering := false, attempts := 0, holdoff := none, probation := 0
    grace := Tab.fill 16 .idle, conflicts := [], supplyPresent := false, supplyGap := 0, supplyStable := 0
    saved := none, holdoffPending := false, flashNext := none, graceNext := Tab.fill 16 false
    holdoffNext := false, probationNext := false, crossingSeen := false }

/-- The empty pending set (R182). -/
def PendingSet.empty : PendingSet := ⟨false, false, false, false, false, false, false⟩

/-- R175, R182, R183. -/
def Flt.reset : Flt :=
  { entries := [], overflow := false, pendingSet := PendingSet.empty, pulse := none, added := false }

/-- R185. -/
def Cfg.reset : Cfg := { running := ConfigSet.empty, buffer := none, pendingCommit := none, committed := false }

/-- R82. -/
def Sch.reset : Sch := { action := none, source := none, governing := none, forced := none }

/-- R193, R199; `fast` is the speed read from the straps (R192), `line` the line as the reset met it. -/
def Lnk.reset (fast : Bool) (line : Line) : Lnk :=
  { assembler := .hunt, interbyte := 0, input := [], output := [], reserved := 0, overrun := false
    linkError := false, notices := false, fast := fast, sent := 0, line := line.restart }

/-- R70, R78: the clock of a power-on that finds the backup fell. No crossing has been counted. -/
def Clk.reset : Clk :=
  { date := Date.epoch, tod := 0, valid := false, trim := 0, interval := 0, preference := .crystal, freq := .hz50
    source := .crystal, mainsCount := 0, stability := 0, pattern := 1, secs := 0, pendingSet := none, setTags := []
    sinceCrossing := 50, divider := 0, vbakLow := false }

/-- R71, R78, R176: the TIME_INVALID entry that a power-on with invalid time makes, as the first entry. -/
def FaultEntry.timeInvalidAtReset : FaultEntry :=
  { kind := .timeInvalid, subject := .nothing, safety := false, active := true, acked := false
    first := .invalid 0, last := .invalid 0, count := 1 }

/-- The part right after a power-on reset that finds the backup fell (R78, R175): TIME_INVALID is the one entry of
the fault table. The straps are low (notes/assumptions/3.md), and LRX is at mark (notes/assumptions/7.md). -/
def State.reset : State :=
  { pending := [], now := 0, lnk := Lnk.reset false .mark, cfg := Cfg.reset, clk := Clk.reset, sch := Sch.reset
    seq := Seq.reset, det := Tab.fill 32 DetRun.reset, out := Out.reset, lmp := Tab.fill 48 LampRec.reset
    cbt := Cbt.reset 0, sup := Sup.reset
    flt := { Flt.reset with
      entries := [FaultEntry.timeInvalidAtReset]
      pendingSet := { PendingSet.empty with faultNew := true } } }

end Sys2Proof.Machine
end

