-- ==== Sys2Proof/Machine/Ops.lean ====
section
/-! DEFINITION. Reading and changing the records of the state, and the lookups of the running configuration that
every block shares. -/

namespace Sys2Proof.Machine

/-! ### One block, one group, one channel changed -/

def State.onLnk (s : State) (f : Lnk → Lnk) : State := { s with lnk := f s.lnk }
def State.onCfg (s : State) (f : Cfg → Cfg) : State := { s with cfg := f s.cfg }
def State.onClk (s : State) (f : Clk → Clk) : State := { s with clk := f s.clk }
def State.onSch (s : State) (f : Sch → Sch) : State := { s with sch := f s.sch }
def State.onSeq (s : State) (f : Seq → Seq) : State := { s with seq := f s.seq }
def State.onDet (s : State) (f : Tab 32 DetRun → Tab 32 DetRun) : State := { s with det := f s.det }
def State.onOut (s : State) (f : Out → Out) : State := { s with out := f s.out }
def State.onLmp (s : State) (f : Tab 48 LampRec → Tab 48 LampRec) : State := { s with lmp := f s.lmp }
def State.onCbt (s : State) (f : Cbt → Cbt) : State := { s with cbt := f s.cbt }
def State.onSup (s : State) (f : Sup → Sup) : State := { s with sup := f s.sup }
def State.onFlt (s : State) (f : Flt → Flt) : State := { s with flt := f s.flt }

/-- The runtime record of a group (R4). -/
def State.group (s : State) (g : Gid) : GroupRun := s.seq.groups.get g
/-- One group's runtime record changed. -/
def State.onGroup (s : State) (g : Gid) (f : GroupRun → GroupRun) : State :=
  s.onSeq fun q => { q with groups := q.groups.modify g f }
/-- The OUT fields of a channel (R6). -/
def State.chan (s : State) (c : Ch) : ChanRun := s.out.chans.get c
/-- One channel's OUT fields changed. -/
def State.onChan (s : State) (c : Ch) (f : ChanRun → ChanRun) : State :=
  s.onOut fun o => { o with chans := o.chans.modify c f }
/-- The lamp record of a channel (R117). -/
def State.lamp (s : State) (c : Ch) : LampRec := s.lmp.get c
/-- One lamp record changed. -/
def State.onLamp (s : State) (c : Ch) (f : LampRec → LampRec) : State := s.onLmp fun t => t.modify c f
/-- The runtime record of an input (R88). -/
def State.input (s : State) (d : Det) : DetRun := s.det.get d
/-- One input's runtime record changed. -/
def State.onInput (s : State) (d : Det) (f : DetRun → DetRun) : State := s.onDet fun t => t.modify d f
/-- The result record of a probe program entry (R138). -/
def State.result (s : State) (e : PEnt) : ResultRec := s.cbt.results.get e
/-- One result record changed. -/
def State.onResult (s : State) (e : PEnt) (f : ResultRec → ResultRec) : State :=
  s.onCbt fun b => { b with results := b.results.modify e f }
/-- The contactor record (R114) changed. -/
def State.onContactor (s : State) (f : Contactor → Contactor) : State :=
  s.onOut fun o => { o with contactor := f o.contactor }

/-- A state changed for every index in ascending order. -/
def State.forAll {n : Nat} (s : State) (f : State → Fin n → State) : State := (allFin n).foldl f s

/-! ### The running configuration -/

/-- The GROUP record in force (R1). -/
def State.groupRec (s : State) (g : Gid) : GroupRec := s.cfg.running.st.groups.get g
/-- The kind of a group; absent when unfitted (R1). -/
def State.kind (s : State) (g : Gid) : Option GroupKind := (s.groupRec g).kind
/-- A group is fitted when its kind is present (R1). -/
def State.fitted (s : State) (g : Gid) : Bool := (s.kind g).isSome
/-- The CHANNEL record in force (R5). -/
def State.chanRec (s : State) (c : Ch) : ChannelRec := s.cfg.running.st.channels.get c
/-- The conflict table marks two groups as conflicting (R10). -/
def State.conflicting (s : State) (i j : Gid) : Bool := (s.cfg.running.st.conflicts.get i).contains j
/-- IG(i, j) (R11). -/
def State.intergreen (s : State) (i j : Gid) : Nat := (s.cfg.running.st.intergreens.get i).get j
/-- The GROUP timing record in force (R17). -/
def State.gt (s : State) (g : Gid) : GroupTiming := s.cfg.running.tm.groupTimings.get g
/-- The CHANNEL proving and relay settings record in force (R101, R118). -/
def State.settings (s : State) (c : Ch) : ChanSettings := s.cfg.running.tm.settings.get c
/-- The groups of a stage (R13). -/
def State.stage (s : State) (b : Stg) : List Gid := s.cfg.running.tm.stages.get b
/-- The PLAN record in force (R46). -/
def State.plan (s : State) (p : Pln) : PlanRec := s.cfg.running.tm.plans.get p
/-- The DETECTOR record in force (R86). -/
def State.detector (s : State) (d : Det) : DetectorRec := s.cfg.running.tm.detectors.get d
/-- The CABINET record in force (R157). -/
def State.cabinet (s : State) : CabinetRec := s.cfg.running.tm.cabinet
/-- A PROBE record in force (R136). -/
def State.probeRec (s : State) (e : PEnt) : ProbeRec := s.cfg.running.st.probes.get e
/-- A probe program entry is used when its kind is present (R136). -/
def State.probeUsed (s : State) (e : PEnt) : Bool := (s.probeRec e).kind.isSome
/-- An input is used when its kind is present (R86). -/
def State.inputUsed (s : State) (d : Det) : Bool := (s.detector d).kind.isSome
/-- A channel is the GREEN channel of a group (R109). -/
def State.greenAspect (s : State) (c : Ch) : Bool := (s.chanRec c).aspect == some Aspect.green
/-- The active plan's record; the undefined empty plan when none is active (R49). -/
def State.activePlan (s : State) : PlanRec :=
  match s.seq.active with
  | some p => s.plan p
  | none => PlanRec.empty

/-! ### Conditions several blocks read -/

/-- The supply is proven while the contactor proof is CLOSED (R102). -/
def State.supplyProven (s : State) : Bool := s.out.contactor.proof == Proof.closed
/-- A supply loss is being waited out (R169). -/
def State.waitingSupply (s : State) : Bool := !s.sup.supplyPresent && s.sup.saved.isSome
/-- A channel is showing while its proof is CLOSED or its indication FULL (R7). -/
def ChanRun.showing (c : ChanRun) : Bool := c.proof == Proof.closed || c.indication == Level.full
/-- The coil is driven (R103). -/
def ChanRun.driven (c : ChanRun) : Bool := c.drive != Drive.off
/-- The modes of R191 in which a timing-only commit stays pending, and of R160. -/
def Mode.runs (m : Mode) : Bool :=
  match m with
  | .startupCheck | .startupFlash | .startupRed | .normal => true
  | _ => false
/-- The least and the largest value a clamped field may take (R187). -/
def clampTo (lo hi n : Nat) : Nat := max lo (min hi n)
/-- The first index, in ascending order, with a property. -/
def firstFin {n : Nat} (p : Fin n → Bool) : Option (Fin n) := (allFin n).find? p

end Sys2Proof.Machine
end

