-- ==== Sys2Proof/Machine/Calendar.lean ====
section
/-! DEFINITION. Dates, day types and the Day Schedule's choice of a selection (R71, R81, R82). -/

namespace Sys2Proof.Machine

/-- The leap-year rule (R71). -/
def leapYear (y : Nat) : Bool := y % 4 == 0 && (y % 100 != 0 || y % 400 == 0)

/-- The length of a month (R79). -/
def monthLength (y m : Nat) : Nat :=
  if m = 2 then (if leapYear y then 29 else 28)
  else if m = 4 ∨ m = 6 ∨ m = 9 ∨ m = 11 then 30
  else 31

/-- The next date; after 2199-12-31 the first date again, with the end of the range reported (R71). -/
def Date.next (d : Date) : Date × Bool :=
  if d.day < monthLength d.year d.month then (⟨d.year, d.month, d.day + 1⟩, false)
  else if d.month < 12 then (⟨d.year, d.month + 1, 1⟩, false)
  else if d.year < 2199 then (⟨d.year + 1, 1, 1⟩, false)
  else (Date.epoch, true)

/-- The previous date, none before 2000-01-01 (R82). -/
def Date.prev (d : Date) : Option Date :=
  if d = Date.epoch then none
  else if 1 < d.day then some ⟨d.year, d.month, d.day - 1⟩
  else if 1 < d.month then some ⟨d.year, d.month - 1, monthLength d.year (d.month - 1)⟩
  else some ⟨d.year - 1, 12, 31⟩

/-- Days of the year before the first day of a month. -/
def daysBeforeMonth (y m : Nat) : Nat := ((List.range (m - 1)).map (fun k => monthLength y (k + 1))).sum

/-- Days since 2000-01-01. -/
def Date.dayNumber (d : Date) : Nat :=
  ((List.range (d.year - 2000)).map (fun k => if leapYear (2000 + k) then 366 else 365)).sum
    + daysBeforeMonth d.year d.month + (d.day - 1)

/-- The day of the week, MONDAY to SUNDAY as 0 to 6; 2000-01-01 was a Saturday (R70). -/
def Date.weekday (d : Date) : Nat := (d.dayNumber + 5) % 7

/-- A date matches a used special day (R81). -/
def SpecialRec.matches (r : SpecialRec) (d : Date) : Bool :=
  r.month == d.month && r.day == d.day && (match r.year with | some y => y == d.year | none => true)

/-- The day type of a date, MONDAY to SUNDAY as 0 to 6 and SPECIAL as 7 (R81). -/
def Timing.dayType (t : Timing) (d : Date) : Nat :=
  if t.specials.items.any (fun o => match o with | some r => r.matches d | none => false) then 7 else d.weekday

/-- The entry with the latest start minute, at or before a limit where one is given, whose selector holds a day type
(R82). -/
def Timing.latestEntry (t : Timing) (dayType : Nat) (limit : Option Nat) : Option (Fin 32) :=
  (allFin 32).foldl (fun best i =>
    let e := t.schedule.get i
    let fits := e.days.getLsbD dayType && (match limit with | some m => decide (e.minute ≤ m) | none => true)
    match best with
    | none => if fits then some i else none
    | some b => if fits && decide ((t.schedule.get b).minute < e.minute) then some i else some b) none

/-- The look-back of R82 step 4 over at most `k` earlier dates. -/
def Timing.lookBack (t : Timing) : Nat → Date → Option (Fin 32 × Date)
  | 0, _ => none
  | k + 1, d =>
    match d.prev with
    | none => none
    | some p =>
      match t.latestEntry (t.dayType p) none with
      | some i => some (i, p)
      | none => t.lookBack k p

/-- The governing entry with the date on which it is found (R82 steps 3 and 4). -/
def Timing.governing (t : Timing) (d : Date) (minute : Nat) : Option (Fin 32 × Date) :=
  match t.latestEntry (t.dayType d) (some minute) with
  | some i => some (i, d)
  | none => t.lookBack 7 d

/-- What an evaluation finds: the action, the source, the governing entry and whether step 5 replaced an undefined
plan (R82). -/
structure Selection where
  action : Action
  source : SelSource
  governing : Option (Fin 32 × Date)
  replaced : Bool
  deriving DecidableEq, Repr

/-- R82 step 5. -/
def Timing.settleUndefined (t : Timing) (sel : Selection) : Selection :=
  match sel.action with
  | .flash => sel
  | .plan p =>
    if (t.plans.get p).defined then sel
    else { sel with action := .plan t.cabinet.defaultPlan, source := .defaultUndefined, replaced := true }

/-- The selection of R82 from the forced plan, the validity of time, the date and the time of day in tenths. The
governing entry is absent in steps 1 and 2 and where step 4 finds none, and step 5 keeps it (DEDUCED,
notes/assumptions/37.md). -/
def Timing.select (t : Timing) (forced : Option Pln) (valid : Bool) (d : Date) (tod : Nat) : Selection :=
  t.settleUndefined <|
    match forced with
    | some p => ⟨.plan p, .forced, none, false⟩
    | none =>
      if !valid then ⟨.plan t.cabinet.defaultPlan, .defaultTimeInvalid, none, false⟩
      else
        match t.governing d (tod / 600) with
        | some (i, on) => ⟨(t.schedule.get i).action, .schedule, some (i, on), false⟩
        | none => ⟨.plan t.cabinet.defaultPlan, .defaultNoEntry, none, false⟩

/-- The date and time of day advanced by one tenth; the flag reports the end of the date range (R71). -/
def advanceTenth (d : Date) (tod : Nat) : Date × Nat × Bool :=
  if tod + 1 < Config.dayTenths then (d, tod + 1, false)
  else (d.next.1, 0, d.next.2)

/-- The date after `k` midnights; the flag reports that the date range ended on the way (R71). -/
def Date.plusDays : Nat → Date → Date × Bool
  | 0, d => (d, false)
  | k + 1, d =>
    let n := d.next
    let r := Date.plusDays k n.1
    (r.1, n.2 || r.2)

end Sys2Proof.Machine
end

