-- ==== Sys2Proof/Machine/Flags.lean ====
section
/-! DEFINITION. The status and event flags of the part: the fault table's create, update and clear actions
(10_the_fault_table_and_attention.md), the pending set, the attention output, the summary byte, the frames of the
output queue and the notices. -/

namespace Sys2Proof.Machine

/-! ### Codes -/

/-- Mode codes (12.6). -/
def Mode.code : Mode → Nat
  | .unconfigured => 0 | .startupCheck => 1 | .startupFlash => 2 | .startupRed => 3
  | .normal => 4 | .clearing => 5 | .flash => 6 | .dark => 7

/-- Status codes (R197). -/
def Status.code : Status → Nat
  | .ok => 0 | .okClamped => 1 | .unknownRequest => 2 | .badLength => 3 | .outOfRange => 4 | .wrongMode => 5
  | .busy => 6 | .noSession => 7 | .sessionOpen => 8 | .invalidConfig => 9 | .notTestable => 10
  | .conditionPresent => 11 | .undefinedPlan => 12

/-- The pending set byte (12.6). -/
def PendingSet.code (p : PendingSet) : Nat :=
  (if p.faultNew then 1 else 0) + (if p.faultChange then 2 else 0) + (if p.modeChange then 4 else 0)
    + (if p.planChange then 8 else 0) + (if p.commitApplied then 16 else 0) + (if p.probeDone then 32 else 0)
    + (if p.clock then 64 else 0)

/-- The pending set holds no class. -/
def PendingSet.isEmpty (p : PendingSet) : Bool := p == PendingSet.empty

/-- The union of two pending sets. -/
def PendingSet.union (p q : PendingSet) : PendingSet :=
  ⟨p.faultNew || q.faultNew, p.faultChange || q.faultChange, p.modeChange || q.modeChange,
   p.planChange || q.planChange, p.commitApplied || q.commitApplied, p.probeDone || q.probeDone, p.clock || q.clock⟩

/-- The event classes of R182, one at a time. -/
def PendingSet.ofFaultNew : PendingSet := { PendingSet.empty with faultNew := true }
def PendingSet.ofFaultChange : PendingSet := { PendingSet.empty with faultChange := true }
def PendingSet.ofModeChange : PendingSet := { PendingSet.empty with modeChange := true }
def PendingSet.ofPlanChange : PendingSet := { PendingSet.empty with planChange := true }
def PendingSet.ofCommitApplied : PendingSet := { PendingSet.empty with commitApplied := true }
def PendingSet.ofProbeDone : PendingSet := { PendingSet.empty with probeDone := true }
def PendingSet.ofClock : PendingSet := { PendingSet.empty with clock := true }

/-- Classes added to the pending set by the event being taken (R182). -/
def State.addEvents (s : State) (p : PendingSet) : State :=
  s.onFlt fun f => { f with pendingSet := f.pendingSet.union p, added := true }

/-! ### The fault table -/

/-- The class section 10.1 lists for a kind, used where the report's rule gives none (R176). -/
def FaultKind.listedSafety : FaultKind → Bool
  | .conflict | .crossDangerous | .redDeficient | .supplyContactor => true
  | _ => false

/-- The stamp of a report at this instant (R72, R175). -/
def State.stamp (s : State) : Stamp := if s.clk.valid then .valid s.clk.date s.clk.tod else .invalid s.clk.secs

/-- An entry has a key (R175). -/
def FaultEntry.hasKey (e : FaultEntry) (k : FaultKind) (sub : Subject) : Bool := e.kind == k && e.subject == sub

/-- The table holds an ACTIVE entry for a key. -/
def Flt.isActive (f : Flt) (k : FaultKind) (sub : Subject) : Bool :=
  f.entries.any fun e => e.hasKey k sub && e.active

/-- The new entry of R176. -/
def FaultEntry.fresh (k : FaultKind) (sub : Subject) (safety : Bool) (now : Stamp) : FaultEntry :=
  { kind := k, subject := sub, safety := safety, active := true, acked := false, first := now, last := now, count := 1 }

/-- The update of R176. -/
def FaultEntry.again (e : FaultEntry) (safety : Bool) (now : Stamp) : FaultEntry :=
  { e with active := true, acked := false, last := now, count := min 255 (e.count + 1), safety := safety }

/-- The entry R178 evicts for a new entry of a class, by position: none where no case yields one. -/
def evictee (l : List FaultEntry) (safety : Bool) : Option Nat :=
  match l.findIdx? (fun e => !e.active && e.acked) with
  | some i => some i
  | none =>
    match l.findIdx? (fun e => !e.active) with
    | some i => some i
    | none => if safety then l.findIdx? (fun e => !e.safety && e.active) else none

/-- A finding reported by key, with its class (R176, R178). -/
def Flt.report (f : Flt) (k : FaultKind) (sub : Subject) (safety : Bool) (now : Stamp) : Flt :=
  if f.entries.any (fun e => e.hasKey k sub) then
    { f with
      entries := f.entries.map fun e => if e.hasKey k sub then e.again safety now else e
      pendingSet := f.pendingSet.union PendingSet.ofFaultChange
      added := true }
  else if f.entries.length < Config.faultCapacity then
    { f with
      entries := f.entries ++ [FaultEntry.fresh k sub safety now]
      pendingSet := f.pendingSet.union PendingSet.ofFaultNew
      added := true }
  else
    match evictee f.entries safety with
    | some i =>
      { f with
        entries := f.entries.eraseIdx i ++ [FaultEntry.fresh k sub safety now]
        pendingSet := (f.pendingSet.union PendingSet.ofFaultChange).union PendingSet.ofFaultNew
        added := true }
    | none =>
      { f with
        overflow := true
        pendingSet := f.pendingSet.union PendingSet.ofFaultNew
        added := true }

/-- A finding cleared by key (R177). -/
def Flt.clear (f : Flt) (k : FaultKind) (sub : Subject) : Flt :=
  if f.isActive k sub then
    { f with
      entries := f.entries.map fun e => if e.hasKey k sub then { e with active := false } else e
      pendingSet := f.pendingSet.union PendingSet.ofFaultChange
      added := true }
  else f

/-- R176 with the stamp of this instant. -/
def State.reportAs (s : State) (k : FaultKind) (sub : Subject) (safety : Bool) : State :=
  s.onFlt fun f => f.report k sub safety s.stamp

/-- R176 with the class of section 10.1. -/
def State.report (s : State) (k : FaultKind) (sub : Subject) : State := s.reportAs k sub k.listedSafety

/-- R177. -/
def State.clearFault (s : State) (k : FaultKind) (sub : Subject) : State := s.onFlt fun f => f.clear k sub

/-! ### The attention output -/

/-- The attention output is asserted (R183). -/
def State.attentionAsserted (s : State) : Bool :=
  match s.cabinet.attnMode with
  | .level => !s.flt.pendingSet.isEmpty
  | .pulse => s.flt.pulse.isSome

/-- The ATTN pin: driven high, driven low or released (R183). -/
inductive PinDrive where
  | high | low | released
  deriving DecidableEq, Repr

/-- The level at the ATTN pin (R183). -/
def State.attnPin (s : State) : PinDrive :=
  match s.cabinet.attnPolarity, s.attentionAsserted with
  | .activeHigh, true => .high
  | .activeHigh, false => .low
  | .activeLow, true => .low
  | .activeLow, false => .released

/-! ### Frames -/

/-- The CRC of R192 after one more byte, high bit first: polynomial x^16 + x^12 + x^5 + 1. -/
def crcStep (crc : BitVec 16) (b : Byte) : BitVec 16 :=
  (List.range 8).foldl (fun c _ => if c.msb then (c <<< 1) ^^^ 0x1021#16 else c <<< 1)
    (crc ^^^ (b.setWidth 16 <<< 8))

/-- The CRC of R192 over bytes. -/
def crc16 (l : List Byte) : BitVec 16 := l.foldl crcStep 0xFFFF#16

/-- The bytes of a frame that its CRC covers (R192). -/
def coveredBytes (tag code : Byte) (body : List Byte) : List Byte :=
  tag :: code :: BitVec.ofNat 8 body.length :: body

/-- The bytes a queued frame is sent as (12.6). -/
def OutFrame.bytes (f : OutFrame) : List Byte :=
  let covered := coveredBytes f.tag f.code f.payload
  let crc := crc16 covered
  0xC3#8 :: covered ++ [(crc >>> 8).setWidth 8, crc.setWidth 8]

/-- Free slots of the output queue (R194). -/
def Lnk.freeSlots (l : Lnk) : Nat := Config.outputSlots - (l.output.length + l.reserved)

/-- The summary byte of a reply formed at this instant (R196, 12.6). -/
def State.summary (s : State) : Byte :=
  BitVec.ofNat 8 (s.sup.mode.code + (if s.sup.latched then 8 else 0) + (if s.flt.pendingSet.isEmpty then 0 else 16)
    + (if s.lnk.overrun then 32 else 0) + (if s.lnk.linkError then 64 else 0) + (if s.clk.valid then 128 else 0))

/-- A reply body as it is sent: a body above 238 bytes is a free value within that bound (R192). -/
def replyBody (l : List Byte) : List Byte :=
  if l.length ≤ Config.maxReplyBody then l else (Config.overlongBody l).take Config.maxReplyBody

/-- The code of a reply: the request's code plus 0x80 (R192); a free value where that is no byte. -/
def replyCode (code : Byte) : Byte := if code.toNat < 128 then code + 0x80#8 else Config.highReplyCode code

/-- A reply is formed: it fills a reserved slot, joins the tail of the queue, and takes OVERRUN and LINK_ERROR with it
(R194, R196). -/
def State.reply (s : State) (tag code : Byte) (st : Status) (body : List Byte) : State :=
  s.onLnk fun l =>
    { l with
      output := l.output ++
        [⟨tag, replyCode code, BitVec.ofNat 8 st.code :: s.summary :: replyBody body⟩]
      reserved := l.reserved - 1
      overrun := false
      linkError := false }

/-- A refused request: a status and an empty body (R197). -/
def State.refuse (s : State) (tag code : Byte) (st : Status) : State := s.reply tag code st []

/-- A notice (R184, 12.6). -/
def State.notice (s : State) : OutFrame :=
  ⟨0#8, 0xFF#8, [BitVec.ofNat 8 s.flt.pendingSet.code, BitVec.ofNat 8 s.sup.mode.code]⟩

/-- The end of an event: where it made additions to the pending set, they count once for the attention pulse (R183)
and once for the notices (R182, R184). `before` is the state the event met. -/
def State.closeAdditions (before s : State) : State :=
  if s.flt.added then
    let s1 := s.onFlt fun f =>
      { f with
        added := false
        pulse := if before.cabinet.attnMode == .pulse && s.cabinet.attnMode == .pulse then some 0 else f.pulse }
    if s1.lnk.notices && decide (Config.noticeSlots ≤ s1.lnk.freeSlots) then
      s1.onLnk fun l => { l with output := l.output ++ [s1.notice] }
    else s1
  else s

end Sys2Proof.Machine
end

