-- ==== Sys2Proof/Machine/Operands.lean ====
section
/-! DEFINITION. The operands of the link: how fields of requests and replies are coded (R196), and how a record of
each of the fourteen classes is written from and read as bytes (R187, R188). -/

namespace Sys2Proof.Machine

/-! ### Numbers, absent values and lists (R196) -/

/-- A number in one byte. -/
def u8 (n : Nat) : List Byte := [BitVec.ofNat 8 n]
/-- A number in two bytes, high byte first. -/
def u16 (n : Nat) : List Byte := [BitVec.ofNat 8 (n / 256), BitVec.ofNat 8 n]
/-- A number in three bytes, high byte first. -/
def u24 (n : Nat) : List Byte := [BitVec.ofNat 8 (n / 65536), BitVec.ofNat 8 (n / 256), BitVec.ofNat 8 n]
/-- A number in four bytes, high byte first. -/
def u32 (n : Nat) : List Byte :=
  [BitVec.ofNat 8 (n / 16777216), BitVec.ofNat 8 (n / 65536), BitVec.ofNat 8 (n / 256), BitVec.ofNat 8 n]

/-- A value in one byte, all ones where absent. -/
def opt8 (o : Option Nat) : List Byte := u8 (o.getD 255)
/-- A value in two bytes, all ones where absent. -/
def opt16 (o : Option Nat) : List Byte := u16 (o.getD 65535)

/-- The number of a group, channel, stage, plan, input or entry. -/
def number {n : Nat} (i : Fin n) : Nat := i.val + 1
/-- A numbered thing in one byte, all ones where absent. -/
def optNum {n : Nat} (o : Option (Fin n)) : List Byte := opt8 (o.map number)
/-- A list or set of numbers: the count, then the members. -/
def counted {n : Nat} (l : List (Fin n)) : List Byte := u8 l.length ++ l.flatMap (fun i => u8 (number i))
/-- A field whose rule lists its values with the holding one first ("yes, no", "set, clear", "true, false",
"valid, invalid"): position 0 where it holds (notes/assumptions/10.md). -/
def yesNo (b : Bool) : List Byte := u8 (if b then 0 else 1)
/-- A "whether" field, whose rule lists no values: 1 where it holds (notes/assumptions/10.md). -/
def whether (b : Bool) : List Byte := u8 (if b then 1 else 0)

/-- The byte at a position, as a number. -/
def byteAt (b : List Byte) (i : Nat) : Nat := (b.getD i 0).toNat
/-- The two-byte number at a position. -/
def wordAt (b : List Byte) (i : Nat) : Nat := byteAt b i * 256 + byteAt b (i + 1)
/-- The four-byte number at a position. -/
def longAt (b : List Byte) (i : Nat) : Nat := wordAt b i * 65536 + wordAt b (i + 2)

/-- The thing with a number, where the number is in range. -/
def member (n k : Nat) : Option (Fin n) := if h : 1 ≤ k ∧ k ≤ n then some ⟨k - 1, by omega⟩ else none
/-- The thing with a number, or the absent value. -/
def optMember (n k : Nat) : Option (Option (Fin n)) := if k = 255 then some none else (member n k).map some
/-- The things with numbers, where every number is in range. -/
def members (n : Nat) : List Nat → Option (List (Fin n))
  | [] => some []
  | k :: ks =>
    match member n k, members n ks with
    | some i, some l => some (i :: l)
    | _, _ => none
/-- A counted list at the head of some bytes, and the bytes after it. -/
def splitCounted : List Byte → Option (List Nat × List Byte)
  | [] => none
  | c :: rest =>
    if rest.length < c.toNat then none else some ((rest.take c.toNat).map BitVec.toNat, rest.drop c.toNat)
/-- A list with the later repeats left out. -/
def firstPlaces {α : Type} [DecidableEq α] (l : List α) : List α :=
  l.foldl (fun acc a => if acc.contains a then acc else acc ++ [a]) []

/-! ### Coded names: the position in the owning rule's list, from 0 (R196) -/

def GroupKind.code : GroupKind → Nat | .traffic => 0 | .pedestrian => 1 | .arrow => 2
def Aspect.code : Aspect → Nat | .red => 0 | .amber => 1 | .green => 2
def LampKind.code : LampKind → Nat | .filament => 0 | .led => 1
def ProbeKind.code : ProbeKind → Nat | .loop => 0 | .insulation => 1 | .coupling => 2
def DemandMode.code : DemandMode → Nat | .fixed => 0 | .demand => 1
def RedFailAction.code : RedFailAction → Nat | .inhibit => 0 | .flash => 1
def RefMode.code : RefMode → Nat | .learn => 0 | .fixed => 1
def CorrectionMethod.code : CorrectionMethod → Nat | .shortest => 0 | .lengthenOnly => 1
def DetKind.code : DetKind → Nat | .presence => 0 | .button => 1 | .priority => 2
def Polarity.code : Polarity → Nat | .activeHigh => 0 | .activeLow => 1
def ClockSource.code : ClockSource → Nat | .mains => 0 | .crystal => 1
def MainsFreq.code : MainsFreq → Nat | .hz50 => 0 | .hz60 => 1
def BreakAction.code : BreakAction → Nat | .none => 0 | .flash => 1
def AttnMode.code : AttnMode → Nat | .level => 0 | .pulse => 1
/-- P1 to P8, then FLASH (R81, R82). -/
def Action.code : Action → Nat | .plan p => p.val | .flash => 8

def GroupKind.ofCode : Nat → Option GroupKind | 0 => some .traffic | 1 => some .pedestrian | 2 => some .arrow | _ => none
def Aspect.ofCode : Nat → Option Aspect | 0 => some .red | 1 => some .amber | 2 => some .green | _ => none
def LampKind.ofCode : Nat → Option LampKind | 0 => some .filament | 1 => some .led | _ => none
def ProbeKind.ofCode : Nat → Option ProbeKind | 0 => some .loop | 1 => some .insulation | 2 => some .coupling | _ => none
def DemandMode.ofCode : Nat → Option DemandMode | 0 => some .fixed | 1 => some .demand | _ => none
def RedFailAction.ofCode : Nat → Option RedFailAction | 0 => some .inhibit | 1 => some .flash | _ => none
def RefMode.ofCode : Nat → Option RefMode | 0 => some .learn | 1 => some .fixed | _ => none
def CorrectionMethod.ofCode : Nat → Option CorrectionMethod | 0 => some .shortest | 1 => some .lengthenOnly | _ => none
def DetKind.ofCode : Nat → Option DetKind | 0 => some .presence | 1 => some .button | 2 => some .priority | _ => none
def Polarity.ofCode : Nat → Option Polarity | 0 => some .activeHigh | 1 => some .activeLow | _ => none
def ClockSource.ofCode : Nat → Option ClockSource | 0 => some .mains | 1 => some .crystal | _ => none
def MainsFreq.ofCode : Nat → Option MainsFreq | 0 => some .hz50 | 1 => some .hz60 | _ => none
def BreakAction.ofCode : Nat → Option BreakAction | 0 => some .none | 1 => some .flash | _ => none
def AttnMode.ofCode : Nat → Option AttnMode | 0 => some .level | 1 => some .pulse | _ => none
def Action.ofCode (k : Nat) : Option Action := if k = 8 then some .flash else (member 8 (k + 1)).map .plan
/-- A flag listed "set or clear" (R47). -/
def flagOfCode : Nat → Option Bool | 0 => some true | 1 => some false | _ => none

/-- A named value, refused where the byte names none (R187). -/
def named {α : Type} (o : Option α) : Except Status α :=
  match o with
  | some a => .ok a
  | none => .error .outOfRange

/-- A named value or the absent value of R196. -/
def namedOrAbsent {α : Type} (f : Nat → Option α) (k : Nat) : Except Status (Option α) :=
  if k = 255 then .ok none else (named (f k)).map some

/-- The length a record of fixed layout must have (R187). -/
def requireLength (b : List Byte) (n : Nat) : Except Status Unit :=
  if b.length = n then .ok () else .error .badLength

/-- A value moved to the nearer limit, with whether it was (R187). -/
def clamped (lo hi n : Nat) : Nat × Bool := (clampTo lo hi n, clampTo lo hi n != n)

/-! ### Records read as bytes -/

def GroupRec.bytes (r : GroupRec) : List Byte :=
  opt8 (r.kind.map GroupKind.code) ++ counted r.red ++ counted r.amber ++ counted r.green

/-- An unassigned group is all ones (DESIGN CHOICE, notes/assumptions/10.md). -/
def ChannelRec.bytes (r : ChannelRec) : List Byte :=
  optNum r.group ++ opt8 (r.aspect.map Aspect.code) ++ u8 r.lamp.code ++ u8 r.heads

def ProbeRec.bytes (r : ProbeRec) : List Byte :=
  opt8 (r.kind.map ProbeKind.code) ++ u8 (number r.subject) ++ optNum r.partner ++ u16 r.limit

def GroupTiming.bytes (r : GroupTiming) : List Byte :=
  u16 r.minGreen ++ u8 r.amber ++ u8 r.redAmber ++ u16 r.clearance ++ u8 r.extension ++ u8 r.demandMode.code
    ++ u8 r.redMin ++ u8 r.redFailAction.code ++ u16 r.redFailGrace

def ChanSettings.bytes (r : ChanSettings) : List Byte :=
  u8 r.pullIn ++ u8 r.release ++ u8 r.holdDuty ++ u32 r.wear ++ u8 r.refMode.code ++ u16 r.fixedRef ++ u8 r.confirm

def PlanEntry.bytes (e : PlanEntry) : List Byte :=
  u8 (number e.stage) ++ u16 e.endPos ++ u16 e.maxGreen ++ yesNo e.dwell ++ yesNo e.gapOut

def PlanRec.bytes (r : PlanRec) : List Byte :=
  u16 r.cycle ++ u16 r.offset ++ u8 r.pmax ++ u8 r.method.code ++ u8 r.entries.length ++ r.entries.flatMap PlanEntry.bytes

/-- A priority target none is all ones (DESIGN CHOICE, notes/assumptions/10.md). -/
def DetectorRec.bytes (r : DetectorRec) : List Byte :=
  opt8 (r.kind.map DetKind.code) ++ u8 r.polarity.code ++ u16 r.debounce ++ counted r.served ++ u8 r.maxPresence
    ++ u8 r.maxAbsence ++ optNum r.target ++ u8 r.priorityMax

def ScheduleRec.bytes (r : ScheduleRec) : List Byte := [r.days] ++ u16 r.minute ++ u8 r.action.code

/-- An unused day is all ones; ANY is all ones in the year (notes/assumptions/10.md). -/
def specialBytes : Option SpecialRec → List Byte
  | none => u8 255 ++ u8 255 ++ u16 65535
  | some r => u8 r.month ++ u8 r.day ++ opt16 r.year

/-- An auxiliary output mapped to none is all ones (DESIGN CHOICE, notes/assumptions/10.md). -/
def CabinetRec.bytes (r : CabinetRec) : List Byte :=
  u8 r.preference.code ++ u8 r.freq.code ++ u8 (number r.defaultPlan) ++ r.aux.items.flatMap optNum
    ++ u8 r.flashRate ++ u16 r.startFlash ++ u16 r.startRed ++ u8 r.attempts ++ u8 r.holdoff ++ u8 r.probation
    ++ u8 r.breakAction.code ++ u8 r.attnPolarity.code ++ u8 r.attnMode.code

/-! ### Records written from bytes: the record with whether a value was clamped, or the refusal (R187) -/

/-- Three counted lists and nothing after them. -/
def splitThree (b : List Byte) : Option (List Nat × List Nat × List Nat) :=
  match splitCounted b with
  | none => none
  | some (x, b1) =>
    match splitCounted b1 with
    | none => none
    | some (y, b2) =>
      match splitCounted b2 with
      | some (z, []) => some (x, y, z)
      | _ => none

/-- One counted list of at most `most` members and nothing after it. The length is judged on the list as it is written,
before a repeat is stored once (R187; DESIGN CHOICE, notes/assumptions/61.md). -/
def oneList (most : Nat) (b : List Byte) : Except Status (List Nat) :=
  match splitCounted b with
  | some (x, []) => if x.length ≤ most then .ok x else .error .badLength
  | _ => .error .badLength

/-- R1. The lists are judged for length as they are given (DESIGN CHOICE, notes/assumptions/61.md). -/
def parseGroup (b : List Byte) : Except Status (GroupRec × Bool) :=
  match b with
  | [] => .error .badLength
  | k :: rest =>
    match splitThree rest with
    | none => .error .badLength
    | some (x, y, z) =>
      if x.length ≤ 16 ∧ y.length ≤ 16 ∧ z.length ≤ 16 then do
        let kind ← namedOrAbsent GroupKind.ofCode k.toNat
        let red ← named (members 48 x)
        let amber ← named (members 48 y)
        let green ← named (members 48 z)
        return (⟨kind, firstPlaces red, firstPlaces amber, firstPlaces green⟩, false)
      else .error .badLength

/-- R5: the aspect is absent exactly when the group is unassigned. -/
def parseChannel (b : List Byte) : Except Status (ChannelRec × Bool) := do
  requireLength b 4
  let group ← named (optMember 16 (byteAt b 0))
  let aspect ← namedOrAbsent Aspect.ofCode (byteAt b 1)
  let lamp ← named (LampKind.ofCode (byteAt b 2))
  let n := clamped 1 8 (byteAt b 3)
  if group.isSome = aspect.isSome then return (⟨group, aspect, lamp, n.1⟩, n.2) else .error .outOfRange

/-- R10, R13: a set of groups. -/
def parseGroupSet (b : List Byte) : Except Status (List Gid × Bool) := do
  let x ← oneList 16 b
  let l ← named (members 16 x)
  return (groupSet l, false)

/-- R11. -/
def parseIntergreen (b : List Byte) : Except Status (Tab 16 Nat × Bool) := do
  requireLength b 32
  let raw : Tab 16 Nat := Tab.ofFn 16 fun i => wordAt b (2 * i.val)
  let row := raw.map (clampTo 0 300)
  return (row, row != raw)

/-- R135. -/
def parseCable (b : List Byte) : Except Status (List Ch × Bool) := do
  let x ← oneList 12 b
  let l ← named (members 48 x)
  return (firstPlaces l, false)

/-- R136. -/
def parseProbe (b : List Byte) : Except Status (ProbeRec × Bool) := do
  requireLength b 5
  let kind ← namedOrAbsent ProbeKind.ofCode (byteAt b 0)
  let subject ← named (member 48 (byteAt b 1))
  let partner ← named (optMember 48 (byteAt b 2))
  let limit := clamped 1 65535 (wordAt b 3)
  return (⟨kind, subject, partner, limit.1⟩, limit.2)

/-- R17. -/
def parseGroupTiming (b : List Byte) : Except Status (GroupTiming × Bool) := do
  requireLength b 12
  let mg := clamped 40 600 (wordAt b 0)
  let am := clamped 20 60 (byteAt b 2)
  let ra := clamped 0 30 (byteAt b 3)
  let cl := clamped 30 300 (wordAt b 4)
  let ex := clamped 5 100 (byteAt b 6)
  let dm ← named (DemandMode.ofCode (byteAt b 7))
  let rm := clamped 1 8 (byteAt b 8)
  let act ← named (RedFailAction.ofCode (byteAt b 9))
  let gr := clamped 0 600 (wordAt b 10)
  return (⟨mg.1, am.1, ra.1, cl.1, ex.1, dm, rm.1, act, gr.1⟩, mg.2 || am.2 || ra.2 || cl.2 || ex.2 || rm.2 || gr.2)

/-- The hold duty rounded to the nearest 5 % step (R101). -/
def roundDuty (d : Nat) : Nat := (d + 2) / 5 * 5

/-- R101, R118. -/
def parseSettings (b : List Byte) : Except Status (ChanSettings × Bool) := do
  requireLength b 11
  let pi := clamped 10 250 (byteAt b 0)
  let re := clamped 10 250 (byteAt b 1)
  let hd := clamped 30 100 (byteAt b 2)
  let rm ← named (RefMode.ofCode (byteAt b 7))
  let fr := clamped 20 4000 (wordAt b 8)
  let cc := clamped 2 15 (byteAt b 10)
  return (⟨pi.1, re.1, roundDuty hd.1, longAt b 3, rm, fr.1, cc.1⟩, pi.2 || re.2 || hd.2 || fr.2 || cc.2)

/-- R47: one entry at the head of seven bytes. -/
def parsePlanEntry (b : List Byte) : Except Status (PlanEntry × Bool) := do
  let st ← named (member 16 (byteAt b 0))
  let e := clamped 1 2400 (wordAt b 1)
  let mx := clamped 50 1200 (wordAt b 3)
  let dw ← named (flagOfCode (byteAt b 5))
  let go ← named (flagOfCode (byteAt b 6))
  return (⟨st, e.1, mx.1, dw, go⟩, e.2 || mx.2)

/-- R47: `k` entries, seven bytes each. -/
def parsePlanEntries : Nat → List Byte → Except Status (List PlanEntry × Bool)
  | 0, _ => .ok ([], false)
  | k + 1, b => do
    let e ← parsePlanEntry b
    let es ← parsePlanEntries k (b.drop 7)
    return (e.1 :: es.1, e.2 || es.2)

/-- R46: zero, or clamped to 300 to 2400. -/
def clampCycle (n : Nat) : Nat := if n = 0 then 0 else clampTo 300 2400 n

/-- R46. -/
def parsePlan (b : List Byte) : Except Status (PlanRec × Bool) := do
  let k := byteAt b 6
  if b.length < 7 ∨ b.length ≠ 7 + 7 * k ∨ 16 < k then .error .badLength
  else
    let c := clampCycle (wordAt b 0)
    let o := clamped 0 2399 (wordAt b 2)
    let pm := clamped 5 30 (byteAt b 4)
    let m ← named (CorrectionMethod.ofCode (byteAt b 5))
    let es ← parsePlanEntries k (b.drop 7)
    return (⟨c, o.1, pm.1, m, es.1⟩, c != wordAt b 0 || o.2 || pm.2 || es.2)

/-- R86. The served set is judged for length as it is given (DESIGN CHOICE, notes/assumptions/61.md). -/
def parseDetector (b : List Byte) : Except Status (DetectorRec × Bool) := do
  let k := byteAt b 4
  if b.length < 5 ∨ b.length ≠ 9 + k ∨ 4 < k then .error .badLength
  else
    let kind ← namedOrAbsent DetKind.ofCode (byteAt b 0)
    let pol ← named (Polarity.ofCode (byteAt b 1))
    let db := clamped 10 500 (wordAt b 2)
    let served ← named (members 16 (((b.drop 5).take k).map BitVec.toNat))
    let target ← named (optMember 16 (byteAt b (7 + k)))
    return (⟨kind, pol, db.1, groupSet served, byteAt b (5 + k), byteAt b (6 + k), target, byteAt b (8 + k)⟩, db.2)

/-- R81. -/
def parseSchedule (b : List Byte) : Except Status (ScheduleRec × Bool) := do
  requireLength b 4
  let mi := clamped 0 1439 (wordAt b 1)
  let act ← named (Action.ofCode (byteAt b 3))
  return (⟨b.getD 0 0, mi.1, act⟩, mi.2)

/-- R81. -/
def parseSpecial (b : List Byte) : Except Status (Option SpecialRec × Bool) := do
  requireLength b 4
  let m := byteAt b 0
  let d := byteAt b 1
  let y := wordAt b 2
  if m = 255 ∧ d = 255 ∧ y = 65535 then return (none, false)
  else if 1 ≤ m ∧ m ≤ 12 ∧ 1 ≤ d ∧ d ≤ 31 ∧ (y = 65535 ∨ (2000 ≤ y ∧ y ≤ 2199)) then
    return (some ⟨m, d, if y = 65535 then none else some y⟩, false)
  else .error .outOfRange

/-- The eight auxiliary mappings (R87). -/
def parseAux (b : List Byte) : Option (Tab 8 (Option Gid)) :=
  let raw : Tab 8 (Option (Option Gid)) := Tab.ofFn 8 fun i => optMember 16 (byteAt b (3 + i.val))
  if raw.items.all Option.isSome then some (raw.map fun o => o.getD none) else none

/-- R75, R81, R87, R112, R157, R183. -/
def parseCabinet (b : List Byte) : Except Status (CabinetRec × Bool) := do
  requireLength b 22
  let pref ← named (ClockSource.ofCode (byteAt b 0))
  let freq ← named (MainsFreq.ofCode (byteAt b 1))
  let dp ← named (member 8 (byteAt b 2))
  let aux ← named (parseAux b)
  let fr := clamped 50 90 (byteAt b 11)
  let sf := clamped 0 600 (wordAt b 12)
  let sr := clamped 30 300 (wordAt b 14)
  let at' := clamped 0 5 (byteAt b 16)
  let ho := clamped 1 60 (byteAt b 17)
  let pb := clamped 1 60 (byteAt b 18)
  let ba ← named (BreakAction.ofCode (byteAt b 19))
  let ap ← named (Polarity.ofCode (byteAt b 20))
  let am ← named (AttnMode.ofCode (byteAt b 21))
  return (⟨pref, freq, dp, aux, fr.1, sf.1, sr.1, at'.1, ho.1, pb.1, ba, ap, am⟩,
    fr.2 || sf.2 || sr.2 || at'.2 || ho.2 || pb.2)

/-! ### The record classes (11.1) -/

/-- The fourteen record classes, in the order of the class table. -/
inductive RecordClass where
  | group | channel | conflictRow | intergreenRow | cable | probe | groupTiming | channelSettings | stage | plan
  | detector | schedule | specialDay | cabinet
  deriving DecidableEq, Repr

/-- The position in the class table (R197). -/
def RecordClass.code : RecordClass → Nat
  | .group => 0 | .channel => 1 | .conflictRow => 2 | .intergreenRow => 3 | .cable => 4 | .probe => 5
  | .groupTiming => 6 | .channelSettings => 7 | .stage => 8 | .plan => 9 | .detector => 10 | .schedule => 11
  | .specialDay => 12 | .cabinet => 13

def RecordClass.ofCode : Nat → Option RecordClass
  | 0 => some .group | 1 => some .channel | 2 => some .conflictRow | 3 => some .intergreenRow | 4 => some .cable
  | 5 => some .probe | 6 => some .groupTiming | 7 => some .channelSettings | 8 => some .stage | 9 => some .plan
  | 10 => some .detector | 11 => some .schedule | 12 => some .specialDay | 13 => some .cabinet | _ => none

/-- The number of records of a class (11.1). -/
def RecordClass.count : RecordClass → Nat
  | .group => 16 | .channel => 48 | .conflictRow => 16 | .intergreenRow => 16 | .cable => 24 | .probe => 64
  | .groupTiming => 16 | .channelSettings => 48 | .stage => 16 | .plan => 8 | .detector => 32 | .schedule => 32
  | .specialDay => 16 | .cabinet => 1

/-- One record of a set of records, replaced from bytes; the flag says that a value was clamped (R187). -/
def ConfigSet.write (c : ConfigSet) (cls : RecordClass) (k : Nat) (b : List Byte) : Except Status (ConfigSet × Bool) :=
  match cls with
  | .group => do
    let i ← named (member 16 k); let r ← parseGroup b
    return ({ c with st := { c.st with groups := c.st.groups.put i r.1 } }, r.2)
  | .channel => do
    let i ← named (member 48 k); let r ← parseChannel b
    return ({ c with st := { c.st with channels := c.st.channels.put i r.1 } }, r.2)
  | .conflictRow => do
    let i ← named (member 16 k); let r ← parseGroupSet b
    return ({ c with st := { c.st with conflicts := c.st.conflicts.put i r.1 } }, r.2)
  | .intergreenRow => do
    let i ← named (member 16 k); let r ← parseIntergreen b
    return ({ c with st := { c.st with intergreens := c.st.intergreens.put i r.1 } }, r.2)
  | .cable => do
    let i ← named (member 24 k); let r ← parseCable b
    return ({ c with st := { c.st with cables := c.st.cables.put i r.1 } }, r.2)
  | .probe => do
    let i ← named (member 64 k); let r ← parseProbe b
    return ({ c with st := { c.st with probes := c.st.probes.put i r.1 } }, r.2)
  | .groupTiming => do
    let i ← named (member 16 k); let r ← parseGroupTiming b
    return ({ c with tm := { c.tm with groupTimings := c.tm.groupTimings.put i r.1 } }, r.2)
  | .channelSettings => do
    let i ← named (member 48 k); let r ← parseSettings b
    return ({ c with tm := { c.tm with settings := c.tm.settings.put i r.1 } }, r.2)
  | .stage => do
    let i ← named (member 16 k); let r ← parseGroupSet b
    return ({ c with tm := { c.tm with stages := c.tm.stages.put i r.1 } }, r.2)
  | .plan => do
    let i ← named (member 8 k); let r ← parsePlan b
    return ({ c with tm := { c.tm with plans := c.tm.plans.put i r.1 } }, r.2)
  | .detector => do
    let i ← named (member 32 k); let r ← parseDetector b
    return ({ c with tm := { c.tm with detectors := c.tm.detectors.put i r.1 } }, r.2)
  | .schedule => do
    let i ← named (member 32 k); let r ← parseSchedule b
    return ({ c with tm := { c.tm with schedule := c.tm.schedule.put i r.1 } }, r.2)
  | .specialDay => do
    let i ← named (member 16 k); let r ← parseSpecial b
    return ({ c with tm := { c.tm with specials := c.tm.specials.put i r.1 } }, r.2)
  | .cabinet => do
    let _ ← named (member 1 k); let r ← parseCabinet b
    return ({ c with tm := { c.tm with cabinet := r.1 } }, r.2)

/-- One record as bytes; none where the index is outside the class's range (R188). -/
def ConfigSet.read (c : ConfigSet) (cls : RecordClass) (k : Nat) : Option (List Byte) :=
  match cls with
  | .group => (member 16 k).map fun i => (c.st.groups.get i).bytes
  | .channel => (member 48 k).map fun i => (c.st.channels.get i).bytes
  | .conflictRow => (member 16 k).map fun i => counted (c.st.conflicts.get i)
  | .intergreenRow => (member 16 k).map fun i => (c.st.intergreens.get i).items.flatMap u16
  | .cable => (member 24 k).map fun i => counted (c.st.cables.get i)
  | .probe => (member 64 k).map fun i => (c.st.probes.get i).bytes
  | .groupTiming => (member 16 k).map fun i => (c.tm.groupTimings.get i).bytes
  | .channelSettings => (member 48 k).map fun i => (c.tm.settings.get i).bytes
  | .stage => (member 16 k).map fun i => counted (c.tm.stages.get i)
  | .plan => (member 8 k).map fun i => (c.tm.plans.get i).bytes
  | .detector => (member 32 k).map fun i => (c.tm.detectors.get i).bytes
  | .schedule => (member 32 k).map fun i => (c.tm.schedule.get i).bytes
  | .specialDay => (member 16 k).map fun i => specialBytes (c.tm.specials.get i)
  | .cabinet => (member 1 k).map fun _ => c.tm.cabinet.bytes

end Sys2Proof.Machine
end

