-- ==== Sys2Proof/Machine/Groups.lean ====
section
/-! DEFINITION. What several blocks derive for a group: its inhibition (R30), its standing demand (R20), its observed
green (R7), its grace time (R160) and the conflict times (R158). -/

namespace Sys2Proof.Machine

/-! ### Inhibition (SEQ) -/

/-- At least one group that conflicts with a fitted group is RED_DEFICIENT (R30). -/
def State.inhibitedBy (s : State) (g : Gid) : Bool :=
  s.fitted g && (allFin 16).any fun j => s.conflicting g j && (s.group j).redHealth == RedHealth.deficient

/-- Every inhibited flag re-evaluated (R30). -/
def State.refreshInhibited (s : State) : State :=
  s.onSeq fun q => { q with groups := Tab.ofFn 16 fun g => { q.groups.get g with inhibited := s.inhibitedBy g } }

/-! ### Grace times (SUP) -/

/-- The conditions of R160 hold for a group. -/
def State.graceRuns (s : State) (g : Gid) : Bool :=
  (s.kind g == some GroupKind.traffic || s.kind g == some GroupKind.pedestrian)
    && (s.group g).redHealth == RedHealth.deficient
    && (s.gt g).redFailAction == RedFailAction.flash
    && s.sup.mode.runs

/-- The grace time of a group after a change of its conditions (R160). -/
def State.graceAfter (s : State) (g : Gid) : Grace :=
  if s.graceRuns g then
    match s.sup.grace.get g with
    | .idle => .running 0
    | t => t
  else .idle

/-- Every grace time re-evaluated (R160). -/
def State.refreshGrace (s : State) : State :=
  s.onSup fun u => { u with grace := Tab.ofFn 16 s.graceAfter }

/-! ### Observed green and the conflict monitor (SUP) -/

/-- Every pair of groups, lower group first. -/
def groupPairs : List (Gid × Gid) :=
  (allFin 16).flatMap fun i => ((allFin 16).filter fun j => decide (i < j)).map fun j => (i, j)

/-- A pair's conflict time runs (R158). -/
def State.pairRuns (s : State) (p : Gid × Gid) : Bool :=
  s.conflicting p.1 p.2 && (s.group p.1).observedGreen && (s.group p.2).observedGreen

/-- The conflict time of a running pair: the one it has, or 0 (R158). -/
def State.pairTime (s : State) (p : Gid × Gid) : PairTime :=
  match s.sup.conflicts.find? (fun t => t.low == p.1 && t.high == p.2) with
  | some t => t
  | none => ⟨p.1, p.2, 0, false⟩

/-- Every conflict time re-evaluated: a pair that does not run is idle (R158). -/
def State.refreshConflicts (s : State) : State :=
  s.onSup fun u => { u with conflicts := (groupPairs.filter s.pairRuns).map s.pairTime }

/-- A group's GREEN list holds a showing channel (R7). -/
def State.showsGreen (s : State) (g : Gid) : Bool :=
  s.fitted g && (s.groupRec g).green.any fun c => (s.chan c).showing

/-- A group's observed green re-evaluated (R7). -/
def State.refreshGreen (s : State) (g : Gid) : State :=
  if (s.group g).observedGreen = s.showsGreen g then s
  else (s.onGroup g fun r => { r with observedGreen := s.showsGreen g }).refreshConflicts

/-- The observed green that a change of a channel's showing state concerns (R7). -/
def State.refreshShowing (s : State) (c : Ch) : State :=
  match (s.chanRec c).group, (s.chanRec c).aspect with
  | some g, some .green => s.refreshGreen g
  | _, _ => s

/-! ### Demand (SEQ) -/

/-- A used input in a stuck fault serves a group (R20, R97). -/
def State.stuckServes (s : State) (g : Gid) : Bool :=
  (allFin 32).any fun d =>
    s.inputUsed d && (s.input d).fault != DetFault.none && (s.detector d).served.contains g

/-- A group has a standing demand (R20). -/
def State.standing (s : State) (g : Gid) : Bool :=
  s.fitted g && ((s.gt g).demandMode == DemandMode.fixed || s.stuckServes g)

/-- A cause of R19 for a group's demand, taken in every mode but UNCONFIGURED. -/
def State.placeDemand (s : State) (g : Gid) : State :=
  if s.sup.mode = .unconfigured ∨ s.fitted g = false ∨ (s.group g).colour = .green then s
  else s.onGroup g fun r => { r with demand := true }

/-- A button actuation for a group (R21, R92). -/
def State.pressButton (s : State) (g : Gid) : State :=
  if s.sup.mode = .unconfigured ∨ s.kind g ≠ some .pedestrian ∨ (s.group g).colour = .green then s
  else (s.onGroup g fun r => { r with latch := true }).placeDemand g

/-- The demand of a group after its standing causes changed from `was` (R20). -/
def GroupRun.demandAfter (r : GroupRun) (was is : Bool) : Bool :=
  if is then true else if was && r.colour == Colour.green then false else r.demand

/-- Every demand after the standing causes changed from those of an earlier state (R20). -/
def State.refreshStanding (before s : State) : State :=
  s.onSeq fun q =>
    { q with groups := Tab.ofFn 16 fun g =>
        { q.groups.get g with demand := (q.groups.get g).demandAfter (before.standing g) (s.standing g) } }

/-! ### Wait indicators (DET) -/

/-- An auxiliary output is lit (R93). -/
def State.auxLit (s : State) (x : Fin 8) : Bool :=
  match s.cabinet.aux.get x with
  | none => false
  | some g =>
    (s.group g).latch &&
      (match s.sup.mode with | .startupRed | .normal | .clearing => true | _ => false)

end Sys2Proof.Machine
end

