-- ==== Sys2Proof/Machine/Lamps.lean ====
section
/-! DEFINITION. The Lamp Monitor's operations on one lamp record (07_lamp_proving.md): verdicts and their fault
entries, red health, steady-on, the flash, relearning, maintenance and the leak time. -/

namespace Sys2Proof.Machine

/-! ### Red health (R129) -/

/-- The healthy heads of a group's RED list whose estimate is present. -/
def State.redSum (s : State) (g : Gid) : Nat :=
  ((s.groupRec g).red.map fun c => (s.lamp c).healthy.getD 0).sum

/-- The red health of a group (R129). -/
def State.redHealthOf (s : State) (g : Gid) : RedHealth :=
  match s.kind g with
  | some .traffic | some .pedestrian =>
    if (s.gt g).redMin ≤ s.redSum g then .ok
    else if (s.groupRec g).red.any (fun c => (s.lamp c).healthy.isNone) then .unknown
    else .deficient
  | _ => .ok

/-- A group's red health re-evaluated: a change is written, handed to SEQ and SUP, and recorded (R129, R30, R160). -/
def State.evalRedHealth (s : State) (g : Gid) : State :=
  let old := (s.group g).redHealth
  let new := s.redHealthOf g
  if old = new then s
  else
    let s1 := ((s.onGroup g fun r => { r with redHealth := new }).refreshInhibited).refreshGrace
    if new = .deficient then s1.report .redDeficient (.group g)
    else if old = .deficient then s1.clearFault .redDeficient (.group g)
    else s1

/-- Every group's red health re-evaluated (R129), G1 to G16 in ascending number (DESIGN CHOICE,
notes/assumptions/55.md). -/
def State.evalAllRedHealth (s : State) : State := s.forAll State.evalRedHealth

/-! ### Verdicts -/

/-- The fault kind of a verdict (R126). -/
def Verdict.faultKind : Verdict → Option FaultKind
  | .partialFail => some .lampPartial
  | .failed => some .lampFailed
  | .overcurrent => some .lampOvercurrent
  | .circuitOpen => some .circuitOpen
  | _ => none

/-- The verdict that counts: the saved one while the verdict is HELD (R127). -/
def LampRec.effective (l : LampRec) : Verdict :=
  match l.verdict with
  | .held => l.saved.getD .unknown
  | v => v

/-- A lamp record with a verdict and an estimate written; while HELD the verdict goes to the saved one (R127, R132). -/
def LampRec.withVerdict (l : LampRec) (v : Verdict) (h : Option Nat) : LampRec :=
  if l.verdict = .held then { l with saved := some v, healthy := h, run := none }
  else { l with verdict := v, healthy := h, run := none }

/-- The report of a change of verdict (R126): the entry of the old kind is made CLEARED before the new kind is reported
(DESIGN CHOICE, notes/assumptions/70.md). -/
def State.reportVerdict (s : State) (c : Ch) (old new : Verdict) : State :=
  let s1 :=
    match old.faultKind with
    | some k => if new.faultKind = some k then s else s.clearFault k (.channel c)
    | none => s
  match new.faultKind with
  | some k => s1.report k (.channel c)
  | none => s1

/-- A channel's verdict becomes `v` with estimate `h`: it is reported (R126) and passed to red health (R129), whose
own report comes after it (DESIGN CHOICE, notes/assumptions/70.md). -/
def State.setVerdict (s : State) (c : Ch) (v : Verdict) (h : Option Nat) : State :=
  let old := (s.lamp c).effective
  ((s.onLamp c fun l => l.withVerdict v h).reportVerdict c old v).evalAllRedHealth

/-! ### Steady-on, the flash -/

/-- A channel leaves steady-on: the partial learning set and the run are discarded (R120). -/
def LampRec.leaveSteady (l : LampRec) : LampRec :=
  { l with
    set := none
    run := none
    learn := match l.learn with | .learning _ => .learning 0 | x => x }

/-- The command becomes FLASHING (R127). -/
def LampRec.flashBegins (l : LampRec) : LampRec :=
  if l.verdict = .held then l else { l.leaveSteady with verdict := .held, saved := some l.verdict }

/-- The command leaves FLASHING (R127). -/
def LampRec.flashEnds (l : LampRec) : LampRec :=
  if l.verdict = .held then { l with verdict := l.saved.getD .unknown, saved := none } else l

/-! ### Maintenance and relearning -/

/-- The reference and learn state after leaving the maintenance set or a relearn (R132, R133). -/
def LampRec.restartReference (l : LampRec) (st : ChanSettings) : LampRec :=
  match st.refMode with
  | .learn => { l.leaveSteady with iref := none, learn := .unlearned }
  | .fixed => { l.leaveSteady with iref := some st.fixedRef, learn := .learned }

/-- A channel's lamp fault entries made CLEARED (R132). -/
def State.clearLampFaults (s : State) (c : Ch) : State :=
  (((s.clearFault .lampPartial (.channel c)).clearFault .lampFailed (.channel c)).clearFault .lampOvercurrent
    (.channel c)).clearFault .circuitOpen (.channel c)

/-- LAMP_RELEARN's effect on one channel, without the red health (R133). A leak time that runs goes on (DESIGN CHOICE,
notes/assumptions/57.md). -/
def State.relearn (s : State) (c : Ch) : State :=
  (s.onLamp c fun l => (l.restartReference (s.settings c)).withVerdict .unknown none).clearLampFaults c

/-! ### The leak path (R134) -/

/-- The conditions of the leak time hold (R134). -/
def State.leakRuns (s : State) (c : Ch) : Bool :=
  (s.chanRec c).lamp == LampKind.filament && (s.chan c).indication == Level.low
    && (s.chan c).proof == Proof.opened && !(s.lamp c).maintenance

/-- The leak time after a change of its conditions (R134). -/
def State.refreshLeak (s : State) (c : Ch) : State :=
  if s.leakRuns c then
    if (s.lamp c).leak.isSome then s else s.onLamp c fun l => { l with leak := some 0, leakAsked := false }
  else s.onLamp c fun l => { l with leak := none, leakAsked := false }

/-- A channel enters the maintenance set (R132). -/
def State.enterMaintenance (s : State) (c : Ch) : State :=
  ((s.onLamp c fun l => { l.leaveSteady.withVerdict .unknown none with maintenance := true }).clearLampFaults c).refreshLeak c

/-- A channel leaves the maintenance set (R132). -/
def State.leaveMaintenance (s : State) (c : Ch) : State :=
  (s.onLamp c fun l => { l.restartReference (s.settings c) with maintenance := false }).refreshLeak c

/-! ### Notifications of the Cable Tester (R128) -/

/-- A LOOP probe classified as FAULT (R128). -/
def State.loopOpen (s : State) (c : Ch) : State :=
  if (s.lamp c).verdict = .failed then s
  else (s.onLamp c LampRec.leaveSteady).setVerdict c .circuitOpen (some 0)

/-- A LOOP probe passed (R128). -/
def State.loopPass (s : State) (c : Ch) : State :=
  if (s.lamp c).verdict = .circuitOpen then s.setVerdict c .unknown none else s

/-! ### Samples (R119 to R125) -/

/-- The settle time in ms (R118). -/
def LampKind.settle : LampKind → Nat
  | .filament => 200
  | .led => 500

/-- A sample taken now is an on-sample (R119). -/
def State.onSample (s : State) (c : Ch) : Bool :=
  (s.chan c).command == Command.on && (s.chan c).proof == Proof.closed
    && (match (s.chan c).steadySince with
        | some t => decide (t + (s.chanRec c).lamp.settle ≤ s.now)
        | none => false)
    && !(s.lamp c).maintenance && s.sup.mode != Mode.dark

/-- One on-sample taken to learning (R121). -/
def LampRec.learnSample (l : LampRec) (i : Nat) : LampRec :=
  let k := match l.learn with | .learning k => k | _ => 0
  if i = 4000 then { l with learn := .learning 0, set := none, run := none }
  else
    let t : LearnSet :=
      match l.set with
      | some t => ⟨t.sum + i, min t.lowest i, max t.highest i⟩
      | none => ⟨i, i, i⟩
    if k + 1 < 8 then { l with learn := .learning (k + 1), set := some t, run := none }
    else
      let avg := t.sum / 8
      if avg < (t.highest - t.lowest) * 4 ∨ avg < 20 then { l with learn := .learning 0, set := none, run := none }
      else { l with learn := .learned, iref := some avg, set := none, run := none }

/-- The healthy estimate of a sample (R124). -/
def sampleEstimate (i n iref : Nat) : Nat := min n ((i * n + iref / 2) / iref)

/-- The category of a sample (R124). -/
def sampleCategory (i n iref : Nat) : Category :=
  if iref * 3 < i * 2 then .over
  else if sampleEstimate i n iref = n then .good
  else if 0 < sampleEstimate i n iref then .partialFail
  else .dark

/-- A sample agrees with the verdict (R125). -/
def LampRec.agrees (l : LampRec) (cat : Category) (h : Nat) : Bool :=
  match l.verdict, cat with
  | .good, .good => true
  | .partialFail, .partialFail => l.healthy == some h
  | .failed, .dark => true
  | .overcurrent, .over => true
  | _, _ => false

/-- The run after a disagreeing sample (R125). -/
def LampRec.runAfter (l : LampRec) (cat : Category) (h : Nat) : ConfirmRun :=
  match l.run with
  | some r => if r.candidate = cat then ⟨cat, r.count + 1, min r.lowest h⟩ else ⟨cat, 1, h⟩
  | none => ⟨cat, 1, h⟩

/-- The verdict and the channel's h that a confirmed run gives (R125). -/
def ConfirmRun.gives (r : ConfirmRun) (n : Nat) : Verdict × Nat :=
  match r.candidate with
  | .good => (.good, n)
  | .partialFail => (.partialFail, r.lowest)
  | .dark => (.failed, 0)
  | .over => (.overcurrent, n)

/-- The reference after tracking a sample in LEARN mode (R123). -/
def trackReference (mode : RefMode) (i iref : Nat) : Nat :=
  let d : Int := (i : Int) - (iref : Int)
  if mode = .learn ∧ i ≠ 4000 ∧ d.natAbs * 8 ≤ iref then ((iref : Int) + d.tdiv 64).toNat else iref

/-- One on-sample taken to the estimate (R124, R125, R123). -/
def State.estimateSample (s : State) (c : Ch) (i iref : Nat) : State :=
  let n := (s.chanRec c).heads
  let h := sampleEstimate i n iref
  let cat := sampleCategory i n iref
  let l := s.lamp c
  let s1 :=
    if l.agrees cat h then s.onLamp c fun l => { l with run := none }
    else
      let r := l.runAfter cat h
      if (s.settings c).confirm ≤ r.count then s.setVerdict c (r.gives n).1 (some (r.gives n).2)
      else s.onLamp c fun l => { l with run := some r }
  s1.onLamp c fun l => { l with iref := some (trackReference (s.settings c).refMode i iref) }

/-- A current sample taken (R119). -/
def State.takeSample (s : State) (c : Ch) (i : Nat) : State :=
  if s.onSample c then
    match (s.lamp c).learn, (s.lamp c).iref with
    | .learned, some iref => s.estimateSample c i iref
    | .learned, none => s
    | _, _ => s.onLamp c fun l => l.learnSample i
  else s

end Sys2Proof.Machine
end

