-- ==== Sys2Proof/Machine/Tester.lean ====
section
/-! DEFINITION. The Cable Tester's testability, the start of a probe and its early end
(08_cable_testing.md, 8.3 and 8.4), before the coils that a released bus frees. -/

namespace Sys2Proof.Machine

/-! ### Testability (R140) -/

/-- A channel's indication has stood at NONE for 1 s (R140). -/
def State.quietLongEnough (s : State) (c : Ch) : Bool :=
  match s.cbt.quietSince.get c with
  | some t => decide (t + 1000 ≤ s.now)
  | none => false

/-- A group belongs to a stage change (R140). -/
def State.inStageChange (s : State) (g : Gid) : Bool :=
  (s.group g).colour == Colour.redAmber ||
    match s.seq.change with
    | some ch => ch.losing.contains g || ch.gaining.any (fun p => p.1 == g) || s.seq.dropped.any (fun p => p.1 == g)
    | none => false

/-- A channel is testable (R140). -/
def State.testable (s : State) (c : Ch) : Bool :=
  (s.chan c).command == Command.off
    && ((s.chan c).proof == Proof.opened
      || ((s.chan c).proof == Proof.unproven && (s.sup.mode == Mode.unconfigured || s.sup.mode == Mode.dark)))
    && s.quietLongEnough c
    && (s.chan c).testBus == TestBus.no
    && (match (s.chanRec c).group with | some g => !s.inStageChange g | none => true)
    && !(s.lamp c).maintenance

/-- The channels a probe connects: the subject, and the partner of a COUPLING entry (R136). -/
def ProbeRec.channels (p : ProbeRec) : List Ch :=
  match p.kind, p.partner with
  | some .coupling, some q => [p.subject, q]
  | _, _ => [p.subject]

/-- An entry is testable (R140). -/
def State.entryTestable (s : State) (e : PEnt) : Bool :=
  s.probeUsed e && (s.probeRec e).channels.all s.testable

/-- The test bus is free (R139). -/
def State.busFree (s : State) : Bool := s.cbt.phase == BusPhase.idle

/-- CLOSING and MEASURING (R143). -/
def BusPhase.working : BusPhase → Bool
  | .closing | .measuring => true
  | _ => false

/-! ### The start of a probe (R141, R113) -/

/-- A probe of an entry can start: the bus is free, the entry is testable and OUT grants the connection (R141,
R113). -/
def State.canStart (s : State) (e : PEnt) : Bool :=
  s.busFree && s.entryTestable e && (s.probeRec e).channels.all (fun c => !(s.chan c).driven)

/-- The test bus field of the partner, then of the subject, written (R113). -/
def State.connectBus (s : State) (e : PEnt) : State :=
  let p := s.probeRec e
  let s1 :=
    match p.kind, p.partner with
    | some .coupling, some q => s.onChan q fun r => { r with testBus := .sense }
    | _, _ => s
  s1.onChan p.subject fun r => { r with testBus := .drive }

/-- A probe starts (R141). -/
def State.startProbe (s : State) (e : PEnt) (o : Origin) : State :=
  (s.connectBus e).onCbt fun b =>
    { b with
      phase := .closing
      phaseTime := 0
      probe := some ⟨e, o, false⟩
      urgent := b.urgent.erase e
      deferred := b.deferred.erase e }

/-! ### The early end of a probe (R143) -/

/-- One more sweep in which an entry did not run (R150). -/
def State.countStarved (s : State) (e : PEnt) : State :=
  let n := (s.result e).starved + 1
  let s1 := s.onResult e fun r => { r with starved := min 255 n }
  if n = 8 then s1.report .testStarved (.entry e) else s1

/-- An abandoned entry joins the tail of the deferred list (R143). -/
def State.deferAgain (s : State) (e : PEnt) : State :=
  if s.cbt.period.isSome && !(s.result e).done && decide (number e < s.cbt.walk) && !s.cbt.deferred.contains e then
    s.onCbt fun b => { b with deferred := b.deferred ++ [e] }
  else s

/-- The body of a PROBE_RUN reply: the result and the measurement (R152). -/
def probeReplyBody (result : ProbeResult) (m : Option Nat) : List Byte :=
  let code := match result with | .pass => 0 | .passMarginal => 1 | .suspect => 2 | .fault => 3 | .abandoned => 4
  u8 code ++ opt16 m

/-- The deferred reply of a requested probe, and PROBE_DONE (R152). The reply is formed after the result has acted and
PROBE_DONE is added, so its summary shows the mode and the attention flag that these leave (DESIGN CHOICE,
notes/assumptions/80.md). -/
def State.answerProbe (s : State) (o : Origin) (result : ProbeResult) (m : Option Nat) : State :=
  match o with
  | .request tag => (s.addEvents PendingSet.ofProbeDone).reply tag 0x42#8 .ok (probeReplyBody result m)
  | _ => s

/-- The result ABANDONED of a probe: its record, its place in the deferred list and its reply (R143, R150). -/
def State.recordAbandoned (s : State) (p : ProbeRun) : State :=
  let s1 := (s.onResult p.entry fun r => { r with last := some .abandoned, measurement := none }).deferAgain p.entry
  let s2 := if p.sweepEnded then s1.countStarved p.entry else s1
  s2.answerProbe p.origin .abandoned none

/-- A working probe is abandoned, and the bus starts its 20 ms release (R143). -/
def State.abandonProbe (s : State) : State :=
  match s.cbt.probe with
  | some p =>
    if s.cbt.phase.working then
      (s.onCbt fun b => { b with phase := .releasing, phaseTime := 0 }).recordAbandoned p
    else s
  | none => s

/-- A connected channel is claimed, or enters the maintenance set (R143). -/
def State.claimChannel (s : State) (c : Ch) : State :=
  if (s.chan c).testBus = .no then s else s.abandonProbe

end Sys2Proof.Machine
end

