-- ==== Sys2Proof/Machine/Relays.lean ====
section
/-! DEFINITION. The Output Controller's operations that make no finding (06_relay_drive_and_voltage_proving.md):
channel commands, the relay sequence, the flash generator, the test bus switches and the contactor's release. -/

namespace Sys2Proof.Machine

/-! ### Hand-offs of a channel's changes (R7, R111, R120, R127, R134) -/

/-- The channel is in steady-on but for its settle time (R111). -/
def ChanRun.steadyOn (r : ChanRun) : Bool := r.command == Command.on && r.proof == Proof.closed

/-- The new fields of a channel with their steady-on since (R111). -/
def ChanRun.settled (old new : ChanRun) (now : Nat) : ChanRun :=
  { new with
    steadySince := if new.steadyOn then (if old.steadyOn then some (old.steadySince.getD now) else some now) else none }

/-- The lamp record after a change of the channel's fields (R120, R127). -/
def LampRec.follow (l : LampRec) (old new : ChanRun) : LampRec :=
  let l1 := if old.steadyOn && !new.steadyOn then l.leaveSteady else l
  if new.command = .flashing ∧ old.command ≠ .flashing then l1.flashBegins
  else if old.command = .flashing ∧ new.command ≠ .flashing then l1.flashEnds
  else l1

/-- A channel's fields written, with every hand-off of the change. -/
def State.putChan (s : State) (c : Ch) (new : ChanRun) : State :=
  let old := s.chan c
  ((((s.onChan c fun _ => old.settled new s.now).onLamp c fun l => l.follow old new)).refreshShowing c).refreshLeak c

/-! ### Relay faults returning to NONE, and wear (R109, R110) -/

/-- The fault kind of a relay fault (R109). -/
def RelayFault.kind : RelayFault → Option FaultKind
  | .none => Option.none
  | .failToClose => some .relayFailToClose
  | .failToOpen => some .relayFailToOpen
  | .foreignVoltage => some .foreignVoltage

/-- The entry of a relay fault value made CLEARED (R109). -/
def State.clearRelayEntry (s : State) (c : Ch) (f : RelayFault) : State :=
  match f.kind with
  | some k => s.clearFault k (.channel c)
  | none => s

/-- A relay fault of one value returns to NONE (R109). -/
def State.endRelayFault (s : State) (c : Ch) (f : RelayFault) : State :=
  if (s.chan c).fault = f then (s.onChan c fun r => { r with fault := .none }).clearRelayEntry c f else s

/-- The relay fault a channel holds, of whatever value, returns to NONE (R109). -/
def State.clearRelayFault (s : State) (c : Ch) : State := s.endRelayFault c (s.chan c).fault

/-- One more operation of a relay (R110). -/
def State.countOperation (s : State) (c : Ch) : State :=
  let n := (s.chan c).opCount
  let w := (s.settings c).wear
  let s1 := s.onChan c fun r => { r with opCount := min 4294967295 (n + 1) }
  if 0 < w ∧ n < w ∧ w ≤ min 4294967295 (n + 1) then s1.report .relayWear (.channel c) else s1

/-! ### The relay sequence (R103 to R107) -/

/-- A pull-in completes (R103, R104, R107, R110). A late completion that brings the count to the wear threshold reports
RELAY_WEAR before it ends FAIL_TO_CLOSE and clears that fault's entry (DESIGN CHOICE, notes/assumptions/79.md). -/
def State.completePullIn (s : State) (c : Ch) : State :=
  let r := s.chan c
  let s1 := s.putChan c
    { r with
      relay := .held
      proof := .closed
      limit := none
      drive := if r.fullTime.isSome then .full else .hold }
  let s2 := if r.proof = .opened then s1.countOperation c else s1
  s2.endRelayFault c .failToClose

/-- A coil starts (R102, R103, R107). -/
def State.coilStart (s : State) (c : Ch) : State :=
  let r := s.chan c
  if s.supplyProven then
    let started : ChanRun :=
      { r with relay := .pullingIn, drive := .full, fullTime := some 0, limit := some ⟨0, (s.settings c).pullIn⟩ }
    if r.indication = .full then (s.onChan c fun _ => started).completePullIn c
    else s.putChan c { started with proof := .opened }
  else s.putChan c { r with relay := .pullingIn, drive := .full, fullTime := none, limit := none }

/-- A coil stops (R102, R106, R107). -/
def State.coilStop (s : State) (c : Ch) : State :=
  let r := s.chan c
  if s.supplyProven then
    s.putChan c { r with relay := .releasing, drive := .off, fullTime := none, limit := some ⟨0, (s.settings c).release⟩ }
  else s.putChan c { r with relay := .released, drive := .off, fullTime := none, limit := none }

/-- A channel's command asks for its coil (6.3). -/
def State.coilDue (s : State) (c : Ch) : Bool :=
  match (s.chan c).command with
  | .on => true
  | .flashing => s.out.flash.onPhase
  | .off => false

/-- A channel's coil brought to what its command, the flash phase and the test bus ask (6.3, R113). -/
def State.updateCoil (s : State) (c : Ch) : State :=
  let r := s.chan c
  if s.coilDue c then
    if r.testBus ≠ .no then s.claimChannel c
    else if r.driven then s
    else s.coilStart c
  else if r.driven then s.coilStop c
  else s

/-- A loss of proof of the supply, for one channel (R102). -/
def State.unproveChan (s : State) (c : Ch) : State :=
  let r := s.chan c
  s.putChan c
    { r with
      proof := .unproven
      limit := none
      fullTime := none
      relay := if r.driven then .pullingIn else .released
      drive := if r.driven then .full else .off }

/-- The supply is no longer proven (R102). -/
def State.unproveAll (s : State) : State := s.forAll State.unproveChan

/-! ### The flash generator (R112) -/

/-- The length of a flash phase in ms (R112). -/
def phaseLengthOf (rate : Nat) : Nat := 30000 / rate

/-- The generator starts (R112). -/
def State.startFlashGen (s : State) : State :=
  s.onOut fun o => { o with flash := ⟨true, true, 0, phaseLengthOf s.cabinet.flashRate⟩ }

/-- The generator stops once no channel is FLASHING after the commands of an event (R112): a channel that becomes FLASHING
as the last one leaves keeps it running. After the stop the phase time is 0 and the phase stands (DESIGN CHOICE,
notes/assumptions/41.md). -/
def State.settleFlashGen (s : State) : State :=
  if s.out.chans.items.any (fun r => r.command == Command.flashing) then s
  else s.onOut fun o => { o with flash := { o.flash with running := false, phaseTime := 0 } }

/-! ### Commands (R3) -/

/-- The command of an aspect of a group in a colour state (R3). -/
def commandOf (k : GroupKind) (col : Colour) (a : Aspect) : Command :=
  match k, col, a with
  | .traffic, .red, .red => .on
  | .traffic, .redAmber, .red => .on
  | .traffic, .redAmber, .amber => .on
  | .traffic, .green, .green => .on
  | .traffic, .amber, .amber => .on
  | .traffic, .flashAmber, .amber => .flashing
  | .pedestrian, .red, .red => .on
  | .pedestrian, .green, .green => .on
  | .pedestrian, .clear, .green => .flashing
  | .arrow, .green, .green => .on
  | _, _, _ => .off

/-- The command a channel's group gives it (R3). -/
def State.commandFor (s : State) (c : Ch) : Command :=
  match (s.chanRec c).group, (s.chanRec c).aspect with
  | some g, some a =>
    match s.kind g with
    | some k => commandOf k (s.group g).colour a
    | none => .off
  | _, _ => .off

/-- A channel's command follows its group (R3, R112). -/
def State.syncCommand (s : State) (c : Ch) : State :=
  let new := s.commandFor c
  if (s.chan c).command = new then s
  else
    let s1 := if new = .flashing && !s.out.flash.running then s.startFlashGen else s
    (s1.putChan c { s1.chan c with command := new }).updateCoil c

/-- Every channel's command follows its group (R3), in ascending channel number (DESIGN CHOICE,
notes/assumptions/66.md). -/
def State.syncCommands (s : State) : State := (s.forAll State.syncCommand).settleFlashGen

/-! ### The test bus switches (R113, R141) -/

/-- The test bus switches open: the bus is free, and a coil held back starts if it is still due (R113, R141), the
lower-numbered channel first (DESIGN CHOICE, notes/assumptions/66.md). -/
def State.openBus (s : State) : State :=
  let held := (allFin 48).filter fun c => (s.chan c).testBus != TestBus.no
  let s1 := held.foldl (fun t c => t.onChan c fun r => { r with testBus := .no }) s
  held.foldl State.updateCoil
    (s1.onCbt fun b => { b with phase := .idle, probe := none, phaseTime := 0, choice := true })

/-! ### The contactor's coil stops (R114) -/

/-- The contactor command becomes OPEN (R114). -/
def State.openContactor (s : State) : State :=
  s.onContactor fun k =>
    if k.driven then { k with closeCommand := false, driven := false, state := .releasing, limit := some 0 }
    else { k with closeCommand := false }

end Sys2Proof.Machine
end

