-- ==== Sys2Proof/Machine/Colours.lean ====
section
/-! DEFINITION. The Stage Sequencer's shared operations: entering a colour state (R2, R18), the gap timer (R34), and
the clearing of the sequencer record (R43, R67). -/

namespace Sys2Proof.Machine

/-! ### The gap timer (R34) -/

/-- The groups of the running stage and of the target of a change in progress (R34). -/
def State.stageMembers (s : State) : List Gid :=
  (match s.seq.running with | some b => s.stage b | none => []) ++
    (match s.seq.change with | some ch => s.stage ch.target | none => [])

/-- A group is in GREEN as a member of the running stage or of the target of a change (R34). -/
def State.greenMember (s : State) (g : Gid) : Bool :=
  (s.group g).colour == Colour.green && s.stageMembers.contains g

/-- The largest extension among the green member groups an input serves; none where it serves none (R34). -/
def State.extensionOf (s : State) (d : Det) : Option Nat :=
  ((((s.detector d).served.filter s.greenMember).map fun g => (s.gt g).extension).max?)

/-- An input counts as an active detector (R34, R91, R97). -/
def State.activeDetector (s : State) (d : Det) : Bool :=
  (s.detector d).kind == some DetKind.presence && (s.input d).accepted && (s.input d).fault == DetFault.none

/-- The value the gap timer is held at; none while no such detector is active (R34). -/
def State.gapHold (s : State) : Option Nat :=
  ((allFin 32).filterMap fun d => if s.activeDetector d then s.extensionOf d else none).max?

/-- The gap timer at the hold value while a detector holds it; without one it stays as it is (R34). -/
def State.holdGap (s : State) : State :=
  match s.gapHold with
  | some v => s.onSeq fun q => { q with gap := v }
  | none => s

/-- The gap timer brought to the hold value for a group that enters GREEN under an active detector (R34). -/
def State.holdGapFor (s : State) (g : Gid) : State :=
  if (allFin 32).any (fun d => s.activeDetector d && (s.detector d).served.contains g) && s.greenMember g then s.holdGap
  else s

/-! ### Colour states (R2, R18, R25) -/

/-- The tenth-tick time of a green that ends now: this tick at a tick, the next tick between ticks (R25). -/
def Seq.endInstant (q : Seq) : Nat := if q.tickOpen then q.tick else q.tick + 1

/-- A group's runtime record as it enters a colour state: time in state, green end instant, and the timing in force
(R2, R4, R18); the entry to GREEN clears the latch, and the demand unless it stands (R19, R20, R21). -/
def GroupRun.enter (r : GroupRun) (col : Colour) (t : GroupTiming) (standing : Bool) (endAt : Nat) : GroupRun :=
  let r1 : GroupRun :=
    { r with
      colour := col
      timeIn := 0
      greenEnd := if r.colour = .green then some endAt else r.greenEnd }
  match col with
  | .green => { r1 with minInForce := t.minGreen, demand := standing, latch := false }
  | .amber => { r1 with amberInForce := t.amber }
  | .clear => { r1 with clearanceInForce := t.clearance }
  | .redAmber => { r1 with redAmberInForce := t.redAmber }
  | _ => r1

/-- A group enters a colour state, its channels not yet following. -/
def State.putColour (s : State) (g : Gid) (col : Colour) : State :=
  if (s.group g).colour = col then s
  else s.onGroup g fun r => r.enter col (s.gt g) (s.standing g) s.seq.endInstant

/-- A group enters a colour state; its channels' commands follow at the same instant (R3), and a group that enters
GREEN holds the gap timer (R34). -/
def State.setColour (s : State) (g : Gid) (col : Colour) : State :=
  let s1 := (s.putColour g col).syncCommands
  if col = .green then s1.holdGapFor g else s1

/-- Every fitted group enters the colour state its kind is given, and the channels follow (R43). -/
def State.setAllColours (s : State) (f : GroupKind → Colour) : State :=
  (s.forAll fun (t : State) (g : Gid) => match t.kind g with | some k => t.putColour g (f k) | none => t).syncCommands

/-- The colour of a kind in FLASH and STARTUP_FLASH (R43). -/
def flashColour : GroupKind → Colour
  | .traffic => .flashAmber
  | _ => .off

/-- The colour of a kind in STARTUP_RED (R43). -/
def restColour : GroupKind → Colour
  | .arrow => .dark
  | _ => .red

/-- The colour a green of a kind ends in (R27, R45). -/
def endColour : GroupKind → Colour
  | .traffic => .amber
  | .pedestrian => .clear
  | .arrow => .dark

/-! ### The sequencer record -/

/-- The Plan Runner's fields at their reset values (R49, R67). -/
def Seq.clearRunner (q : Seq) : Seq :=
  { q with
    active := none, pos := none, decision := none, shorten := 0, holdBudget := 0, hold := none, allowance := 0
    greenStart := 0, stageMin := 0, pendingPlan := none, reached := false, cycleStart := false, changePoint := false
    decided := false }

/-- The sequencer record cleared; the barred inputs are kept (R43). -/
def Seq.clearRecord (q : Seq) : Seq :=
  { q with
    running := none, entry := none, change := none, dropped := [], joined := [], endDue := none, gap := 0, maxTimer := none
    priority := [] }

/-- The sequencer record and the Plan Runner as they are outside NORMAL (R43, R45, R67). -/
def State.clearSequencer (s : State) : State := s.onSeq fun q => q.clearRecord.clearRunner

/-- No group is in AMBER or CLEAR (R45, R161). -/
def State.noneClearing (s : State) : Bool :=
  (allFin 16).all fun g => (s.group g).colour != Colour.amber && (s.group g).colour != Colour.clear

end Sys2Proof.Machine
end

