-- ==== Sys2Proof/Machine/Supervision.lean ====
section
/-! DEFINITION. The Cabinet Supervisor's shared operations (09_cabinet_supervision_and_fallback.md): the entries to the
modes, the causes of R163 and R169, soft and hard faults, and with them the findings of the Output Controller that
reach the supervisor: relay faults, the re-proof, the contactor's close and failure to open. -/

namespace Sys2Proof.Machine

/-- The supervisor record changed; MODE_CHANGE where the mode, the reason or the latched flag changes (R156). -/
def State.onMode (s : State) (f : Sup → Sup) : State :=
  let s1 := s.onSup f
  if s1.sup.mode = s.sup.mode ∧ s1.sup.reason = s.sup.reason ∧ s1.sup.latched = s.sup.latched then s1
  else s1.addEvents PendingSet.ofModeChange

/-- The recovery ends (R163). -/
def Sup.endRecovery (u : Sup) : Sup := { u with holdoff := none, recovering := false, holdoffPending := false }

/-- A soft fallback reaches its target: the holdoff starts where recovery is allowed (R162). -/
def Sup.startHoldoff (u : Sup) (attempts : Nat) : Sup :=
  { u with holdoff := if 0 < attempts then some 0 else u.holdoff, holdoffPending := false }

/-! ### Entries to the modes -/

/-- The cabinet goes dark: the contactor opens, every fitted group enters DARK_ALL and what the sequencer had in hand
is abandoned (R159, R45, R67). -/
def State.darken (s : State) : State :=
  (((s.openContactor.setAllColours fun _ => Colour.darkAll).clearSequencer).onSeq fun q =>
    { q with coloursDue := false, clearingDue := false }).refreshGrace

/-- Entry to DARK with a reason and a latched flag (R159, R163, R169). -/
def State.enterDark (s : State) (reason : Option Reason) (latched : Bool) : State :=
  (s.onMode fun u => { u with mode := .dark, reason := reason, latched := latched, phaseTime := 0, flashNext := none }).darken

/-- Entry to CLEARING (R161). -/
def State.enterClearing (s : State) (reason : Reason) (latched : Bool) : State :=
  (((s.onMode fun u => { u with mode := .clearing, reason := some reason, latched := latched, phaseTime := 0 }).clearSequencer).onSeq
    fun q => { q with clearingDue := true }).refreshGrace

/-- Entry to FLASH: the colours follow at the first tick at or after it (R43), and a pending soft fallback starts its
holdoff (R162). The recovery attempts read are those in force before a pending commit that this entry releases (R191;
DEDUCED, notes/assumptions/25.md). -/
def State.enterFlash (s : State) (reason : Option Reason) (latched : Bool) : State :=
  let n := s.cabinet.attempts
  (((s.onMode fun u =>
    let u1 : Sup := { u with mode := .flash, reason := reason, latched := latched, phaseTime := 0, flashNext := none }
    if u1.holdoffPending && reason == some Reason.redFail && !latched then u1.startHoldoff n
    else { u1 with holdoffPending := false }).clearSequencer).onSeq
    fun q => { q with coloursDue := true, clearingDue := false }).refreshGrace

/-! ### Causes (R163, R169) -/

/-- The columns of the table of R163. -/
inductive Cause where
  | latchedDark (hard : Bool)
  | closeFailure
  | latchedFlash
  | unlatchedFlash
  deriving DecidableEq, Repr

/-- A cause that meets a supply loss being waited out (R169). A latched FLASH cause ends the recovery, as R163 says of
every latched cause, also where the saved state is unchanged (DEDUCED, notes/assumptions/23.md). -/
def State.takeWhileWaiting (s : State) (k : Cause) (reason : Reason) : State :=
  match k with
  | .latchedDark _ =>
    s.onMode fun u =>
      { u.endRecovery with reason := some reason, latched := true, probation := 0, saved := some (.dark (some reason) true) }
  | .latchedFlash =>
    s.onSup fun u =>
      { u.endRecovery with
        saved :=
          match u.saved with
          | some .startup => some (.flash (some reason) true)
          | some (.flash _ false) => some (.flash (some reason) true)
          | x => x }
  | _ => s

/-- The reason and the latched flag of a CLEARING, FLASH or DARK changed in place (R163). -/
def State.latchWith (s : State) (reason : Reason) : State :=
  s.onMode fun u => { u with reason := some reason, latched := true }

/-- A latched DARK cause (R163). A contactor failure to open leaves UNCONFIGURED as it is. -/
def State.takeLatchedDark (s : State) (hard : Bool) (reason : Reason) : State :=
  let s1 := s.onSup fun u => { u.endRecovery with probation := 0 }
  match s.sup.mode with
  | .unconfigured => if hard then s1.enterDark (some reason) true else s
  | .dark => if s.sup.latched then s1 else s1.latchWith reason
  | _ => s1.enterDark (some reason) true

/-- A latched FLASH, a red failure's lockout, waits in STARTUP_RED for the next tick (R163, R168). An unlatched FLASH
cause, a contactor failure to close and a supply loss meet it as they would meet the latched FLASH itself (DEDUCED,
notes/assumptions/24.md). -/
def Sup.latchedWaits (u : Sup) : Bool := u.mode == Mode.startupRed && u.flashNext.any fun f => f.2

/-- A contactor failure to close (R163, R162). The recovery attempts read are those in force before a pending commit that
this entry to DARK releases (R191; DEDUCED, notes/assumptions/25.md). A lockout that stands as the exit of STARTUP_CHECK
meets the row of that mode: DARK, not latched, where R168 has a lockout leave the cabinet latched (DEDUCED,
notes/assumptions/24.md). -/
def State.takeCloseFailure (s : State) : State :=
  let n := s.cabinet.attempts
  match s.sup.mode with
  | .unconfigured | .dark => s
  | .clearing | .flash =>
    if s.sup.latched then (s.onSup Sup.endRecovery).enterDark (some .contactor) true
    else (s.enterDark (some .contactor) false).onSup fun u => u.startHoldoff n
  | _ =>
    if s.sup.latchedWaits then (s.onSup Sup.endRecovery).enterDark (some .contactor) true
    else (s.enterDark (some .contactor) false).onSup fun u => u.startHoldoff n

/-- A latched FLASH cause (R163). -/
def State.takeLatchedFlash (s : State) (reason : Reason) : State :=
  let s1 := s.onSup Sup.endRecovery
  match s.sup.mode with
  | .unconfigured => s
  | .startupCheck => s1.onSup fun u => { u with exit := .flash (some reason) true }
  | .startupFlash => s1.enterFlash (some reason) true
  | .startupRed =>
    -- A red failure of STARTUP_RED, or its lockout, enters FLASH at the next tick (R163).
    if reason = .redFail ∨ reason = .lockout then s1.onSup fun u => { u with flashNext := some (some reason, true) }
    else s1.enterFlash (some reason) true
  | .normal => s1.enterClearing reason true
  | .clearing | .flash | .dark => if s.sup.latched then s1 else s1.latchWith reason

/-- An unlatched FLASH cause (R163); a soft one is on its way to a holdoff (R162). A latched FLASH that waits in
STARTUP_RED is left as it is (R168). -/
def State.takeUnlatchedFlash (s : State) (reason : Reason) : State :=
  let s1 := if reason = .redFail then s.onSup fun u => { u with holdoffPending := true } else s
  match s.sup.mode with
  | .startupCheck =>
    match s.sup.exit with
    | .startupFlash => s1.onSup fun u => { u with exit := .flash (some reason) false }
    | .flash _ _ => s
  | .startupFlash => s1.enterFlash (some reason) false
  | .startupRed =>
    if s.sup.latchedWaits then s
    else if reason = .redFail then s1.onSup fun u => { u with flashNext := some (some reason, false) }
    else s1.enterFlash (some reason) false
  | .normal => s1.enterClearing reason false
  | _ => s

/-- A cause taken (R163, R169). -/
def State.takeCause (s : State) (k : Cause) (reason : Reason) : State :=
  if s.waitingSupply then s.takeWhileWaiting k reason
  else
    match k with
    | .latchedDark hard => s.takeLatchedDark hard reason
    | .closeFailure => s.takeCloseFailure
    | .latchedFlash => s.takeLatchedFlash reason
    | .unlatchedFlash => s.takeUnlatchedFlash reason

/-- A hard fault (R159). -/
def State.hardFault (s : State) (reason : Reason) : State := s.takeCause (.latchedDark true) reason

/-- The states in which a soft fault counts as an attempt (R162). -/
def State.attemptCounts (s : State) : Bool := s.sup.recovering && s.sup.mode.runs

/-- A soft fault: a red failure, or a contactor failure to close (R162). RECOVERY_LOCKOUT is reported after the finding
itself (DESIGN CHOICE, notes/assumptions/74.md). -/
def State.softFault (s : State) (red : Bool) : State :=
  let go (t : State) : State :=
    if red then t.takeCause .unlatchedFlash .redFail else t.takeCause .closeFailure .contactor
  if s.attemptCounts then
    let n := min 5 (s.sup.attempts + 1)
    let s1 := s.onSup fun u => { u with attempts := n }
    if n < s.cabinet.attempts then go s1
    else
      let s2 := (s1.report .recoveryLockout .nothing).onSup fun u => { u with recovering := false, probation := 0 }
      if red then s2.takeCause .latchedFlash .lockout else s2.takeCause (.latchedDark true) .lockout
  else go s

/-! ### Relay findings (R109) -/

/-- A finding is a hard fault, and its reason (R109, R159). -/
def State.hardReason (s : State) (c : Ch) (f : RelayFault) : Option Reason :=
  if s.greenAspect c then
    match f with
    | .failToOpen => some .weld
    | .foreignVoltage => some .foreignGreen
    | _ => none
  else none

/-- A standing relay fault reported with the class of the channel's aspect, and to the supervisor (R109). -/
def State.reportRelayFault (s : State) (c : Ch) (f : RelayFault) : State :=
  let s1 :=
    match f.kind with
    | some k => s.reportAs k (.channel c) (s.hardReason c f).isSome
    | none => s
  match s.hardReason c f with
  | some r => s1.hardFault r
  | none => s1

/-- A relay fault found: it replaces the value held, whose entry is made CLEARED (R109), before the new finding is
reported (DESIGN CHOICE, notes/assumptions/67.md). -/
def State.findRelayFault (s : State) (c : Ch) (f : RelayFault) : State :=
  let old := (s.chan c).fault
  let s1 := s.onChan c fun r => { r with fault := f }
  (if old = f then s1 else s1.clearRelayEntry c old).reportRelayFault c f

/-! ### The re-proof (R102) -/

/-- A channel's fields after the re-proof, from its coil and its indication (R102). -/
def ChanRun.reproved (r : ChanRun) (pullIn : Nat) : ChanRun :=
  if r.driven then
    if r.indication = .full then
      { r with relay := .held, proof := .closed, drive := .full, fullTime := some 0, limit := none }
    else { r with relay := .pullingIn, proof := .opened, drive := .full, fullTime := some 0, limit := some ⟨0, pullIn⟩ }
  else if r.indication = .full then
    if r.fault = .failToOpen then { r with relay := .releasing, proof := .closed, limit := none }
    else { r with relay := .released, proof := .opened, limit := none }
  else { r with relay := .released, proof := .opened, limit := none }

/-- What the re-proof of one channel finds again or clears (R102, R109): `was` is the channel at that instant. A fault
that the re-proof does not find returns to NONE, as R109 says, also where R104, R107 and R108 name another end of it
(DESIGN CHOICE, notes/assumptions/44.md). A FAIL_TO_CLOSE behind a driven coil without voltage waits for the pull-in that
the re-proof starts. -/
def State.reproofFinding (s : State) (c : Ch) (was : ChanRun) : State :=
  if was.indication = .full then
    if was.driven then s.clearRelayFault c
    else s.findRelayFault c (if was.fault = .failToOpen then .failToOpen else .foreignVoltage)
  else if was.driven then (s.endRelayFault c .failToOpen).endRelayFault c .foreignVoltage
  else s.clearRelayFault c

/-- Every channel is re-proven as the contactor proof becomes CLOSED (R102), in ascending channel number (DESIGN CHOICE,
notes/assumptions/43.md). -/
def State.reproveAll (s : State) : State :=
  let s1 := s.forAll fun (t : State) (c : Ch) => t.putChan c ((t.chan c).reproved (t.settings c).pullIn)
  s1.forAll fun (t : State) (c : Ch) => t.reproofFinding c (s.chan c)

/-! ### The contactor (R114, R115) -/

/-- The contactor's close completes: the fault returns to NONE, and a proof that becomes CLOSED re-proves every
channel (R102, R114, R115). SUPPLY_CONTACTOR is made CLEARED before the re-proof reports its findings (DESIGN CHOICE,
notes/assumptions/69.md). -/
def State.completeClose (s : State) : State :=
  let k := s.out.contactor
  let s1 := s.onContactor fun k => { k with state := .held, proof := .closed, limit := none, fault := .none }
  let s2 := if k.fault = .none then s1 else s1.clearFault .supplyContactor .nothing
  if k.proof = .closed then s2 else s2.reproveAll

/-- The contactor command becomes CLOSED; the trip holds the coil off (R114, R115). -/
def State.closeContactor (s : State) : State :=
  let k := s.out.contactor
  if k.driven || s.out.trip then s.onContactor fun k => { k with closeCommand := true }
  else
    let s1 := s.onContactor fun k => { k with closeCommand := true, driven := true, state := .pullingIn, limit := some 0 }
    if k.indication = .full then s1.completeClose else s1

/-- A contactor failure to open (R115): the trip is asserted, the proof is UNPROVEN and SUP receives the finding. -/
def State.contactorFailsToOpen (s : State) : State :=
  let s1 := (s.onContactor fun k =>
    { k with fault := .failToOpen, proof := .unproven, limit := none, driven := false }).onOut fun o => { o with trip := true }
  ((s1.report .supplyContactor .nothing).unproveAll).takeCause (.latchedDark false) .contactor

/-! ### STARTUP_CHECK (R164) -/

/-- The exit a check takes where no saved state gives it one (R164). -/
def State.scheduledExit (s : State) : CheckExit :=
  if s.sch.action = some .flash then .flash (some .hostRequest) false else .startupFlash

/-- Entry to STARTUP_CHECK with its exit (R164). -/
def State.enterStartupCheck (s : State) (exit : CheckExit) : State :=
  let s1 := (s.onMode fun u =>
    { u with mode := .startupCheck, reason := none, latched := false, phaseTime := 0, exit := exit, flashNext := none })
  let s2 := (((s1.setAllColours fun _ => Colour.darkAll).clearSequencer).onSeq fun q =>
    { q with coloursDue := false, clearingDue := false }).refreshGrace
  s2.closeContactor

/-! ### The scheduled flash (R85, R167) -/

/-- The start of a scheduled flash reaches SUP (R85, R163). -/
def State.scheduledFlashStart (s : State) : State := s.takeCause .unlatchedFlash .hostRequest

/-- The end of a scheduled flash reaches SUP (R167). -/
def State.scheduledFlashEnd (s : State) : State :=
  if s.waitingSupply then
    if s.sup.saved = some (.flash (some .hostRequest) false) then s.onSup fun u => { u with saved := some .startup } else s
  else
    match s.sup.mode with
    | .flash | .clearing =>
      if s.sup.reason = some .hostRequest ∧ s.sup.latched = false then s.enterStartupCheck s.scheduledExit else s
    | .startupCheck =>
      if s.sup.exit = .flash (some .hostRequest) false then s.onSup fun u => { u with exit := .startupFlash } else s
    | _ => s

/-- The end of CLEARING, once no group is in AMBER or CLEAR after the changes of a tick (R45, R161). -/
def State.clearingCheck (s : State) : State :=
  if s.sup.mode = .clearing ∧ s.seq.clearingDue = false ∧ s.noneClearing = true then
    s.enterFlash s.sup.reason s.sup.latched
  else s

end Sys2Proof.Machine
end

