-- ==== Sys2Proof/Machine/Runner.lean ====
section
/-! DEFINITION. The shared operations of the Stage Sequencer and its Plan Runner (02_the_stage_sequencer.md,
03_timing_plans_and_coordination.md): demand of stages, the isolated selection, the correction, the end-of-entry
decision, taking a plan and priority service. -/

namespace Sys2Proof.Machine

/-- A tenth tick is open in NORMAL. -/
def State.normalTick (s : State) : Bool := s.seq.tickOpen && s.sup.mode == Mode.normal

/-! ### Stages (R23, R26) -/

/-- A group is in GREEN. -/
def State.isGreen (s : State) (g : Gid) : Bool := (s.group g).colour == Colour.green

/-- A stage has demand (R23). -/
def State.stageWanted (s : State) (b : Stg) : Bool :=
  (s.stage b).any fun g => !s.isGreen g && (s.group g).demand

/-- A stage is demand-dependent (R23). -/
def State.demandDependent (s : State) (b : Stg) : Bool :=
  (s.stage b).any fun g => (s.gt g).demandMode == DemandMode.demand

/-- A group's minimum green is complete (R18). -/
def GroupRun.minimumDone (r : GroupRun) : Bool := decide (r.minInForce ≤ r.timeIn)

/-- Every group in GREEN that is not a member of a set has completed its minimum green (R26). -/
def State.minimumsDone (s : State) (stay : List Gid) : Bool :=
  (allFin 16).all fun g => !s.isGreen g || stay.contains g || (s.group g).minimumDone

/-- No group is in RED_AMBER (R26). -/
def State.noRedAmber (s : State) : Bool := (allFin 16).all fun g => (s.group g).colour != Colour.redAmber

/-- Every member of a stage is in GREEN. -/
def State.allGreen (s : State) (b : Stg) : Bool := (s.stage b).all s.isGreen

/-! ### Isolated selection (R33, R35) -/

/-- A stage is a candidate (R33). -/
def State.candidate (s : State) (b : Stg) : Bool :=
  s.seq.running != some b && s.activePlan.entries.any (fun e => e.stage == b)
    && (s.stage b).any (fun g => !s.isGreen g && (s.group g).demand && !(s.group g).inhibited)

/-- The entry numbers of a plan of `n` entries in plan order from the one after `k`, wrapping (R33). The wrap reaches
`k` itself, as the last (DESIGN CHOICE, notes/assumptions/53.md). -/
def entriesAfter (n k : Nat) : List Nat := (List.range n).map fun i => (k + i) % n + 1

/-- The selection: a target stage and its entry (R33). -/
def State.selection (s : State) : Option (Stg × Nat) :=
  let p := s.activePlan
  ((entriesAfter p.entries.length (s.seq.entry.getD 0)).filterMap fun k =>
    match p.entry? k with
    | some e => if s.candidate e.stage then some (e.stage, k) else none
    | none => none).head?

/-- The conditions under which SEQ makes an isolated selection (R33, R39). -/
def State.selects (s : State) : Bool :=
  s.activePlan.isolated && s.seq.change.isNone && s.seq.endDue.isNone && s.seq.priority.isEmpty

/-- The limit of the maximum timer (R35). -/
def State.maxGreen (s : State) : Nat :=
  match s.activePlan.entry? (s.seq.entry.getD 1) with
  | some e => e.maxGreen
  | none => 0

/-- The maximum timer starts at the first tick at which the selection finds a candidate (R35). It is judged at the tick
itself and at the completion of a change; where another row of a tick first lets the selection find a candidate, the
timer starts at the next tick (DESIGN CHOICE, notes/assumptions/52.md). -/
def State.startMaxTimer (s : State) : State :=
  if s.selects && s.seq.maxTimer.isNone && s.selection.isSome then
    s.onSeq fun q => { q with maxTimer := some 0, maxLimit := s.maxGreen }
  else s

/-! ### The correction (R53 to R57) -/

/-- The desired position (R53 step 1). -/
def desiredPosition (tod offset cycle : Nat) : Nat := (tod + cycle - offset) % cycle

/-- The budgets S and H of an error (R54, R55). -/
def budgets (m : CorrectionMethod) (cycle kmax e : Nat) : Nat × Nat :=
  if e = 0 then (0, 0)
  else
    match m with
    | .shortest => if e ≤ cycle / 2 then (min e kmax, 0) else (0, min (cycle - e) kmax)
    | .lengthenOnly => (0, min (cycle - e) kmax)

/-- The limit K_max (R53 step 3). -/
def PlanRec.kmax (p : PlanRec) : Nat := p.cycle * p.pmax / 100

/-- S and H of the cycle that begins (R53). -/
def State.cycleBudgets (s : State) : Nat × Nat :=
  let p := s.activePlan
  if s.clk.valid then
    budgets p.method p.cycle p.kmax ((desiredPosition s.clk.tod p.offset p.cycle + p.cycle - s.seq.pos.getD 0) % p.cycle)
  else (0, 0)

/-- The allowance for the decision entry (R57). -/
def Seq.allowanceFor (q : Seq) (p : PlanRec) : Nat :=
  min q.shorten (p.endOf (q.decision.getD 0) - q.greenStart - q.stageMin)

/-- The allowance computed afresh (R57). -/
def State.refreshAllowance (s : State) : State := s.onSeq fun q => { q with allowance := q.allowanceFor s.activePlan }

/-- The correction of a cycle start (R53): budgets, with the allowance and a hold of the old cycle discarded. -/
def State.correct (s : State) : State :=
  let b := s.cycleBudgets
  (s.onSeq fun q =>
    { q with
      shorten := b.1, holdBudget := b.2, hold := none, greenStart := 0, stageMin := 0, cycleStart := false }).refreshAllowance

/-! ### The end-of-entry decision (R51) -/

/-- The outcomes of R51. -/
inductive Decision where
  | passOver | skip | endDue
  deriving DecidableEq, Repr

/-- The outcome for the next entry's stage (R51). -/
def State.decisionOn (s : State) (b : Stg) : Decision :=
  if s.seq.running = some b ∨ (s.seq.change.map (·.target)) = some b then .passOver
  else if !s.stageWanted b && s.demandDependent b then .skip
  else .endDue

/-- The entry after the decision entry, with its number (R51). -/
def State.nextEntry (s : State) : Option (Nat × PlanEntry) :=
  let n := s.activePlan.next (s.seq.decision.getD 0)
  (s.activePlan.entry? n).map fun e => (n, e)

/-- The decision entry d of the active plan (R49). -/
def State.decisionEntry (s : State) : Option PlanEntry := s.activePlan.entry? (s.seq.decision.getD 0)

/-- The end-of-entry decision for d, with the position a skip-point end jumps to (R51, R57). An end that still waits is
replaced by whatever is decided: where no end follows, the running stage continues. The allowance is 0 until the next
instant that computes it. An early decision for the last entry makes d entry 1 at once, while L is still above E_1 in the
last window, where R50 has L below E_d (all DEDUCED, notes/assumptions/21.md). -/
def State.takeDecision (s : State) (jump : Option Nat) : State :=
  match s.nextEntry with
  | none => s.onSeq fun q => { q with reached := false, decided := true }
  | some (n, e) =>
    match s.decisionOn e.stage with
    | .passOver =>
      (s.onSeq fun q =>
        { q with endDue := none, decision := some n, entry := some n, reached := false, decided := true }).refreshAllowance
    | .skip =>
      (s.onSeq fun q => { q with endDue := none, decision := some n, reached := false, decided := true }).refreshAllowance
    | .endDue =>
      s.onSeq fun q =>
        { q with
          endDue := some ⟨e.stage, some n, jump⟩, decision := some n, allowance := 0, reached := false, decided := true }

/-! ### Taking a plan (R65) -/

/-- The end toward entry 1 of a plan just taken (R65 step 4); none is set while a priority request is served (R42), and
the current entry is then none, until the return or until the t0 of an end due of the service, which keeps the entry
number that the old plan gave it (DEDUCED, notes/assumptions/21.md). Where step 4 sets no end, one that
still waited for the old plan is removed; a plan without entries has no current entry (DEDUCED, the same entry). -/
def State.towardFirst (s : State) : State :=
  if s.seq.priority.isEmpty then
    match s.activePlan.entry? 1 with
    | none => s.onSeq fun q => { q with endDue := none, entry := none }
    | some e =>
      if s.seq.running = some e.stage ∧ s.allGreen e.stage = true ∧ s.seq.change.isNone = true then
        s.onSeq fun q => { q with endDue := none, entry := some 1 }
      else s.onSeq fun q => { q with endDue := some ⟨e.stage, some 1, none⟩ }
  else s.onSeq fun q => { q with entry := none }

/-- The Plan Runner takes a plan (R65). -/
def State.takePlan (s : State) (p : Pln) : State :=
  let co := (s.plan p).coordinated
  let s1 := s.onSeq fun q =>
    { q with
      active := some p
      pendingPlan := none
      pos := if co then some 0 else none
      decision := if co then some 1 else none
      shorten := 0, holdBudget := 0, hold := none, allowance := 0, greenStart := 0, stageMin := 0
      maxTimer := if co then none else q.maxTimer
      reached := false, cycleStart := false, changePoint := false, decided := true }
  let s2 := if co then s1.correct else s1
  (s2.towardFirst).addEvents PendingSet.ofPlanChange

/-! ### Priority service (R38 to R42) -/

/-- The head request's target is served (R39). Where the active plan names the target in more than one entry, the end due
names the first of them (DESIGN CHOICE, notes/assumptions/45.md). A request is served under a plan without entries too, by
an end due that names no entry, though R44 sets no end due until a plan with entries is taken (DESIGN CHOICE,
notes/assumptions/83.md). -/
def State.serveHead (s : State) : State :=
  match s.seq.priority with
  | [] => s
  | h :: _ =>
    if s.seq.change.isSome then s
    else if s.seq.running = some h.target then s.onSeq fun q => { q with endDue := none }
    else s.onSeq fun q => { q with endDue := some ⟨h.target, s.activePlan.firstNaming h.target, none⟩ }

/-- The decision entry moves on without a decision; the allowance is 0 until the next instant that computes it (R68;
DEDUCED, notes/assumptions/21.md). -/
def Seq.moveOn (q : Seq) (p : PlanRec) : Seq :=
  { q with decision := q.decision.map p.next, allowance := 0, reached := false }

/-- The Plan Runner as service begins: a hold ends (R61), and an end position that L has reached moves d on (R68). -/
def State.beginService (s : State) : State :=
  s.onSeq fun q =>
    let q1 := if q.hold.isSome || q.reached then q.moveOn s.activePlan else q
    { q1 with hold := none }

/-- A request is taken onto the tail of the list, where R38 allows it. The first request of an empty list is served at
once (R39); one that joins behind others changes nothing else, so an end due that waits for the head's target stays as it
was set, with the entry number that an older plan gave it where a plan was taken since (R42; DEDUCED,
notes/assumptions/21.md). -/
def State.takeRequest (s : State) (d : Det) (target : Stg) : State :=
  if s.sup.mode = .normal ∧ s.seq.barred.contains d = false
      ∧ s.seq.priority.any (fun r => r.input == d) = false ∧ s.seq.priority.length < Config.priorityCapacity then
    if s.seq.priority.isEmpty then (s.beginService.onSeq fun q => { q with priority := [⟨d, target, 0⟩] }).serveHead
    else s.onSeq fun q => { q with priority := q.priority ++ [⟨d, target, 0⟩] }
  else s

/-- The entry whose window holds L (R40). -/
def PlanRec.windowOf (p : PlanRec) (l : Nat) : Option Nat :=
  (p.entries.findIdx? fun e => decide (l < e.endPos)).map (· + 1)

/-- The return to the plan once the list is empty (R40, R68). An end due that still waits for the served target is
removed; where k's stage already runs with no change, its allowance is computed here (DEDUCED,
notes/assumptions/21.md). A change in progress into k's stage computes it at its completion (R68,
State.completeChange). In an isolated plan whatever end is due is removed, also one toward entry 1 that a change point set
while a change was in progress (DESIGN CHOICE, notes/assumptions/63.md). -/
def State.returnToPlan (s : State) (served : Stg) : State :=
  let p := s.activePlan
  if p.coordinated then
    let k := p.windowOf (s.seq.pos.getD 0)
    match k.bind p.entry? with
    | some e =>
      if s.seq.running = some e.stage ∧ s.seq.change.isNone = true then
        (s.onSeq fun q => { q with endDue := none, entry := k, decision := k }).refreshAllowance
      else s.onSeq fun q => { q with endDue := some ⟨e.stage, k, none⟩, decision := k, allowance := 0 }
    | none => s.onSeq fun q => { q with endDue := none }
  else s.onSeq fun q => { q with endDue := none, entry := p.firstNaming served, maxTimer := none }

/-- An input's request leaves the list (R40). -/
def State.removeRequest (s : State) (d : Det) : State :=
  match s.seq.priority with
  | [] => s
  | h :: rest =>
    if h.input = d then
      let s1 := s.onSeq fun q => { q with priority := rest }
      if rest.isEmpty then s1.returnToPlan h.target else s1.serveHead
    else s.onSeq fun q => { q with priority := h :: rest.filter fun r => r.input != d }

/-- DET reports a PRIORITY input inactive (R40, R41, R94). -/
def State.releaseInput (s : State) (d : Det) : State :=
  let s1 := s.removeRequest d
  if s1.seq.barred.contains d then
    (s1.onSeq fun q => { q with barred := q.barred.erase d }).clearFault .priorityOverstay (.input d)
  else s1

/-! ### Inhibited gaining groups (R31) -/

/-- One group dropped, with its green instant (R31). -/
def State.dropGroup (s : State) (g : Gid) (inst : Nat) : State :=
  let s1 := if (s.group g).colour = .redAmber then s.setColour g .red else s
  s1.onSeq fun q =>
    { q with
      change := q.change.map fun ch => { ch with gaining := ch.gaining.filter fun p => p.1 != g }
      dropped := q.dropped ++ [(g, inst)]
      joined := q.joined.filter fun p => p.1 != g }

/-- The green instant of a group in the gaining set. -/
def Seq.gainingInstant (q : Seq) (g : Gid) : Option Nat :=
  match q.change with
  | some ch => (ch.gaining.find? fun p => p.1 == g).map (·.2)
  | none => none

/-- The computed green instant g_j of a late joiner on its way to GREEN (R31, R32). -/
def Seq.joinedInstant (q : Seq) (g : Gid) : Option Nat := (q.joined.find? fun p => p.1 == g).map (·.2)

/-- A group is dropped at this tick if it is inhibited on its way to GREEN: as a gaining group, or as a joiner in
RED_AMBER; it keeps its computed g_j (R31, R32). -/
def State.dropIfInhibited (s : State) (g : Gid) : State :=
  if (s.group g).inhibited then
    match s.seq.gainingInstant g with
    | some i => s.dropGroup g ((s.seq.joinedInstant g).getD i)
    | none =>
      if (s.group g).colour = .redAmber then s.dropGroup g ((s.seq.joinedInstant g).getD s.seq.tick) else s
  else s

/-- Every inhibited gaining group and joiner is dropped (R31, R32). -/
def State.dropInhibited (s : State) : State := s.forAll State.dropIfInhibited

/-! ### The stage change (R26 to R29) -/

/-- The start conditions of a stage change to the target of the end due (R26). -/
def State.startReady (s : State) : Bool :=
  match s.seq.endDue with
  | some e => s.seq.change.isNone && s.noRedAmber && s.minimumsDone (s.stage e.target)
  | none => false

/-- The red-amber of a group: 0 but for TRAFFIC (R28). -/
def State.redAmberOf (s : State) (g : Gid) : Nat :=
  match s.kind g with
  | some .traffic => (s.gt g).redAmber
  | _ => 0

/-- The green instant of a gaining group at t0 (R28). -/
def State.greenInstantOf (s : State) (j : Gid) : Nat :=
  (allFin 16).foldl (fun m i =>
    match (s.group i).greenEnd with
    | some e => if s.conflicting i j then max m (e + s.intergreen i j) else m
    | none => m) (s.seq.tick + s.redAmberOf j)

/-- The jump of an end that was set at a skip point (R58): L reaches the end position and S pays for it; position C is
position 0, a cycle start and a change point (R50, R63). -/
def Seq.jumped (q : Seq) (cycle : Nat) (e : EndDue) : Seq :=
  match e.jump, q.pos with
  | some t, some l =>
    if l < t then
      let q1 := { q with shorten := q.shorten - (t - l) }
      if t = cycle then { q1 with pos := some 0, cycleStart := true, changePoint := true } else { q1 with pos := some t }
    else q
  | _, _ => q

/-- The colour is one a gaining group starts from (R26). -/
def Colour.waiting : Colour → Bool
  | .red | .dark => true
  | _ => false

/-- The stage change to the target of an end due starts at this tick (R26, R27, R28, R58). The gap timer set to 0 at t0
stands until the next tick or detector event, also while a detector of a green group that continues is active (R34;
DESIGN CHOICE, notes/assumptions/39.md). At a t0 that makes no change record the maximum timer, the gap timer and the
current entry follow as at any t0, and the dropped list and the joined instants stay (DESIGN CHOICE,
notes/assumptions/62.md). -/
def State.startChange (s : State) (e : EndDue) : State :=
  let members := s.stage e.target
  if s.seq.running = some e.target ∧ s.allGreen e.target = true then
    s.onSeq fun q => { q with endDue := none, entry := e.entry, maxTimer := none, gap := 0 }
  else
    let losing := (allFin 16).filter fun g => s.isGreen g && !members.contains g
    let gaining := (allFin 16).filter fun g => members.contains g && (s.group g).colour.waiting
    let s1 := losing.foldl (fun t g => match t.kind g with | some k => t.setColour g (endColour k) | none => t) s
    let pairs := gaining.map fun g => (g, s1.greenInstantOf g)
    (s1.onSeq fun q =>
      { q.jumped s.activePlan.cycle e with
        change := some ⟨e.target, q.tick, losing, pairs, 0⟩
        dropped := [], joined := [], endDue := none, maxTimer := none, gap := 0, entry := e.entry }).dropInhibited

/-- A group enters GREEN: it leaves the gaining set, and its minimum counts to the stage minimum (R28, R57). -/
def State.enterGreen (s : State) (g : Gid) : State :=
  let s1 := s.setColour g .green
  s1.onSeq fun q =>
    { q with
      joined := q.joined.filter fun p => p.1 != g
      change := q.change.map fun ch =>
        { ch with gaining := ch.gaining.filter fun p => p.1 != g, minMax := max ch.minMax (s1.group g).minInForce } }

/-- The change in progress is complete (R29). -/
def State.changeComplete (s : State) : Bool :=
  match s.seq.change with
  | some ch => ch.losing.all (fun g => (s.group g).colour.waiting) && ch.gaining.isEmpty
  | none => false

end Sys2Proof.Machine
end

