-- ==== Sys2Proof/Machine/Schedule.lean ====
section
/-! DEFINITION. The Day Schedule's evaluation and its deliveries (R82, R83, R62, R85). -/

namespace Sys2Proof.Machine

/-- A delivered plan at the Plan Runner (R62): in NORMAL it becomes pending, or clears the pending plan where it is the
active plan; outside NORMAL the Day Schedule holds it. -/
def State.deliverPlan (s : State) (p : Pln) : State :=
  if s.sup.mode = .normal then
    s.onSeq fun q => { q with pendingPlan := if q.active = some p then none else some p }
  else s

/-- The delivery of a changed action (R83, R85). -/
def State.deliver (s : State) (old : Option Action) (new : Action) : State :=
  let s1 := s.addEvents PendingSet.ofPlanChange
  match new with
  | .flash => s1.scheduledFlashStart
  | .plan p => (if old = some .flash then s1.scheduledFlashEnd else s1).deliverPlan p

/-- The PLAN_UNDEFINED finding of an evaluation (R82). -/
def State.judgePlan (s : State) (replaced delivers : Bool) : State :=
  if replaced then s.report .planUndefined .nothing
  else if delivers then s.clearFault .planUndefined .nothing
  else s

/-- The selection an evaluation makes now (R82). -/
def State.select (s : State) : Selection :=
  s.cfg.running.tm.select s.sch.forced s.clk.valid s.clk.date s.clk.tod

/-- An evaluation (R82, R83). -/
def State.evaluate (s : State) : State :=
  let sel := s.select
  let old := s.sch.action
  let s1 := s.onSch fun h => { h with action := some sel.action, source := some sel.source, governing := sel.governing }
  let s2 := s1.judgePlan sel.replaced (old != some sel.action)
  if old = some sel.action then s2 else s2.deliver old sel.action

/-- An evaluation at an event other than START: none in UNCONFIGURED (R83). -/
def State.reevaluate (s : State) : State := if s.sup.mode = .unconfigured then s else s.evaluate

end Sys2Proof.Machine
end

