-- ==== Sys2Proof/Machine/Checks.lean ====
section
/-! DEFINITION. The checks of EDIT_COMMIT on the whole edit buffer, class by class in the order of R189. -/

namespace Sys2Proof.Machine

/-- A failed check: the record class, the index and the check number (R197). -/
structure CheckFail where
  cls : RecordClass
  index : Nat
  number : Nat
  deriving DecidableEq, Repr

/-- The first of a record's checks that fails, as its number. -/
def firstFailing (l : List (Nat × Bool)) : Option Nat := ((l.filter (·.2)).head?).map (·.1)

/-- The first record of a class, in ascending index, with a failing check. -/
def firstRecord {n : Nat} (cls : RecordClass) (f : Fin n → Option Nat) : Option CheckFail :=
  ((allFin n).filterMap fun i => (f i).map fun k => (⟨cls, number i, k⟩ : CheckFail)).head?

/-- The list of an aspect of a GROUP record. -/
def GroupRec.list (r : GroupRec) : Aspect → List Ch
  | .red => r.red
  | .amber => r.amber
  | .green => r.green

/-- The aspects a kind permits (R5). -/
def GroupKind.permits : GroupKind → Aspect → Bool
  | .traffic, _ => true
  | .pedestrian, .amber => false
  | .pedestrian, _ => true
  | .arrow, .green => true
  | .arrow, _ => false

/-- The three aspects. -/
def aspects : List Aspect := [.red, .amber, .green]

/-- A channel is in some list of a GROUP record. -/
def GroupRec.names (r : GroupRec) (c : Ch) : Bool := r.red.contains c || r.amber.contains c || r.green.contains c

/-- How often a GROUP record names a channel over its three lists. -/
def GroupRec.times (r : GroupRec) (c : Ch) : Nat := (r.red ++ r.amber ++ r.green).count c

/-- GROUP checks 1 to 5 (R9). -/
def ConfigSet.checkGroup (b : ConfigSet) (g : Gid) : Option Nat :=
  let r := b.st.groups.get g
  firstFailing
    [(1, r.kind.isNone && !(r.red.isEmpty && r.amber.isEmpty && r.green.isEmpty)),
     (2, match r.kind with
        | some k => aspects.any fun a => !k.permits a && !(r.list a).isEmpty
        | none => false),
     (3, match r.kind with
        | some k => aspects.any fun a => k.permits a && (r.list a).isEmpty
        | none => false),
     (4, (r.red ++ r.amber ++ r.green).any fun c =>
        decide (1 < r.times c) || (allFin 16).any fun h => h != g && (b.st.groups.get h).names c),
     (5, aspects.any fun a => (r.list a).any fun c =>
        (b.st.channels.get c).group != some g || (b.st.channels.get c).aspect != some a)]

/-- CHANNEL checks 1 and 2 (R9). -/
def ConfigSet.checkChannel (b : ConfigSet) (c : Ch) : Option Nat :=
  let r := b.st.channels.get c
  match r.group with
  | none => none
  | some g =>
    let gr := b.st.groups.get g
    firstFailing
      [(1, gr.kind.isNone),
       (2, match r.aspect with
          | some a => !(gr.list a).contains c
          | none => false)]

/-- CONFLICT_ROW checks 1 to 3 (R10). -/
def ConfigSet.checkConflictRow (b : ConfigSet) (i : Gid) : Option Nat :=
  let row := b.st.conflicts.get i
  firstFailing
    [(1, row.contains i),
     (2, row.any fun j => !(b.st.conflicts.get j).contains i),
     (3, (!row.isEmpty && (b.st.groups.get i).kind.isNone) || row.any fun j => (b.st.groups.get j).kind.isNone)]

/-- The least intergreen from a group (R12). -/
def ConfigSet.leastIntergreen (b : ConfigSet) (i : Gid) : Nat :=
  match (b.st.groups.get i).kind with
  | some .traffic => (b.tm.groupTimings.get i).amber
  | some .pedestrian => (b.tm.groupTimings.get i).clearance
  | some .arrow => 5
  | none => 0

/-- INTERGREEN_ROW check 1 (R12). -/
def ConfigSet.checkIntergreenRow (b : ConfigSet) (i : Gid) : Option Nat :=
  firstFailing
    [(1, (b.st.conflicts.get i).any fun j => decide (((b.st.intergreens.get i).get j) < b.leastIntergreen i))]

/-- CABLE check 1 (R137). -/
def ConfigSet.checkCable (b : ConfigSet) (k : Cab) : Option Nat :=
  firstFailing
    [(1, (b.st.cables.get k).any fun c => (allFin 24).any fun j => decide (j < k) && (b.st.cables.get j).contains c)]

/-- PROBE checks 1 to 4 (R137). -/
def ConfigSet.checkProbe (b : ConfigSet) (e : PEnt) : Option Nat :=
  let p := b.st.probes.get e
  match p.kind with
  | none => none
  | some k =>
    firstFailing
      [(1, !(b.st.cables.items.any fun l => l.contains p.subject)),
       (2, k == .loop && (b.st.channels.get p.subject).lamp == .led),
       (3, k == .coupling && (p.partner.isNone || p.partner == some p.subject)),
       (4, k == .coupling && (match p.partner with
          | some q => !(b.st.cables.items.any fun l => l.contains p.subject && l.contains q)
          | none => false))]

/-- The sum of the lamp counts of a group's RED list (R130). -/
def ConfigSet.redLamps (b : ConfigSet) (g : Gid) : Nat :=
  ((b.st.groups.get g).red.map fun c => (b.st.channels.get c).heads).sum

/-- GROUP_TIMING checks 1 and 2 (R17, R130). -/
def ConfigSet.checkGroupTiming (b : ConfigSet) (g : Gid) : Option Nat :=
  let t := b.tm.groupTimings.get g
  match (b.st.groups.get g).kind with
  | none => none
  | some k =>
    firstFailing
      [(1, k == .pedestrian && decide (300 < t.minGreen)),
       (2, k != .arrow && decide (b.redLamps g < t.redMin))]

/-- STAGE checks 1 and 2 (R13). -/
def ConfigSet.checkStage (b : ConfigSet) (i : Stg) : Option Nat :=
  let l := b.tm.stages.get i
  firstFailing
    [(1, l.any fun g => (b.st.groups.get g).kind.isNone),
     (2, l.any fun g => l.any fun h => (b.st.conflicts.get g).contains h)]

/-- The end positions strictly increase (R48). -/
def increasing : List Nat → Bool
  | a :: b :: rest => decide (a < b) && increasing (b :: rest)
  | _ => true

/-- PLAN checks 1 to 6 (R48). -/
def ConfigSet.checkPlan (b : ConfigSet) (i : Pln) : Option Nat :=
  let p := b.tm.plans.get i
  let co := p.coordinated
  firstFailing
    [(1, p.entries.any fun e => (b.tm.stages.get e.stage).isEmpty),
     (2, co && !increasing (p.entries.map (·.endPos))),
     (3, co && (p.entries.getLast?.map (·.endPos)) != some p.cycle),
     (4, co && (p.entries.filter (·.dwell)).length != 1),
     (5, co && (p.entries.getLast?.map (·.dwell)) == some true),
     (6, co && decide (p.cycle ≤ p.offset))]

/-- DETECTOR checks 1 to 4 (R87). -/
def ConfigSet.checkDetector (b : ConfigSet) (i : Det) : Option Nat :=
  let d := b.tm.detectors.get i
  match d.kind with
  | none => none
  | some k =>
    firstFailing
      [(1, d.served.isEmpty),
       (2, d.served.any fun g => (b.st.groups.get g).kind.isNone),
       (3, k == .button && d.served.any fun g => (b.st.groups.get g).kind != some .pedestrian),
       (4, k == .priority && (match d.target with
          | some t => (b.tm.stages.get t).isEmpty
          | none => true))]

/-- SCHEDULE check 1 (R81). -/
def ConfigSet.checkSchedule (b : ConfigSet) (i : Fin 32) : Option Nat :=
  let e := b.tm.schedule.get i
  firstFailing
    [(1, (allFin 32).any fun j =>
        let f := b.tm.schedule.get j
        decide (j < i) && f.minute == e.minute && (f.days &&& e.days) != 0)]

/-- SPECIAL_DAY check 1 (R81). -/
def ConfigSet.checkSpecial (b : ConfigSet) (i : Fin 16) : Option Nat :=
  match b.tm.specials.get i with
  | none => none
  | some r => firstFailing [(1, decide (monthLength (r.year.getD 2000) r.month < r.day))]

/-- CABINET check 1: the index is the output number (R87). -/
def ConfigSet.checkCabinet (b : ConfigSet) (x : Fin 8) : Option Nat :=
  match b.tm.cabinet.aux.get x with
  | none => none
  | some g => firstFailing [(1, (b.st.groups.get g).kind != some .pedestrian)]

/-- Every check, in the order of R189. -/
def ConfigSet.check (b : ConfigSet) : Option CheckFail :=
  (firstRecord .group b.checkGroup)
    <|> (firstRecord .channel b.checkChannel)
    <|> (firstRecord .conflictRow b.checkConflictRow)
    <|> (firstRecord .intergreenRow b.checkIntergreenRow)
    <|> (firstRecord .cable b.checkCable)
    <|> (firstRecord .probe b.checkProbe)
    <|> (firstRecord .groupTiming b.checkGroupTiming)
    <|> (firstRecord .stage b.checkStage)
    <|> (firstRecord .plan b.checkPlan)
    <|> (firstRecord .detector b.checkDetector)
    <|> (firstRecord .schedule b.checkSchedule)
    <|> (firstRecord .specialDay b.checkSpecial)
    <|> (firstRecord .cabinet b.checkCabinet)

end Sys2Proof.Machine
end

