-- ==== Sys2Proof/Machine/Commit.lean ====
section
/-! DEFINITION. The application of a commit (R190, R191) and what each block does at it. -/

namespace Sys2Proof.Machine

/-! ### The clock's settings (R75) -/

/-- CLK's copy of its source settings (R75). Where it takes the source from MAINS to CRYSTAL and the divider's tenth is
complete already, the commit makes no catch-up tick: that tick is a CRYSTAL_TICK of its own at the same millisecond
(DESIGN CHOICE, notes/assumptions/40.md). -/
def State.copyClockSettings (s : State) : State :=
  let p := s.cabinet.preference
  let f := s.cabinet.freq
  if s.clk.preference = p ∧ s.clk.freq = f then s
  else
    let s1 := s.onClk fun k =>
      { k with
        preference := p
        freq := f
        stability := if k.source = .mains ∧ k.freq ≠ f then 0 else k.stability }
    if s.clk.source = .mains ∧ (p = .crystal ∨ s.clk.freq ≠ f) then
      (s1.onClk fun k => { k with source := .crystal }).addEvents PendingSet.ofClock
    else s1

/-! ### Inputs (R98) -/

/-- A pin level read through a polarity (R86). -/
def Polarity.active (p : Polarity) (high : Bool) : Bool :=
  match p with
  | .activeHigh => high
  | .activeLow => !high

/-- The fault kind of a stuck state (R95, R96). -/
def DetFault.kind : DetFault → Option FaultKind
  | .none => Option.none
  | .stuckOn => some .detectorStuckOn
  | .stuckOff => some .detectorStuckOff

/-- A stuck fault ends and its entry becomes CLEARED (R97, R98). -/
def State.endStuck (s : State) (d : Det) : State :=
  match (s.input d).fault.kind with
  | some k => (s.onInput d fun r => { r with fault := .none }).clearFault k (.input d)
  | none => s

/-- The restart of an input whose record was `old` (R98). -/
def State.restartInput (s : State) (d : Det) (old : DetectorRec) : State :=
  let s1 := if (s.input d).accepted && old.kind == some DetKind.priority then s.releaseInput d else s
  (s1.endStuck d).onInput d fun r =>
    { r with
      accepted := false
      debounceTime := 0
      stateTime := 0
      fault := .none
      reading := if (s.detector d).kind.isSome then (s.detector d).polarity.active r.pin else r.reading }

/-- DET compares one input's records (R98); a running count that the new debounce finds complete is accepted at the
next millisecond (R89), and a second commit within that millisecond leaves the change waiting for it. -/
def State.compareInput (s : State) (before : State) (d : Det) : State :=
  let old := before.detector d
  if old.kind = (s.detector d).kind ∧ old.polarity = (s.detector d).polarity then
    s.onInput d fun r =>
      { r with
        nextMs :=
          r.nextMs ||
            (r.reading != r.accepted && decide ((s.detector d).debounce ≤ r.debounceTime) && decide (r.debounceTime < old.debounce)) }
  else s.restartInput d old

/-! ### Lamp settings, wear (R118, R110) -/

/-- LMP compares one channel's settings (R118). A changed fixed reference relearns a channel in LEARN mode as well
(DESIGN CHOICE, notes/assumptions/54.md). -/
def State.compareSettings (s : State) (before : State) (c : Ch) : State :=
  let old := before.settings c
  if old.refMode = (s.settings c).refMode ∧ old.fixedRef = (s.settings c).fixedRef then s else s.relearn c

/-- A channel's wear threshold judged at a commit (R110). -/
def State.judgeWear (s : State) (c : Ch) : State :=
  let w := (s.settings c).wear
  if 0 < w ∧ w ≤ (s.chan c).opCount then
    if s.flt.isActive .relayWear (.channel c) then s else s.report .relayWear (.channel c)
  else s.clearFault .relayWear (.channel c)

/-! ### The sequencer and the supervisor (R40, R62, R157, R183) -/

/-- The requests whose target stage is now undefined leave the list (R40), in list order, so the last of them counts as
served where they empty it (DESIGN CHOICE, notes/assumptions/73.md). -/
def State.dropUndefinedTargets (s : State) : State :=
  s.seq.priority.foldl (fun t r => if (t.stage r.target).isEmpty then t.removeRequest r.input else t) s

/-- The active plan's records changed at this commit (R62). -/
def State.activePlanChanged (s before : State) : Bool :=
  match s.seq.active with
  | some p =>
    s.plan p != before.plan p || (s.plan p).entries.any fun e => s.stage e.stage != before.stage e.stage
  | none => false

/-- The evaluation of this commit delivered another plan than the active one (R62, R83). -/
def State.deliveredAnother (s before : State) : Bool :=
  s.sch.action != before.sch.action &&
    match s.sch.action with
    | some (.plan p) => s.seq.active != some p
    | _ => false

/-- This commit has made the active plan undefined (R64). -/
def State.activeEmptied (s before : State) : Bool :=
  match s.seq.active with
  | some p => (before.plan p).defined && !(s.plan p).defined
  | none => false

/-- The plan that the Day Schedule selects (R82). -/
def State.selectedPlan (s : State) : Option Pln :=
  match s.sch.action with
  | some (.plan p) => some p
  | _ => none

/-- The active plan becomes the pending plan where its records changed, in place of any older one; another plan
delivered at this instant is the newer one (R62). An active plan that this commit has made undefined is not taken again
(R64): the plan that the Day Schedule selects stands in its place, also where the evaluation found it unchanged and so
did not deliver it (DEDUCED, notes/assumptions/76.md). -/
def State.retakeActive (s before : State) : State :=
  if s.sup.mode = .normal ∧ s.activePlanChanged before = true ∧ s.deliveredAnother before = false then
    s.onSeq fun q => { q with pendingPlan := if s.activeEmptied before then s.selectedPlan else q.active }
  else s

/-- The attention settings taken at a commit (R183). -/
def State.retakeAttention (s before : State) : State :=
  if before.cabinet.attnMode = s.cabinet.attnMode then s else s.onFlt fun f => { f with pulse := none }

/-- The recovery settings taken at a commit (R157): a changed holdoff or probation is judged at the next tenth tick. -/
def State.retakeRecovery (s before : State) : State :=
  s.onSup fun u =>
    { u with
      holdoff := if s.cabinet.attempts = 0 then none else u.holdoff
      holdoffNext := u.holdoffNext || s.cabinet.holdoff != before.cabinet.holdoff
      probationNext := u.probationNext || s.cabinet.probation != before.cabinet.probation }

/-- The red-fail graces taken at a commit: a changed grace is judged at the next tenth tick (R160). -/
def State.retakeGraces (s before : State) : State :=
  s.onSup fun u =>
    { u with
      graceNext := Tab.ofFn 16 fun g => u.graceNext.get g || (s.gt g).redFailGrace != (before.gt g).redFailGrace }

/-! ### The Day Schedule (R83, R84) -/

/-- The forced plan has no entries (R84). -/
def State.forceUndefined (s : State) : Bool :=
  match s.sch.forced with
  | some p => !(s.plan p).defined
  | none => false

/-- The Day Schedule at a commit: a forced plan made undefined is released before the evaluation (R84). PLAN_UNDEFINED is
reported for the ended force also where that evaluation has already reported it for a plan that it replaced (R82 step 5), so
its entry counts two occurrences (DESIGN CHOICE, notes/assumptions/81.md). -/
def State.scheduleAtCommit (s : State) : State :=
  if s.forceUndefined then
    ((s.onSch fun h => { h with forced := none }).reevaluate).report .planUndefined .nothing
  else s.reevaluate

/-! ### The structural reinitialisation (R14, R109, R154) -/

/-- A group's runtime record after a structural commit but for its demand and red health (R14). -/
def State.reinitGroup (s before : State) (g : Gid) : State :=
  s.onGroup g fun r =>
    { r with
      colour :=
        match s.kind g with
        | some k => if s.sup.mode = .flash then flashColour k else .darkAll
        | none => .darkAll
      timeIn := 0
      greenEnd := if before.fitted g && s.fitted g then r.greenEnd else none
      latch := false
      inhibited := false
      demand := s.standing g }

/-- A channel's lamp record after a structural commit (R14, R117). -/
def State.reinitLamp (s : State) (c : Ch) : State :=
  let held := (s.chan c).command = .flashing
  let mode := (s.settings c).refMode
  s.onLamp c fun l =>
    { iref := if mode = .fixed then some (s.settings c).fixedRef else none
      learn := if mode = .fixed then .learned else .unlearned
      set := none
      healthy := none
      verdict := if held then .held else .unknown
      saved := if held then some .unknown else none
      run := none
      maintenance := l.maintenance
      leak := none
      leakAsked := false }

/-- The channel entries a structural commit makes CLEARED (R14). -/
def State.clearChannelEntries (s : State) (c : Ch) : State :=
  ((s.clearLampFaults c).clearFault .earthLeak (.channel c)).clearFault .crossNuisance (.channel c)

/-- A standing relay fault reported again where the commit changed the channel's aspect (R109). -/
def State.reclassRelayFault (s before : State) (c : Ch) : State :=
  let f := (s.chan c).fault
  if (before.chanRec c).aspect ≠ (s.chanRec c).aspect ∧ (f = .failToOpen ∨ f = .foreignVoltage) then
    s.reportRelayFault c f
  else s

/-- The Cable Tester at a structural commit (R154). The reply of a requested probe that this abandons is queued before the
reply of EDIT_COMMIT (DESIGN CHOICE, notes/assumptions/71.md). -/
def State.resetTester (s : State) : State :=
  let s1 := s.abandonProbe.onCbt fun b =>
    { b with
      results := Tab.fill 64 ResultRec.reset
      cable := Tab.fill 48 .untested
      urgent := []
      deferred := []
      walk := if b.period.isSome then 1 else b.walk
      uncounted := b.uncounted || b.period.isSome
      probe := b.probe.map fun p => { p with sweepEnded := false } }
  s1.forAll fun (t : State) (e : PEnt) => t.clearFault .testStarved (.entry e)

/-- The runtime fields of every group and channel after a structural commit (R14). The standing FAIL_TO_OPEN and
FOREIGN_VOLTAGE findings are reported again in ascending channel number, so the lower one gives the reason where two
become GREEN (DESIGN CHOICE, notes/assumptions/51.md). -/
def State.reinitRecords (s before : State) : State :=
  let s1 := (s.forAll fun (t : State) (g : Gid) => t.reinitGroup before g).syncCommands
  let s2 := s1.forAll fun (t : State) (c : Ch) => ((t.reinitLamp c).clearChannelEntries c).refreshLeak c
  let s3 := s2.evalAllRedHealth.refreshInhibited
  let s4 := (s3.forAll State.refreshGreen).refreshConflicts
  s4.forAll fun (t : State) (c : Ch) => t.reclassRelayFault before c

/-! ### The application (R190) -/

/-- The new records in force, in one step, and COMMIT_APPLIED (R190). -/
def State.install (s : State) (new : ConfigSet) : State :=
  (s.onCfg fun c => { c with running := new, committed := true }).addEvents PendingSet.ofCommitApplied

/-- What every block does with the timing records just applied (R190); the hold of the gap timer follows them (R34).
DET takes its inputs in ascending number (R98; DESIGN CHOICE, notes/assumptions/46.md), and the channels follow in ascending
number for their lamp settings and their wear (R118, R110; DESIGN CHOICE, notes/assumptions/65.md). -/
def State.retakeTiming (s before : State) : State :=
  let s1 := s.copyClockSettings
  let s2 := s1.forAll fun (t : State) (d : Det) => t.compareInput before d
  let s3 := s2.forAll fun (t : State) (c : Ch) => (t.compareSettings before c).judgeWear c
  let s4 := (State.refreshStanding before s3).evalAllRedHealth
  ((((s4.dropUndefinedTargets.retakeRecovery before).retakeGraces before).retakeAttention before).refreshGrace).holdGap

/-- The demand of every group recomputed from its standing causes (R14, R19). -/
def State.recomputeDemand (s : State) : State :=
  s.onSeq fun q => { q with groups := Tab.ofFn 16 fun g => { q.groups.get g with demand := s.standing g } }

/-- A commit is applied (R190, R14, R154). The blocks act in one fixed order, where R190 allows any (DESIGN CHOICE,
notes/assumptions/74.md). -/
def State.applyCommit (s : State) (new : ConfigSet) : State :=
  let s1 := s.install new
  let s2 :=
    if new.st = s.cfg.running.st then s1.retakeTiming s
    else (((s1.resetTester).reinitRecords s).retakeTiming s).recomputeDemand
  s2.scheduleAtCommit.retakeActive s

/-- The pending timing commit is applied (R191). -/
def State.applyPending (s : State) : State :=
  match s.cfg.pendingCommit with
  | some tm => (s.onCfg fun c => { c with pendingCommit := none }).applyCommit { s.cfg.running with tm := tm }
  | none => s

/-- The modes whose entry applies a pending commit (R191). -/
def Mode.drains : Mode → Bool
  | .clearing | .flash | .dark => true
  | _ => false

/-- A pending commit is applied once the mode is CLEARING, FLASH or DARK (R191). -/
def State.drainPending (s : State) : State := if s.sup.mode.drains then s.applyPending else s

/-- An inhibition that arises at an open tick is taken at once for a group still on its way to GREEN from RED or DARK,
or in RED_AMBER since this tick: it ends the tick in RED (or DARK) and dropped (R31). `before` is the state the step
met. A group in RED_AMBER since an earlier tick waits for the next one. -/
def State.takeInhibition (before s : State) : State :=
  if s.normalTick then
    s.forAll fun (t : State) (g : Gid) =>
      if !(before.group g).inhibited && ((s.group g).colour != Colour.redAmber || (s.group g).timeIn == 0) then
        t.dropIfInhibited g
      else t
  else s

/-- The end of a step: a pending commit that the entry to a mode releases (R191), the inhibitions that arose at an open
tick (R31), and the event's additions counted once (R182). `before` is the state the step met. A reply of the same event
is formed before that commit is applied (DESIGN CHOICE, notes/assumptions/60.md), and its findings are recorded before it
(DESIGN CHOICE, notes/assumptions/74.md). -/
def State.finish (before s : State) : State :=
  State.closeAdditions before (State.takeInhibition before s.drainPending)

end Sys2Proof.Machine
end

