-- ==== Sys2Proof/Machine/Ticks.lean ====
section
/-! DEFINITION. The tenth tick (R71, R72, R25) and the passing of one millisecond on the 1 ms timebase. -/

namespace Sys2Proof.Machine

/-! ### The tenth tick: the clock (R71, R79) -/

/-- The pending set is taken at the tick, in place of the advance (R79): TIME_INVALID is made CLEARED before the evaluation
(DESIGN CHOICE, notes/assumptions/74.md), and several requests are answered in the order in which they came (DESIGN CHOICE,
notes/assumptions/71.md). -/
def State.takeClockSet (s : State) (d : Date) (tod : Nat) : State :=
  let s1 := s.onClk fun k => { k with date := d, tod := tod, valid := true, pendingSet := none, setTags := [] }
  let s2 := (((s1.clearFault .timeInvalid .nothing).addEvents PendingSet.ofClock)).reevaluate
  s.clk.setTags.foldl (fun t tag => t.reply tag 0x20#8 .ok []) s2

/-- Seconds since reset advance as the tenths become 0 (R71). -/
def secondsAfter (secs tod : Nat) : Nat := if tod % 10 = 0 then min 4294967295 (secs + 1) else secs

/-- The date range ends: the time becomes invalid (R71). The tick is a minute boundary as well, and R83 lists both; the
one evaluation here stands for both, so a PLAN_UNDEFINED that it finds is reported once (DEDUCED,
notes/assumptions/77.md). -/
def State.endOfRange (s : State) : State :=
  ((((s.onClk fun k => { k with valid := false }).report .timeInvalid .nothing)).addEvents PendingSet.ofClock).reevaluate

/-- The time advances by one tenth, with its minute boundary and the end of the date range (R71), which make one
evaluation where they coincide (DEDUCED, notes/assumptions/77.md). -/
def State.advanceClock (s : State) : State :=
  let a := advanceTenth s.clk.date s.clk.tod
  let s1 := s.onClk fun k => { k with date := a.1, tod := a.2.1, secs := secondsAfter k.secs a.2.1 }
  if a.2.2 then s1.endOfRange
  else if a.2.1 % 600 = 0 then s1.reevaluate
  else s1

/-- CLK at a tenth tick. -/
def State.tickClock (s : State) : State :=
  match s.clk.pendingSet with
  | some (d, tod) => s.takeClockSet d tod
  | none => s.advanceClock

/-! ### The tenth tick: the sequencer (R4, R25, R34, R39, R50) -/

/-- The gap timer at a tick (R34). -/
def State.tickGap (s : State) : State :=
  if s.sup.mode = .normal then
    match s.gapHold with
    | some v => s.onSeq fun q => { q with gap := v }
    | none => s.onSeq fun q => { q with gap := q.gap - 1 }
  else s

/-- The service time of the head request (R39). -/
def tickHead : List PriorityReq → List PriorityReq
  | [] => []
  | h :: rest => { h with service := min 2550 (h.service + 1) } :: rest

/-- The inhibition check of a tick; outside NORMAL no group is on its way to GREEN (R31, R45). -/
def State.checkInhibited (s : State) : State := if s.sup.mode = .normal then s.dropInhibited else s

/-- Time in state, the maximum timer and the head's service time (R4, R25). -/
def Seq.tickTimers (q : Seq) : Seq :=
  { q with
    groups := q.groups.map fun r => { r with timeIn := min 65535 (r.timeIn + 1) }
    maxTimer := q.maxTimer.map fun t => min 1200 (t + 1)
    priority := tickHead q.priority }

/-- The cycle position after the advance of a tick (R50, R68): a hold keeps L where it stands; reaching E_d calls for
the decision, or moves d on during priority service; the wrap is a cycle start and a change point. -/
def Seq.advance (q : Seq) (p : PlanRec) : Seq :=
  match q.pos with
  | none => q
  | some l =>
    match q.hold with
    | some h => { q with hold := some (h - 1) }
    | none =>
      let wrap := decide (p.cycle ≤ l + 1)
      let l' := if wrap then 0 else l + 1
      let at' : Nat := if wrap then p.cycle else l + 1
      let q1 : Seq :=
        { q with
          pos := some l'
          cycleStart := q.cycleStart || wrap
          changePoint := q.changePoint || wrap
          endDue := q.endDue.map fun e => if e.jump = some at' then { e with jump := none } else e }
      if (q.decision.map p.endOf) = some at' ∨ q.reached = true then
        (if q.priority.isEmpty then { q1 with reached := true } else q1.moveOn p)
      else q1

/-- The Plan Runner at a tick (R50). -/
def State.tickRunner (s : State) : State :=
  if s.sup.mode = .normal ∧ s.activePlan.coordinated = true then s.onSeq fun q => q.advance s.activePlan else s

/-! ### The tenth tick: the other blocks (R88, R148, R160, R165 to R167) -/

/-- State times of the used inputs (R88). -/
def State.tickInputs (s : State) : State :=
  s.onDet fun t => Tab.ofFn 32 fun d =>
    let r := t.get d
    if s.inputUsed d then { r with stateTime := min 16777215 (r.stateTime + 1) } else r

/-- The sweep time, and the instant at which CBT may choose a probe (R148, R149); from this tick on the sweep is judged
against its period. -/
def Cbt.tick (b : Cbt) : Cbt :=
  if b.period.isSome then
    { b with sweepTime := min 864000 (b.sweepTime + 1), choice := b.choice || b.phase == BusPhase.idle, sweepNext := false }
  else b

/-- The cabinet is in the FLASH or DARK of the soft fallback that started its holdoff (R166). -/
def Sup.inSoftFallback (u : Sup) : Bool :=
  !u.latched &&
    ((u.mode == Mode.flash && u.reason == some Reason.redFail) ||
      (u.mode == Mode.dark && u.reason == some Reason.contactor))

/-- The supervisor's tenth-tick times (R156, R160, R165, R166, R167); a length that a commit changed is judged from this
tick on (R157, R160). -/
def Sup.tick (u : Sup) (waiting : Bool) : Sup :=
  { u with
    phaseTime :=
      match u.mode with
      | .startupFlash | .startupRed => min 600 (u.phaseTime + 1)
      | _ => u.phaseTime
    grace := u.grace.map fun g => match g with | .running t => .running (min 600 (t + 1)) | x => x
    holdoff := if u.inSoftFallback && !waiting then u.holdoff.map fun t => min 36000 (t + 1) else u.holdoff
    probation := if u.recovering && u.mode == Mode.normal then min 36000 (u.probation + 1) else u.probation
    graceNext := Tab.fill 16 false
    holdoffNext := false
    probationNext := false }

/-- The FLASH that a red failure of STARTUP_RED enters at the next tick (R163). -/
def State.takeFlashNext (s : State) : State :=
  match s.sup.flashNext with
  | some (r, l) => if s.sup.mode = .startupRed then s.enterFlash r l else s.onSup fun u => { u with flashNext := none }
  | none => s

/-- The tenth tick (R71, R72): the times in state and the other timers advance, then the clock does, with the evaluation
it may bring, so that a mode entered at this tick has times of 0 (the order is DEDUCED, notes/assumptions/24.md). The
colour changes of this tick are the steps that follow it while the tick is open. -/
def State.tenthTick (s : State) : State :=
  let s1 := s.onSeq fun q => { q with tick := q.tick + 1, tickOpen := true, decided := false }
  let s2 := ((s1.onSeq Seq.tickTimers).tickGap).checkInhibited
  let s3 := ((s2.tickRunner).tickInputs).onCbt Cbt.tick
  (((s3.onSup fun u => u.tick s3.waitingSupply).tickClock).takeFlashNext).startMaxTimer

/-! ### One millisecond (00_scope.md, Time) -/

/-- R195: the time at space; whether the line has returned to mark is free (notes/assumptions/7.md). -/
def Line.ms (l : Line) (returned : Bool) : Line :=
  match l with
  | .mark => .mark
  | .space n declared => if returned then .mark else .space (min Config.breakTime (n + 1)) declared

/-- R193, R195, R196: the receive gap, the line, and the bits of the first queued frame sent, in hundredths. -/
def Lnk.ms (l : Lnk) (returned : Bool) : Lnk :=
  { l with
    line := l.line.ms returned
    interbyte := match l.assembler with | .assembling _ => min 5 (l.interbyte + 1) | .hunt => 0
    sent := if l.output.isEmpty then 0 else l.sent + (if l.fast then 11520 else 5760) }

/-- R73, R76, R78: the gap since the last counted crossing, the stability time, the divider and the present VBAK, which
is free (notes/assumptions/8.md). -/
def Clk.ms (k : Clk) (vbakLow : Bool) : Clk :=
  let gap := min 50 (k.sinceCrossing + 1)
  { k with
    vbakLow := vbakLow
    sinceCrossing := gap
    stability := if gap < 50 then min 2000 (k.stability + 1) else k.stability
    divider := k.divider + Config.oscillator }

/-- R103 to R107: a channel's full-drive time and its running limit. -/
def ChanRun.ms (r : ChanRun) : ChanRun :=
  { r with
    fullTime := r.fullTime.map fun t => min Config.fullDrive (t + 1)
    limit := r.limit.map fun l => { l with elapsed := min l.limit (l.elapsed + 1) } }

/-- R114: the contactor's limit; a close limit is not timed without zero-crossings, and goes on from its value once they
return (DESIGN CHOICE, notes/assumptions/68.md). -/
def Contactor.ms (k : Contactor) (gap : Nat) : Contactor :=
  if k.state = .pullingIn ∧ 50 ≤ gap then k
  else { k with limit := k.limit.map fun t => min Config.contactorLimit (t + 1) }

/-- R112: the flash generator's phase time. -/
def FlashGen.ms (f : FlashGen) : FlashGen := if f.running then { f with phaseTime := min 600 (f.phaseTime + 1) } else f

/-- R88, R89: the debounce time of a used input. -/
def DetRun.ms (r : DetRun) (used : Bool) : DetRun :=
  if used && r.reading != r.accepted then { r with debounceTime := min 500 (r.debounceTime + 1), nextMs := false }
  else { r with nextMs := false }

/-- R134: the leak time. -/
def LampRec.ms (l : LampRec) : LampRec := { l with leak := l.leak.map fun t => min 1000 (t + 1) }

/-- R141: the phase time of a probe. -/
def Cbt.ms (b : Cbt) : Cbt := if b.phase = .idle then b else { b with phaseTime := min 400 (b.phaseTime + 1) }

/-- R158, R164, R169: the conflict times, the phase time of the check, the supply gap and the stable time. The phase time
keeps its value while the proof is not CLOSED, and goes on from it (DESIGN CHOICE, notes/assumptions/59.md). -/
def Sup.ms (u : Sup) (proven : Bool) : Sup :=
  let gap := min 200 (u.supplyGap + 1)
  { u with
    phaseTime := if u.mode = .startupCheck ∧ proven = true then min 500 (u.phaseTime + 1) else u.phaseTime
    conflicts := u.conflicts.map fun t => if t.found then t else { t with ms := min 50 (t.ms + 1) }
    supplyGap := gap
    supplyStable := if u.crossingSeen && decide (gap < 50) then min 2000 (u.supplyStable + 1) else u.supplyStable }

/-- One millisecond passes with no event in it. -/
def State.msTick (s : State) : State :=
  { s with
    now := s.now + 1
    lnk := s.lnk.ms (Config.lineReturns (s.now + 1))
    clk := s.clk.ms (Config.vbakLowAt (s.now + 1))
    seq := { s.seq with tickOpen := false }
    det := Tab.ofFn 32 fun d => (s.input d).ms (s.inputUsed d)
    out :=
      { s.out with
        chans := s.out.chans.map ChanRun.ms
        contactor := s.out.contactor.ms s.sup.supplyGap
        flash := s.out.flash.ms }
    lmp := s.lmp.map LampRec.ms
    cbt := s.cbt.ms
    sup := s.sup.ms s.supplyProven
    flt := { s.flt with pulse := s.flt.pulse.map fun t => min 250 (t + 1) } }

end Sys2Proof.Machine
end

