-- ==== Sys2Proof/Machine/Link.lean ====
section
/-! DEFINITION. The Link Interface's events (12_the_maintenance_link.md): bytes, frames, breaks and sending, and how a
request meets its owner. -/

namespace Sys2Proof.Machine

/-! ### Receiving (R193) -/

/-- A frame in assembly is abandoned (R193). -/
def State.abandonFrame (s : State) : State :=
  s.onLnk fun l => { l with assembler := .hunt, interbyte := 0, linkError := true }

/-- A frame completes with a correct CRC (R193, R195): tag 0 abandons it; otherwise it clears LINK_BREAK and joins the
input buffer, or is discarded with OVERRUN. -/
def State.completeFrame (s : State) (tag code : Byte) (body : List Byte) : State :=
  if tag = 0 then s.abandonFrame
  else
    (s.onLnk fun l =>
      let l1 := { l with assembler := .hunt, interbyte := 0 }
      if l.input.length < Config.inputFrames then { l1 with input := l.input ++ [⟨tag, code, body⟩] }
      else { l1 with overrun := true }).clearFault .linkBreak .nothing

/-- A frame given whole: its length, its CRC and its tag are judged (R192, R193). -/
def State.receiveFrame (s : State) (tag code : Byte) (body : List Byte) (crc : BitVec 16) : State :=
  if Config.maxBody < body.length then s.abandonFrame
  else if crc16 (coveredBytes tag code body) = crc then s.completeFrame tag code body
  else s.abandonFrame

/-- What a byte, or a frame, says of the line at its end (R193, R195): a stop bit taken as mark ends a time at space, and
one taken as space begins one. A byte cannot begin before the line has returned to mark (DEDUCED,
notes/assumptions/7.md). -/
def State.sawStop (s : State) (framingError : Bool) : State :=
  s.onLnk fun l => { l with line := if framingError then .space 0 false else .mark }

/-- The bytes after the sync byte, one more of them received (R193): the length is judged at the length byte, the CRC
at the last CRC byte. -/
def State.assemble (s : State) (bytes : List Byte) : State :=
  let n := byteAt bytes 2
  if bytes.length = 3 ∧ Config.maxBody < n then s.abandonFrame
  else if 3 < bytes.length ∧ bytes.length = n + 5 then
    s.receiveFrame (bytes.getD 0 0) (bytes.getD 1 0) ((bytes.drop 3).take n)
      (BitVec.ofNat 16 (wordAt bytes (n + 3)))
  else s.onLnk fun l => { l with assembler := .assembling bytes, interbyte := 0 }

/-- A byte received, with its framing error (R193). -/
def State.receiveByte (s : State) (b : Byte) (framingError : Bool) : State :=
  match s.lnk.assembler with
  | .hunt =>
    if framingError = false ∧ b = 0xC3#8 then s.onLnk fun l => { l with assembler := .assembling [], interbyte := 0 }
    else s
  | .assembling bytes => if framingError then s.abandonFrame else s.assemble (bytes ++ [b])

/-- The 5 ms after the last byte of a frame in assembly have run out (R193). -/
def State.interbyteDue (s : State) : Bool :=
  match s.lnk.assembler with
  | .assembling _ => decide (5 ≤ s.lnk.interbyte)
  | .hunt => false

/-! ### Break (R195, R171) -/

/-- SUP's action on a break (R171). -/
def State.breakAction (s : State) : State :=
  if s.cabinet.breakAction = .flash ∧ s.sup.mode ≠ .unconfigured then s.takeCause .latchedFlash .linkBreak else s

/-- The line has been at space for 25 ms, and no break is declared for that period (R195). -/
def State.breakDue (s : State) : Bool :=
  match s.lnk.line with
  | .space n declared => decide (Config.breakTime ≤ n) && !declared
  | .mark => false

/-- A link break is declared, once for the period at space (R195). -/
def State.declareBreak (s : State) : State :=
  ((s.onLnk fun l =>
    { l with
      line := .space Config.breakTime true
      linkError := l.linkError || l.assembler != .hunt
      assembler := .hunt, interbyte := 0, input := [] }).report .linkBreak .nothing).breakAction

/-! ### Sending (R196) -/

/-- The length of a queued frame on the line, in hundredths of a bit: ten bits to a byte (R192). -/
def OutFrame.lineTime (f : OutFrame) : Nat := f.bytes.length * 1000

/-- The last CRC byte of the first queued frame has been sent (R196). -/
def State.frameDue (s : State) : Bool :=
  match s.lnk.output with
  | f :: _ => decide (f.lineTime ≤ s.lnk.sent)
  | [] => false

/-- The first queued frame leaves the queue (R196). -/
def Lnk.sendFirst (l : Lnk) : Lnk :=
  match l.output with
  | f :: rest => { l with output := rest, sent := if rest.isEmpty then 0 else l.sent - f.lineTime }
  | [] => l

/-! ### Requests (R194) -/

/-- A slot of the output queue reserved for the reply of a request taken (R194). -/
def State.reserve (s : State) : State := s.onLnk fun l => { l with reserved := l.reserved + 1 }

/-- A request given to its owner directly (notes/assumptions/2.md): a frame that could not be one is abandoned; with no
free slot the request is not taken; otherwise a slot is reserved and the owner serves it. -/
def State.direct (s : State) (tag : Byte) (body : List Byte) (serve : State → State) : State :=
  if tag = 0 ∨ Config.maxBody < body.length then s.abandonFrame
  else if s.lnk.freeSlots = 0 then s
  else State.finish s (serve s.reserve)

/-- NOTICE_ENABLE (R184). -/
def serveNoticeEnable (tag : Byte) (body : List Byte) (s : State) : State :=
  match body with
  | [b] =>
    if b.toNat < 2 then (s.onLnk fun l => { l with notices := b.toNat == 0 }).reply tag 0x64#8 .ok []
    else s.refuse tag 0x64#8 .outOfRange
  | _ => s.refuse tag 0x64#8 .badLength

/-! ### The meanings -/

/-- RX_FRAME (R193, R195). -/
def execRxFrame (tag code : Byte) (body : List Byte) (crc : BitVec 16) (s : State) : Host.Outcome State Fault Refusal :=
  .next (State.finish s ((s.sawStop false).receiveFrame tag code body crc))

/-- INTERBYTE_TIMEOUT (R193). -/
def execInterbyteTimeout (s : State) : Host.Outcome State Fault Refusal :=
  .next (if s.interbyteDue then s.abandonFrame else s)

/-- LINK_BREAK (R195, R171). -/
def execLinkBreak (s : State) : Host.Outcome State Fault Refusal :=
  .next (if s.breakDue then State.finish s s.declareBreak else s)

/-- FRAME_SENT (R196). Commanded from outside it is the end of the first queued frame on the line, whatever bits of it
the model has counted (DESIGN CHOICE, notes/assumptions/4.md). -/
def execFrameSent (s : State) : Host.Outcome State Fault Refusal := .next (s.onLnk Lnk.sendFirst)

/-- BYTE_RECEIVED (R193, R195). -/
def execByteReceived (b : Byte) (framingError : Bool) (s : State) : Host.Outcome State Fault Refusal :=
  .next (State.finish s ((s.sawStop framingError).receiveByte b framingError))

/-- NOTICE_ENABLE (R184). -/
def execNoticeEnable (tag : Byte) (body : List Byte) (s : State) : Host.Outcome State Fault Refusal :=
  .next (s.direct tag body (serveNoticeEnable tag body))

end Sys2Proof.Machine
end

