-- ==== Sys2Proof/Machine/Reads.lean ====
section
/-! DEFINITION. The requests that read (R15, R80, R99, R153, R179, R188, R198) and the bodies of their replies, with
the codings of R196 and the layouts of 12.6. The named values of each list are coded by position
(notes/assumptions/10.md). -/

namespace Sys2Proof.Machine

/-! ### Codes of runtime values -/

def Reason.code : Reason → Nat
  | .hostRequest => 0 | .linkBreak => 1 | .redFail => 2 | .conflict => 3 | .cross => 4 | .weld => 5
  | .foreignGreen => 6 | .supplyLoss => 7 | .contactor => 8 | .lockout => 9
/-- The nine colour states of R2 by first mention in its table, row by row: R2 lists them by kind and mode, so the order
is the model's choice (DESIGN CHOICE, notes/assumptions/10.md). -/
def Colour.code : Colour → Nat
  | .red => 0 | .redAmber => 1 | .green => 2 | .amber => 3 | .flashAmber => 4 | .darkAll => 5 | .clear => 6
  | .off => 7 | .dark => 8
def RedHealth.code : RedHealth → Nat | .ok => 0 | .unknown => 1 | .deficient => 2
def Command.code : Command → Nat | .off => 0 | .on => 1 | .flashing => 2
def RelayState.code : RelayState → Nat | .released => 0 | .pullingIn => 1 | .held => 2 | .releasing => 3
def Proof.code : Proof → Nat | .unproven => 0 | .opened => 1 | .closed => 2
def levelCode : Level → Nat | .none => 0 | .low => 1 | .full => 2
def RelayFault.code : RelayFault → Nat | .none => 0 | .failToClose => 1 | .failToOpen => 2 | .foreignVoltage => 3
def ContactorFault.code : ContactorFault → Nat | .none => 0 | .failToClose => 1 | .failToOpen => 2
def TestBus.code : TestBus → Nat | .no => 0 | .drive => 1 | .sense => 2
def Verdict.code : Verdict → Nat
  | .unknown => 0 | .good => 1 | .partialFail => 2 | .failed => 3 | .overcurrent => 4 | .circuitOpen => 5 | .held => 6
def CableState.code : CableState → Nat
  | .untested => 0 | .sound => 1 | .suspect => 2 | .opened => 3 | .earthLeak => 4 | .crossed _ => 5
/-- The partner of a CROSSED cable state (R6). -/
def CableState.partner : CableState → Option Ch
  | .crossed c => some c
  | _ => none
def SelSource.code : SelSource → Nat
  | .forced => 0 | .schedule => 1 | .defaultNoEntry => 2 | .defaultTimeInvalid => 3 | .defaultUndefined => 4
def DetFault.code : DetFault → Nat | .none => 0 | .stuckOn => 1 | .stuckOff => 2
def Standing.code : Standing → Nat | .none => 0 | .pass => 1 | .suspect => 2 | .fault => 3
def CrossClass.code : CrossClass → Nat | .none => 0 | .dangerous => 1 | .nuisance => 2
def ProbeResult.code : ProbeResult → Nat | .pass => 0 | .passMarginal => 1 | .suspect => 2 | .fault => 3 | .abandoned => 4
def BusPhase.code : BusPhase → Nat | .idle => 0 | .closing => 1 | .measuring => 2 | .releasing => 3
def Origin.code : Origin → Nat | .sweep => 0 | .urgent => 1 | .request _ => 2
/-- The tag of a requested probe (R139). -/
def Origin.tag : Origin → Option Nat
  | .request t => some t.toNat
  | _ => none
/-- Kind codes of the fault entry record (12.6). -/
def FaultKind.code : FaultKind → Nat
  | .conflict => 1 | .crossDangerous => 2 | .relayFailToOpen => 3 | .foreignVoltage => 4 | .redDeficient => 5
  | .supplyContactor => 6 | .relayFailToClose => 7 | .relayWear => 8 | .lampPartial => 9 | .lampFailed => 10
  | .lampOvercurrent => 11 | .circuitOpen => 12 | .earthLeak => 13 | .crossNuisance => 14 | .testStarved => 15
  | .detectorStuckOn => 16 | .detectorStuckOff => 17 | .priorityOverstay => 18 | .timeInvalid => 19
  | .planUndefined => 20 | .supplyLoss => 21 | .linkBreak => 22 | .recoveryLockout => 23
/-- Subject bytes of the fault entry record (12.6). -/
def Subject.bytes : Subject → List Byte
  | .nothing => u8 0 ++ u8 0 ++ u8 0
  | .channel c => u8 1 ++ u8 0 ++ u8 (number c)
  | .group g => u8 2 ++ u8 0 ++ u8 (number g)
  | .pair i j => u8 3 ++ u8 (number i) ++ u8 (number j)
  | .input d => u8 4 ++ u8 0 ++ u8 (number d)
  | .entry e => u8 5 ++ u8 0 ++ u8 (number e)

/-- A stamp in 8 bytes (12.6). -/
def Stamp.bytes : Stamp → List Byte
  | .valid d t =>
    u8 0 ++ u8 (d.year - 2000) ++ u8 d.month ++ u8 d.day ++ u8 (t / 36000) ++ u8 (t / 600 % 60) ++ u8 (t / 10 % 60)
      ++ u8 (t % 10)
  | .invalid secs => u8 255 ++ u8 0 ++ u8 0 ++ u32 secs ++ u8 0

/-- The fault entry record, 22 bytes (12.6). -/
def FaultEntry.bytes (e : FaultEntry) : List Byte :=
  u8 e.kind.code ++ e.subject.bytes
    ++ u8 ((if e.safety then 1 else 0) + (if e.active then 2 else 0) + (if e.acked then 4 else 0))
    ++ u8 e.count ++ e.first.bytes ++ e.last.bytes

/-! ### Reply bodies -/

/-- A date as year, month and day. -/
def Date.bytes (d : Date) : List Byte := u16 d.year ++ u8 d.month ++ u8 d.day

/-- IDENTIFY (R198). -/
def State.identifyBody (s : State) : List Byte :=
  [0x4A#8, 0x43#8, 0x36#8, 0x32#8] ++ u8 Config.siliconRevision ++ u16 (if s.lnk.fast then 1152 else 576)

/-- The SUP values of STATUS (R156, R198). An idle holdoff time is sent as all ones, as an absent value is (DESIGN CHOICE,
notes/assumptions/10.md). -/
def Sup.statusBytes (u : Sup) : List Byte :=
  u8 u.mode.code ++ opt8 (u.reason.map Reason.code) ++ yesNo u.latched ++ yesNo u.recovering ++ u8 u.attempts
    ++ opt16 u.holdoff ++ yesNo u.supplyPresent

/-- The SEQ and Plan Runner values of STATUS (R24, R49, R198). The value none of a stage or a plan is sent as all ones
(DESIGN CHOICE, notes/assumptions/10.md). -/
def Seq.statusBytes (q : Seq) : List Byte :=
  optNum q.running ++ optNum (q.change.map (·.target)) ++ u8 q.priority.length
    ++ optNum q.active ++ optNum q.pendingPlan ++ opt16 q.pos
    ++ u16 (if q.shorten ≠ 0 then q.shorten else q.holdBudget) ++ whether (q.holdBudget != 0) ++ whether q.hold.isSome

/-- The SCH values of STATUS (R82, R198). The action none is sent as all ones, as an absent value is (DESIGN CHOICE,
notes/assumptions/10.md). -/
def Sch.statusBytes (h : Sch) : List Byte :=
  opt8 (h.action.map Action.code) ++ opt8 (h.source.map SelSource.code) ++
    match h.governing with
    | some (i, d) => u8 (number i) ++ d.bytes
    | none => u8 255 ++ u16 65535 ++ u8 255 ++ u8 255

/-- The contactor record and the trip in STATUS (R115, R198). The trip output is sent as 1 asserted, 0 inactive (DESIGN
CHOICE, notes/assumptions/10.md). -/
def Out.statusBytes (o : Out) : List Byte :=
  u8 (if o.contactor.closeCommand then 1 else 0) ++ u8 o.contactor.state.code ++ u8 o.contactor.proof.code
    ++ u8 o.contactor.fault.code ++ whether o.trip

/-- STATUS (R198). -/
def State.statusBody (s : State) : List Byte :=
  s.sup.statusBytes ++ s.seq.statusBytes ++ s.sch.statusBytes ++ s.out.statusBytes
    ++ whether s.cfg.buffer.isSome ++ whether s.cfg.pendingCommit.isSome
    ++ u8 s.flt.entries.length ++ yesNo s.flt.overflow

/-- A trim in two's complement (R196). -/
def trimByte (t : Int) : List Byte := [BitVec.ofInt 8 t]

/-- CLOCK_READ (R80). -/
def State.clockBody (s : State) : List Byte :=
  let k := s.clk
  k.date.bytes ++ u8 (k.tod / 36000) ++ u8 (k.tod / 600 % 60) ++ u8 (k.tod / 10 % 60) ++ u8 (k.tod % 10)
    ++ u8 k.date.weekday ++ u8 (s.cfg.running.tm.dayType k.date) ++ yesNo k.valid ++ u8 k.source.code
    ++ u8 k.preference.code ++ u8 k.freq.code ++ trimByte k.trim ++ u8 (if k.vbakLow then 1 else 0) ++ u32 k.secs

/-- The latest green end instant of a group; its four bytes are a free value where present
(notes/assumptions/11.md). -/
def greenEndBytes : Option Nat → List Byte
  | some t => u32 (Config.tickTimeCode t).toNat
  | none => u32 4294967295

/-- GROUP_READ (R15). The latch of a group that is not PEDESTRIAN is coded as absent (DESIGN CHOICE,
notes/assumptions/10.md). -/
def State.groupBody (s : State) (g : Gid) : List Byte :=
  let r := s.group g
  (s.groupRec g).bytes ++ u8 r.colour.code ++ u16 r.timeIn ++ greenEndBytes r.greenEnd ++ yesNo r.demand
    ++ (if s.kind g = some .pedestrian then yesNo r.latch else u8 255) ++ yesNo r.inhibited ++ u8 r.redHealth.code
    ++ yesNo r.observedGreen

/-- Milliseconds since steady-on since (12.6). -/
def State.steadyBytes (s : State) (r : ChanRun) : List Byte :=
  match r.steadySince with
  | some t => u32 (min 4294967294 (s.now - t))
  | none => u32 4294967295

/-- The learn state and its k in one byte (12.6). -/
def LearnState.code : LearnState → Nat
  | .unlearned => 0
  | .learning k => 1 + 4 * k
  | .learned => 2

/-- Byte 1 of the channel status record: the group, 0 when unassigned (12.6). -/
def ChannelRec.groupByte (r : ChannelRec) : Nat := match r.group with | some g => number g | none => 0

/-- The aspect bits of the channel status record (12.6). -/
def ChannelRec.aspectBits (r : ChannelRec) : Nat := match r.aspect with | some a => a.code + 1 | none => 0

/-- The channel status record, 20 bytes (12.6). -/
def State.channelBody (s : State) (c : Ch) : List Byte :=
  let k := s.chanRec c
  let r := s.chan c
  let l := s.lamp c
  let cable := s.cbt.cable.get c
  u8 (number c) ++ u8 k.groupByte ++ u8 (k.aspectBits + 4 * k.lamp.code + 8 * k.heads)
    ++ u8 (r.command.code + 4 * r.relay.code + 16 * r.proof.code + 64 * levelCode r.indication)
    ++ u8 (r.fault.code + (if l.maintenance then 4 else 0) + 8 * r.testBus.code + (if r.showing then 32 else 0))
    ++ u32 r.opCount ++ s.steadyBytes r ++ opt16 l.iref ++ u8 l.learn.code ++ opt8 l.healthy ++ u8 l.verdict.code
    ++ u8 cable.code ++ u8 (match cable.partner with | some p => number p | none => 0)

/-- The position and the service time of an input's request (R99). -/
def State.requestOf (s : State) (d : Det) : Option (Nat × Nat) :=
  match s.seq.priority.findIdx? fun r => r.input == d with
  | some i => (s.seq.priority[i]?).map fun r => (i + 1, r.service)
  | none => none

/-- DETECTOR_READ (R99). The position and the service time of an input without a request are sent as all ones (DESIGN
CHOICE, notes/assumptions/10.md). -/
def State.detectorBody (s : State) (d : Det) : List Byte :=
  let r := s.input d
  let q := s.requestOf d
  (s.detector d).bytes ++ yesNo r.reading ++ yesNo r.accepted ++ u16 r.debounceTime ++ u24 r.stateTime
    ++ u8 r.fault.code ++ u16 r.count ++ whether q.isSome ++ opt8 (q.map (·.1)) ++ opt16 (q.map (·.2))
    ++ whether (s.seq.barred.contains d)

/-- A result record (R138). -/
def ResultRec.bytes (r : ResultRec) : List Byte :=
  u8 r.standing.code ++ u8 r.failures ++ u8 r.cross.code ++ opt8 (r.last.map ProbeResult.code) ++ opt16 r.measurement
    ++ (match r.time with | some t => t.bytes | none => List.replicate 8 0xFF#8) ++ u8 r.starved ++ yesNo r.done

/-- The tester record (R139, R153). The origin is always followed by a tag byte, all ones where it is not REQUEST (DESIGN
CHOICE, notes/assumptions/10.md). -/
def Cbt.testerBytes (b : Cbt) : List Byte :=
  u8 b.phase.code ++ optNum (b.probe.map (·.entry)) ++ opt8 (b.probe.map fun p => p.origin.code)
    ++ opt8 (b.probe.bind fun p => p.origin.tag) ++ u8 (if b.period.isSome then 1 else 0) ++ opt16 b.period
    ++ u24 b.sweepTime ++ u8 b.walk ++ counted b.deferred ++ counted b.urgent

/-- An entry involves a channel (R144). -/
def ProbeRec.involves (p : ProbeRec) (c : Ch) : Bool := p.kind.isSome && p.channels.contains c

/-- One conductor in a CABLE_READ reply (R153). -/
def State.conductorBytes (s : State) (c : Ch) : List Byte :=
  let k := s.cbt.cable.get c
  u8 k.code ++ optNum k.partner ++ u8 (s.chan c).testBus.code ++ whether (s.testable c)

/-- CABLE_READ (R153): the used entries follow in ascending entry number (DESIGN CHOICE, notes/assumptions/56.md). -/
def State.cableBody (s : State) (k : Cab) : List Byte :=
  let l := s.cfg.running.st.cables.get k
  let es := (allFin 64).filter fun e => l.any fun c => (s.probeRec e).involves c
  counted l ++ u8 l.length ++ l.flatMap s.conductorBytes ++ u8 es.length
    ++ es.flatMap (fun e => (s.probeRec e).bytes ++ (s.result e).bytes) ++ s.cbt.testerBytes

/-- FAULT_READ from a start position (R179). -/
def Flt.readBody (f : Flt) (start : Nat) : List Byte :=
  u8 f.entries.length ++ yesNo f.overflow ++ ((f.entries.drop (start - 1)).take 8).flatMap FaultEntry.bytes

/-! ### Serving -/

/-- A request whose body is empty, answered OK with a body. -/
def State.answerEmpty (s : State) (tag code : Byte) (body reply : List Byte) : State :=
  if body = [] then s.reply tag code .ok reply else s.refuse tag code .badLength

/-- A request whose body is one number in range, answered OK with a body. -/
def State.answerNumber (s : State) (tag code : Byte) (body : List Byte) (n : Nat) (f : Fin n → List Byte) : State :=
  match body with
  | [b] =>
    match member n b.toNat with
    | some i => s.reply tag code .ok (f i)
    | none => s.refuse tag code .outOfRange
  | _ => s.refuse tag code .badLength

def serveIdentify (tag : Byte) (body : List Byte) (s : State) : State := s.answerEmpty tag 0x01#8 body s.identifyBody
def serveStatus (tag : Byte) (body : List Byte) (s : State) : State := s.answerEmpty tag 0x02#8 body s.statusBody
def serveClockRead (tag : Byte) (body : List Byte) (s : State) : State := s.answerEmpty tag 0x21#8 body s.clockBody
def serveGroupRead (tag : Byte) (body : List Byte) (s : State) : State := s.answerNumber tag 0x50#8 body 16 s.groupBody
def serveChannelRead (tag : Byte) (body : List Byte) (s : State) : State := s.answerNumber tag 0x51#8 body 48 s.channelBody
def serveDetectorRead (tag : Byte) (body : List Byte) (s : State) : State := s.answerNumber tag 0x52#8 body 32 s.detectorBody
def serveCableRead (tag : Byte) (body : List Byte) (s : State) : State := s.answerNumber tag 0x53#8 body 24 s.cableBody
def serveFaultRead (tag : Byte) (body : List Byte) (s : State) : State :=
  s.answerNumber tag 0x60#8 body 64 fun i => s.flt.readBody (number i)

/-- A record read from a set of records: the status and the bytes (R188). A wrong length comes before a class or an index
out of range, for CONFIG_READ as for EDIT_READ (DESIGN CHOICE, notes/assumptions/19.md). -/
def ConfigSet.answerRead (c : ConfigSet) (body : List Byte) : Status × List Byte :=
  match body with
  | [k, i] =>
    match RecordClass.ofCode k.toNat with
    | none => (.outOfRange, [])
    | some cls =>
      match c.read cls i.toNat with
      | some b => (.ok, b)
      | none => (.outOfRange, [])
  | _ => (.badLength, [])

/-- EDIT_READ (R188). -/
def serveEditRead (tag : Byte) (body : List Byte) (s : State) : State :=
  match s.cfg.buffer with
  | none => s.refuse tag 0x12#8 .noSession
  | some c => s.reply tag 0x12#8 (c.answerRead body).1 (c.answerRead body).2

/-- CONFIG_READ (R188). -/
def serveConfigRead (tag : Byte) (body : List Byte) (s : State) : State :=
  s.reply tag 0x15#8 (s.cfg.running.answerRead body).1 (s.cfg.running.answerRead body).2

/-! ### The meanings -/

/-- IDENTIFY (R198). -/
def execIdentify (tag : Byte) (body : List Byte) (s : State) : Host.Outcome State Fault Refusal :=
  .next (s.direct tag body (serveIdentify tag body))

/-- STATUS (R198). -/
def execStatus (tag : Byte) (body : List Byte) (s : State) : Host.Outcome State Fault Refusal :=
  .next (s.direct tag body (serveStatus tag body))

/-- CLOCK_READ (R80). -/
def execClockRead (tag : Byte) (body : List Byte) (s : State) : Host.Outcome State Fault Refusal :=
  .next (s.direct tag body (serveClockRead tag body))

/-- GROUP_READ (R15). -/
def execGroupRead (tag : Byte) (body : List Byte) (s : State) : Host.Outcome State Fault Refusal :=
  .next (s.direct tag body (serveGroupRead tag body))

/-- CHANNEL_READ (R15). -/
def execChannelRead (tag : Byte) (body : List Byte) (s : State) : Host.Outcome State Fault Refusal :=
  .next (s.direct tag body (serveChannelRead tag body))

/-- DETECTOR_READ (R99). -/
def execDetectorRead (tag : Byte) (body : List Byte) (s : State) : Host.Outcome State Fault Refusal :=
  .next (s.direct tag body (serveDetectorRead tag body))

/-- CABLE_READ (R153). -/
def execCableRead (tag : Byte) (body : List Byte) (s : State) : Host.Outcome State Fault Refusal :=
  .next (s.direct tag body (serveCableRead tag body))

/-- FAULT_READ (R179). -/
def execFaultRead (tag : Byte) (body : List Byte) (s : State) : Host.Outcome State Fault Refusal :=
  .next (s.direct tag body (serveFaultRead tag body))

/-- EDIT_READ (R188). -/
def execEditRead (tag : Byte) (body : List Byte) (s : State) : Host.Outcome State Fault Refusal :=
  .next (s.direct tag body (serveEditRead tag body))

/-- CONFIG_READ (R188). -/
def execConfigRead (tag : Byte) (body : List Byte) (s : State) : Host.Outcome State Fault Refusal :=
  .next (s.direct tag body (serveConfigRead tag body))

end Sys2Proof.Machine
end

