-- ==== Sys2Proof/Machine/Editing.lean ====
section
/-! DEFINITION. The edit session (11_configuration_sessions.md, R186, R187, R189). -/

namespace Sys2Proof.Machine

/-- EDIT_OPEN (R186). -/
def serveEditOpen (tag : Byte) (body : List Byte) (s : State) : State :=
  if body ≠ [] then s.refuse tag 0x10#8 .badLength
  else if s.cfg.buffer.isSome then s.refuse tag 0x10#8 .sessionOpen
  else if s.cfg.pendingCommit.isSome then s.refuse tag 0x10#8 .busy
  else (s.onCfg fun c => { c with buffer := some c.running }).reply tag 0x10#8 .ok []

/-- EDIT_DISCARD (R186). -/
def serveEditDiscard (tag : Byte) (body : List Byte) (s : State) : State :=
  if body ≠ [] then s.refuse tag 0x14#8 .badLength
  else if s.cfg.buffer.isNone then s.refuse tag 0x14#8 .noSession
  else (s.onCfg fun c => { c with buffer := none }).reply tag 0x14#8 .ok []

/-- One record of the edit buffer written, and the reply with the record as stored (R187). -/
def State.writeRecord (s : State) (tag : Byte) (buf : ConfigSet) (cls : RecordClass) (k : Nat) (rec : List Byte) : State :=
  if (buf.read cls k).isNone then s.refuse tag 0x11#8 .outOfRange
  else
    match buf.write cls k rec with
    | .error st => s.refuse tag 0x11#8 st
    | .ok (new, clampedAny) =>
      (s.onCfg fun c => { c with buffer := some new }).reply tag 0x11#8
        (if clampedAny then .okClamped else .ok) ((new.read cls k).getD [])

/-- EDIT_WRITE (R187). A class that is none of the fourteen comes before every question of length; a body that ends
before its index is a wrong length (DESIGN CHOICE,
notes/assumptions/19.md). -/
def serveEditWrite (tag : Byte) (body : List Byte) (s : State) : State :=
  match s.cfg.buffer with
  | none => s.refuse tag 0x11#8 .noSession
  | some buf =>
    match body with
    | [] => s.refuse tag 0x11#8 .badLength
    | k :: rest =>
      match RecordClass.ofCode k.toNat, rest with
      | none, _ => s.refuse tag 0x11#8 .outOfRange
      | some _, [] => s.refuse tag 0x11#8 .badLength
      | some cls, i :: rec => s.writeRecord tag buf cls i.toNat rec

/-- A commit that passed its checks, applied or made pending (R190, R191). -/
def State.takeCommit (s : State) (tag : Byte) (buf : ConfigSet) : State :=
  let s1 := s.onCfg fun c => { c with buffer := none }
  if buf.st = s.cfg.running.st ∧ s.sup.mode.runs = true then
    (s1.onCfg fun c => { c with pendingCommit := some buf.tm }).reply tag 0x13#8 .ok (u8 1)
  else (s1.applyCommit buf).reply tag 0x13#8 .ok (u8 0)

/-- The modes in which a structural commit is taken (R189). -/
def Mode.takesStructure : Mode → Bool
  | .unconfigured | .flash | .dark => true
  | _ => false

/-- EDIT_COMMIT (R189). -/
def serveEditCommit (tag : Byte) (body : List Byte) (s : State) : State :=
  if body ≠ [] then s.refuse tag 0x13#8 .badLength
  else if s.cfg.pendingCommit.isSome then s.refuse tag 0x13#8 .busy
  else
    match s.cfg.buffer with
    | none => s.refuse tag 0x13#8 .noSession
    | some buf =>
      match buf.check with
      | some f => s.reply tag 0x13#8 .invalidConfig (u8 f.cls.code ++ u8 f.index ++ u8 f.number)
      | none =>
        if buf.st ≠ s.cfg.running.st ∧ s.sup.mode.takesStructure = false then s.refuse tag 0x13#8 .wrongMode
        else s.takeCommit tag buf

/-! ### The meanings -/

/-- EDIT_OPEN (R186). -/
def execEditOpen (tag : Byte) (body : List Byte) (s : State) : Host.Outcome State Fault Refusal :=
  .next (s.direct tag body (serveEditOpen tag body))

/-- EDIT_WRITE (R187). -/
def execEditWrite (tag : Byte) (body : List Byte) (s : State) : Host.Outcome State Fault Refusal :=
  .next (s.direct tag body (serveEditWrite tag body))

/-- EDIT_COMMIT (R189). -/
def execEditCommit (tag : Byte) (body : List Byte) (s : State) : Host.Outcome State Fault Refusal :=
  .next (s.direct tag body (serveEditCommit tag body))

/-- EDIT_DISCARD (R186). -/
def execEditDiscard (tag : Byte) (body : List Byte) (s : State) : Host.Outcome State Fault Refusal :=
  .next (s.direct tag body (serveEditDiscard tag body))

end Sys2Proof.Machine
end

