-- ==== Sys2Proof/Machine/HostRequests.lean ====
section
/-! DEFINITION. The requests that act on the clock, the schedule, the sequencer, the lamp records, the cabinet mode and
the fault table (R22, R77, R79, R84, R131, R133, R172 to R174, R180 to R182). -/

namespace Sys2Proof.Machine

/-! ### The clock (R77, R79) -/

/-- The date and time of a CLOCK_SET body, where every field is in range (R79). -/
def parseClockSet (b : List Byte) : Option (Date × Nat) :=
  let y := wordAt b 0
  let m := byteAt b 2
  let d := byteAt b 3
  let h := byteAt b 4
  let mi := byteAt b 5
  let sec := byteAt b 6
  if 2000 ≤ y ∧ y ≤ 2199 ∧ 1 ≤ m ∧ m ≤ 12 ∧ 1 ≤ d ∧ d ≤ monthLength y m ∧ h ≤ 23 ∧ mi ≤ 59 ∧ sec ≤ 59 then
    some (⟨y, m, d⟩, ((h * 60 + mi) * 60 + sec) * 10)
  else none

/-- CLOCK_SET: the values become the pending set; the reply is deferred to the tick that takes it (R79). -/
def serveClockSet (tag : Byte) (body : List Byte) (s : State) : State :=
  if body.length ≠ 7 then s.refuse tag 0x20#8 .badLength
  else
    match parseClockSet body with
    | none => s.refuse tag 0x20#8 .outOfRange
    | some v => s.onClk fun k => { k with pendingSet := some v, setTags := k.setTags ++ [tag] }

/-- A trim moved into -63 to +63 (R77). -/
def clampTrim (t : Int) : Int := max (-63) (min 63 t)

/-- CLOCK_TRIM (R77). -/
def serveClockTrim (tag : Byte) (body : List Byte) (s : State) : State :=
  match body with
  | [b] =>
    (s.onClk fun k => { k with trim := clampTrim b.toInt }).reply tag 0x22#8
      (if clampTrim b.toInt = b.toInt then .ok else .okClamped) []
  | _ => s.refuse tag 0x22#8 .badLength

/-! ### The Day Schedule (R84) -/

/-- PLAN_FORCE (R84). -/
def servePlanForce (tag : Byte) (body : List Byte) (s : State) : State :=
  match body with
  | [b] =>
    if s.sup.mode = .unconfigured then s.refuse tag 0x33#8 .wrongMode
    else
      match member 8 b.toNat with
      | none => s.refuse tag 0x33#8 .outOfRange
      | some p =>
        if (s.plan p).defined then ((s.onSch fun h => { h with forced := some p }).evaluate).reply tag 0x33#8 .ok []
        else s.refuse tag 0x33#8 .undefinedPlan
  | _ => s.refuse tag 0x33#8 .badLength

/-- PLAN_RELEASE (R84). -/
def servePlanRelease (tag : Byte) (body : List Byte) (s : State) : State :=
  if body ≠ [] then s.refuse tag 0x34#8 .badLength
  else if s.sup.mode = .unconfigured then s.refuse tag 0x34#8 .wrongMode
  else ((s.onSch fun h => { h with forced := none }).evaluate).reply tag 0x34#8 .ok []

/-! ### The sequencer (R22) -/

/-- DEMAND_PLACE (R22). -/
def serveDemandPlace (tag : Byte) (body : List Byte) (s : State) : State :=
  match body with
  | [b] =>
    if s.sup.mode = .unconfigured then s.refuse tag 0x35#8 .wrongMode
    else
      match member 16 b.toNat with
      | none => s.refuse tag 0x35#8 .outOfRange
      | some g => if s.fitted g then (s.placeDemand g).reply tag 0x35#8 .ok [] else s.refuse tag 0x35#8 .outOfRange
  | _ => s.refuse tag 0x35#8 .badLength

/-! ### The lamp records (R131, R133) -/

/-- A channel's bit of a 48-channel mask: bit k of the six-byte number stands for CH(k + 1). -/
def maskHas (b : List Byte) (c : Ch) : Bool := (b.getD (6 - c.val / 8) 0).getLsbD (c.val % 8)

/-- Whether a channel is in the maintenance set after an operation: SET, CLEAR, TOGGLE (R131). -/
def maintAfter (op : Nat) (was : Bool) : Bool := if op = 0 then true else if op = 1 then false else !was

/-- One channel of a MAINT_UPDATE: it enters or leaves the set (R132), and an entry ends a working probe (R143). The
channels follow in ascending number, each with the clearing of its lamp entries and then what the probe it ends reports
(DESIGN CHOICE, notes/assumptions/82.md). -/
def State.maintChannel (s : State) (op : Nat) (b : List Byte) (c : Ch) : State :=
  if maskHas b c then
    match (s.lamp c).maintenance, maintAfter op (s.lamp c).maintenance with
    | false, true => (s.enterMaintenance c).claimChannel c
    | true, false => s.leaveMaintenance c
    | _, _ => s
  else s

/-- MAINT_UPDATE: the reply carries the set as it stands (R131), its members in ascending channel number (DESIGN CHOICE,
notes/assumptions/56.md). The reply of a requested probe that the update abandons is queued before its own (DESIGN CHOICE,
notes/assumptions/71.md). A wrong length comes before an operation outside the
three (DESIGN CHOICE, notes/assumptions/19.md). -/
def serveMaintUpdate (tag : Byte) (body : List Byte) (s : State) : State :=
  if body.length ≠ 7 then s.refuse tag 0x36#8 .badLength
  else if 2 < byteAt body 0 then s.refuse tag 0x36#8 .outOfRange
  else
    let s1 := (s.forAll fun (t : State) (c : Ch) => t.maintChannel (byteAt body 0) body c).evalAllRedHealth
    s1.reply tag 0x36#8 .ok (counted ((allFin 48).filter fun c => (s1.lamp c).maintenance))

/-- LAMP_RELEARN (R133). -/
def serveLampRelearn (tag : Byte) (body : List Byte) (s : State) : State :=
  match body with
  | [b] =>
    match member 48 b.toNat with
    | none => s.refuse tag 0x37#8 .outOfRange
    | some c => ((s.relearn c).evalAllRedHealth).reply tag 0x37#8 .ok []
  | _ => s.refuse tag 0x37#8 .badLength

/-! ### The cabinet mode (R172 to R174) -/

/-- START (R172). It evaluates before the entry to STARTUP_CHECK (DESIGN CHOICE, notes/assumptions/74.md). -/
def serveStart (tag : Byte) (body : List Byte) (s : State) : State :=
  if body ≠ [] then s.refuse tag 0x30#8 .badLength
  else if s.sup.mode ≠ .unconfigured ∨ s.cfg.committed = false then s.refuse tag 0x30#8 .wrongMode
  else if s.sup.supplyPresent = false ∨ s.out.trip = true then s.refuse tag 0x30#8 .conditionPresent
  else
    let s1 := s.evaluate
    (s1.enterStartupCheck s1.scheduledExit).reply tag 0x30#8 .ok []

/-- MODE_SET (R173). -/
def serveModeSet (tag : Byte) (body : List Byte) (s : State) : State :=
  match body with
  | [b] =>
    if 1 < b.toNat then s.refuse tag 0x32#8 .outOfRange
    else if s.sup.mode = .unconfigured then s.refuse tag 0x32#8 .wrongMode
    else
      (s.takeCause (if b.toNat = 0 then .latchedFlash else .latchedDark false) .hostRequest).reply tag 0x32#8 .ok []
  | _ => s.refuse tag 0x32#8 .badLength

/-- Two conflicting groups are both observed green (R174). -/
def State.greensMeet (s : State) : Bool := groupPairs.any s.pairRuns

/-- A COUPLING entry with a subject channel stands at FAULT with a cross class (R147, R174). -/
def State.crossStands (s : State) (c : Ch) (k : CrossClass) : Bool :=
  (allFin 64).any fun e =>
    (s.probeRec e).kind == some ProbeKind.coupling && (s.probeRec e).subject == c
      && (s.result e).standing == Standing.fault && (s.result e).cross == k

/-- The condition of a SAFETY entry still holds (R174, its table of conditions). A CONFLICT entry reads its own pair,
whether or not the conflict table still marks it (DESIGN CHOICE, notes/assumptions/48.md). -/
def State.conditionHolds (s : State) (e : FaultEntry) : Bool :=
  match e.kind, e.subject with
  | .conflict, .pair i j => (s.group i).observedGreen && (s.group j).observedGreen
  | .crossDangerous, .channel c => s.crossStands c .dangerous
  | .relayFailToOpen, .channel c => (s.chan c).fault == RelayFault.failToOpen
  | .foreignVoltage, .channel c => (s.chan c).fault == RelayFault.foreignVoltage
  | .redDeficient, .group g => (s.group g).redHealth == RedHealth.deficient
  | .supplyContactor, _ => s.out.contactor.fault != ContactorFault.none
  | _, _ => true

/-- Every ACTIVE SAFETY entry whose condition is absent becomes CLEARED (R174). -/
def State.clearAbsent (s : State) : State :=
  s.flt.entries.foldl (fun t e =>
    if e.active && e.safety && !s.conditionHolds e then t.clearFault e.kind e.subject else t) s

/-- A condition that refuses RESTART (R174, its table of cases). A pair that the conflict table no longer marks does not
refuse it (DESIGN CHOICE, notes/assumptions/48.md). -/
def State.restartRefused (s : State) : Bool :=
  s.greensMeet || (allFin 48).any (fun c => s.crossStands c .dangerous) || s.out.trip

/-- The effects of an accepted RESTART (R174). Its entries are cleared before the entry to STARTUP_CHECK (DESIGN CHOICE,
notes/assumptions/74.md). -/
def State.restartCabinet (s : State) : State :=
  let s1 := s.onSup fun u => { u.endRecovery with attempts := 0, probation := 0 }
  let s2 := (s1.clearFault .recoveryLockout .nothing).clearAbsent
  s2.enterStartupCheck s2.scheduledExit

/-- RESTART (R174). -/
def serveRestart (tag : Byte) (body : List Byte) (s : State) : State :=
  if body ≠ [] then s.refuse tag 0x31#8 .badLength
  else if (s.sup.mode ≠ .flash ∧ s.sup.mode ≠ .dark) ∨ s.waitingSupply = true then s.refuse tag 0x31#8 .wrongMode
  else if s.restartRefused then s.refuse tag 0x31#8 .conditionPresent
  else (s.restartCabinet).reply tag 0x31#8 .ok []

/-! ### The fault table (R180 to R182) -/

/-- The kind of a code of the fault entry record (12.6). -/
def FaultKind.ofCode : Nat → Option FaultKind
  | 1 => some .conflict | 2 => some .crossDangerous | 3 => some .relayFailToOpen | 4 => some .foreignVoltage
  | 5 => some .redDeficient | 6 => some .supplyContactor | 7 => some .relayFailToClose | 8 => some .relayWear
  | 9 => some .lampPartial | 10 => some .lampFailed | 11 => some .lampOvercurrent | 12 => some .circuitOpen
  | 13 => some .earthLeak | 14 => some .crossNuisance | 15 => some .testStarved | 16 => some .detectorStuckOn
  | 17 => some .detectorStuckOff | 18 => some .priorityOverstay | 19 => some .timeInvalid | 20 => some .planUndefined
  | 21 => some .supplyLoss | 22 => some .linkBreak | 23 => some .recoveryLockout | _ => none

/-- The type of subject a kind takes (section 10.1), as its code of 12.6. -/
def FaultKind.subjectType : FaultKind → Nat
  | .conflict => 3
  | .redDeficient => 2
  | .testStarved => 5
  | .detectorStuckOn | .detectorStuckOff | .priorityOverstay => 4
  | .supplyContactor | .timeInvalid | .planUndefined | .supplyLoss | .linkBreak | .recoveryLockout => 0
  | _ => 1

/-- A group pair with its lower group first (R175). -/
def orderedPair (i j : Gid) : Subject := if i ≤ j then .pair i j else .pair j i

/-- The subject of bytes 1 to 3 of the record, in the range its type allows (R180, 12.6). -/
def Subject.ofBytes (t hi lo : Nat) : Option Subject :=
  match t with
  | 0 => if hi = 0 ∧ lo = 0 then some .nothing else none
  | 1 => if hi = 0 then (member 48 lo).map .channel else none
  | 2 => if hi = 0 then (member 16 lo).map .group else none
  | 3 =>
    match member 16 hi, member 16 lo with
    | some i, some j => if i = j then none else some (orderedPair i j)
    | _, _ => none
  | 4 => if hi = 0 then (member 32 lo).map .input else none
  | 5 => if hi = 0 then (member 64 lo).map .entry else none
  | _ => none

/-- The key of a FAULT_ACK body, where it is in range (R180). -/
def parseKey (b : List Byte) : Option (FaultKind × Subject) :=
  match FaultKind.ofCode (byteAt b 0) with
  | none => none
  | some k =>
    if byteAt b 1 = k.subjectType then (Subject.ofBytes (byteAt b 1) (byteAt b 2) (byteAt b 3)).map fun x => (k, x)
    else none

/-- The entries that a test picks out become acknowledged (R180). -/
def Flt.acknowledge (f : Flt) (p : FaultEntry → Bool) : Flt :=
  { f with entries := f.entries.map fun e => if p e then { e with acked := true } else e }

/-- FAULT_ACK (R180). A body of one byte other than 0xFF is a wrong length (DESIGN CHOICE, notes/assumptions/19.md). -/
def serveFaultAck (tag : Byte) (body : List Byte) (s : State) : State :=
  if body = [0xFF#8] then (s.onFlt fun f => f.acknowledge fun _ => true).reply tag 0x61#8 .ok []
  else if body.length ≠ 4 then s.refuse tag 0x61#8 .badLength
  else
    match parseKey body with
    | none => s.refuse tag 0x61#8 .outOfRange
    | some (k, x) =>
      if s.flt.entries.any (fun e => e.hasKey k x) then
        (s.onFlt fun f => f.acknowledge fun e => e.hasKey k x).reply tag 0x61#8 .ok []
      else s.refuse tag 0x61#8 .outOfRange

/-- The purge: CLEARED and acknowledged entries leave, and a removal clears the overflow indication (R181). -/
def Flt.purge (f : Flt) : Flt :=
  let kept := f.entries.filter fun e => e.active || !e.acked
  { f with entries := kept, overflow := f.overflow && kept.length == f.entries.length }

/-- FAULT_PURGE (R181). -/
def serveFaultPurge (tag : Byte) (body : List Byte) (s : State) : State :=
  if body ≠ [] then s.refuse tag 0x62#8 .badLength
  else (s.onFlt Flt.purge).reply tag 0x62#8 .ok (u8 (s.flt.entries.length - s.flt.purge.entries.length))

/-- ATTENTION_READ: the pending set is answered and emptied, and a running pulse ends (R182, R183). The summary of the
reply is formed after the set is emptied, so its attention flag is clear (DESIGN CHOICE, notes/assumptions/49.md). -/
def serveAttentionRead (tag : Byte) (body : List Byte) (s : State) : State :=
  if body ≠ [] then s.refuse tag 0x63#8 .badLength
  else
    (s.onFlt fun f => { f with pendingSet := PendingSet.empty, pulse := none }).reply tag 0x63#8 .ok
      (u8 s.flt.pendingSet.code ++ u8 s.sup.mode.code)

/-! ### The meanings -/

/-- CLOCK_SET (R79). -/
def execClockSet (tag : Byte) (body : List Byte) (s : State) : Host.Outcome State Fault Refusal :=
  .next (s.direct tag body (serveClockSet tag body))

/-- CLOCK_TRIM (R77). -/
def execClockTrim (tag : Byte) (body : List Byte) (s : State) : Host.Outcome State Fault Refusal :=
  .next (s.direct tag body (serveClockTrim tag body))

/-- START (R172). It evaluates before the entry to STARTUP_CHECK (DESIGN CHOICE, notes/assumptions/74.md). -/
def execStart (tag : Byte) (body : List Byte) (s : State) : Host.Outcome State Fault Refusal :=
  .next (s.direct tag body (serveStart tag body))

/-- RESTART (R174). -/
def execRestart (tag : Byte) (body : List Byte) (s : State) : Host.Outcome State Fault Refusal :=
  .next (s.direct tag body (serveRestart tag body))

/-- MODE_SET (R173). -/
def execModeSet (tag : Byte) (body : List Byte) (s : State) : Host.Outcome State Fault Refusal :=
  .next (s.direct tag body (serveModeSet tag body))

/-- PLAN_FORCE (R84). -/
def execPlanForce (tag : Byte) (body : List Byte) (s : State) : Host.Outcome State Fault Refusal :=
  .next (s.direct tag body (servePlanForce tag body))

/-- PLAN_RELEASE (R84). -/
def execPlanRelease (tag : Byte) (body : List Byte) (s : State) : Host.Outcome State Fault Refusal :=
  .next (s.direct tag body (servePlanRelease tag body))

/-- DEMAND_PLACE (R22). -/
def execDemandPlace (tag : Byte) (body : List Byte) (s : State) : Host.Outcome State Fault Refusal :=
  .next (s.direct tag body (serveDemandPlace tag body))

/-- MAINT_UPDATE (R131, R132). -/
def execMaintUpdate (tag : Byte) (body : List Byte) (s : State) : Host.Outcome State Fault Refusal :=
  .next (s.direct tag body (serveMaintUpdate tag body))

/-- LAMP_RELEARN (R133). -/
def execLampRelearn (tag : Byte) (body : List Byte) (s : State) : Host.Outcome State Fault Refusal :=
  .next (s.direct tag body (serveLampRelearn tag body))

/-- FAULT_ACK (R180). -/
def execFaultAck (tag : Byte) (body : List Byte) (s : State) : Host.Outcome State Fault Refusal :=
  .next (s.direct tag body (serveFaultAck tag body))

/-- FAULT_PURGE (R181). -/
def execFaultPurge (tag : Byte) (body : List Byte) (s : State) : Host.Outcome State Fault Refusal :=
  .next (s.direct tag body (serveFaultPurge tag body))

/-- ATTENTION_READ (R182). -/
def execAttentionRead (tag : Byte) (body : List Byte) (s : State) : Host.Outcome State Fault Refusal :=
  .next (s.direct tag body (serveAttentionRead tag body))

end Sys2Proof.Machine
end

