-- ==== Sys2Proof/Machine/Testing.lean ====
section
/-! DEFINITION. The Cable Tester's steps (08_cable_testing.md): sweeps, the choice and the phases of a probe, the
classification and what it does, the urgent queue and the probe on request. -/

namespace Sys2Proof.Machine

/-! ### Sweeps (R148 to R150) -/

/-- Every done mark becomes no. -/
def Cbt.clearDone (b : Cbt) : Cbt := { b with results := b.results.map fun r => { r with done := false } }

/-- A sweep begins (R148, R150). -/
def Cbt.beginSweep (b : Cbt) : Cbt :=
  { b.clearDone with
    sweepTime := 0, walk := 1, deferred := [], choice := true, sweepNext := false, uncounted := false }

/-- SWEEP_START with its period (R148): a sweep that the new period finds at its end, ends at the next tenth tick. -/
def Cbt.startSweeping (b : Cbt) (period : Nat) : Cbt :=
  if b.period.isSome then { b with period := some period, sweepNext := decide (period * 600 ≤ b.sweepTime) } else { b.beginSweep with period := some period }

/-- SWEEP_STOP (R148). -/
def Cbt.stopSweeping (b : Cbt) : Cbt :=
  if b.period.isSome then
    { b.clearDone with
      period := none, deferred := [], urgent := [], walk := 1, choice := false, sweepNext := false, uncounted := false }
  else b

/-- SWEEP_START (R148). -/
def serveSweepStart (tag : Byte) (body : List Byte) (s : State) : State :=
  if body.length ≠ 2 then s.refuse tag 0x40#8 .badLength
  else
    let p := clamped 1 1440 (wordAt body 0)
    (s.onCbt fun b => b.startSweeping p.1).reply tag 0x40#8 (if p.2 then .okClamped else .ok) []

/-- SWEEP_STOP (R148). -/
def serveSweepStop (tag : Byte) (body : List Byte) (s : State) : State :=
  if body ≠ [] then s.refuse tag 0x41#8 .badLength else (s.onCbt Cbt.stopSweeping).reply tag 0x41#8 .ok []

/-- The end of a sweep is due at this tick (R150), but for a sweep that a new period found at its end since the tick
(R148). -/
def State.sweepEndDue (s : State) : Bool :=
  match s.cbt.period with
  | some p => s.seq.tickOpen && !s.cbt.sweepNext && decide (p * 600 ≤ s.cbt.sweepTime)
  | none => false

/-- One used entry counted at the end of a sweep: a working probe's entry waits for the probe's end (R150). An entry that
is done this sweep and in progress again counts as done (DESIGN CHOICE, notes/assumptions/58.md), and one whose abandoned
probe is still in RELEASING is counted at once, since its probe has ended (DESIGN CHOICE, notes/assumptions/72.md). -/
def State.countEntry (s : State) (e : PEnt) : State :=
  if !s.probeUsed e || (s.result e).done then s
  else if s.cbt.phase.working && (s.cbt.probe.map (·.entry)) == some e then
    s.onCbt fun b => { b with probe := b.probe.map fun p => { p with sweepEnded := true } }
  else s.countStarved e

/-- A sweep ends and the next begins (R150); a sweep that a structural commit began anew is not counted (R154). The entries
are counted in ascending number (DESIGN CHOICE, notes/assumptions/75.md). -/
def State.endSweep (s : State) : State :=
  (if s.cbt.uncounted then s else s.forAll State.countEntry).onCbt Cbt.beginSweep

/-! ### The choice of a probe (R149) -/

/-- The walk from a position, at most `fuel` entries of it: the entries it defers, the position it reaches and the
entry it starts (R149). -/
def State.walkFrom (s : State) : Nat → Nat → List PEnt → List PEnt × Nat × Option PEnt
  | 0, pos, deferred => (deferred, pos, none)
  | fuel + 1, pos, deferred =>
    match member 64 pos with
    | none => (deferred, pos, none)
    | some e =>
      if !s.probeUsed e || (s.result e).done || deferred.contains e then s.walkFrom fuel (pos + 1) deferred
      else if s.canStart e then (deferred, pos + 1, some e)
      else s.walkFrom fuel (pos + 1) (deferred ++ [e])

/-- The walk and then the deferred list (R149 steps 2 and 3). -/
def State.walkOn (s : State) : State :=
  let w := s.walkFrom 64 s.cbt.walk s.cbt.deferred
  let s1 := s.onCbt fun b => { b with deferred := w.1, walk := w.2.1 }
  match w.2.2 with
  | some e => s1.startProbe e .sweep
  | none =>
    match s1.cbt.deferred.find? s1.canStart with
    | some e => s1.startProbe e .sweep
    | none => s1

/-- The choice of the next probe (R149). -/
def State.chooseProbe (s : State) : State :=
  let s1 := s.onCbt fun b => { b with choice := false }
  match s1.cbt.urgent.find? s1.canStart with
  | some e => s1.startProbe e .urgent
  | none => s1.walkOn

/-- CBT may choose a probe now (R149). -/
def State.choiceDue (s : State) : Bool := s.cbt.choice && s.cbt.period.isSome && s.busFree

/-- PROBE_RUN (R152): a probe that starts has its reply deferred. -/
def serveProbeRun (tag : Byte) (body : List Byte) (s : State) : State :=
  match body with
  | [b] =>
    match member 64 b.toNat with
    | none => s.refuse tag 0x42#8 .outOfRange
    | some e =>
      if s.probeUsed e = false then s.refuse tag 0x42#8 .outOfRange
      else if s.busFree = false then s.refuse tag 0x42#8 .busy
      else if s.canStart e then s.startProbe e (.request tag)
      else s.refuse tag 0x42#8 .notTestable
  | _ => s.refuse tag 0x42#8 .badLength

/-! ### The phases (R141) -/

/-- The length of MEASURING in ms (R141). -/
def ProbeKind.measuring : ProbeKind → Nat
  | .loop => 120
  | .insulation => 400
  | .coupling => 250

/-- CLOSING has lasted 10 ms (R141). -/
def State.closingDue (s : State) : Bool := s.cbt.phase == BusPhase.closing && decide (10 ≤ s.cbt.phaseTime)

/-- RELEASING has lasted 20 ms (R141). -/
def State.releasingDue (s : State) : Bool := s.cbt.phase == BusPhase.releasing && decide (20 ≤ s.cbt.phaseTime)

/-- MEASURING has lasted its time (R141). -/
def State.measuringDue (s : State) : Bool :=
  s.cbt.phase == BusPhase.measuring &&
    match s.cbt.probe.bind fun p => (s.probeRec p.entry).kind with
    | some k => decide (k.measuring ≤ s.cbt.phaseTime)
    | none => false

/-! ### Classification (R142) -/

/-- A measurement fails (R142). -/
def ProbeKind.fails (k : ProbeKind) (m x : Nat) : Bool :=
  match k with
  | .loop => decide (x < m)
  | _ => decide (m < x)

/-- A measurement that does not fail is marginal (R142). -/
def ProbeKind.marginal (k : ProbeKind) (m x : Nat) : Bool :=
  match k with
  | .loop => decide (x < m * 2)
  | _ => decide (m < x * 2)

/-- The result of a measurement after a number of consecutive failures (R142). -/
def classify (k : ProbeKind) (m x failures : Nat) : ProbeResult :=
  if k.fails m x then (if failures = 0 then .suspect else .fault)
  else if k.marginal m x then .passMarginal
  else .pass

/-- The standing result of a classification (R142). -/
def ProbeResult.standing : ProbeResult → Standing
  | .pass | .passMarginal => .pass
  | .suspect => .suspect
  | .fault => .fault
  | .abandoned => .none

/-- The result record after a classification (R138, R142, R147). -/
def ResultRec.classified (r : ResultRec) (res : ProbeResult) (cross : CrossClass) (m : Nat) (now : Stamp)
    (sweeping : Bool) : ResultRec :=
  { standing := res.standing
    failures := if res.standing = .pass then 0 else min 255 (r.failures + 1)
    cross := cross
    last := some res
    measurement := some m
    time := some now
    starved := 0
    done := r.done || sweeping }

/-- The cross class of a COUPLING fault, on the running configuration (R147). -/
def State.crossClassOf (s : State) (x y : Ch) : CrossClass :=
  match (s.chanRec x).group, (s.chanRec y).group, (s.chanRec x).aspect, (s.chanRec y).aspect with
  | some g, some h, some .green, some .green => if s.conflicting g h then .dangerous else .nuisance
  | some g, some h, some .green, some .red => if g = h then .dangerous else .nuisance
  | some g, some h, some .red, some .green => if g = h then .dangerous else .nuisance
  | _, _, _, _ => .nuisance

/-- The cross class that a classification leaves (R138, R147). -/
def State.crossAfter (s : State) (p : ProbeRec) (res : ProbeResult) : CrossClass :=
  if p.kind = some .coupling ∧ res = .fault then s.crossClassOf p.subject (p.partner.getD p.subject) else .none

/-! ### Cable state (R144) -/

/-- The entries that involve a channel, in ascending order. -/
def State.entriesOf (s : State) (c : Ch) : List PEnt := (allFin 64).filter fun e => (s.probeRec e).involves c

/-- The conductor at the other end of a COUPLING entry. -/
def ProbeRec.other (p : ProbeRec) (c : Ch) : Ch := if p.subject = c then p.partner.getD c else p.subject

/-- The cable state of a channel (R144). -/
def State.cableStateOf (s : State) (c : Ch) : CableState :=
  let es := s.entriesOf c
  let stands (k : ProbeKind) (e : PEnt) : Bool :=
    (s.probeRec e).kind == some k && (s.result e).standing == Standing.fault
  match es.find? (stands .coupling) with
  | some e => .crossed ((s.probeRec e).other c)
  | none =>
    if es.any (stands .insulation) then .earthLeak
    else if es.any (stands .loop) then .opened
    else if es.any fun e => (s.result e).standing == Standing.suspect then .suspect
    else if es.any fun e => (s.result e).standing == Standing.pass then .sound
    else .untested

/-- A channel's cable state evaluated again (R144). -/
def State.refreshCable (s : State) (c : Ch) : State :=
  s.onCbt fun b => { b with cable := b.cable.put c (s.cableStateOf c) }

/-! ### What a result does (R145 to R147) -/

/-- A LOOP result at the Lamp Monitor (R145). -/
def State.loopResult (s : State) (c : Ch) (res : ProbeResult) : State :=
  match res with
  | .fault => s.loopOpen c
  | .pass | .passMarginal => s.loopPass c
  | _ => s

/-- An INSULATION entry of a channel stands at FAULT (R146). -/
def State.leakStands (s : State) (c : Ch) : Bool :=
  (allFin 64).any fun e =>
    (s.probeRec e).kind == some ProbeKind.insulation && (s.probeRec e).subject == c
      && (s.result e).standing == Standing.fault

/-- An INSULATION result (R146). -/
def State.leakResult (s : State) (c : Ch) (res : ProbeResult) : State :=
  if res = .fault then s.report .earthLeak (.channel c)
  else if s.leakStands c then s
  else s.clearFault .earthLeak (.channel c)

/-- The fault kind of a cross class (R147). -/
def CrossClass.kind : CrossClass → Option FaultKind
  | .none => Option.none
  | .dangerous => some .crossDangerous
  | .nuisance => some .crossNuisance

/-- A COUPLING result (R147): `old` is the cross class the entry had. -/
def State.crossResult (s : State) (c : Ch) (res : ProbeResult) (old new : CrossClass) : State :=
  if res = .fault then
    match new.kind with
    | some k => if new = .dangerous then (s.report k (.channel c)).hardFault .cross else s.report k (.channel c)
    | none => s
  else
    match old.kind with
    | some k => if s.crossStands c old then s else s.clearFault k (.channel c)
    | none => s

/-- What a classification does beyond the records (R145 to R147). -/
def State.actOnResult (s : State) (p : ProbeRec) (res : ProbeResult) (old new : CrossClass) : State :=
  match p.kind with
  | some .loop => s.loopResult p.subject res
  | some .insulation => s.leakResult p.subject res
  | some .coupling => s.crossResult p.subject res old new
  | none => s

/-- The measurement of the probe in progress is classified (R141, R142, R152). TEST_STARVED is made CLEARED before the
result acts (DESIGN CHOICE, notes/assumptions/74.md). -/
def State.classifyProbe (s : State) (run : ProbeRun) (k : ProbeKind) (m : Nat) : State :=
  let p := s.probeRec run.entry
  let old := s.result run.entry
  let res := classify k m p.limit old.failures
  let new := s.crossAfter p res
  let s1 := s.onResult run.entry fun r => r.classified res new m s.stamp s.cbt.period.isSome
  let s2 := s1.onCbt fun b =>
    { b with phase := .releasing, phaseTime := 0, probe := some { run with sweepEnded := false } }
  let s3 := p.channels.foldl State.refreshCable (s2.clearFault .testStarved (.entry run.entry))
  (s3.actOnResult p res old.cross new).answerProbe run.origin res (some m)

/-! ### The urgent queue (R134, R151) -/

/-- The leak time of a channel has reached 1000 ms and has not yet made its request (R134). -/
def State.leakDue (s : State) (c : Ch) : Bool := (s.lamp c).leak == some 1000 && !(s.lamp c).leakAsked

/-- The channel's INSULATION entry: the lowest-numbered (R134). -/
def State.insulationEntry (s : State) (c : Ch) : Option PEnt :=
  firstFin fun e : PEnt => (s.probeRec e).kind == some ProbeKind.insulation && (s.probeRec e).subject == c

/-- The urgent queue takes an entry (R151). -/
def Cbt.takeUrgent (b : Cbt) (e : PEnt) : Cbt :=
  if b.period.isSome && decide (b.urgent.length < Config.urgentCapacity) && !b.urgent.contains e
      && (b.probe.map (·.entry)) != some e then
    { b with urgent := b.urgent ++ [e] }
  else b

/-- The leak request of a channel (R134, R151). -/
def State.askLeak (s : State) (c : Ch) : State :=
  let s1 := s.onLamp c fun l => { l with leakAsked := true }
  match s1.insulationEntry c with
  | some e => s1.onCbt fun b => b.takeUrgent e
  | none => s1

/-! ### The meanings -/

/-- SWEEP_START (R148). -/
def execSweepStart (tag : Byte) (body : List Byte) (s : State) : Host.Outcome State Fault Refusal :=
  .next (s.direct tag body (serveSweepStart tag body))

/-- SWEEP_STOP (R148). -/
def execSweepStop (tag : Byte) (body : List Byte) (s : State) : Host.Outcome State Fault Refusal :=
  .next (s.direct tag body (serveSweepStop tag body))

/-- PROBE_RUN (R152). -/
def execProbeRun (tag : Byte) (body : List Byte) (s : State) : Host.Outcome State Fault Refusal :=
  .next (s.direct tag body (serveProbeRun tag body))

/-- LEAK_REQUEST (R134, R151). -/
def execLeakRequest (c : Ch) (s : State) : Host.Outcome State Fault Refusal :=
  .next (if s.leakDue c then State.finish s (s.askLeak c) else s)

/-- PROBE_START (R149, R141). -/
def execProbeStart (s : State) : Host.Outcome State Fault Refusal :=
  .next (if s.choiceDue then State.finish s s.chooseProbe else s)

/-- PROBE_CLOSING_END (R141). -/
def execProbeClosingEnd (s : State) : Host.Outcome State Fault Refusal :=
  .next (if s.closingDue then s.onCbt fun b => { b with phase := .measuring, phaseTime := 0 } else s)

/-- PROBE_CLASSIFY (R141, R142, R145 to R147). -/
def execProbeClassify (measurement : BitVec 16) (s : State) : Host.Outcome State Fault Refusal :=
  .next
    (match s.cbt.probe with
    | some run =>
      match (s.probeRec run.entry).kind with
      | some k => if s.measuringDue then State.finish s (s.classifyProbe run k measurement.toNat) else s
      | none => s
    | none => s)

/-- PROBE_RELEASE_END (R141, R113). -/
def execProbeReleaseEnd (s : State) : Host.Outcome State Fault Refusal :=
  .next (if s.releasingDue then State.finish s s.openBus else s)

/-- SWEEP_END (R150). -/
def execSweepEnd (s : State) : Host.Outcome State Fault Refusal :=
  .next (if s.sweepEndDue then State.finish s s.endSweep else s)

end Sys2Proof.Machine
end

