-- ==== Sys2Proof/Machine/Requests.lean ====
section
/-! DEFINITION. REQUEST_TAKEN: the oldest buffered frame is taken and handed to its owner (R194, R197, 12.5). -/

namespace Sys2Proof.Machine

/-- The request catalogue (12.5): a code not in it is answered UNKNOWN_REQUEST (R197). -/
def serveRequest (tag code : Byte) (body : List Byte) (s : State) : State :=
  match code.toNat with
  | 0x01 => serveIdentify tag body s
  | 0x02 => serveStatus tag body s
  | 0x10 => serveEditOpen tag body s
  | 0x11 => serveEditWrite tag body s
  | 0x12 => serveEditRead tag body s
  | 0x13 => serveEditCommit tag body s
  | 0x14 => serveEditDiscard tag body s
  | 0x15 => serveConfigRead tag body s
  | 0x20 => serveClockSet tag body s
  | 0x21 => serveClockRead tag body s
  | 0x22 => serveClockTrim tag body s
  | 0x30 => serveStart tag body s
  | 0x31 => serveRestart tag body s
  | 0x32 => serveModeSet tag body s
  | 0x33 => servePlanForce tag body s
  | 0x34 => servePlanRelease tag body s
  | 0x35 => serveDemandPlace tag body s
  | 0x36 => serveMaintUpdate tag body s
  | 0x37 => serveLampRelearn tag body s
  | 0x40 => serveSweepStart tag body s
  | 0x41 => serveSweepStop tag body s
  | 0x42 => serveProbeRun tag body s
  | 0x50 => serveGroupRead tag body s
  | 0x51 => serveChannelRead tag body s
  | 0x52 => serveDetectorRead tag body s
  | 0x53 => serveCableRead tag body s
  | 0x60 => serveFaultRead tag body s
  | 0x61 => serveFaultAck tag body s
  | 0x62 => serveFaultPurge tag body s
  | 0x63 => serveAttentionRead tag body s
  | 0x64 => serveNoticeEnable tag body s
  | _ => s.refuse tag code .unknownRequest

/-- The oldest buffered frame is taken: a slot is reserved and the request is handed to its owner (R194). -/
def State.takeOldest (s : State) : State :=
  match s.lnk.input with
  | f :: rest =>
    if s.lnk.freeSlots = 0 then s
    else
      State.finish s (serveRequest f.tag f.code f.body ((s.onLnk fun l => { l with input := rest }).reserve))
  | [] => s

/-- REQUEST_TAKEN (R194, R197). -/
def execRequestTaken (s : State) : Host.Outcome State Fault Refusal := .next s.takeOldest

end Sys2Proof.Machine
end

