-- ==== Sys2Proof/Machine/Sequencing.lean ====
section
/-! DEFINITION. The Stage Sequencer's steps at a tenth tick (02_the_stage_sequencer.md): stage changes, colour ends,
late joins, the isolated ends and the colours of the cabinet modes. A step whose condition does not hold changes
nothing (notes/assumptions/4.md). -/

namespace Sys2Proof.Machine

/-! ### The stage change (R26 to R29) -/

/-- The start conditions hold at this tick (R26). -/
def State.changeStartDue (s : State) : Bool := s.normalTick && s.startReady

/-- The stage change of the end due starts (R26). -/
def State.startDueChange (s : State) : State :=
  match s.seq.endDue with
  | some e => s.startChange e
  | none => s

/-- A gaining traffic group's RED_AMBER begins at this tick (R28). A group whose red-amber is 0 goes from RED to GREEN at
g_j without entering RED_AMBER, here and in a late join (R32; DESIGN CHOICE, notes/assumptions/64.md). -/
def State.redAmberDue (s : State) (g : Gid) : Bool :=
  s.normalTick && s.kind g == some GroupKind.traffic && decide (0 < s.redAmberOf g)
    && (s.group g).colour == Colour.red
    && match s.seq.gainingInstant g with
      | some i => decide (i ≤ s.seq.tick + s.redAmberOf g)
      | none => false

/-- A gaining group enters RED_AMBER, or is dropped (R28, R31). -/
def State.startRedAmber (s : State) (g : Gid) : State :=
  if (s.group g).inhibited then s.dropIfInhibited g else s.setColour g .redAmber

/-- The colour from which a group of a kind enters GREEN (R28). -/
def State.beforeGreen (s : State) (g : Gid) : Bool :=
  if s.kind g = some .traffic ∧ 0 < s.redAmberOf g then (s.group g).colour == Colour.redAmber
  else (s.group g).colour.waiting || (s.group g).colour == Colour.redAmber

/-- A group's green instant is reached: of a gaining group, or of a joiner of the running stage (R28, R32). -/
def State.greenDue (s : State) (g : Gid) : Bool :=
  s.normalTick &&
    match s.seq.gainingInstant g with
    | some i => decide (i ≤ s.seq.tick) && s.beforeGreen g
    | none => (s.group g).colour == Colour.redAmber && decide ((s.group g).redAmberInForce ≤ (s.group g).timeIn)

/-- A group enters GREEN, or is dropped (R28, R31). -/
def State.takeGreen (s : State) (g : Gid) : State :=
  if (s.group g).inhibited then s.dropIfInhibited g else s.enterGreen g

/-- The modes in which ambers and clearances run (R27, R45). -/
def State.clearingRuns (s : State) : Bool :=
  s.seq.tickOpen && (s.sup.mode == Mode.normal || s.sup.mode == Mode.clearing)

/-- A group's amber has lasted its time in force (R27). -/
def State.amberDue (s : State) (g : Gid) : Bool :=
  s.clearingRuns && (s.group g).colour == Colour.amber && decide ((s.group g).amberInForce ≤ (s.group g).timeIn)

/-- A group's clearance has lasted its time in force (R27). -/
def State.clearanceDue (s : State) (g : Gid) : Bool :=
  s.clearingRuns && (s.group g).colour == Colour.clear && decide ((s.group g).clearanceInForce ≤ (s.group g).timeIn)

/-- The change in progress completes at this tick (R29). -/
def State.completeDue (s : State) : Bool := s.normalTick && s.changeComplete

/-- The change into a stage is one into the stage of the current entry (R57). -/
def State.entersCurrentEntry (s : State) (target : Stg) : Bool :=
  ((s.seq.entry.bind s.activePlan.entry?).map (·.stage)) == some target

/-- The change into a stage is one into the stage of the decision entry (R68). -/
def State.entersDecisionEntry (s : State) (target : Stg) : Bool :=
  (s.decisionEntry.map (·.stage)) == some target

/-- The completion (R29, R57, R39). The allowance is computed afresh where the change is into the stage of the current
entry (R57), or into that of the decision entry: a return from service in the middle of the change names entry k while the
current entry becomes k only at the t0 of its end due, and R68 computes the allowance for k at this completion; for entry 1
of a plan taken in the middle of the change the same is read (DEDUCED, notes/assumptions/21.md). Where a pass-over of this
change moved both on to another stage, the allowance computed there stands (R57). -/
def State.completeChange (s : State) : State :=
  match s.seq.change with
  | some ch =>
    let s1 := s.onSeq fun q =>
      { q with running := some ch.target, change := none, greenStart := q.pos.getD 0, stageMin := ch.minMax }
    let s2 := if s1.activePlan.coordinated && (s1.entersCurrentEntry ch.target || s1.entersDecisionEntry ch.target) then
        s1.refreshAllowance
      else s1
    s2.serveHead.startMaxTimer
  | none => s

/-- The stage a dropped group may join: the target of the change in progress, or the running stage (R32). -/
def Seq.joinable (q : Seq) : Option Stg :=
  match q.change with
  | some ch => some ch.target
  | none => q.running

/-- A dropped group's green instant. -/
def Seq.droppedInstant (q : Seq) (g : Gid) : Option Nat := (q.dropped.find? fun p => p.1 == g).map (·.2)

/-- A late join begins at this tick (R32). -/
def State.joinDue (s : State) (g : Gid) : Bool :=
  s.normalTick && s.seq.endDue.isNone && !(s.group g).inhibited && (s.group g).colour.waiting
    && (match s.seq.joinable with | some b => (s.stage b).contains g | none => false)
    && match s.seq.droppedInstant g with
      | some i => decide (i ≤ s.seq.tick)
      | none => false

/-- A late join (R32): the green instant of the join is this tick plus the red-amber, and the computed g_j is kept for
the dropped list (R31; notes/assumptions/31.md). -/
def State.joinLate (s : State) (g : Gid) : State :=
  let s1 := s.onSeq fun q => { q with dropped := q.dropped.filter fun p => p.1 != g }
  let ra := s.redAmberOf g
  if 0 < ra then
    (s1.setColour g .redAmber).onSeq fun q =>
      { q with
        change := q.change.map fun ch => { ch with gaining := ch.gaining ++ [(g, q.tick + ra)] }
        joined := q.joined ++ [(g, (s.seq.droppedInstant g).getD q.tick)] }
  else s1.enterGreen g

/-! ### Isolated ends (R36) -/

/-- A gap-out at this tick (R36). -/
def State.gapOutDue (s : State) : Bool :=
  s.normalTick && s.selects && s.seq.gap == 0 && s.noRedAmber &&
    match s.selection with
    | some (b, _) => s.minimumsDone (s.stage b)
    | none => false

/-- The end of the running stage becomes due to the selection (R36); with no candidate the maximum timer goes idle
(R35). -/
def State.endToSelection (s : State) : State :=
  match s.selection with
  | some (b, k) => s.onSeq fun q => { q with endDue := some ⟨b, some k, none⟩ }
  | none => s.onSeq fun q => { q with maxTimer := none }

/-- The maximum timer reaches its limit at this tick (R35, R36). -/
def State.maxOutDue (s : State) : Bool :=
  s.normalTick && s.selects && match s.seq.maxTimer with
    | some t => decide (s.seq.maxLimit ≤ t)
    | none => false

/-! ### The colours of the modes (R43, R45) -/

/-- The colours of the cabinet mode are still to be taken, and a tick is open (R43, R25). -/
def State.coloursDue (s : State) : Bool := s.seq.tickOpen && s.seq.coloursDue

/-- The colours of STARTUP_FLASH, FLASH and STARTUP_RED (R43). -/
def State.applyColours (s : State) : State :=
  let s1 := s.onSeq fun q => { q with coloursDue := false }
  match s.sup.mode with
  | .startupFlash | .flash => s1.setAllColours flashColour
  | .startupRed => s1.setAllColours restColour
  | _ => s1

/-- The greens are to be ended at this tick of CLEARING (R45, R161). -/
def State.greensEndDue (s : State) : Bool :=
  s.seq.tickOpen && s.seq.clearingDue && s.sup.mode == Mode.clearing

/-- One group at the first tick of CLEARING (R45). -/
def State.endGreen (s : State) (g : Gid) : State :=
  match s.kind g, (s.group g).colour with
  | some k, .green => s.putColour g (endColour k)
  | some _, .redAmber => s.putColour g .red
  | _, _ => s

/-- The greens end without their minimums (R45). -/
def State.endGreens (s : State) : State :=
  (((s.onSeq fun q => { q with clearingDue := false }).forAll State.endGreen).syncCommands).clearingCheck

/-! ### The meanings -/

/-- STAGE_CHANGE_START (R26, R27, R28, R58). -/
def execStageChangeStart (s : State) : Host.Outcome State Fault Refusal :=
  .next (if s.changeStartDue then State.finish s s.startDueChange else s)

/-- RED_AMBER_START (R28, R31). -/
def execRedAmberStart (g : Gid) (s : State) : Host.Outcome State Fault Refusal :=
  .next (if s.redAmberDue g then State.finish s (s.startRedAmber g) else s)

/-- GREEN_INSTANT (R28, R31, R32). -/
def execGreenInstant (g : Gid) (s : State) : Host.Outcome State Fault Refusal :=
  .next (if s.greenDue g then State.finish s (s.takeGreen g) else s)

/-- AMBER_END (R27, R161). -/
def execAmberEnd (g : Gid) (s : State) : Host.Outcome State Fault Refusal :=
  .next (if s.amberDue g then State.finish s (s.setColour g .red).clearingCheck else s)

/-- CLEARANCE_END (R27, R161). -/
def execClearanceEnd (g : Gid) (s : State) : Host.Outcome State Fault Refusal :=
  .next (if s.clearanceDue g then State.finish s (s.setColour g .red).clearingCheck else s)

/-- STAGE_CHANGE_COMPLETE (R29). -/
def execStageChangeComplete (s : State) : Host.Outcome State Fault Refusal :=
  .next (if s.completeDue then State.finish s s.completeChange else s)

/-- LATE_JOIN (R32). -/
def execLateJoin (g : Gid) (s : State) : Host.Outcome State Fault Refusal :=
  .next (if s.joinDue g then State.finish s (s.joinLate g) else s)

/-- GAP_OUT (R36). -/
def execGapOut (s : State) : Host.Outcome State Fault Refusal :=
  .next (if s.gapOutDue then s.endToSelection else s)

/-- MAX_OUT (R36, R35). -/
def execMaxOut (s : State) : Host.Outcome State Fault Refusal :=
  .next (if s.maxOutDue then s.endToSelection else s)

/-- MODE_COLOURS_APPLY (R43). -/
def execModeColoursApply (s : State) : Host.Outcome State Fault Refusal :=
  .next (if s.coloursDue then State.finish s s.applyColours else s)

/-- CLEARING_GREENS_END (R45, R161). -/
def execClearingGreensEnd (s : State) : Host.Outcome State Fault Refusal :=
  .next (if s.greensEndDue then State.finish s s.endGreens else s)

end Sys2Proof.Machine
end

