-- ==== Sys2Proof/Machine/Coordination.lean ====
section
/-! DEFINITION. The Plan Runner's steps at a tenth tick (03_timing_plans_and_coordination.md): ends of entries, skip
points, holds, cycle starts and change points. -/

namespace Sys2Proof.Machine

/-- The Plan Runner may take a decision: a tick is open in NORMAL, the plan is coordinated, no request is served and no
hold is in progress (R51, R52, R57). -/
def State.decides (s : State) : Bool :=
  s.normalTick && s.activePlan.coordinated && s.seq.priority.isEmpty && s.seq.hold.isNone

/-! ### The end of an entry (R51, R60) -/

/-- L has reached E_d at this tick (R51). -/
def State.endOfEntryDue (s : State) : Bool := s.decides && s.seq.reached

/-- A hold begins where the DWELL entry's end position is reached (R60). -/
def State.holdBegins (s : State) : Bool :=
  decide (0 < s.seq.holdBudget) && s.seq.entry == s.seq.decision && s.seq.change.isNone && s.seq.endDue.isNone
    && match s.decisionEntry with
      | some e => e.dwell && s.seq.running == some e.stage
      | none => false

/-- L at E_d: a hold begins, or the decision is taken (R51, R60). -/
def State.endOfEntry (s : State) : State :=
  if s.holdBegins then
    s.onSeq fun q => { q with hold := some q.holdBudget, holdBudget := 0, allowance := 0, reached := false }
  else s.takeDecision none

/-- The hold remaining has reached 0 (R60). -/
def State.holdEndDue (s : State) : Bool := s.normalTick && s.seq.hold == some 0

/-- The hold ends and the decision is taken (R60). -/
def State.endHold (s : State) : State := (s.onSeq fun q => { q with hold := none }).takeDecision none

/-! ### Early decisions (R52, R57) -/

/-- A coordinated gap-out at this tick (R52). -/
def State.coordinatedGapOutDue (s : State) : Bool :=
  s.decides && !s.seq.decided && s.seq.entry == s.seq.decision && s.seq.change.isNone && s.seq.endDue.isNone
    && s.seq.gap == 0 && s.noRedAmber
    && (match s.decisionEntry with
      | some e => e.gapOut && !(e.dwell && decide (0 < s.seq.holdBudget))
      | none => false)
    && match s.nextEntry with
      | some (_, n) => s.minimumsDone (s.stage n.stage) && s.decisionOn n.stage == Decision.endDue
      | none => false

/-- The skip point of d is reached, or lies behind L while its end position is still ahead in this cycle (R51, R57): where
an early decision for the last entry made d entry 1, and L stands in the last window, L comes to the skip point of d in
the next cycle. A cycle start is corrected first (R53). -/
def State.skipDue (s : State) : Bool :=
  s.decides && !s.seq.decided && !s.seq.reached && !s.seq.cycleStart && s.seq.change.isNone && decide (0 < s.seq.allowance)
    && match s.seq.pos, s.decisionEntry with
      | some l, some e => decide (l < e.endPos) && decide (e.endPos ≤ l + s.seq.allowance)
      | _, _ => false

/-- The decision taken at a skip point (R57, R58). -/
def State.skipDecision (s : State) : State := s.takeDecision (s.decisionEntry.map (·.endPos))

/-! ### Cycle starts and change points (R50, R53, R63, R64) -/

/-- A cycle start of this tick has its correction still to be computed (R53). -/
def State.cycleStartDue (s : State) : Bool := s.normalTick && s.activePlan.coordinated && s.seq.cycleStart

/-- Something waits for a change point (R63). -/
def State.somethingPending (s : State) : Bool := s.cfg.pendingCommit.isSome || s.seq.pendingPlan.isSome

/-- The conditions of a change point of an isolated, undefined or absent plan (R63). -/
def State.settled (s : State) : Bool :=
  s.seq.change.isNone && s.seq.endDue.isNone && s.noRedAmber && s.minimumsDone []

/-- A change point at this tick (R63). -/
def State.changePointDue (s : State) : Bool :=
  s.normalTick &&
    (if s.activePlan.coordinated then s.seq.changePoint else s.somethingPending && s.settled)

/-- The pending plan taken where the cabinet is still in NORMAL (R65). -/
def State.takePending (s : State) : State :=
  match s.seq.pendingPlan with
  | some p => if s.sup.mode = .normal then s.takePlan p else s
  | none => s

/-- The change point: the pending commit, the evaluation on its records, and the pending plan (R63, R64, R65). -/
def State.passChangePoint (s : State) : State :=
  ((s.onSeq fun q => { q with changePoint := false }).applyPending).takePending

/-! ### The meanings -/

/-- END_OF_ENTRY_DECISION (R51, R60). -/
def execEndOfEntryDecision (s : State) : Host.Outcome State Fault Refusal :=
  .next (if s.endOfEntryDue then s.endOfEntry else s)

/-- HOLD_END (R60). -/
def execHoldEnd (s : State) : Host.Outcome State Fault Refusal := .next (if s.holdEndDue then s.endHold else s)

/-- COORDINATED_GAP_OUT (R52). -/
def execCoordinatedGapOut (s : State) : Host.Outcome State Fault Refusal :=
  .next (if s.coordinatedGapOutDue then s.takeDecision none else s)

/-- SKIP_POINT (R57). -/
def execSkipPoint (s : State) : Host.Outcome State Fault Refusal :=
  .next (if s.skipDue then s.skipDecision else s)

/-- CYCLE_START (R53 to R55). -/
def execCycleStart (s : State) : Host.Outcome State Fault Refusal :=
  .next (if s.cycleStartDue then s.correct else s)

/-- CHANGE_POINT (R63, R64, R65). -/
def execChangePoint (s : State) : Host.Outcome State Fault Refusal :=
  .next (if s.changePointDue then State.finish s s.passChangePoint else s)

end Sys2Proof.Machine
end

