-- ==== Sys2Proof/Machine/ClockSteps.lean ====
section
/-! DEFINITION. The sources of the tenth tick (04_calendar_clock_and_day_schedule.md, R73 to R77): zero-crossings, the
crystal and the loss of mains timing. Intervals between crossings are judged in whole milliseconds
(notes/assumptions/6.md). -/

namespace Sys2Proof.Machine

/-! ### Zero-crossings (R73, R169) -/

/-- The supply frequency of a setting, in cycles a second. -/
def MainsFreq.hertz : MainsFreq → Nat
  | .hz50 => 50
  | .hz60 => 60

/-- Counted crossings to a tenth tick (R73). -/
def MainsFreq.perTick : MainsFreq → Nat
  | .hz50 => 5
  | .hz60 => 6

/-- A crossing is counted: at least 80 % of the nominal period after the last counted one (R73). At a setting of 50 Hz
that counts the crossings of a 60 Hz supply as well; R73's remark that such a supply never completes the stability time
is not followed (notes/assumptions/6.md). -/
def Clk.counts (k : Clk) : Bool := decide (800 ≤ k.sinceCrossing * k.freq.hertz)

/-- A counted crossing comes later than 120 % of the nominal period after the last (R73). -/
def Clk.late (k : Clk) : Bool := decide (1200 < k.sinceCrossing * k.freq.hertz)

/-- A counted crossing at the clock (R73). -/
def Clk.countCrossing (k : Clk) : Clk :=
  { k with
    sinceCrossing := 0
    stability := if k.late then 0 else k.stability
    mainsCount := if k.source = .mains then k.mainsCount + 1 else k.mainsCount }

/-- The tick of the mains restarts the crystal divider (R73, R76). -/
def Clk.restartDivider (k : Clk) : Clk := { k with mainsCount := 0, divider := 0, pattern := 1, interval := 0 }

/-- A zero-crossing at the supply monitor (R169). -/
def Sup.seeCrossing (u : Sup) : Sup :=
  { u with supplyStable := if 50 ≤ u.supplyGap then 0 else u.supplyStable, supplyGap := 0, crossingSeen := true }

/-- A zero-crossing event (R73, R169). -/
def State.takeCrossing (s : State) : State :=
  let s1 := s.onSup Sup.seeCrossing
  if s.clk.counts then
    let s2 := s1.onClk Clk.countCrossing
    if s2.clk.source = .mains ∧ s2.clk.freq.perTick ≤ s2.clk.mainsCount then (s2.onClk Clk.restartDivider).tenthTick
    else s2
  else s1

/-! ### The crystal (R75 to R77) -/

/-- The divider length of the present tick: the one that ends an interval is adjusted by the trim (R76, R77). -/
def Clk.length (k : Clk) : Nat :=
  let n := Config.dividerLength k.pattern
  if k.interval = 99 then ((n : Int) - k.trim).toNat else n

/-- The divider has completed the length of the present tick. -/
def Clk.dividerDone (k : Clk) : Bool := decide (1000 * k.length ≤ k.divider)

/-- The divider, the pattern position and the interval count after a crystal tick (R76). -/
def Clk.nextTick (k : Clk) : Clk :=
  { k with
    divider := k.divider - 1000 * k.length
    pattern := k.pattern % 5 + 1
    interval := if k.interval = 99 then 0 else k.interval + 1 }

/-- The return to MAINS at a crystal tick (R75). -/
def State.returnToMains (s : State) : State :=
  if s.clk.preference = .mains ∧ s.clk.source = .crystal ∧ 2000 ≤ s.clk.stability then
    (s.onClk fun k => { k with source := .mains, mainsCount := 0 }).addEvents PendingSet.ofClock
  else s

/-- A tick of the crystal (R75, R76). -/
def State.takeCrystalTick (s : State) : State := ((s.onClk Clk.nextTick).tenthTick).returnToMains

/-! ### Gaps (R73, R74, R169) -/

/-- The loss of mains timing, with its catch-up tick (R74). It makes one catch-up tick. Where the divider has completed a
second tenth, that one is a CRYSTAL_TICK of its own at the same millisecond (DESIGN CHOICE, notes/assumptions/40.md). -/
def State.loseMains (s : State) : State :=
  let s1 := (s.onClk fun k => { k with source := .crystal, stability := 0 }).addEvents PendingSet.ofClock
  if s1.clk.dividerDone then s1.takeCrystalTick else s1

/-- No counted crossing for 50 ms with the source MAINS (R74). -/
def State.mainsLossDue (s : State) : Bool := s.clk.source == ClockSource.mains && decide (50 ≤ s.clk.sinceCrossing)

/-- The stability time after a gap of 50 ms (R73). -/
def Clk.afterGap (k : Clk) : Clk := if 50 ≤ k.sinceCrossing then { k with stability := 0 } else k

/-- The supply stable time after a gap of 50 ms (R169). -/
def Sup.afterGap (u : Sup) : Sup := if 50 ≤ u.supplyGap then { u with supplyStable := 0, crossingSeen := false } else u

/-- A gap of 50 ms has something left to reset (R73, R169). -/
def State.gapDue (s : State) : Bool :=
  (decide (50 ≤ s.clk.sinceCrossing) && s.clk.stability != 0)
    || (decide (50 ≤ s.sup.supplyGap) && (s.sup.supplyStable != 0 || s.sup.crossingSeen))

/-! ### The meanings -/

/-- ZERO_CROSSING (R73, R169, R71). -/
def execZeroCrossing (s : State) : Host.Outcome State Fault Refusal := .next (State.finish s s.takeCrossing)

/-- CRYSTAL_TICK: the divider produces no tick while the source is MAINS (R73, R76, R71). Commanded from outside it is
the completion of the divider's length, whatever the model has counted (DESIGN CHOICE, notes/assumptions/4.md). -/
def execCrystalTick (s : State) : Host.Outcome State Fault Refusal :=
  .next (if s.clk.source = .crystal then State.finish s s.takeCrystalTick else s)

/-- MAINS_TIMING_LOSS (R74). -/
def execMainsTimingLoss (s : State) : Host.Outcome State Fault Refusal :=
  .next (if s.mainsLossDue then State.finish s s.loseMains else s)

/-- CROSSING_GAP_50_MS (R73, R169). -/
def execCrossingGap50Ms (s : State) : Host.Outcome State Fault Refusal :=
  .next ((s.onClk Clk.afterGap).onSup Sup.afterGap)

end Sys2Proof.Machine
end

