-- ==== Sys2Proof/Machine/Detectors.lean ====
section
/-! DEFINITION. The Detector Interface's steps (05_detector_inputs_and_priority_requests.md) and the priority
overstay (R41). -/

namespace Sys2Proof.Machine

/-! ### Pins and accepted changes (R89, R90) -/

/-- The pin of an input takes a level; a used input reads it at that event, so a reading that returns within one
millisecond makes the debounce count start anew (R86, R89; DEDUCED, notes/assumptions/38.md). -/
def State.setPin (s : State) (d : Det) (high : Bool) : State :=
  s.onInput d fun r =>
    if (s.detector d).kind.isSome then
      let v := (s.detector d).polarity.active high
      { r with pin := high, reading := v, debounceTime := if v = r.accepted then 0 else r.debounceTime }
    else { r with pin := high }

/-- The debounce of a used input is complete (R89). -/
def State.acceptDue (s : State) (d : Det) : Bool :=
  s.inputUsed d && (s.input d).reading != (s.input d).accepted
    && decide ((s.detector d).debounce ≤ (s.input d).debounceTime) && !(s.input d).nextMs

/-- The input's record after an accepted change (R88, R90). -/
def DetRun.accept (r : DetRun) : DetRun :=
  { r with
    accepted := r.reading
    debounceTime := 0
    stateTime := 0
    count := if r.reading then (r.count + 1) % 65536 else r.count }

/-- A presence actuation (R34, R91): demand for the served groups; where the input serves a green member the gap timer
is loaded, and the input, now active, has its part in the hold value. -/
def State.presence (s : State) (d : Det) : State :=
  let s1 := (s.detector d).served.foldl State.placeDemand s
  if (s1.extensionOf d).isSome then s1.holdGap else s1

/-- An activation handed to the Stage Sequencer in the form its kind gives (R90 to R92, R94). -/
def State.handActivation (s : State) (d : Det) : State :=
  match (s.detector d).kind, (s.detector d).target with
  | some .presence, _ => s.presence d
  | some .button, _ => (s.detector d).served.foldl State.pressButton s
  | some .priority, some t => s.takeRequest d t
  | _, _ => s

/-- A deactivation handed to the Stage Sequencer: a PRIORITY input is released, and a PRESENCE input leaves the hold of
the gap timer (R34, R90, R91, R94). -/
def State.handDeactivation (s : State) (d : Det) : State :=
  match (s.detector d).kind with
  | some .priority => s.releaseInput d
  | some .presence => s.holdGap
  | _ => s

/-- An accepted change (R89, R90, R97): a stuck fault and its standing demand end first; nothing is handed over in
UNCONFIGURED. -/
def State.acceptChange (s : State) (d : Det) : State :=
  let s1 := State.refreshStanding s (s.endStuck d)
  let s2 := s1.onInput d DetRun.accept
  if s.sup.mode = .unconfigured then s2
  else if (s2.input d).accepted then s2.handActivation d
  else s2.handDeactivation d

/-! ### Failed detectors (R95 to R97) -/

/-- An input enters STUCK_ON at this tick (R95). -/
def State.stuckOnDue (s : State) (d : Det) : Bool :=
  s.seq.tickOpen && s.inputUsed d && (s.input d).accepted && (s.input d).fault == DetFault.none
    && (s.detector d).maxPresence != 0 && decide ((s.detector d).maxPresence * 600 ≤ (s.input d).stateTime)

/-- An input enters STUCK_OFF at this tick (R96). -/
def State.stuckOffDue (s : State) (d : Det) : Bool :=
  s.seq.tickOpen && s.inputUsed d && !(s.input d).accepted && (s.input d).fault == DetFault.none
    && (s.detector d).maxAbsence != 0 && decide ((s.detector d).maxAbsence * 36000 ≤ (s.input d).stateTime)

/-- An input enters a stuck fault: its standing demand begins (R20, R97). -/
def State.declareStuck (s : State) (d : Det) (f : DetFault) (k : FaultKind) : State :=
  State.refreshStanding s ((s.onInput d fun r => { r with fault := f }).report k (.input d))

/-- STUCK_ON also drops a PRIORITY input's request, and takes a PRESENCE input out of the hold of the gap timer
(R34, R97). -/
def State.declareStuckOn (s : State) (d : Det) : State :=
  let s1 := s.declareStuck d .stuckOn .detectorStuckOn
  match (s.detector d).kind with
  | some .priority => s1.removeRequest d
  | some .presence => s1.holdGap
  | _ => s1

/-! ### Priority overstay (R41) -/

/-- The head request has been served for its maximum (R41). -/
def State.overstayDue (s : State) : Bool :=
  s.seq.tickOpen && match s.seq.priority with
    | h :: _ => (s.detector h.input).priorityMax != 0 && decide (10 * (s.detector h.input).priorityMax ≤ h.service)
    | [] => false

/-- The head request overstays (R41). -/
def State.overstay (s : State) : State :=
  match s.seq.priority with
  | h :: _ =>
    ((s.removeRequest h.input).onSeq fun q => { q with barred := q.barred ++ [h.input] }).report .priorityOverstay
      (.input h.input)
  | [] => s

/-! ### The meanings -/

/-- DETECTOR_PIN_CHANGE (R89). -/
def execDetectorPinChange (d : Det) (high : Bool) (s : State) : Host.Outcome State Fault Refusal :=
  .next (s.setPin d high)

/-- DETECTOR_ACCEPTED_CHANGE (R89 to R94, R97). -/
def execDetectorAcceptedChange (d : Det) (s : State) : Host.Outcome State Fault Refusal :=
  .next (if s.acceptDue d then State.finish s (s.acceptChange d) else s)

/-- STUCK_ON (R95, R97). -/
def execStuckOn (d : Det) (s : State) : Host.Outcome State Fault Refusal :=
  .next (if s.stuckOnDue d then State.finish s (s.declareStuckOn d) else s)

/-- STUCK_OFF (R96, R97). -/
def execStuckOff (d : Det) (s : State) : Host.Outcome State Fault Refusal :=
  .next (if s.stuckOffDue d then State.finish s (s.declareStuck d .stuckOff .detectorStuckOff) else s)

/-- PRIORITY_OVERSTAY (R41). -/
def execPriorityOverstay (s : State) : Host.Outcome State Fault Refusal :=
  .next (if s.overstayDue then State.finish s s.overstay else s)

end Sys2Proof.Machine
end

