-- ==== Sys2Proof/Machine/Outputs.lean ====
section
/-! DEFINITION. The Output Controller's steps (06_relay_drive_and_voltage_proving.md) and the Lamp Monitor's current
sample (R119). -/

namespace Sys2Proof.Machine

/-! ### Voltage indications (R100 to R108) -/

/-- A channel relay takes an indication that is not FULL, with the supply proven (R105, R106, R107, R108). -/
def State.takeNoVoltage (s : State) (c : Ch) (r : ChanRun) : State :=
  match r.relay with
  | .held =>
    (s.putChan c
      { r with
        proof := .opened, relay := .pullingIn, drive := .full, fullTime := some 0
        limit := some ⟨0, max (s.settings c).pullIn Config.dropoutFloor⟩ }).endRelayFault c .foreignVoltage
  | .pullingIn => (s.putChan c r).endRelayFault c .foreignVoltage
  | .releasing | .released =>
    ((s.putChan c { r with relay := .released, proof := .opened, limit := none }).endRelayFault c .failToOpen).endRelayFault
      c .foreignVoltage

/-- A channel relay takes a FULL indication, with the supply proven (R103, R104, R106, R108). -/
def State.takeFullVoltage (s : State) (c : Ch) (r : ChanRun) : State :=
  match r.relay with
  | .held => s.putChan c r
  | .pullingIn => (s.onChan c fun _ => r).completePullIn c
  | .releasing => s.putChan c { r with proof := .closed }
  | .released => (s.putChan c r).findRelayFault c .foreignVoltage

/-- A FULL indication on a channel of the test bus opens the switches: a working probe is abandoned, a release ends
(R108, R143). The switches open, with the coils that this frees, before the result ABANDONED and its reply (DESIGN CHOICE,
notes/assumptions/78.md). -/
def State.fullOnBus (s : State) : State :=
  match s.cbt.probe with
  | some p => if s.cbt.phase.working then s.openBus.recordAbandoned p else s.openBus
  | none => s.openBus

/-- The instant from which a channel's terminal has been at NONE (R139). -/
def State.markQuiet (s : State) (c : Ch) (l : Level) : State :=
  s.onCbt fun b => { b with quietSince := b.quietSince.put c (if l = .none then some s.now else none) }

/-- A channel's indication event (R100): it is always written; proof, relay state and faults follow it only while the
supply is proven (R102). On a channel of the test bus the FOREIGN_VOLTAGE finding, with the DARK that it brings on a
GREEN aspect (R109), is taken before the switches open, so a deferred coil that the DARK turns off does not start (DESIGN
CHOICE, notes/assumptions/78.md). -/
def State.takeIndication (s : State) (c : Ch) (l : Level) : State :=
  let s1 := s.markQuiet c l
  let r : ChanRun := { s.chan c with indication := l }
  let s2 :=
    if s.supplyProven then (if l = .full then s1.takeFullVoltage c r else s1.takeNoVoltage c r) else s1.putChan c r
  if l = .full ∧ r.testBus ≠ .no then s2.fullOnBus else s2

/-! ### Limits (R103, R104, R106) -/

/-- A running limit has elapsed. -/
def ChanRun.limitDone (r : ChanRun) : Bool :=
  match r.limit with
  | some l => decide (l.limit ≤ l.elapsed)
  | none => false

/-- The full-drive time of a coil has elapsed (R103). -/
def State.fullDriveDue (s : State) (c : Ch) : Bool :=
  match (s.chan c).fullTime with
  | some t => decide (Config.fullDrive ≤ t)
  | none => false

/-- The end of full drive: a HELD coil goes to hold duty (R103). -/
def ChanRun.endFullDrive (r : ChanRun) : ChanRun :=
  { r with fullTime := none, drive := if r.relay = .held then .hold else r.drive }

/-- A pull-in's limit has elapsed (R104). -/
def State.pullInDue (s : State) (c : Ch) : Bool := (s.chan c).relay == RelayState.pullingIn && (s.chan c).limitDone

/-- A failure to close (R104). -/
def State.failToClose (s : State) (c : Ch) : State :=
  (s.onChan c fun r => { r with limit := none }).findRelayFault c .failToClose

/-- A release's limit has elapsed (R106). -/
def State.releaseDue (s : State) (c : Ch) : Bool := (s.chan c).relay == RelayState.releasing && (s.chan c).limitDone

/-- The end of a release limit: the relay is released, or has failed to open (R106). -/
def State.endRelease (s : State) (c : Ch) : State :=
  let r : ChanRun := { s.chan c with limit := none }
  if r.indication = .full then (s.putChan c { r with proof := .closed }).findRelayFault c .failToOpen
  else s.putChan c { r with relay := .released, proof := .opened }

/-! ### The contactor (R114, R115) -/

/-- The contactor's proof leaves CLOSED, and with it every channel's (R102). -/
def State.loseSupplyProof (s : State) (was : Proof) : State := if was = .closed then s.unproveAll else s

/-- The contactor takes an indication that is not FULL (R114). -/
def State.contactorFalls (s : State) : State :=
  let k := s.out.contactor
  match k.state with
  | .held =>
    (s.onContactor fun k => { k with state := .pullingIn, proof := .opened, limit := some 0 }).loseSupplyProof k.proof
  | .releasing =>
    (s.onContactor fun k => { k with state := .released, proof := .opened, limit := none }).loseSupplyProof k.proof
  | _ => s

/-- The contactor takes a FULL indication (R114, R115). A RELEASING contactor is proven CLOSED and every channel re-proven,
in UNCONFIGURED after a reset too, as R114 and R102 say, where R8 says that the channel proofs stay UNPROVEN there (DESIGN
CHOICE, notes/assumptions/42.md). -/
def State.contactorRises (s : State) : State :=
  let k := s.out.contactor
  match k.state with
  | .held => s
  | .pullingIn => s.completeClose
  | .releasing =>
    let s1 := s.onContactor fun k => { k with proof := .closed }
    if k.proof = .closed then s1 else s1.reproveAll
  | .released => ((s.onContactor fun k => { k with proof := .closed }).reproveAll).contactorFailsToOpen

/-- A supply-output indication event (R100, R114); behind an asserted trip it proves nothing
(R115), and the contactor's state stands as it is (DESIGN CHOICE, notes/assumptions/47.md). -/
def State.takeSupplyOutput (s : State) (l : Level) : State :=
  let s1 := s.onContactor fun k => { k with indication := l }
  if s.out.trip then s1
  else if l = .full then s1.contactorRises
  else s1.contactorFalls

/-- The contactor's running limit has elapsed. -/
def Contactor.limitDone (k : Contactor) : Bool :=
  match k.limit with
  | some t => decide (Config.contactorLimit ≤ t)
  | none => false

/-- The close limit has elapsed (R115). -/
def State.closeLimitDue (s : State) : Bool :=
  s.out.contactor.state == RelayState.pullingIn && s.out.contactor.limitDone

/-- A contactor failure to close (R115, R162). -/
def State.contactorFailsToClose (s : State) : State :=
  ((s.onContactor fun k => { k with fault := .failToClose, limit := none }).report .supplyContactor .nothing).softFault false

/-- The open limit has elapsed (R115). -/
def State.openLimitDue (s : State) : Bool :=
  s.out.contactor.state == RelayState.releasing && s.out.contactor.limitDone

/-- The end of the open limit: the contactor is released, or has failed to open (R114, R115). -/
def State.endContactorRelease (s : State) : State :=
  let k := s.out.contactor
  if k.indication = .full then s.contactorFailsToOpen
  else
    (s.onContactor fun k => { k with state := .released, proof := .opened, limit := none }).loseSupplyProof k.proof

/-! ### The flash generator (R112) -/

/-- The phase time has reached the phase length (R112). -/
def State.phaseDue (s : State) : Bool := s.out.flash.running && decide (s.out.flash.phaseLength ≤ s.out.flash.phaseTime)

/-- The phase changes; the coils of the FLASHING channels start or stop (R112), in ascending channel number (DESIGN CHOICE,
notes/assumptions/66.md). -/
def State.changePhase (s : State) : State :=
  let s1 := s.onOut fun o =>
    { o with flash := ⟨true, !o.flash.onPhase, 0, phaseLengthOf s.cabinet.flashRate⟩ }
  s1.forAll fun (t : State) (c : Ch) => if (t.chan c).command = .flashing then t.updateCoil c else t

/-! ### The meanings -/

/-- VOLTAGE_INDICATION (R100, R102 to R109). -/
def execVoltageIndication (c : Ch) (l : Level) (s : State) : Host.Outcome State Fault Refusal :=
  .next (State.finish s (s.takeIndication c l))

/-- SUPPLY_OUTPUT_INDICATION (R114, R115, R102). -/
def execSupplyOutputIndication (l : Level) (s : State) : Host.Outcome State Fault Refusal :=
  .next (State.finish s (s.takeSupplyOutput l))

/-- FULL_DRIVE_END (R103). -/
def execFullDriveEnd (c : Ch) (s : State) : Host.Outcome State Fault Refusal :=
  .next (if s.fullDriveDue c then s.onChan c ChanRun.endFullDrive else s)

/-- PULL_IN_LIMIT (R104, R109). -/
def execPullInLimit (c : Ch) (s : State) : Host.Outcome State Fault Refusal :=
  .next (if s.pullInDue c then State.finish s (s.failToClose c) else s)

/-- RELEASE_LIMIT (R106, R109). -/
def execReleaseLimit (c : Ch) (s : State) : Host.Outcome State Fault Refusal :=
  .next (if s.releaseDue c then State.finish s (s.endRelease c) else s)

/-- CONTACTOR_CLOSE_LIMIT (R115). -/
def execContactorCloseLimit (s : State) : Host.Outcome State Fault Refusal :=
  .next (if s.closeLimitDue then State.finish s s.contactorFailsToClose else s)

/-- CONTACTOR_OPEN_LIMIT (R114, R115). -/
def execContactorOpenLimit (s : State) : Host.Outcome State Fault Refusal :=
  .next (if s.openLimitDue then State.finish s s.endContactorRelease else s)

/-- FLASH_PHASE_CHANGE (R112). -/
def execFlashPhaseChange (s : State) : Host.Outcome State Fault Refusal :=
  .next (if s.phaseDue then State.finish s s.changePhase else s)

/-- CURRENT_SAMPLE: a reading at or above 4000 mA is 4000 (R119). -/
def execCurrentSample (c : Ch) (mA : Nat) (s : State) : Host.Outcome State Fault Refusal :=
  .next (State.finish s (s.takeSample c (min 4000 mA)))

end Sys2Proof.Machine
end

