-- ==== Sys2Proof/Machine/Cabinet.lean ====
section
/-! DEFINITION. The Cabinet Supervisor's steps (09_cabinet_supervision_and_fallback.md), the attention pulse (R183) and
the two resets. -/

namespace Sys2Proof.Machine

/-! ### The conflict monitor (R158) -/

/-- The lower and the higher of two groups (R175). -/
def lowerFirst (i j : Gid) : Gid × Gid := if i ≤ j then (i, j) else (j, i)

/-- The conflict time of a pair has reached 50 ms and the conflict is not yet found (R158). -/
def State.conflictDue (s : State) (i j : Gid) : Bool :=
  s.sup.conflicts.any fun t =>
    t.low == (lowerFirst i j).1 && t.high == (lowerFirst i j).2 && !t.found && decide (50 ≤ t.ms)

/-- A conflict is found (R158, R159). -/
def State.findConflict (s : State) (i j : Gid) : State :=
  let p := lowerFirst i j
  let s1 := s.onSup fun u =>
    { u with conflicts := u.conflicts.map fun t => if t.low = p.1 ∧ t.high = p.2 then { t with found := true } else t }
  (s1.report .conflict (.pair p.1 p.2)).hardFault .conflict

/-! ### Red failure (R160) -/

/-- A group's grace time has reached its grace, at the earliest at its first tick; a grace that a commit changed is
judged at the next tick (R160). -/
def State.redFailureDue (s : State) (g : Gid) : Bool :=
  s.seq.tickOpen && !s.sup.graceNext.get g && s.graceRuns g && match s.sup.grace.get g with
    | .running t => decide (max 1 (s.gt g).redFailGrace ≤ t)
    | _ => false

/-- A red failure is taken (R160, R162). -/
def State.takeRedFailure (s : State) (g : Gid) : State :=
  (s.onSup fun u => { u with grace := u.grace.put g .stopped }).softFault true

/-! ### The start-up sequence (R164, R165, R67) -/

/-- The start-up check is complete (R164). -/
def State.checkComplete (s : State) : Bool :=
  s.sup.mode == Mode.startupCheck && s.supplyProven && decide (500 ≤ s.sup.phaseTime)

/-- Entry to STARTUP_FLASH or STARTUP_RED with the phase's time in force (R157, R165). -/
def State.enterPhase (s : State) (m : Mode) (length : Nat) : State :=
  (((s.onMode fun u => { u with mode := m, phaseTime := 0, phaseLength := length, flashNext := none }).onSeq fun q =>
    { q with coloursDue := true }).refreshGrace)

/-- The check exit is entered (R164). -/
def State.takeExit (s : State) : State :=
  match s.sup.exit with
  | .startupFlash => s.enterPhase .startupFlash s.cabinet.startFlash
  | .flash r l => s.enterFlash r l

/-- STARTUP_FLASH has lasted its time, at the earliest at its first tick (R165). -/
def State.flashPhaseDone (s : State) : Bool :=
  s.seq.tickOpen && s.sup.mode == Mode.startupFlash && decide (max 1 s.sup.phaseLength ≤ s.sup.phaseTime)

/-- STARTUP_RED has lasted its time, with no red failure waiting for the next tick (R165, R163). -/
def State.redPhaseDone (s : State) : Bool :=
  s.seq.tickOpen && s.sup.mode == Mode.startupRed && decide (s.sup.phaseLength ≤ s.sup.phaseTime)
    && s.sup.flashNext.isNone

/-- The Plan Runner takes the Day Schedule's selection at the entry to NORMAL (R67, R44). -/
def State.takeSelection (s : State) : State :=
  match s.sup.mode, s.sch.action with
  | .normal, some (.plan p) => s.takePlan p
  | _, _ => s

/-- The pending timing commit with the evaluation on its records, or the evaluation alone where none is pending: one
evaluation at the entry to NORMAL, where R83 lists both the commit and the entry (DEDUCED, notes/assumptions/77.md). -/
def State.applyAndEvaluate (s : State) : State :=
  if s.cfg.pendingCommit.isSome then s.applyPending else s.evaluate

/-- Entry to NORMAL (R165, R67, R44). -/
def State.enterNormal (s : State) : State :=
  let s1 := (((s.onMode fun u => { u with mode := .normal, phaseTime := 0 }).clearSequencer).refreshGrace)
  s1.applyAndEvaluate.takeSelection

/-! ### Recovery (R166, R167) -/

/-- A running holdoff has reached its length in the fallback that started it (R166); a length that a commit changed is
judged at the next tick (R157). -/
def State.holdoffDue (s : State) : Bool :=
  s.seq.tickOpen && !s.sup.holdoffNext && s.sup.inSoftFallback && !s.waitingSupply && match s.sup.holdoff with
    | some n => decide (s.cabinet.holdoff * 600 ≤ n)
    | none => false

/-- The cause of the soft fallback is absent (R166). -/
def State.causeAbsent (s : State) : Bool :=
  if s.sup.reason = some .redFail then
    (allFin 16).all fun g =>
      !(s.fitted g && (s.gt g).redFailAction == RedFailAction.flash && (s.group g).redHealth == RedHealth.deficient)
  else s.sup.supplyPresent && !s.out.trip

/-- The expiry of the holdoff (R166). -/
def State.expireHoldoff (s : State) : State :=
  if s.causeAbsent then
    let s1 := s.onSup fun u => { u with holdoff := none, recovering := true }
    s1.enterStartupCheck s1.scheduledExit
  else s.onSup fun u => { u with holdoff := some 0 }

/-- The probation has lasted its time (R167); a length that a commit changed is judged at the next tick (R157). The time is
judged in NORMAL alone, so a length shortened in another mode is judged at the tick of the entry to NORMAL (DEDUCED,
notes/assumptions/50.md). -/
def State.probationDue (s : State) : Bool :=
  s.seq.tickOpen && !s.sup.probationNext && s.sup.recovering && s.sup.mode == Mode.normal && decide (s.cabinet.probation * 600 ≤ s.sup.probation)

/-! ### Supply loss and return (R169, R170) -/

/-- The supply gap has reached 200 ms (R169). -/
def State.supplyLossDue (s : State) : Bool := s.sup.supplyPresent && decide (200 ≤ s.sup.supplyGap)

/-- The state saved at a supply loss in a start-up phase or NORMAL: STARTUP, or the FLASH of the check exit (R169), or
the latched FLASH that waits in STARTUP_RED (R168; DEDUCED, notes/assumptions/24.md). -/
def Sup.savedRunning (u : Sup) : SavedState :=
  if u.latchedWaits then u.flashNext.elim .startup fun f => .flash f.1 f.2
  else
    match u.exit with
    | .startupFlash => .startup
    | .flash r l => .flash r l

/-- The cabinet at a supply loss (R169). -/
def State.darkForSupply (s : State) : State :=
  match s.sup.mode with
  | .unconfigured => s
  | .dark => s.onSup fun u => { u with saved := some (.dark u.reason u.latched) }
  | .clearing | .flash =>
    (s.onSup fun u => { u with saved := some (.flash u.reason u.latched) }).enterDark (some .supplyLoss) s.sup.latched
  | _ =>
    (s.onSup fun u => { u with saved := some u.savedRunning }).enterDark (some .supplyLoss) s.sup.latchedWaits

/-- A supply loss is declared (R169). -/
def State.loseSupply (s : State) : State :=
  ((s.onSup fun u => { u with supplyPresent := false }).report .supplyLoss .nothing).darkForSupply

/-- The stable time has reached 2000 ms while the supply is ABSENT (R169). -/
def State.supplyReturnDue (s : State) : Bool := !s.sup.supplyPresent && decide (2000 ≤ s.sup.supplyStable)

/-- The cabinet at the supply return (R170). -/
def State.resumeSaved (s : State) : State :=
  let s1 := s.onSup fun u => { u with saved := none }
  match s.sup.saved with
  | none => s1
  | some .startup => s1.enterStartupCheck s1.scheduledExit
  | some (.flash r l) => s1.enterStartupCheck (.flash r l)
  | some (.dark r l) => s1.onMode fun u => { u with reason := r, latched := l }

/-- The supply returns (R170). -/
def State.regainSupply (s : State) : State :=
  ((s.onSup fun u => { u with supplyPresent := true }).clearFault .supplyLoss .nothing).resumeSaved

/-! ### The attention pulse (R183) -/

/-- The pulse has lasted 250 ms (R183). -/
def State.pulseDone (s : State) : Bool := match s.flt.pulse with | some t => decide (250 ≤ t) | none => false

/-! ### Resets (R8, R70, R78, R116, R155, R175, R185, R199) -/

/-- The straps select 115,200 bit/s (R192). -/
def fastStraps (spd1 spd0 : Bool) : Bool := spd1 && spd0

/-- The clock after the reset input: it goes on counting, but for the seconds since reset and the pending set (R70). -/
def Clk.inputReset (k : Clk) : Clk := { k with secs := 0, pendingSet := none, setTags := [] }

/-- The part after the reset input (R8, R116, R155, R185, R199). -/
def State.inputReset (s : State) (fast : Bool) : State :=
  { State.reset with
    pending := s.pending
    now := s.now
    lnk := Lnk.reset fast s.lnk.line
    clk := s.clk.inputReset
    seq := { Seq.reset with tick := s.seq.tick }
    det := s.det.map fun r => { DetRun.reset with pin := r.pin }
    cbt := Cbt.reset s.now
    flt := Flt.reset }

/-- The backup domain after a time without power in which the backup held (R70, R78). -/
def Clk.heldThrough (k : Clk) (tenths : Nat) (vbakLow : Bool) : Clk :=
  let t := k.tod + tenths
  let d := Date.plusDays (t / Config.dayTenths) k.date
  { Clk.reset with
    date := d.1
    tod := t % Config.dayTenths
    valid := k.valid && !d.2
    trim := k.trim
    interval := (k.interval + tenths) % 100
    preference := k.preference
    freq := k.freq
    vbakLow := vbakLow }

/-- The clock at a power-on reset (R78). -/
def Clk.powerOn (k : Clk) (held : Bool) (tenths : Nat) (vbakLow : Bool) : Clk :=
  if held then k.heldThrough tenths vbakLow else { Clk.reset with vbakLow := vbakLow }

/-- The part after a power-on reset: TIME_INVALID is made ACTIVE where the time is invalid (R78, R175). -/
def State.powerOn (s : State) (held : Bool) (tenths : Nat) (vbakLow fast : Bool) : State :=
  let s1 : State :=
    { State.reset with
      pending := s.pending
      now := s.now
      lnk := Lnk.reset fast s.lnk.line
      clk := s.clk.powerOn held tenths vbakLow
      det := s.det.map fun r => { DetRun.reset with pin := r.pin }
      cbt := Cbt.reset s.now
      flt := Flt.reset }
  if s1.clk.valid then s1 else State.closeAdditions s1 (s1.report .timeInvalid .nothing)

/-! ### The meanings -/

/-- POWER_ON_RESET (R70, R78, R175, R192). -/
def execPowerOnReset (backupHeld : Bool) (offTenths : Nat) (vbakLow spd1 spd0 : Bool) (s : State) :
    Host.Outcome State Fault Refusal :=
  .next (s.powerOn backupHeld offTenths vbakLow (fastStraps spd1 spd0))

/-- RESET_INPUT (R8, R70, R192, R199). -/
def execResetInput (spd1 spd0 : Bool) (s : State) : Host.Outcome State Fault Refusal :=
  .next (s.inputReset (fastStraps spd1 spd0))

/-- CONFLICT_FOUND (R158, R159). -/
def execConflictFound (i j : Gid) (s : State) : Host.Outcome State Fault Refusal :=
  .next (if s.conflictDue i j then State.finish s (s.findConflict i j) else s)

/-- RED_FAILURE (R160, R162). -/
def execRedFailure (g : Gid) (s : State) : Host.Outcome State Fault Refusal :=
  .next (if s.redFailureDue g then State.finish s (s.takeRedFailure g) else s)

/-- STARTUP_CHECK_COMPLETE (R164). -/
def execStartupCheckComplete (s : State) : Host.Outcome State Fault Refusal :=
  .next (if s.checkComplete then State.finish s s.takeExit else s)

/-- STARTUP_FLASH_END (R165). -/
def execStartupFlashEnd (s : State) : Host.Outcome State Fault Refusal :=
  .next (if s.flashPhaseDone then State.finish s (s.enterPhase .startupRed s.cabinet.startRed) else s)

/-- STARTUP_RED_END (R165, R67, R44). -/
def execStartupRedEnd (s : State) : Host.Outcome State Fault Refusal :=
  .next (if s.redPhaseDone then State.finish s s.enterNormal else s)

/-- HOLDOFF_EXPIRY (R166). -/
def execHoldoffExpiry (s : State) : Host.Outcome State Fault Refusal :=
  .next (if s.holdoffDue then State.finish s s.expireHoldoff else s)

/-- PROBATION_EXPIRY (R167). -/
def execProbationExpiry (s : State) : Host.Outcome State Fault Refusal :=
  .next (if s.probationDue then s.onSup fun u => { u with recovering := false, attempts := 0, probation := 0 } else s)

/-- SUPPLY_LOSS (R169). -/
def execSupplyLoss (s : State) : Host.Outcome State Fault Refusal :=
  .next (if s.supplyLossDue then State.finish s s.loseSupply else s)

/-- SUPPLY_RETURN (R170). -/
def execSupplyReturn (s : State) : Host.Outcome State Fault Refusal :=
  .next (if s.supplyReturnDue then State.finish s s.regainSupply else s)

/-- ATTENTION_PULSE_END (R183). -/
def execAttentionPulseEnd (s : State) : Host.Outcome State Fault Refusal :=
  .next (if s.pulseDone then s.onFlt fun f => { f with pulse := none } else s)

end Sys2Proof.Machine
end

