-- ==== Sys2Proof/Machine/Timebase.lean ====
section
/-! DEFINITION. What the part does on its own while no command waits: the first step whose condition holds, in one
fixed order (DESIGN CHOICE, notes/assumptions/1.md), or one millisecond. -/

namespace Sys2Proof.Machine

/-- A step, where its condition holds. -/
def dueRow (b : Bool) (c : Instr) : Option Instr := if b then some c else none

/-- A step of an indexed thing, for the first one whose condition holds. -/
def dueFor {n : Nat} (p : Fin n → Bool) (c : Fin n → Instr) : Option Instr := (firstFin p).map c

/-- A buffered frame can be taken (R194). -/
def State.takeReady (s : State) : Bool := !s.lnk.input.isEmpty && s.lnk.freeSlots != 0

/-- The crystal divider completes (R76), as it also does where a loss of mains timing left a second completed tenth
(DESIGN CHOICE, notes/assumptions/40.md). -/
def State.crystalDue (s : State) : Bool := s.clk.source == ClockSource.crystal && s.clk.dividerDone

/-- The pair whose conflict is due (R158). -/
def State.dueConflict (s : State) : Option Instr :=
  (s.sup.conflicts.find? fun t => s.conflictDue t.low t.high).map fun t => .conflictFound t.low t.high

/-- Link, supply and clock steps that are due. -/
def State.dueFront (s : State) : Option Instr :=
  dueRow s.takeReady .requestTaken
    <|> dueRow s.frameDue .frameSent
    <|> dueRow s.interbyteDue .interbyteTimeout
    <|> dueRow s.breakDue .linkBreak
    <|> dueRow s.pulseDone .attentionPulseEnd
    <|> dueRow s.gapDue .crossingGap50Ms
    <|> dueRow s.mainsLossDue .mainsTimingLoss
    <|> dueRow s.supplyLossDue .supplyLoss
    <|> dueRow s.supplyReturnDue .supplyReturn
    <|> dueRow s.crystalDue .crystalTick

/-- Steps of the 1 ms timebase that are due. -/
def State.dueMs (s : State) : Option Instr :=
  dueRow s.openLimitDue .contactorOpenLimit
    <|> dueRow s.closeLimitDue .contactorCloseLimit
    <|> dueFor s.fullDriveDue .fullDriveEnd
    <|> dueFor s.pullInDue .pullInLimit
    <|> dueFor s.releaseDue .releaseLimit
    <|> dueRow s.phaseDue .flashPhaseChange
    <|> dueFor s.acceptDue .detectorAcceptedChange
    <|> dueFor s.leakDue .leakRequest
    <|> dueRow s.closingDue .probeClosingEnd
    <|> dueRow s.releasingDue .probeReleaseEnd
    <|> s.dueConflict
    <|> dueRow s.checkComplete .startupCheckComplete

/-- Sequencer steps that are due at an open tenth tick. -/
def State.dueSequence (s : State) : Option Instr :=
  dueRow s.greensEndDue .clearingGreensEnd
    <|> dueRow s.coloursDue .modeColoursApply
    <|> dueFor s.amberDue .amberEnd
    <|> dueFor s.clearanceDue .clearanceEnd
    <|> dueFor s.stuckOnDue .stuckOn
    <|> dueFor s.stuckOffDue .stuckOff
    <|> dueRow s.overstayDue .priorityOverstay
    <|> dueRow s.changePointDue .changePoint
    <|> dueRow s.cycleStartDue .cycleStart
    <|> dueRow s.endOfEntryDue .endOfEntryDecision
    <|> dueRow s.holdEndDue .holdEnd
    <|> dueRow s.skipDue .skipPoint
    <|> dueRow s.coordinatedGapOutDue .coordinatedGapOut
    <|> dueRow s.completeDue .stageChangeComplete
    <|> dueFor s.joinDue .lateJoin
    <|> dueFor s.redAmberDue .redAmberStart
    <|> dueFor s.greenDue .greenInstant
    <|> dueRow s.gapOutDue .gapOut
    <|> dueRow s.maxOutDue .maxOut
    <|> dueRow s.changeStartDue .stageChangeStart

/-- Supervisor and tester steps that are due at an open tenth tick. -/
def State.dueCabinet (s : State) : Option Instr :=
  dueFor s.redFailureDue .redFailure
    <|> dueRow s.flashPhaseDone .startupFlashEnd
    <|> dueRow s.redPhaseDone .startupRedEnd
    <|> dueRow s.holdoffDue .holdoffExpiry
    <|> dueRow s.probationDue .probationExpiry
    <|> dueRow s.sweepEndDue .sweepEnd
    <|> dueRow s.choiceDue .probeStart

/-- The first step that is due. -/
def State.firstDue (s : State) : Option Instr := s.dueFront <|> s.dueMs <|> s.dueSequence <|> s.dueCabinet

end Sys2Proof.Machine
end

