-- ==== Sys2Proof/Machine/Dispatch.lean ====
section
/-! DEFINITION. The meaning of every command: one arm per constructor of Instr. -/

namespace Sys2Proof.Machine

def exec (i : Instr) (s : State) : Host.Outcome State Fault Refusal :=
  match i with
  | .powerOnReset backupHeld offTenths vbakLow spd1 spd0 => Sys2Proof.Machine.execPowerOnReset backupHeld offTenths vbakLow spd1 spd0 s
  | .resetInput spd1 spd0 => Sys2Proof.Machine.execResetInput spd1 spd0 s
  | .rxFrame tag code body crc => Sys2Proof.Machine.execRxFrame tag code body crc s
  | .interbyteTimeout => Sys2Proof.Machine.execInterbyteTimeout s
  | .linkBreak => Sys2Proof.Machine.execLinkBreak s
  | .requestTaken => Sys2Proof.Machine.execRequestTaken s
  | .frameSent => Sys2Proof.Machine.execFrameSent s
  | .identify tag body => Sys2Proof.Machine.execIdentify tag body s
  | .status tag body => Sys2Proof.Machine.execStatus tag body s
  | .editOpen tag body => Sys2Proof.Machine.execEditOpen tag body s
  | .editWrite tag body => Sys2Proof.Machine.execEditWrite tag body s
  | .editRead tag body => Sys2Proof.Machine.execEditRead tag body s
  | .editCommit tag body => Sys2Proof.Machine.execEditCommit tag body s
  | .editDiscard tag body => Sys2Proof.Machine.execEditDiscard tag body s
  | .configRead tag body => Sys2Proof.Machine.execConfigRead tag body s
  | .clockSet tag body => Sys2Proof.Machine.execClockSet tag body s
  | .clockRead tag body => Sys2Proof.Machine.execClockRead tag body s
  | .clockTrim tag body => Sys2Proof.Machine.execClockTrim tag body s
  | .start tag body => Sys2Proof.Machine.execStart tag body s
  | .restart tag body => Sys2Proof.Machine.execRestart tag body s
  | .modeSet tag body => Sys2Proof.Machine.execModeSet tag body s
  | .planForce tag body => Sys2Proof.Machine.execPlanForce tag body s
  | .planRelease tag body => Sys2Proof.Machine.execPlanRelease tag body s
  | .demandPlace tag body => Sys2Proof.Machine.execDemandPlace tag body s
  | .maintUpdate tag body => Sys2Proof.Machine.execMaintUpdate tag body s
  | .lampRelearn tag body => Sys2Proof.Machine.execLampRelearn tag body s
  | .sweepStart tag body => Sys2Proof.Machine.execSweepStart tag body s
  | .sweepStop tag body => Sys2Proof.Machine.execSweepStop tag body s
  | .probeRun tag body => Sys2Proof.Machine.execProbeRun tag body s
  | .groupRead tag body => Sys2Proof.Machine.execGroupRead tag body s
  | .channelRead tag body => Sys2Proof.Machine.execChannelRead tag body s
  | .detectorRead tag body => Sys2Proof.Machine.execDetectorRead tag body s
  | .cableRead tag body => Sys2Proof.Machine.execCableRead tag body s
  | .faultRead tag body => Sys2Proof.Machine.execFaultRead tag body s
  | .faultAck tag body => Sys2Proof.Machine.execFaultAck tag body s
  | .faultPurge tag body => Sys2Proof.Machine.execFaultPurge tag body s
  | .attentionRead tag body => Sys2Proof.Machine.execAttentionRead tag body s
  | .noticeEnable tag body => Sys2Proof.Machine.execNoticeEnable tag body s
  | .attentionPulseEnd => Sys2Proof.Machine.execAttentionPulseEnd s
  | .zeroCrossing => Sys2Proof.Machine.execZeroCrossing s
  | .crystalTick => Sys2Proof.Machine.execCrystalTick s
  | .mainsTimingLoss => Sys2Proof.Machine.execMainsTimingLoss s
  | .detectorPinChange d high => Sys2Proof.Machine.execDetectorPinChange d high s
  | .detectorAcceptedChange d => Sys2Proof.Machine.execDetectorAcceptedChange d s
  | .stuckOn d => Sys2Proof.Machine.execStuckOn d s
  | .stuckOff d => Sys2Proof.Machine.execStuckOff d s
  | .priorityOverstay => Sys2Proof.Machine.execPriorityOverstay s
  | .stageChangeStart => Sys2Proof.Machine.execStageChangeStart s
  | .redAmberStart g => Sys2Proof.Machine.execRedAmberStart g s
  | .greenInstant g => Sys2Proof.Machine.execGreenInstant g s
  | .amberEnd g => Sys2Proof.Machine.execAmberEnd g s
  | .clearanceEnd g => Sys2Proof.Machine.execClearanceEnd g s
  | .stageChangeComplete => Sys2Proof.Machine.execStageChangeComplete s
  | .lateJoin g => Sys2Proof.Machine.execLateJoin g s
  | .gapOut => Sys2Proof.Machine.execGapOut s
  | .maxOut => Sys2Proof.Machine.execMaxOut s
  | .coordinatedGapOut => Sys2Proof.Machine.execCoordinatedGapOut s
  | .endOfEntryDecision => Sys2Proof.Machine.execEndOfEntryDecision s
  | .skipPoint => Sys2Proof.Machine.execSkipPoint s
  | .holdEnd => Sys2Proof.Machine.execHoldEnd s
  | .cycleStart => Sys2Proof.Machine.execCycleStart s
  | .changePoint => Sys2Proof.Machine.execChangePoint s
  | .modeColoursApply => Sys2Proof.Machine.execModeColoursApply s
  | .clearingGreensEnd => Sys2Proof.Machine.execClearingGreensEnd s
  | .voltageIndication c level => Sys2Proof.Machine.execVoltageIndication c level s
  | .supplyOutputIndication level => Sys2Proof.Machine.execSupplyOutputIndication level s
  | .fullDriveEnd c => Sys2Proof.Machine.execFullDriveEnd c s
  | .pullInLimit c => Sys2Proof.Machine.execPullInLimit c s
  | .releaseLimit c => Sys2Proof.Machine.execReleaseLimit c s
  | .contactorCloseLimit => Sys2Proof.Machine.execContactorCloseLimit s
  | .contactorOpenLimit => Sys2Proof.Machine.execContactorOpenLimit s
  | .flashPhaseChange => Sys2Proof.Machine.execFlashPhaseChange s
  | .currentSample c mA => Sys2Proof.Machine.execCurrentSample c mA s
  | .leakRequest c => Sys2Proof.Machine.execLeakRequest c s
  | .probeStart => Sys2Proof.Machine.execProbeStart s
  | .probeClosingEnd => Sys2Proof.Machine.execProbeClosingEnd s
  | .probeClassify measurement => Sys2Proof.Machine.execProbeClassify measurement s
  | .probeReleaseEnd => Sys2Proof.Machine.execProbeReleaseEnd s
  | .sweepEnd => Sys2Proof.Machine.execSweepEnd s
  | .conflictFound a b => Sys2Proof.Machine.execConflictFound a b s
  | .redFailure g => Sys2Proof.Machine.execRedFailure g s
  | .startupCheckComplete => Sys2Proof.Machine.execStartupCheckComplete s
  | .startupFlashEnd => Sys2Proof.Machine.execStartupFlashEnd s
  | .startupRedEnd => Sys2Proof.Machine.execStartupRedEnd s
  | .holdoffExpiry => Sys2Proof.Machine.execHoldoffExpiry s
  | .probationExpiry => Sys2Proof.Machine.execProbationExpiry s
  | .supplyLoss => Sys2Proof.Machine.execSupplyLoss s
  | .supplyReturn => Sys2Proof.Machine.execSupplyReturn s
  | .byteReceived b framingError => Sys2Proof.Machine.execByteReceived b framingError s
  | .crossingGap50Ms => Sys2Proof.Machine.execCrossingGap50Ms s

end Sys2Proof.Machine
end

