-- ==== Sys2Proof/Machine/Step.lean ====
section
/-! DEFINITION. The step of the part: the command at the front of its queue, or, with none waiting, what the part does
on its own. -/

namespace Sys2Proof.Machine

/-- The part with no command waiting (DESIGN CHOICE, notes/assumptions/1.md): the first step that is due, or the
passing of one millisecond. -/
def idle (s : State) : Host.Outcome State Fault Refusal :=
  match s.firstDue with
  | some c => exec c s
  | none => .next s.msTick

/-- One step: the command at the front of the queue, run with the queue's rest (first in, first out). -/
def step (s : State) : Host.Outcome State Fault Refusal :=
  match s.pending with
  | c :: rest => exec c { s with pending := rest }
  | [] => idle s

/-- The state with the command that a word spells put at the front of its queue; unchanged where it spells none. -/
def State.withFetchWord (s : State) (nbits w : Nat) : State :=
  match decodeTableWord nbits w with
  | some c => { s with pending := c :: s.pending }
  | none => s

end Sys2Proof.Machine
end

