-- ==== Sys2Proof/Safety.lean ====
section
/-! DEFINITION. What a safe run of the part is: the laws of the manual that hold at every instant, as properties of one
state, and the words in which the claims say what a request is answered. No fault and no refusal can end a run. -/

namespace Sys2Proof.Machine

/-! ### Laws of every instant -/

/-- "The fault table never holds more than 64 entries or two entries with the same kind and subject" (R178). -/
def Flt.sound (f : Flt) : Prop :=
  f.entries.length ≤ Config.faultCapacity ∧
    f.entries.Pairwise fun a b => ¬(a.kind = b.kind ∧ a.subject = b.subject)

/-- A coil is driven exactly while its relay is PULLING_IN or HELD, and never while the test bus is connected to its
channel (R103 to R107, R113). -/
def State.coilSafe (s : State) : Prop :=
  ∀ c : Ch,
    ((s.chan c).drive ≠ .off ↔ (s.chan c).relay = .pullingIn ∨ (s.chan c).relay = .held) ∧
      ((s.chan c).testBus ≠ .no → (s.chan c).drive = .off)

/-- Every channel's command is the one that R3 gives its group's colour state and its aspect. -/
def State.followsColours (s : State) : Prop := ∀ c : Ch, (s.chan c).command = s.commandFor c

/-- The modes in which every fitted group is in DARK_ALL (R43). -/
def Mode.unlit (m : Mode) : Bool :=
  match m with
  | .unconfigured | .startupCheck | .dark => true
  | _ => false

/-- An unfitted group is in DARK_ALL (R1), and so is every group in UNCONFIGURED, STARTUP_CHECK and DARK (R43). -/
def State.darkWhereDue (s : State) : Prop :=
  (∀ g : Gid, s.kind g = none → (s.group g).colour = .darkAll) ∧
    (s.sup.mode.unlit = true → ∀ g : Gid, (s.group g).colour = .darkAll)

/-- A requested probe in a working phase: its reply is deferred (R152). -/
def Cbt.owesReply (b : Cbt) : Nat :=
  match b.probe with
  | some ⟨_, .request _, _⟩ => if b.phase.working then 1 else 0
  | _ => 0

/-- Every reserved slot is owed to one deferred reply, the queue and its reservations fit the 8 slots, and the input
buffer its 2 frames (R193, R194). -/
def State.slotsSound (s : State) : Prop :=
  s.lnk.reserved = s.clk.setTags.length + s.cbt.owesReply ∧
    s.lnk.output.length + s.lnk.reserved ≤ Config.outputSlots ∧ s.lnk.input.length ≤ Config.inputFrames

/-- The priority list holds at most 4 requests and never two for one input (R38); the urgent queue at most 8 entries,
each once (R139). -/
def State.listsSound (s : State) : Prop :=
  s.seq.priority.length ≤ Config.priorityCapacity ∧ (s.seq.priority.map (·.input)).Nodup ∧
    s.cbt.urgent.length ≤ Config.urgentCapacity ∧ s.cbt.urgent.Nodup

/-- What one block derives from another's fields has been handed on: observed green from the channels that show (R7), red
health from the healthy heads (R129), the inhibited flag from red health (R30), the grace times that run (R160), the pairs
whose conflict time runs (R158), the steady-on since of each channel (R111), the leak time that runs (R134), HELD with a
saved verdict exactly while the command is FLASHING (R127), and no partial learning set and no run off steady-on or in the
maintenance set (R120, R132). A channel of a GREEN list names its group and GREEN in its own record, as GROUP check 5 has
it (R9). -/
def State.handedOn (s : State) : Prop :=
  (∀ g : Gid, ∀ c ∈ (s.groupRec g).green, (s.chanRec c).group = some g ∧ (s.chanRec c).aspect = some .green) ∧
  (∀ g : Gid, (s.group g).observedGreen = s.showsGreen g ∧ (s.group g).redHealth = s.redHealthOf g ∧
    (s.group g).inhibited = s.inhibitedBy g ∧ (s.sup.grace.get g ≠ .idle ↔ s.graceRuns g = true)) ∧
    s.sup.conflicts.map (fun t => (t.low, t.high)) = groupPairs.filter s.pairRuns ∧
    ∀ c : Ch,
      ((s.chan c).steadySince ≠ none ↔ (s.chan c).command = .on ∧ (s.chan c).proof = .closed) ∧
      ((s.lamp c).leak ≠ none ↔ s.leakRuns c = true) ∧
      ((s.lamp c).verdict = .held ↔ (s.chan c).command = .flashing) ∧
      ((s.lamp c).saved ≠ none ↔ (s.lamp c).verdict = .held) ∧
      ((s.chan c).command ≠ .on ∨ (s.chan c).proof ≠ .closed ∨ (s.lamp c).maintenance = true →
        (s.lamp c).set = none ∧ (s.lamp c).run = none ∧
          ((s.lamp c).learn = .unlearned ∨ (s.lamp c).learn = .learning 0 ∨ (s.lamp c).learn = .learned))

/-- What one step hands on, from `s` to `t`: steady-on since is the instant at which its second condition began to hold and
stands while both hold (R111); a leak time, a grace time and a conflict time start at 0 (R134, R160, R158); and, where the
step leaves the running configuration, a command that becomes FLASHING saves the verdict, and one that leaves FLASHING
brings it back (R127). -/
def State.handsOver (s t : State) : Prop :=
  (∀ c : Ch, (t.chan c).command = .on → (t.chan c).proof = .closed →
    ((s.chan c).command = .on → (s.chan c).proof = .closed → (t.chan c).steadySince = (s.chan c).steadySince) ∧
      ((s.chan c).command ≠ .on ∨ (s.chan c).proof ≠ .closed → (t.chan c).steadySince = some t.now)) ∧
    (∀ c : Ch, s.leakRuns c = false → t.leakRuns c = true → (t.lamp c).leak = some 0) ∧
    (∀ g : Gid, s.graceRuns g = false → t.graceRuns g = true → t.sup.grace.get g = .running 0) ∧
    (∀ p ∈ t.sup.conflicts, s.pairRuns (p.low, p.high) = false → p.ms = 0 ∧ p.found = false) ∧
    (t.cfg.running = s.cfg.running → ∀ c : Ch,
      ((s.chan c).command ≠ .flashing → (t.chan c).command = .flashing → (t.lamp c).saved = some (s.lamp c).verdict) ∧
      ((s.chan c).command = .flashing → (t.chan c).command ≠ .flashing → some (t.lamp c).verdict = (s.lamp c).saved))

/-- Between two steps the additions of the last event have been counted (R182), and no commit stays pending in
CLEARING, FLASH or DARK (R191). -/
def State.betweenSteps (s : State) : Prop :=
  s.flt.added = false ∧ (s.sup.mode.drains = true → s.cfg.pendingCommit = none)

/-- A state in which every law above holds. -/
def State.safe (s : State) : Prop :=
  s.flt.sound ∧ s.coilSafe ∧ s.followsColours ∧ s.handedOn ∧ s.darkWhereDue ∧ s.slotsSound ∧ s.listsSound ∧ s.betweenSteps

/-! ### An instant at which an inhibition ends no RED_AMBER -/

/-- No group is in RED_AMBER since this very tick without an inhibition: an inhibition that arises now turns no colour
back before the next tick (R31). -/
def State.redAmberSettled (s : State) : Prop :=
  s.normalTick = true → ∀ g : Gid, (s.group g).colour = .redAmber → (s.group g).inhibited = true ∨ 0 < (s.group g).timeIn

/-- A channel stands at FULL behind a coil that is not driven: the re-proof of R102 finds a fault there. -/
def State.backFed (s : State) (c : Ch) : Prop := (s.chan c).drive = .off ∧ (s.chan c).indication = .full

/-! ### After a reset -/

/-- Every record but the clock, the fault table and the pins holds the values that the manual gives after either reset
(R4, R8, R24, R49, R82, R88, R112, R114, R117, R138, R139, R156, R185, R193), and the link has the speed read. -/
def State.emptied (t : State) (fast : Bool) : Prop :=
  t.cfg = ⟨ConfigSet.empty, none, none, false⟩ ∧ t.sch = ⟨none, none, none, none⟩ ∧
    (∀ g : Gid, (t.group g).colour = .darkAll ∧ (t.group g).timeIn = 0 ∧ (t.group g).greenEnd = none ∧
      (t.group g).demand = false ∧ (t.group g).latch = false ∧ (t.group g).inhibited = false ∧
      (t.group g).redHealth = .ok ∧ (t.group g).observedGreen = false) ∧
    t.seq.running = none ∧ t.seq.entry = none ∧ t.seq.change = none ∧ t.seq.dropped = [] ∧ t.seq.joined = [] ∧ t.seq.endDue = none ∧
    t.seq.gap = 0 ∧ t.seq.maxTimer = none ∧ t.seq.priority = [] ∧ t.seq.barred = [] ∧ t.seq.active = none ∧
    t.seq.pos = none ∧ t.seq.decision = none ∧ t.seq.shorten = 0 ∧ t.seq.holdBudget = 0 ∧ t.seq.hold = none ∧
    t.seq.allowance = 0 ∧ t.seq.greenStart = 0 ∧ t.seq.pendingPlan = none ∧
    (∀ d : Det, (t.input d).reading = false ∧ (t.input d).accepted = false ∧ (t.input d).debounceTime = 0 ∧
      (t.input d).stateTime = 0 ∧ (t.input d).fault = .none ∧ (t.input d).count = 0) ∧
    (∀ c : Ch, t.chan c = ⟨.off, .released, .unproven, .none, .none, 0, none, .no, .off, none, none⟩) ∧
    (∀ c : Ch, t.lamp c = ⟨none, .unlearned, none, none, .unknown, none, none, false, none, false⟩) ∧
    t.out.contactor = ⟨false, .releasing, .unproven, .none, .none, false, some 0⟩ ∧
    t.out.flash.running = false ∧ t.out.flash.onPhase = true ∧ t.out.flash.phaseTime = 0 ∧ t.out.trip = false ∧
    (∀ e : PEnt, t.result e = ⟨.none, 0, .none, none, none, none, 0, false⟩) ∧
    (∀ c : Ch, t.cbt.cable.get c = .untested ∧ t.cbt.quietSince.get c = some t.now) ∧
    t.cbt.phase = .idle ∧ t.cbt.probe = none ∧ t.cbt.phaseTime = 0 ∧ t.cbt.period = none ∧ t.cbt.sweepTime = 0 ∧
    t.cbt.walk = 1 ∧ t.cbt.deferred = [] ∧ t.cbt.urgent = [] ∧
    t.sup.mode = .unconfigured ∧ t.sup.reason = none ∧ t.sup.latched = false ∧ t.sup.exit = .startupFlash ∧
    t.sup.phaseTime = 0 ∧ t.sup.recovering = false ∧ t.sup.attempts = 0 ∧ t.sup.holdoff = none ∧ t.sup.probation = 0 ∧
    (∀ g : Gid, t.sup.grace.get g = .idle) ∧ t.sup.conflicts = [] ∧ t.sup.supplyPresent = false ∧
    t.sup.supplyGap = 0 ∧ t.sup.supplyStable = 0 ∧ t.sup.saved = none ∧
    t.lnk.assembler = .hunt ∧ t.lnk.input = [] ∧ t.lnk.output = [] ∧ t.lnk.reserved = 0 ∧ t.lnk.overrun = false ∧
    t.lnk.linkError = false ∧ t.lnk.notices = false ∧ t.lnk.fast = fast ∧
    t.flt.overflow = false ∧ t.flt.pulse = none

/-! ### The passing of time -/

/-- What one millisecond counts, from `s` to `t`: every timer of the 1 ms timebase that runs, and nothing else (R73, R76,
R88, R103 to R107, R112, R114, R134, R141, R158, R164, R169, R183, R193, R195, R196). The level of VBAK and the return of
the line to mark are free (notes/assumptions/8.md, notes/assumptions/7.md); the bits sent are counted in hundredths,
afresh from an empty queue (notes/assumptions/15.md), gaps in whole milliseconds (notes/assumptions/6.md), each timer up to
its bound (notes/assumptions/16.md), and the mark that holds an acceptance back ends (notes/assumptions/33.md). -/
def State.msCounts (s t : State) : Prop :=
  t.now = s.now + 1 ∧ t.pending = s.pending ∧ t.cfg = s.cfg ∧ t.sch = s.sch ∧
    t.seq = { s.seq with tickOpen := false } ∧
    t.clk =
      { s.clk with
        vbakLow := t.clk.vbakLow
        sinceCrossing := min 50 (s.clk.sinceCrossing + 1)
        stability := if s.clk.sinceCrossing + 1 < 50 then min 2000 (s.clk.stability + 1) else s.clk.stability
        divider := s.clk.divider + 32768 } ∧
    t.lnk =
      { s.lnk with
        line := t.lnk.line
        interbyte := (match s.lnk.assembler with | .assembling _ => min 5 (s.lnk.interbyte + 1) | .hunt => 0)
        sent := if s.lnk.output = [] then 0 else s.lnk.sent + (if s.lnk.fast = true then 11520 else 5760) } ∧
    (s.lnk.line = .mark → t.lnk.line = .mark) ∧
    (∀ n declared, s.lnk.line = .space n declared →
      t.lnk.line = .mark ∨ t.lnk.line = .space (min 25 (n + 1)) declared) ∧
    (∀ d : Det, t.input d =
      if s.inputUsed d = true ∧ (s.input d).reading ≠ (s.input d).accepted then
        { s.input d with debounceTime := min 500 ((s.input d).debounceTime + 1), nextMs := false }
      else { s.input d with nextMs := false }) ∧
    (∀ c : Ch, t.chan c =
      { s.chan c with
        fullTime := (s.chan c).fullTime.map fun n => min 100 (n + 1)
        limit := (s.chan c).limit.map fun l => { l with elapsed := min l.limit (l.elapsed + 1) } }) ∧
    t.out.contactor =
      (if s.out.contactor.state = .pullingIn ∧ 50 ≤ s.sup.supplyGap then s.out.contactor
      else { s.out.contactor with limit := s.out.contactor.limit.map fun n => min 200 (n + 1) }) ∧
    t.out.flash =
      (if s.out.flash.running = true then { s.out.flash with phaseTime := min 600 (s.out.flash.phaseTime + 1) }
      else s.out.flash) ∧
    t.out.trip = s.out.trip ∧
    (∀ c : Ch, t.lamp c = { s.lamp c with leak := (s.lamp c).leak.map fun n => min 1000 (n + 1) }) ∧
    t.cbt = (if s.cbt.phase = .idle then s.cbt else { s.cbt with phaseTime := min 400 (s.cbt.phaseTime + 1) }) ∧
    t.sup =
      { s.sup with
        phaseTime :=
          if s.sup.mode = .startupCheck ∧ s.out.contactor.proof = .closed then min 500 (s.sup.phaseTime + 1)
          else s.sup.phaseTime
        conflicts := s.sup.conflicts.map fun p => if p.found = true then p else { p with ms := min 50 (p.ms + 1) }
        supplyGap := min 200 (s.sup.supplyGap + 1)
        supplyStable :=
          if s.sup.crossingSeen = true ∧ s.sup.supplyGap + 1 < 50 then min 2000 (s.sup.supplyStable + 1)
          else s.sup.supplyStable } ∧
    t.flt = { s.flt with pulse := s.flt.pulse.map fun n => min 250 (n + 1) }

/-- The Plan Runner at a tenth tick of NORMAL under the coordinated plan `p`, at cycle position `l`, from `q` to `r`: a
hold counts down and keeps the position; else the position advances, wrapping at C with a cycle start and a change point,
an end position reached calls for its decision (or moves d on while a request is served), and an end due that was to
jump there keeps no jump (R50, R58, R60, R63, R68). A mark that stood before the tick stays (notes/assumptions/32.md), and
the allowance is 0 where d moves on in service (notes/assumptions/21.md). -/
def Seq.cycleTick (p : PlanRec) (l : Nat) (q r : Seq) : Prop :=
  (∀ h, q.hold = some h →
    r.hold = some (h - 1) ∧ r.pos = some l ∧ r.cycleStart = q.cycleStart ∧ r.changePoint = q.changePoint ∧
      r.decision = q.decision ∧ r.reached = q.reached ∧ r.allowance = q.allowance ∧ r.endDue = q.endDue) ∧
    (q.hold = none →
      r.hold = none ∧
        (l + 1 < p.cycle → r.pos = some (l + 1) ∧ r.cycleStart = q.cycleStart ∧ r.changePoint = q.changePoint) ∧
        (p.cycle ≤ l + 1 → r.pos = some 0 ∧ r.cycleStart = true ∧ r.changePoint = true) ∧
        r.endDue = (q.endDue.map fun e => if e.jump = some (min (l + 1) p.cycle) then { e with jump := none } else e) ∧
        (q.reached = false → (∀ d, q.decision = some d → p.endOf d ≠ min (l + 1) p.cycle) →
          r.decision = q.decision ∧ r.reached = false ∧ r.allowance = q.allowance) ∧
        (q.reached = true ∨ (∃ d, q.decision = some d ∧ p.endOf d = min (l + 1) p.cycle) →
          (q.priority = [] → r.decision = q.decision ∧ r.reached = true ∧ r.allowance = q.allowance) ∧
            (q.priority ≠ [] → r.decision = q.decision.map p.next ∧ r.reached = false ∧ r.allowance = 0)))

/-- What a tenth tick in which the cabinet mode stays counts, from `s` to `t`: the times in state, the gap timer, the
maximum timer, the head's service time, the cycle position, the inputs' state times, the sweep time and the supervisor's
tenth-tick times (R4, R25, R34, R35, R39, R50, R60, R88, R148, R160, R164 to R167). -/
def State.tickCounts (s t : State) : Prop :=
  (∀ g : Gid, (t.group g).colour = (s.group g).colour → (t.group g).timeIn = min 65535 ((s.group g).timeIn + 1)) ∧
    (s.sup.mode = .normal →
      (∀ v, s.gapHold = some v → t.seq.gap = v) ∧ (s.gapHold = none → t.seq.gap = s.seq.gap - 1)) ∧
    (s.sup.mode ≠ .normal → t.seq.gap = s.seq.gap) ∧
    (∀ n, s.seq.maxTimer = some n → t.seq.maxTimer = some (min 1200 (n + 1)) ∧ t.seq.maxLimit = s.seq.maxLimit) ∧
    (s.seq.maxTimer = none →
      (t.selects = true → t.selection ≠ none → t.seq.maxTimer = some 0 ∧ t.seq.maxLimit = t.maxGreen) ∧
        (t.selects = false ∨ t.selection = none → t.seq.maxTimer = none)) ∧
    (s.seq.priority = [] → t.seq.priority = []) ∧
    (∀ h rest, s.seq.priority = h :: rest →
      t.seq.priority = { h with service := min 2550 (h.service + 1) } :: rest) ∧
    (s.sup.mode = .normal → s.activePlan.coordinated = true →
      ∀ l, s.seq.pos = some l → Seq.cycleTick s.activePlan l s.seq t.seq) ∧
    (s.sup.mode ≠ .normal ∨ s.activePlan.coordinated = false ∨ s.seq.pos = none →
      t.seq.pos = s.seq.pos ∧ t.seq.hold = s.seq.hold ∧ t.seq.cycleStart = s.seq.cycleStart ∧
        t.seq.changePoint = s.seq.changePoint ∧ t.seq.decision = s.seq.decision ∧ t.seq.reached = s.seq.reached ∧
        t.seq.allowance = s.seq.allowance ∧ t.seq.endDue = s.seq.endDue) ∧
    t.seq.running = s.seq.running ∧ t.seq.entry = s.seq.entry ∧ t.seq.active = s.seq.active ∧
    t.seq.shorten = s.seq.shorten ∧ t.seq.holdBudget = s.seq.holdBudget ∧ t.seq.greenStart = s.seq.greenStart ∧
    t.seq.stageMin = s.seq.stageMin ∧
    (∀ d : Det, t.input d =
      if s.inputUsed d = true then { s.input d with stateTime := min 16777215 ((s.input d).stateTime + 1) }
      else s.input d) ∧
    t.cbt.period = s.cbt.period ∧
    t.cbt.sweepTime = (if s.cbt.period = none then s.cbt.sweepTime else min 864000 (s.cbt.sweepTime + 1)) ∧
    t.sup.phaseTime =
      (if s.sup.mode = .startupFlash ∨ s.sup.mode = .startupRed then min 600 (s.sup.phaseTime + 1)
      else s.sup.phaseTime) ∧
    (∀ (g : Gid) (n : Nat), s.sup.grace.get g = .running n → t.sup.grace.get g = .running (min 600 (n + 1))) ∧
    (∀ g : Gid, (∀ n, s.sup.grace.get g ≠ .running n) → t.sup.grace.get g = s.sup.grace.get g) ∧
    (s.sup.latched = false → s.waitingSupply = false →
      ((s.sup.mode = .flash ∧ s.sup.reason = some .redFail) ∨ (s.sup.mode = .dark ∧ s.sup.reason = some .contactor)) →
      t.sup.holdoff = s.sup.holdoff.map fun n => min 36000 (n + 1)) ∧
    (s.sup.latched = true ∨ s.waitingSupply = true ∨
        ¬((s.sup.mode = .flash ∧ s.sup.reason = some .redFail) ∨
          (s.sup.mode = .dark ∧ s.sup.reason = some .contactor)) →
      t.sup.holdoff = s.sup.holdoff) ∧
    t.sup.probation =
      (if s.sup.recovering = true ∧ s.sup.mode = .normal then min 36000 (s.sup.probation + 1) else s.sup.probation)

/-! ### A pending timing commit and the pending plan -/

/-- The forced plan once the timing records `tm` are in force: a force whose plan they leave without entries ends (R84). -/
def State.forcedUnder (s : State) (tm : Timing) : Option Pln :=
  match s.sch.forced with
  | some p => if (tm.plans.get p).entries = [] then none else some p
  | none => none

/-- The selection that the Day Schedule makes on the timing records `tm` (R64, R82). -/
def State.selectionUnder (s : State) (tm : Timing) : Selection :=
  tm.select (s.forcedUnder tm) s.clk.valid s.clk.date s.clk.tod

/-- The pending plan once the timing records `tm` are in force and the Day Schedule selects plan `q`, in NORMAL (R62, R64):
another plan delivered is the newest; else the active plan is taken again where its record or a stage that it names
changed, and `q` is taken in its place where it lost its entries (notes/assumptions/76.md); else a delivered return to the
active plan clears the pending plan, and an undelivered selection leaves it. -/
def State.pendingUnder (s : State) (tm : Timing) (q : Pln) : Option Pln :=
  if s.sch.action ≠ some (.plan q) ∧ s.seq.active ≠ some q then some q
  else
    match s.seq.active with
    | some a =>
      if tm.plans.get a ≠ s.plan a ∨ ∃ e ∈ (tm.plans.get a).entries, tm.stages.get e.stage ≠ s.stage e.stage then
        (if (s.plan a).entries ≠ [] ∧ (tm.plans.get a).entries = [] then some q else some a)
      else if s.sch.action ≠ some (.plan q) then none
      else s.seq.pendingPlan
    | none => s.seq.pendingPlan

/-- In `t`, in which a commit was applied, RELAY_WEAR stands for every channel whose operation count has reached a threshold
above 0, but for a full table, and for no other channel (R110). -/
def State.wearJudged (t : State) : Prop :=
  ∀ c : Ch, ∀ worn : Prop, worn = (0 < (t.settings c).wear ∧ (t.settings c).wear ≤ (t.chan c).opCount) →
    (worn → t.flt.entries.length < 64 →
      ∃ e ∈ t.flt.entries, e.kind = .relayWear ∧ e.subject = .channel c ∧ e.active = true) ∧
    (¬worn → ∀ e ∈ t.flt.entries, e.kind = .relayWear → e.subject = .channel c → e.active = false)

/-- From `s` to `t` the pending timing commit `tm` was applied: its records are in force, the buffer and the structural
records stand, COMMIT_APPLIED is added, the date, the time and its validity stand, the wear of every channel is judged, and
the Day Schedule has evaluated on the new records (R64, R84, R110, R190, R191). -/
def State.commits (s t : State) (tm : Timing) : Prop :=
  t.cfg = { running := { s.cfg.running with tm := tm }, buffer := s.cfg.buffer, pendingCommit := none, committed := true } ∧
    t.flt.pendingSet.commitApplied = true ∧
    t.clk.date = s.clk.date ∧ t.clk.tod = s.clk.tod ∧ t.clk.valid = s.clk.valid ∧ t.wearJudged ∧
    t.sch =
      { action := some (s.selectionUnder tm).action
        source := some (s.selectionUnder tm).source
        governing := (s.selectionUnder tm).governing
        forced := s.forcedUnder tm }

/-- From `s` to `t` the Plan Runner took plan `p` of the records in force in `t` (R65, R42): PLAN_CHANGE, position 0 and
decision entry 1 with the budgets of a correction for a coordinated plan and none for another, and the end toward entry 1
unless its stage runs with every member in GREEN and no change. While a priority request is served no end is set, and the
current entry is none (notes/assumptions/21.md). -/
def State.takesPlan (s t : State) (p : Pln) : Prop :=
  t.seq.active = some p ∧ t.seq.pendingPlan = none ∧ t.seq.hold = none ∧ t.flt.pendingSet.planChange = true ∧
    ((t.plan p).coordinated = true → t.seq.pos = some 0 ∧ t.seq.decision = some 1 ∧
      (s.clk.valid = false → t.seq.shorten = 0 ∧ t.seq.holdBudget = 0) ∧
      (s.clk.valid = true → (t.plan p).offset < (t.plan p).cycle →
        (t.seq.shorten, t.seq.holdBudget) =
          budgets (t.plan p).method (t.plan p).cycle ((t.plan p).cycle * (t.plan p).pmax / 100)
            ((s.clk.tod + (t.plan p).cycle - (t.plan p).offset) % (t.plan p).cycle))) ∧
    ((t.plan p).coordinated = false →
      t.seq.pos = none ∧ t.seq.decision = none ∧ t.seq.shorten = 0 ∧ t.seq.holdBudget = 0) ∧
    (∀ e, (t.plan p).entry? 1 = some e → t.seq.priority = [] →
      (s.seq.running = some e.stage → (∀ g ∈ t.stage e.stage, (s.group g).colour = .green) → s.seq.change = none →
        t.seq.endDue = none ∧ t.seq.entry = some 1) ∧
      ((s.seq.running ≠ some e.stage ∨ s.seq.change ≠ none ∨ ∃ g ∈ t.stage e.stage, (s.group g).colour ≠ .green) →
        t.seq.endDue = some ⟨e.stage, some 1, none⟩)) ∧
    ((t.plan p).entries = [] → t.seq.priority = [] → t.seq.endDue = none) ∧
    (t.seq.priority ≠ [] → t.seq.entry = none ∧ (t.seq.priority = s.seq.priority → t.seq.endDue = s.seq.endDue))

/-! ### Requests and replies -/

/-- A request frame is well formed and a slot is free for its reply (R192, R194), between two steps. -/
def State.takes (s : State) (tag : Byte) (body : List Byte) : Prop :=
  s.betweenSteps ∧ tag ≠ 0 ∧ body.length ≤ Config.maxBody ∧ s.lnk.freeSlots ≠ 0

/-- The reply frame of a request: its tag, its code plus 0x80, the status, the summary of this state and the body
(R192, R196). -/
def State.replyFrame (s : State) (tag code : Byte) (st : Status) (body : List Byte) : OutFrame :=
  ⟨tag, code + 0x80#8, BitVec.ofNat 8 st.code :: s.summary :: replyBody body⟩

/-- The state with a reply at the tail of the output queue, OVERRUN and LINK_ERROR carried away by it, and nothing else
changed (R196). -/
def State.withReply (s : State) (tag code : Byte) (st : Status) (body : List Byte) : State :=
  { s with
    lnk :=
      { s.lnk with
        output := s.lnk.output ++ [s.replyFrame tag code st body]
        overrun := false
        linkError := false } }

/-- The request that a code of the catalogue names (12.5). -/
def catalogued (tag code : Byte) (body : List Byte) : Option Instr :=
  match code.toNat with
  | 0x01 => some (.identify tag body) | 0x02 => some (.status tag body)
  | 0x10 => some (.editOpen tag body) | 0x11 => some (.editWrite tag body) | 0x12 => some (.editRead tag body)
  | 0x13 => some (.editCommit tag body) | 0x14 => some (.editDiscard tag body) | 0x15 => some (.configRead tag body)
  | 0x20 => some (.clockSet tag body) | 0x21 => some (.clockRead tag body) | 0x22 => some (.clockTrim tag body)
  | 0x30 => some (.start tag body) | 0x31 => some (.restart tag body) | 0x32 => some (.modeSet tag body)
  | 0x33 => some (.planForce tag body) | 0x34 => some (.planRelease tag body) | 0x35 => some (.demandPlace tag body)
  | 0x36 => some (.maintUpdate tag body) | 0x37 => some (.lampRelearn tag body)
  | 0x40 => some (.sweepStart tag body) | 0x41 => some (.sweepStop tag body) | 0x42 => some (.probeRun tag body)
  | 0x50 => some (.groupRead tag body) | 0x51 => some (.channelRead tag body) | 0x52 => some (.detectorRead tag body)
  | 0x53 => some (.cableRead tag body) | 0x60 => some (.faultRead tag body) | 0x61 => some (.faultAck tag body)
  | 0x62 => some (.faultPurge tag body) | 0x63 => some (.attentionRead tag body) | 0x64 => some (.noticeEnable tag body)
  | _ => none

/-- From `s` to `t` frames joined the tail of the output queue, and one of them answers the request with a status. -/
def State.answers (s t : State) (tag code : Byte) (st : Status) : Prop :=
  ∃ l : List OutFrame, t.lnk.output = s.lnk.output ++ l ∧
    ∃ f ∈ l, f.tag = tag ∧ f.code = code + 0x80#8 ∧ f.payload.head? = some (BitVec.ofNat 8 st.code)

/-- What a class takes a body for (R187): the bytes of the record that it stores, with the flag that a value was clamped, or
the status that refuses the body. -/
def RecordClass.takes (cls : RecordClass) (rec : List Byte) : Except Status (List Byte × Bool) :=
  match cls with
  | .group => (parseGroup rec).map fun r => (r.1.bytes, r.2)
  | .channel => (parseChannel rec).map fun r => (r.1.bytes, r.2)
  | .conflictRow | .stage => (parseGroupSet rec).map fun r => (counted r.1, r.2)
  | .intergreenRow => (parseIntergreen rec).map fun r => (r.1.items.flatMap u16, r.2)
  | .cable => (parseCable rec).map fun r => (counted r.1, r.2)
  | .probe => (parseProbe rec).map fun r => (r.1.bytes, r.2)
  | .groupTiming => (parseGroupTiming rec).map fun r => (r.1.bytes, r.2)
  | .channelSettings => (parseSettings rec).map fun r => (r.1.bytes, r.2)
  | .plan => (parsePlan rec).map fun r => (r.1.bytes, r.2)
  | .detector => (parseDetector rec).map fun r => (r.1.bytes, r.2)
  | .schedule => (parseSchedule rec).map fun r => (r.1.bytes, r.2)
  | .specialDay => (parseSpecial rec).map fun r => (specialBytes r.1, r.2)
  | .cabinet => (parseCabinet rec).map fun r => (r.1.bytes, r.2)

/-- No reading of a voltage waits at the supply output to complete a close: the contactor's coil is driven already, or
its terminal does not carry FULL (R103, R114). -/
def State.closesLater (s : State) : Prop := s.out.contactor.driven = true ∨ s.out.contactor.indication ≠ .full

/-! ### The Day Schedule's evaluation and its deliveries -/

/-- The date `k` days before a date, none before 2000-01-01 (R82 step 4). -/
def Date.before : Nat → Date → Option Date
  | 0, d => some d
  | k + 1, d => (Date.before k d).bind Date.prev

/-- Entry `i` governs on a date: its selector holds the day type, its start minute is within the limit where there is one,
and it is later than that of every other such entry (R82 steps 3 and 4). -/
def Timing.governsOn (tm : Timing) (i : Fin 32) (d : Date) (limit : Option Nat) : Prop :=
  ∀ fits : Fin 32 → Prop,
    fits = (fun j => (tm.schedule.get j).days.getLsbD (tm.dayType d) = true ∧
      ∀ m, limit = some m → (tm.schedule.get j).minute ≤ m) →
    fits i ∧ ∀ j, fits j → j ≠ i → (tm.schedule.get j).minute < (tm.schedule.get i).minute

/-- No entry's selector holds the day type of a date, within the limit where there is one. -/
def Timing.noneOn (tm : Timing) (d : Date) (limit : Option Nat) : Prop :=
  ∀ j : Fin 32, (tm.schedule.get j).days.getLsbD (tm.dayType d) = true →
    ∃ m, limit = some m ∧ m < (tm.schedule.get j).minute

/-- An evaluation's selection before step 5 is this one (R82). -/
def Timing.settles (tm : Timing) (sel : Selection) (action : Action) (source : SelSource)
    (governing : Option (Fin 32 × Date)) : Prop :=
  ((∀ p, action = .plan p → (tm.plans.get p).entries ≠ []) → sel = ⟨action, source, governing, false⟩) ∧
    (∀ p, action = .plan p → (tm.plans.get p).entries = [] →
      sel = ⟨.plan tm.cabinet.defaultPlan, .defaultUndefined, governing, true⟩)

/-- What an evaluation selects, by the five steps of R82. The governing entry beside a source other than SCHEDULE is the
model's reading (notes/assumptions/37.md). -/
def Timing.selects (tm : Timing) (forced : Option Pln) (valid : Bool) (d : Date) (tod : Nat) (sel : Selection) : Prop :=
  (∀ p, forced = some p → tm.settles sel (.plan p) .forced none) ∧
    (forced = none → valid = false → tm.settles sel (.plan tm.cabinet.defaultPlan) .defaultTimeInvalid none) ∧
    (forced = none → valid = true →
      (∀ i, tm.governsOn i d (some (tod / 600)) → tm.settles sel (tm.schedule.get i).action .schedule (some (i, d))) ∧
        (tm.noneOn d (some (tod / 600)) →
          (∀ i k on, 1 ≤ k → k ≤ 7 → Date.before k d = some on → tm.governsOn i on none →
            (∀ k' on', 1 ≤ k' → k' < k → Date.before k' d = some on' → tm.noneOn on' none) →
            tm.settles sel (tm.schedule.get i).action .schedule (some (i, on))) ∧
            ((∀ k on, 1 ≤ k → k ≤ 7 → Date.before k d = some on → tm.noneOn on none) →
              tm.settles sel (.plan tm.cabinet.defaultPlan) .defaultNoEntry none)))

/-- A FLASH newly selected takes the cabinet on its way to FLASH (R85, R163): not in STARTUP_CHECK, whose exit it sets, nor
in a fallback, nor while a supply loss is waited out, nor where a latched FLASH already waits in STARTUP_RED
(notes/assumptions/24.md). -/
def State.flashStarts (s : State) (sel : Selection) : Prop :=
  sel.action = .flash ∧ s.sch.action ≠ some .flash ∧ s.waitingSupply = false ∧
    (s.sup.mode = .normal ∨ s.sup.mode = .startupFlash ∨
      s.sup.mode = .startupRed ∧ ∀ r, s.sup.flashNext ≠ some (r, true))

/-- What an evaluation that selects `sel` in `s` has delivered in `t` (R62, R82, R83, R85, R163, R167): PLAN_UNDEFINED;
PLAN_CHANGE where the action changes, and nothing where it does not; a plan to the Plan Runner in NORMAL, pending or, where
it is the active one, clearing the pending plan; the start of a scheduled FLASH, and its end. -/
def State.delivers (s t : State) (sel : Selection) : Prop :=
  (sel.replaced = true → t.flt.entries.length < 64 →
    ∃ e ∈ t.flt.entries, e.kind = .planUndefined ∧ e.subject = .nothing ∧ e.active = true) ∧
  (s.sch.action = some sel.action → s.sup.flashNext = none →
    t.seq.pendingPlan = s.seq.pendingPlan ∧ t.sup.mode = s.sup.mode ∧ t.sup.exit = s.sup.exit ∧ t.sup.saved = s.sup.saved) ∧
  (s.sch.action ≠ some sel.action →
    t.flt.pendingSet.planChange = true ∧
    (sel.replaced = false → ∀ e ∈ t.flt.entries, e.kind = .planUndefined → e.subject = .nothing → e.active = false) ∧
    (∀ p, sel.action = .plan p →
      (s.sup.mode = .normal → t.sup.mode = .normal ∧
        t.seq.pendingPlan = (if s.seq.active = some p then none else some p)) ∧
      (s.sch.action ≠ some .flash → s.sup.flashNext = none →
        t.sup.mode = s.sup.mode ∧ t.sup.exit = s.sup.exit ∧ t.sup.saved = s.sup.saved) ∧
      (s.sch.action = some .flash →
        (s.waitingSupply = true → t.sup.saved =
          (if s.sup.saved = some (.flash (some .hostRequest) false) then some .startup else s.sup.saved)) ∧
        (s.waitingSupply = false → (s.sup.mode = .flash ∨ s.sup.mode = .clearing) →
          (s.sup.reason = some .hostRequest → s.sup.latched = false → s.closesLater →
            t.sup.mode = .startupCheck ∧ t.sup.exit = .startupFlash ∧ t.out.contactor.closeCommand = true ∧
              ∀ g, s.kind g ≠ none → (t.group g).colour = .darkAll) ∧
          (s.sup.reason ≠ some .hostRequest ∨ s.sup.latched = true →
            t.sup.mode = s.sup.mode ∧ t.sup.reason = s.sup.reason ∧ t.sup.latched = s.sup.latched)) ∧
        (s.waitingSupply = false → s.sup.mode = .startupCheck → t.sup.mode = .startupCheck ∧
          t.sup.exit = (if s.sup.exit = .flash (some .hostRequest) false then .startupFlash else s.sup.exit)))) ∧
    (sel.action = .flash →
      (s.flashStarts sel → t.sup.reason = some .hostRequest ∧ t.sup.latched = false ∧ t.seq.pendingPlan = none ∧
        t.seq.active = none ∧ t.sup.mode = (if s.sup.mode = .normal then .clearing else .flash)) ∧
      (s.waitingSupply = false → s.sup.mode = .startupCheck → t.sup.mode = .startupCheck ∧
        t.sup.exit = (if s.sup.exit = .startupFlash then .flash (some .hostRequest) false else s.sup.exit)) ∧
      (s.waitingSupply = true ∨ s.sup.mode = .clearing ∨ s.sup.mode = .flash ∨ s.sup.mode = .dark →
        s.sup.flashNext = none →
        t.sup.mode = s.sup.mode ∧ t.sup.reason = s.sup.reason ∧ t.sup.latched = s.sup.latched ∧
          t.sup.saved = s.sup.saved)))

/-- From `s` to `t` the Day Schedule evaluated once, on the date and the time of `t` and with this forced plan: the
selection record holds what it selected, and it has delivered it. Where that starts a FLASH, which releases a pending
commit (R191), the commit has been applied too, with its own evaluation. -/
def State.evaluates (s t : State) (forced : Option Pln) : Prop :=
  ∀ sel, sel = s.cfg.running.tm.select forced t.clk.valid t.clk.date t.clk.tod →
    (s.cfg.pendingCommit = none ∨ ¬s.flashStarts sel →
      t.cfg = s.cfg ∧ t.sch = ⟨some sel.action, some sel.source, sel.governing, forced⟩ ∧ s.delivers t sel) ∧
    ∀ tm, s.cfg.pendingCommit = some tm → s.flashStarts sel →
      State.commits { s with clk := t.clk, sch := { s.sch with forced := forced } } t tm

/-- The Day Schedule, the waiting FLASH of STARTUP_RED, the requests that wait for the tick and the inhibited gaining groups
at a tenth tick from `s` to `t`. The Day Schedule evaluates at the tick that takes a CLOCK_SET and at a minute boundary,
with which the end of the date range coincides, in every mode but UNCONFIGURED, and at no other tick (R71, R83; one
evaluation where two of these meet, notes/assumptions/77.md). A red failure of STARTUP_RED enters its FLASH (R163) after
that evaluation (notes/assumptions/24.md). Each CLOCK_SET is answered OK (R79). In NORMAL an inhibited group on its way to
GREEN is dropped with its green instant (R31; a joiner's, notes/assumptions/31.md). -/
def State.tickSchedules (s t : State) : Prop :=
  (∀ due : Prop, due = (s.sup.mode ≠ .unconfigured ∧ (s.clk.pendingSet ≠ none ∨ t.clk.tod % 600 = 0)) →
    (s.cfg.pendingCommit = none ∨ s.sup.flashNext = none →
      (due → s.evaluates t s.sch.forced) ∧
      (¬due → t.sch = s.sch ∧ t.cfg = s.cfg ∧
        (s.sup.flashNext = none →
          t.seq.pendingPlan = s.seq.pendingPlan ∧ t.sup.mode = s.sup.mode ∧ t.sup.reason = s.sup.reason ∧
            t.sup.exit = s.sup.exit ∧ t.sup.saved = s.sup.saved))) ∧
    (∀ r l, s.sup.mode = .startupRed → s.sup.flashNext = some (r, l) → s.cfg.pendingCommit = none →
      (due → ¬s.flashStarts (s.cfg.running.tm.select s.sch.forced t.clk.valid t.clk.date t.clk.tod)) →
      t.sup.mode = .flash ∧ t.sup.reason = r ∧ t.sup.latched = l ∧ t.seq.coloursDue = true)) ∧
  (∀ tag ∈ s.clk.setTags, s.clk.pendingSet ≠ none → State.answers s t tag 0x20#8 .ok) ∧
  (s.sup.mode = .normal → t.sup.mode = .normal → ∀ g : Gid, (s.group g).inhibited = true →
    (∀ at', s.seq.gainingInstant g = some at' →
      t.seq.gainingInstant g = none ∧ (g, (s.seq.joinedInstant g).getD at') ∈ t.seq.dropped) ∧
    ((s.group g).colour = .redAmber → (t.group g).colour = .red ∧
      (s.seq.gainingInstant g = none → (g, (s.seq.joinedInstant g).getD (s.seq.tick + 1)) ∈ t.seq.dropped)))

end Sys2Proof.Machine
end

