-- ==== Sys2Proof/WellFormed.lean ====
section
/-! DEFINITION. The commands the manual allows: what a request frame may carry (R192), what a sample may be (R119) and
how a group pair is written (R175). The machine runs every command; these are the ones the outside can send. -/

namespace Sys2Proof

/-- A request frame has tag 1 to 255 and a body of 0 to 240 bytes (R192). -/
def requestWellFormed (tag : Byte) (body : List Byte) : Bool := tag != 0 && decide (body.length ≤ Config.maxBody)

/-- A command is well formed. -/
def Instr.wellFormed (i : Instr) : Bool :=
  match i with
  | .powerOnReset _ _ _ _ _ => true
  | .resetInput _ _ => true
  | .rxFrame tag _ body _ => requestWellFormed tag body
  | .interbyteTimeout => true
  | .linkBreak => true
  | .requestTaken => true
  | .frameSent => true
  | .identify tag body => requestWellFormed tag body
  | .status tag body => requestWellFormed tag body
  | .editOpen tag body => requestWellFormed tag body
  | .editWrite tag body => requestWellFormed tag body
  | .editRead tag body => requestWellFormed tag body
  | .editCommit tag body => requestWellFormed tag body
  | .editDiscard tag body => requestWellFormed tag body
  | .configRead tag body => requestWellFormed tag body
  | .clockSet tag body => requestWellFormed tag body
  | .clockRead tag body => requestWellFormed tag body
  | .clockTrim tag body => requestWellFormed tag body
  | .start tag body => requestWellFormed tag body
  | .restart tag body => requestWellFormed tag body
  | .modeSet tag body => requestWellFormed tag body
  | .planForce tag body => requestWellFormed tag body
  | .planRelease tag body => requestWellFormed tag body
  | .demandPlace tag body => requestWellFormed tag body
  | .maintUpdate tag body => requestWellFormed tag body
  | .lampRelearn tag body => requestWellFormed tag body
  | .sweepStart tag body => requestWellFormed tag body
  | .sweepStop tag body => requestWellFormed tag body
  | .probeRun tag body => requestWellFormed tag body
  | .groupRead tag body => requestWellFormed tag body
  | .channelRead tag body => requestWellFormed tag body
  | .detectorRead tag body => requestWellFormed tag body
  | .cableRead tag body => requestWellFormed tag body
  | .faultRead tag body => requestWellFormed tag body
  | .faultAck tag body => requestWellFormed tag body
  | .faultPurge tag body => requestWellFormed tag body
  | .attentionRead tag body => requestWellFormed tag body
  | .noticeEnable tag body => requestWellFormed tag body
  | .attentionPulseEnd => true
  | .zeroCrossing => true
  | .crystalTick => true
  | .mainsTimingLoss => true
  | .detectorPinChange _ _ => true
  | .detectorAcceptedChange _ => true
  | .stuckOn _ => true
  | .stuckOff _ => true
  | .priorityOverstay => true
  | .stageChangeStart => true
  | .redAmberStart _ => true
  | .greenInstant _ => true
  | .amberEnd _ => true
  | .clearanceEnd _ => true
  | .stageChangeComplete => true
  | .lateJoin _ => true
  | .gapOut => true
  | .maxOut => true
  | .coordinatedGapOut => true
  | .endOfEntryDecision => true
  | .skipPoint => true
  | .holdEnd => true
  | .cycleStart => true
  | .changePoint => true
  | .modeColoursApply => true
  | .clearingGreensEnd => true
  | .voltageIndication _ _ => true
  | .supplyOutputIndication _ => true
  | .fullDriveEnd _ => true
  | .pullInLimit _ => true
  | .releaseLimit _ => true
  | .contactorCloseLimit => true
  | .contactorOpenLimit => true
  | .flashPhaseChange => true
  | .currentSample _ mA => decide (mA ≤ 4000)
  | .leakRequest _ => true
  | .probeStart => true
  | .probeClosingEnd => true
  | .probeClassify _ => true
  | .probeReleaseEnd => true
  | .sweepEnd => true
  | .conflictFound i j => decide (i < j)
  | .redFailure _ => true
  | .startupCheckComplete => true
  | .startupFlashEnd => true
  | .startupRedEnd => true
  | .holdoffExpiry => true
  | .probationExpiry => true
  | .supplyLoss => true
  | .supplyReturn => true
  | .byteReceived _ _ => true
  | .crossingGap50Ms => true

/-- The tag and the body of the frame that a command carries: of a received frame and of each request (R192). -/
def Instr.frameOf (i : Instr) : Option (Byte × List Byte) :=
  match i with
  | .powerOnReset _ _ _ _ _ => none
  | .resetInput _ _ => none
  | .rxFrame tag _ body _ => some (tag, body)
  | .interbyteTimeout => none
  | .linkBreak => none
  | .requestTaken => none
  | .frameSent => none
  | .identify tag body => some (tag, body)
  | .status tag body => some (tag, body)
  | .editOpen tag body => some (tag, body)
  | .editWrite tag body => some (tag, body)
  | .editRead tag body => some (tag, body)
  | .editCommit tag body => some (tag, body)
  | .editDiscard tag body => some (tag, body)
  | .configRead tag body => some (tag, body)
  | .clockSet tag body => some (tag, body)
  | .clockRead tag body => some (tag, body)
  | .clockTrim tag body => some (tag, body)
  | .start tag body => some (tag, body)
  | .restart tag body => some (tag, body)
  | .modeSet tag body => some (tag, body)
  | .planForce tag body => some (tag, body)
  | .planRelease tag body => some (tag, body)
  | .demandPlace tag body => some (tag, body)
  | .maintUpdate tag body => some (tag, body)
  | .lampRelearn tag body => some (tag, body)
  | .sweepStart tag body => some (tag, body)
  | .sweepStop tag body => some (tag, body)
  | .probeRun tag body => some (tag, body)
  | .groupRead tag body => some (tag, body)
  | .channelRead tag body => some (tag, body)
  | .detectorRead tag body => some (tag, body)
  | .cableRead tag body => some (tag, body)
  | .faultRead tag body => some (tag, body)
  | .faultAck tag body => some (tag, body)
  | .faultPurge tag body => some (tag, body)
  | .attentionRead tag body => some (tag, body)
  | .noticeEnable tag body => some (tag, body)
  | .attentionPulseEnd => none
  | .zeroCrossing => none
  | .crystalTick => none
  | .mainsTimingLoss => none
  | .detectorPinChange _ _ => none
  | .detectorAcceptedChange _ => none
  | .stuckOn _ => none
  | .stuckOff _ => none
  | .priorityOverstay => none
  | .stageChangeStart => none
  | .redAmberStart _ => none
  | .greenInstant _ => none
  | .amberEnd _ => none
  | .clearanceEnd _ => none
  | .stageChangeComplete => none
  | .lateJoin _ => none
  | .gapOut => none
  | .maxOut => none
  | .coordinatedGapOut => none
  | .endOfEntryDecision => none
  | .skipPoint => none
  | .holdEnd => none
  | .cycleStart => none
  | .changePoint => none
  | .modeColoursApply => none
  | .clearingGreensEnd => none
  | .voltageIndication _ _ => none
  | .supplyOutputIndication _ => none
  | .fullDriveEnd _ => none
  | .pullInLimit _ => none
  | .releaseLimit _ => none
  | .contactorCloseLimit => none
  | .contactorOpenLimit => none
  | .flashPhaseChange => none
  | .currentSample _ _ => none
  | .leakRequest _ => none
  | .probeStart => none
  | .probeClosingEnd => none
  | .probeClassify _ => none
  | .probeReleaseEnd => none
  | .sweepEnd => none
  | .conflictFound _ _ => none
  | .redFailure _ => none
  | .startupCheckComplete => none
  | .startupFlashEnd => none
  | .startupRedEnd => none
  | .holdoffExpiry => none
  | .probationExpiry => none
  | .supplyLoss => none
  | .supplyReturn => none
  | .byteReceived _ _ => none
  | .crossingGap50Ms => none

end Sys2Proof
end

