-- ==== Sys2Proof/Certificates/Slice0/Obligations.lean ====
section
/-! DEFINITION. The statements for the provers. A command's own effect is stated under hypotheses on the state and the
operands alone; `exec c s = .next t` says that the command completes. -/

open Sys2Proof
open Sys2Proof.Machine

/-! ### The step -/

/-- The command at the front of the queue is run with the queue's rest (first in, first out; the model's queue,
notes/assumptions/5.md). -/
def Obligations.StepRunsFrontCommand : Prop :=
  ∀ (c : Instr) (rest : List Instr) (s : State), s.pending = c :: rest → step s = exec c { s with pending := rest }

/-- With no command waiting the part takes the first step that is due, or lets one millisecond pass, in which every timer
of the 1 ms timebase that runs counts it. That time passes so is the model's choice (notes/assumptions/1.md), and so is
that the check's phase time keeps its value while the proof is not CLOSED (notes/assumptions/59.md) and the close limit
while it is not timed (notes/assumptions/68.md); that bits are counted as sent in hundredths, afresh from an empty output
queue, and the interbyte gap in whole milliseconds (notes/assumptions/15.md); that the time since the last counted crossing
is counted in whole milliseconds (notes/assumptions/6.md); and that a timer stops at its bound (notes/assumptions/16.md).
VBAK and the return of the line to mark are free (notes/assumptions/8.md, notes/assumptions/7.md), and the mark that holds
an acceptance back is the model's reading (notes/assumptions/33.md). -/
def Obligations.IdleStepTakesDueStepOrMillisecond : Prop :=
  ∀ s : State, s.pending = [] →
    (∀ c, s.firstDue = some c → step s = exec c s) ∧
      (s.firstDue = none →
        ∃ t, step s = .next t ∧ s.msCounts t)

/-- Every command completes, since no rule of the manual stops the part, and no command touches the queue of the
commands that wait behind it. -/
def Obligations.CommandsCompleteAndLeaveQueue : Prop :=
  ∀ (c : Instr) (s : State), ∃ t, exec c s = .next t ∧ t.pending = s.pending

/-! ### Laws that every step keeps -/

/-- R178: the fault table never holds more than 64 entries, or two with one key. -/
def Obligations.FaultTableStaysSound : Prop :=
  ∀ s t : State, s.flt.sound → step s = .next t → t.flt.sound

/-- R103 to R107, R113: a coil is driven exactly while its relay is PULLING_IN or HELD, and never while the test bus is
connected to its channel. -/
def Obligations.CoilNeverDrivenOnTestBus : Prop :=
  ∀ s t : State, s.coilSafe → step s = .next t → t.coilSafe

/-- R3: every channel's command is the one its group's colour state and its aspect give. With that law every block that
derives a value from another's fields keeps it (State.handedOn): observed green from the channels that show (R7), red health
from the healthy heads (R129), the inhibited flag (R30), the grace times (R160) and the conflict times (R158) that run,
steady-on since (R111), the leak time (R134), HELD with its saved verdict (R127), and no partial set and no run off steady-on
(R120, R132); and what begins at the step begins as the rules say (State.handsOver). -/
def Obligations.CommandsFollowColours : Prop :=
  (∀ s t : State, s.followsColours → step s = .next t → t.followsColours) ∧
    ∀ s t : State, s.followsColours → s.handedOn → step s = .next t → t.handedOn ∧ s.handsOver t

/-- R43, R1: every group is in DARK_ALL in UNCONFIGURED, STARTUP_CHECK and DARK, and an unfitted one always. -/
def Obligations.DarkModesKeepGroupsDark : Prop :=
  ∀ s t : State, s.darkWhereDue → step s = .next t → t.darkWhereDue

/-- R194, R193: every reserved slot is owed to one deferred reply, and the queue, its reservations and the input buffer
fit their slots: a reply always finds its place. -/
def Obligations.ReplySlotsStaySound : Prop :=
  ∀ s t : State, s.slotsSound → step s = .next t → t.slotsSound

/-- R38, R139: the priority list and the urgent queue keep their sizes and hold nothing twice. -/
def Obligations.ListsKeepSizesWithoutRepeats : Prop :=
  ∀ s t : State, s.listsSound → step s = .next t → t.listsSound

/-- R182, R191: after every step the additions of its event have been counted, and no timing commit stays pending in
CLEARING, FLASH or DARK. -/
def Obligations.EveryStepCountsAdditionsAndDrainsCommit : Prop :=
  ∀ s t : State, s.betweenSteps → step s = .next t → t.betweenSteps

/-- The state after reset meets every law of a safe state. -/
def Obligations.ResetStateIsSafe : Prop := State.reset.safe

/-- R30, R31: no command puts an inhibited group into RED_AMBER or GREEN. -/
def Obligations.InhibitedGroupNeverGainsGreen : Prop :=
  ∀ (c : Instr) (s t : State) (g : Gid), exec c s = .next t → (s.group g).inhibited = true →
    ((t.group g).colour = .green → (s.group g).colour = .green) ∧
      ((t.group g).colour = .redAmber → (s.group g).colour = .redAmber)

/-- R178: an ACTIVE SAFETY entry keeps its place in the table through every report. -/
def Obligations.ActiveSafetyEntryNeverEvicted : Prop :=
  ∀ (f : Flt) (k : FaultKind) (x : Subject) (safety : Bool) (now : Stamp) (e : FaultEntry),
    e ∈ f.entries → e.active = true → e.safety = true →
      ∃ e' ∈ (f.report k x safety now).entries, e'.kind = e.kind ∧ e'.subject = e.subject ∧ e'.active = true

/-! ### The fault table (R176, R177, R180 to R182) -/

/-- R176: what a report does to a table that has room, by what the table holds for the key. -/
def Obligations.ReportCreatesOrUpdatesEntry : Prop :=
  ∀ (f : Flt) (k : FaultKind) (x : Subject) (safety : Bool) (now : Stamp),
    ((∀ e ∈ f.entries, ¬(e.kind = k ∧ e.subject = x)) → f.entries.length < 64 →
      f.report k x safety now =
        { f with
          entries := f.entries ++ [⟨k, x, safety, true, false, now, now, 1⟩]
          pendingSet := { f.pendingSet with faultNew := true }
          added := true }) ∧
    (∀ (a b : List FaultEntry) (e : FaultEntry), f.entries = a ++ e :: b → e.kind = k → e.subject = x →
      (∀ e' ∈ a ++ b, ¬(e'.kind = k ∧ e'.subject = x)) →
      f.report k x safety now =
        { f with
          entries :=
            a ++ { e with active := true, acked := false, last := now, count := min 255 (e.count + 1), safety := safety } :: b
          pendingSet := { f.pendingSet with faultChange := true }
          added := true })

/-- R178: room is made for a report's new entry in a full table, or the overflow indication is set. -/
def Obligations.FullTableEvictsOrOverflows : Prop :=
  ∀ (f : Flt) (k : FaultKind) (x : Subject) (safety : Bool) (now : Stamp),
    (∀ e ∈ f.entries, ¬(e.kind = k ∧ e.subject = x)) → f.entries.length = 64 →
      (∀ (a b : List FaultEntry) (v : FaultEntry), f.entries = a ++ v :: b →
        ((v.active = false ∧ v.acked = true ∧ ∀ e ∈ a, ¬(e.active = false ∧ e.acked = true)) ∨
          (v.active = false ∧ (∀ e ∈ f.entries, ¬(e.active = false ∧ e.acked = true)) ∧ ∀ e ∈ a, e.active = true) ∨
          (v.active = true ∧ v.safety = false ∧ safety = true ∧ (∀ e ∈ f.entries, e.active = true) ∧
            ∀ e ∈ a, e.safety = true)) →
        (f.report k x safety now).entries = a ++ b ++ [⟨k, x, safety, true, false, now, now, 1⟩] ∧
          (f.report k x safety now).overflow = f.overflow ∧
          (f.report k x safety now).pendingSet = { f.pendingSet with faultNew := true, faultChange := true }) ∧
      ((∀ e ∈ f.entries, e.active = true ∧ (safety = true → e.safety = true)) →
        f.report k x safety now =
          { f with overflow := true, pendingSet := { f.pendingSet with faultNew := true }, added := true })

/-- R177: a clear of a key makes its ACTIVE entry CLEARED and keeps all else of it, and has no other effect; a report
before a clear leaves the key CLEARED, a clear before a report leaves it ACTIVE. -/
def Obligations.ClearByKeyMakesEntryCleared : Prop :=
  ∀ (f : Flt) (k : FaultKind) (x : Subject),
    (∀ (a b : List FaultEntry) (e : FaultEntry), f.entries = a ++ e :: b → e.kind = k → e.subject = x →
      e.active = true → (∀ e' ∈ a ++ b, ¬(e'.kind = k ∧ e'.subject = x)) →
      f.clear k x =
        { f with
          entries := a ++ { e with active := false } :: b
          pendingSet := { f.pendingSet with faultChange := true }
          added := true }) ∧
    ((∀ e ∈ f.entries, e.kind = k → e.subject = x → e.active = false) → f.clear k x = f) ∧
    ∀ (safety : Bool) (now : Stamp),
      (∀ e ∈ ((f.report k x safety now).clear k x).entries, e.kind = k → e.subject = x → e.active = false) ∧
        (f.entries.length < 64 →
          ∃ e ∈ ((f.clear k x).report k x safety now).entries, e.kind = k ∧ e.subject = x ∧ e.active = true)

/-- R180, 12.6: FAULT_ACK in all its cases. That a body of one byte other than 0xFF is BAD_LENGTH is the model's choice
(notes/assumptions/19.md). -/
def Obligations.FaultAckMarksEntries : Prop :=
  ∀ (s : State) (tag : Byte) (body : List Byte), s.takes tag body →
    (body = [0xFF#8] →
      exec (.faultAck tag body) s =
        .next (State.withReply { s with flt := { s.flt with entries := s.flt.entries.map fun e => { e with acked := true } } }
          tag 0x61#8 .ok [])) ∧
    (body ≠ [0xFF#8] → body.length ≠ 4 → exec (.faultAck tag body) s = .next (s.withReply tag 0x61#8 .badLength [])) ∧
    (body.length = 4 → parseKey body = none →
      exec (.faultAck tag body) s = .next (s.withReply tag 0x61#8 .outOfRange [])) ∧
    ∀ k x, body.length = 4 → parseKey body = some (k, x) →
      exec (.faultAck tag body) s =
        .next
          (if ∃ e ∈ s.flt.entries, e.kind = k ∧ e.subject = x then
            State.withReply
              { s with
                flt :=
                  { s.flt with
                    entries := s.flt.entries.map fun e =>
                      if e.kind = k ∧ e.subject = x then { e with acked := true } else e } }
              tag 0x61#8 .ok []
          else s.withReply tag 0x61#8 .outOfRange [])

/-- R181: FAULT_PURGE in both its cases. -/
def Obligations.FaultPurgeRemovesClearedAcknowledged : Prop :=
  ∀ (s : State) (tag : Byte) (body : List Byte), s.takes tag body →
    (body ≠ [] → exec (.faultPurge tag body) s = .next (s.withReply tag 0x62#8 .badLength [])) ∧
    (body = [] → ∀ kept, kept = s.flt.entries.filter (fun e => decide (¬(e.active = false ∧ e.acked = true))) →
      exec (.faultPurge tag body) s =
        .next
          (State.withReply
            { s with
              flt :=
                { s.flt with
                  entries := kept
                  overflow := if kept.length < s.flt.entries.length then false else s.flt.overflow } }
            tag 0x62#8 .ok [BitVec.ofNat 8 (s.flt.entries.length - kept.length)]))

/-- R182 to R184: ATTENTION_READ empties the pending set, ends a running pulse and makes the output inactive;
ATTENTION_PULSE_END ends the pulse at 250 ms; an addition asserts the output, starts the pulse in PULSE mode, and queues
one notice where notices are enabled and at least 3 slots are free, shown on a SUPPLY_LOSS in UNCONFIGURED. That the
summary of the reply is formed after the set is emptied is the model's choice (notes/assumptions/49.md). -/
def Obligations.AttentionReadEmptiesPendingSet : Prop :=
  (∀ (s : State) (tag : Byte) (body : List Byte), s.takes tag body →
    (body ≠ [] → exec (.attentionRead tag body) s = .next (s.withReply tag 0x63#8 .badLength [])) ∧
    (body = [] →
      exec (.attentionRead tag body) s =
        .next
          (State.withReply { s with flt := { s.flt with pendingSet := PendingSet.empty, pulse := none } } tag 0x63#8 .ok
            [BitVec.ofNat 8 s.flt.pendingSet.code, BitVec.ofNat 8 s.sup.mode.code]) ∧
        ∃ t, exec (.attentionRead tag body) s = .next t ∧
          t.attnPin = (match s.cabinet.attnPolarity with | .activeHigh => .low | .activeLow => .released))) ∧
  (∀ s : State, s.flt.pulse = some 250 →
    exec .attentionPulseEnd s = .next { s with flt := { s.flt with pulse := none } }) ∧
  ∀ s : State, s.betweenSteps → s.sup.mode = .unconfigured → s.sup.supplyPresent = true → 200 ≤ s.sup.supplyGap →
    s.flt.entries.length < 64 → (∀ e ∈ s.flt.entries, ¬(e.kind = .supplyLoss ∧ e.subject = .nothing)) →
    ∃ t, exec .supplyLoss s = .next t ∧ t.flt.pendingSet = { s.flt.pendingSet with faultNew := true } ∧
      t.lnk.output =
        (if s.lnk.notices = true ∧ s.lnk.output.length + s.lnk.reserved + 3 ≤ 8 then
          s.lnk.output ++ [⟨0#8, 0xFF#8, [BitVec.ofNat 8 t.flt.pendingSet.code, 0#8]⟩]
        else s.lnk.output) ∧
      t.flt.pulse = (if s.cabinet.attnMode = .pulse then some 0 else s.flt.pulse) ∧
      t.attnPin = (match s.cabinet.attnPolarity with | .activeHigh => .high | .activeLow => .low)

/-! ### The maintenance link (R192 to R198) -/

/-- A request given to its owner directly that no slot can answer is not taken, and one that no frame can carry is
abandoned (the model's choice, notes/assumptions/2.md). -/
def Obligations.UnservableRequestIsNotTaken : Prop :=
  ∀ (c : Instr) (s : State) (tag : Byte) (body : List Byte),
    c.frameOf = some (tag, body) → (∀ code crc, c ≠ .rxFrame tag code body crc) →
      (tag ≠ 0 → body.length ≤ 240 → s.lnk.freeSlots = 0 → exec c s = .next s) ∧
      (tag = 0 ∨ 240 < body.length →
        exec c s = .next { s with lnk := { s.lnk with assembler := .hunt, interbyte := 0, linkError := true } })

/-- R193, R195: a complete frame joins the input buffer or is discarded with OVERRUN, and ends a link break; a frame
with tag 0, a long body or a wrong CRC is abandoned with LINK_ERROR. A frame's last stop bit leaves the line at mark
(the reading of notes/assumptions/7.md). -/
def Obligations.ReceivedFrameJoinsBuffer : Prop :=
  ∀ (s : State) (tag code : Byte) (body : List Byte) (crc : BitVec 16), s.betweenSteps →
    (tag ≠ 0 → body.length ≤ 240 → crc = crc16 (tag :: code :: BitVec.ofNat 8 body.length :: body) →
      ∃ t, exec (.rxFrame tag code body crc) s = .next t ∧
        t.lnk.assembler = .hunt ∧ t.lnk.line = .mark ∧
        t.lnk.input = (if s.lnk.input.length < 2 then s.lnk.input ++ [⟨tag, code, body⟩] else s.lnk.input) ∧
        t.lnk.overrun = (s.lnk.overrun || decide (2 ≤ s.lnk.input.length)) ∧
        t.lnk.linkError = s.lnk.linkError ∧ t.lnk.reserved = s.lnk.reserved ∧
        (∀ e ∈ t.flt.entries, e.kind = .linkBreak → e.subject = .nothing → e.active = false) ∧
        t.cfg = s.cfg ∧ t.clk = s.clk ∧ t.sch = s.sch ∧ t.seq = s.seq ∧ t.det = s.det ∧ t.out = s.out ∧
        t.lmp = s.lmp ∧ t.cbt = s.cbt ∧ t.sup = s.sup) ∧
    ((tag = 0 ∨ 240 < body.length ∨ crc ≠ crc16 (tag :: code :: BitVec.ofNat 8 body.length :: body)) →
      exec (.rxFrame tag code body crc) s =
        .next { s with lnk := { s.lnk with line := .mark, assembler := .hunt, interbyte := 0, linkError := true } })

/-- R193: the receive assembler, byte by byte; the last byte of a frame is the frame given whole. A byte's stop bit
leaves the line at mark, or at space for a framing error (the reading of notes/assumptions/7.md). -/
def Obligations.AssemblerTakesBytes : Prop :=
  ∀ (s : State) (b : Byte), s.betweenSteps →
    (s.lnk.assembler = .hunt →
      exec (.byteReceived b true) s = .next { s with lnk := { s.lnk with line := .space 0 false } } ∧
      (b ≠ 0xC3#8 → exec (.byteReceived b false) s = .next { s with lnk := { s.lnk with line := .mark } }) ∧
      exec (.byteReceived 0xC3#8 false) s =
        .next { s with lnk := { s.lnk with line := .mark, assembler := .assembling [], interbyte := 0 } }) ∧
    ∀ got : List Byte, s.lnk.assembler = .assembling got →
      exec (.byteReceived b true) s =
        .next { s with lnk := { s.lnk with line := .space 0 false, assembler := .hunt, interbyte := 0, linkError := true } } ∧
      (got.length = 2 → 240 < b.toNat →
        exec (.byteReceived b false) s =
          .next { s with lnk := { s.lnk with line := .mark, assembler := .hunt, interbyte := 0, linkError := true } }) ∧
      ((got.length < 2 ∨ (got.length = 2 ∧ b.toNat ≤ 240) ∨ (3 ≤ got.length ∧ got.length + 1 < (got.getD 2 0).toNat + 5)) →
        exec (.byteReceived b false) s =
          .next { s with lnk := { s.lnk with line := .mark, assembler := .assembling (got ++ [b]), interbyte := 0 } }) ∧
      ∀ tag code n body hi, got = tag :: code :: n :: body ++ [hi] → body.length = n.toNat → n.toNat ≤ 240 →
        exec (.byteReceived b false) s = exec (.rxFrame tag code body (hi ++ b)) s

/-- R193, R196: a gap of 5 ms abandons the frame in assembly; a frame that has been sent leaves the queue. That the
gap runs out at the fifth millisecond is the model's choice (notes/assumptions/15.md), and so is that FRAME_SENT ends the
first frame whatever bits of it have been counted (notes/assumptions/4.md). -/
def Obligations.InterbyteGapAndSentFrame : Prop :=
  (∀ (s : State) (got : List Byte), s.lnk.assembler = .assembling got → s.lnk.interbyte = 5 →
    exec .interbyteTimeout s =
      .next { s with lnk := { s.lnk with assembler := .hunt, interbyte := 0, linkError := true } }) ∧
  ∀ (s : State) (f : OutFrame) (rest : List OutFrame), s.lnk.output = f :: rest →
    exec .frameSent s =
      .next
        { s with
          lnk := { s.lnk with output := rest, sent := if rest = [] then 0 else s.lnk.sent - f.lineTime } }

/-- R195, R171: 25 ms at space are a link break, declared once for the period: it empties the input buffer and the
assembler and is recorded; with the break action FLASH it latches the cabinet in NORMAL through CLEARING, and a cabinet in
UNCONFIGURED or a latched mode is kept. The time at space counts in milliseconds, and when the line returns to mark is
free (notes/assumptions/7.md); LINK_BREAK without its 25 ms changes nothing (the model's choice,
notes/assumptions/4.md). -/
def Obligations.LinkBreakFlushesAndActs : Prop :=
  (∀ (s t : State) (n : Nat) (declared : Bool), s.pending = [] → s.firstDue = none → s.lnk.line = .space n declared →
    step s = .next t → t.lnk.line = .mark ∨ t.lnk.line = .space (min 25 (n + 1)) declared) ∧
  (∀ s : State, (s.lnk.line = .mark ∨ ∃ n declared, s.lnk.line = .space n declared ∧ (n < 25 ∨ declared = true)) →
    exec .linkBreak s = .next s) ∧
  ∀ (s : State) (n : Nat), s.betweenSteps → s.lnk.line = .space n false → 25 ≤ n → ∃ t, exec .linkBreak s = .next t ∧
    t.lnk.line = .space 25 true ∧ t.lnk.assembler = .hunt ∧ t.lnk.input = [] ∧
    (s.lnk.assembler ≠ .hunt → t.lnk.linkError = true) ∧
    (s.flt.entries.length < 64 → s.cabinet.breakAction = .none →
      ∃ e ∈ t.flt.entries, e.kind = .linkBreak ∧ e.subject = .nothing ∧ e.active = true ∧ e.acked = false) ∧
    (s.cabinet.breakAction = .none ∨ s.sup.mode = .unconfigured →
      t.sup = s.sup ∧ t.seq = s.seq ∧ t.cfg = s.cfg ∧ t.clk = s.clk ∧ t.sch = s.sch ∧ t.det = s.det ∧ t.out = s.out ∧
        t.lmp = s.lmp ∧ t.cbt = s.cbt) ∧
    (s.cabinet.breakAction = .flash → s.waitingSupply = false →
      (s.sup.mode = .normal → t.sup.mode = .clearing ∧ t.sup.reason = some .linkBreak ∧ t.sup.latched = true) ∧
      (s.sup.mode = .startupFlash → t.sup.mode = .flash ∧ t.sup.reason = some .linkBreak ∧ t.sup.latched = true) ∧
      ((s.sup.mode = .flash ∨ s.sup.mode = .dark ∨ s.sup.mode = .clearing) → s.sup.latched = true →
        t.sup.mode = s.sup.mode ∧ t.sup.reason = s.sup.reason ∧ t.sup.latched = true))

/-- R194, R197: with a slot free the oldest buffered frame is taken and its request served by its owner; a code below
0x80 that the catalogue lacks is answered UNKNOWN_REQUEST; with no slot free the frame waits. -/
def Obligations.OldestFrameReachesItsOwner : Prop :=
  ∀ (s : State) (f : ReqFrame) (rest : List ReqFrame), s.betweenSteps → s.lnk.input = f :: rest →
    f.tag ≠ 0 → f.body.length ≤ 240 →
      (s.lnk.freeSlots = 0 → exec .requestTaken s = .next s) ∧
      (s.lnk.freeSlots ≠ 0 → ∀ c, catalogued f.tag f.code f.body = some c →
        exec .requestTaken s = exec c { s with lnk := { s.lnk with input := rest } }) ∧
      (s.lnk.freeSlots ≠ 0 → f.code.toNat < 128 → catalogued f.tag f.code f.body = none →
        exec .requestTaken s =
          .next (State.withReply { s with lnk := { s.lnk with input := rest } } f.tag f.code .unknownRequest []))

/-- R198, R80, R179, R182: the requests that read without an operand answer OK with their fields, or BAD_LENGTH, and
change nothing but the output queue and the flags the reply carries away. The codes of fields the manual does not
number are the model's reading (notes/assumptions/10.md). -/
def Obligations.PlainReadsChangeNothing : Prop :=
  ∀ (s : State) (tag : Byte) (body : List Byte), s.takes tag body →
    (body = [] →
      exec (.identify tag body) s =
        .next (s.withReply tag 0x01#8 .ok
          ([0x4A#8, 0x43#8, 0x36#8, 0x32#8, 1#8] ++ (if s.lnk.fast then [0x04#8, 0x80#8] else [0x02#8, 0x40#8]))) ∧
      exec (.status tag body) s =
        .next (s.withReply tag 0x02#8 .ok
          (s.sup.statusBytes ++ s.seq.statusBytes ++ s.sch.statusBytes ++ s.out.statusBytes
            ++ whether s.cfg.buffer.isSome ++ whether s.cfg.pendingCommit.isSome
            ++ u8 s.flt.entries.length ++ yesNo s.flt.overflow)) ∧
      exec (.clockRead tag body) s = .next (s.withReply tag 0x21#8 .ok s.clockBody)) ∧
    (body ≠ [] →
      exec (.identify tag body) s = .next (s.withReply tag 0x01#8 .badLength []) ∧
      exec (.status tag body) s = .next (s.withReply tag 0x02#8 .badLength []) ∧
      exec (.clockRead tag body) s = .next (s.withReply tag 0x21#8 .badLength []))

/-- R15, R99, R153, R179: the requests that read one numbered record answer OK with it, OUT_OF_RANGE or BAD_LENGTH,
and change nothing but the output queue and the flags the reply carries away. The codes of fields the manual does not
number are the model's reading, a tenth-tick time in a reply is a free value, and so is a CABLE_READ body that would be
longer than 238 bytes (notes/assumptions/10.md, notes/assumptions/11.md, notes/assumptions/12.md). -/
def Obligations.NumberedReadsChangeNothing : Prop :=
  ∀ (s : State) (tag : Byte) (body : List Byte), s.takes tag body →
    (∀ g : Gid, body = [BitVec.ofNat 8 (g.val + 1)] →
      exec (.groupRead tag body) s = .next (s.withReply tag 0x50#8 .ok (s.groupBody g))) ∧
    (∀ c : Ch, body = [BitVec.ofNat 8 (c.val + 1)] →
      exec (.channelRead tag body) s = .next (s.withReply tag 0x51#8 .ok (s.channelBody c))) ∧
    (∀ d : Det, body = [BitVec.ofNat 8 (d.val + 1)] →
      exec (.detectorRead tag body) s = .next (s.withReply tag 0x52#8 .ok (s.detectorBody d))) ∧
    (∀ k : Cab, body = [BitVec.ofNat 8 (k.val + 1)] →
      exec (.cableRead tag body) s = .next (s.withReply tag 0x53#8 .ok (s.cableBody k))) ∧
    (∀ n : Fin 64, body = [BitVec.ofNat 8 (n.val + 1)] →
      exec (.faultRead tag body) s =
        .next (s.withReply tag 0x60#8 .ok
          (u8 s.flt.entries.length ++ yesNo s.flt.overflow
            ++ ((s.flt.entries.drop n.val).take 8).flatMap FaultEntry.bytes))) ∧
    (∀ b : Byte, body = [b] →
      (b.toNat = 0 ∨ 16 < b.toNat → exec (.groupRead tag body) s = .next (s.withReply tag 0x50#8 .outOfRange [])) ∧
      (b.toNat = 0 ∨ 48 < b.toNat → exec (.channelRead tag body) s = .next (s.withReply tag 0x51#8 .outOfRange [])) ∧
      (b.toNat = 0 ∨ 32 < b.toNat → exec (.detectorRead tag body) s = .next (s.withReply tag 0x52#8 .outOfRange [])) ∧
      (b.toNat = 0 ∨ 24 < b.toNat → exec (.cableRead tag body) s = .next (s.withReply tag 0x53#8 .outOfRange [])) ∧
      (b.toNat = 0 ∨ 64 < b.toNat → exec (.faultRead tag body) s = .next (s.withReply tag 0x60#8 .outOfRange []))) ∧
    (body.length ≠ 1 →
      exec (.groupRead tag body) s = .next (s.withReply tag 0x50#8 .badLength []) ∧
      exec (.channelRead tag body) s = .next (s.withReply tag 0x51#8 .badLength []) ∧
      exec (.detectorRead tag body) s = .next (s.withReply tag 0x52#8 .badLength []) ∧
      exec (.cableRead tag body) s = .next (s.withReply tag 0x53#8 .badLength []) ∧
      exec (.faultRead tag body) s = .next (s.withReply tag 0x60#8 .badLength []))

/-! ### The edit session (R186 to R191) -/

/-- R186: EDIT_OPEN and EDIT_DISCARD in all their cases. That a body that is not empty is BAD_LENGTH before NO_SESSION is
the model's choice (notes/assumptions/19.md). -/
def Obligations.EditSessionOpensAndCloses : Prop :=
  ∀ (s : State) (tag : Byte) (body : List Byte), s.takes tag body →
    (body ≠ [] →
      exec (.editOpen tag body) s = .next (s.withReply tag 0x10#8 .badLength []) ∧
      exec (.editDiscard tag body) s = .next (s.withReply tag 0x14#8 .badLength [])) ∧
    (body = [] →
      exec (.editOpen tag body) s =
        .next
          (if s.cfg.buffer ≠ none then s.withReply tag 0x10#8 .sessionOpen []
          else if s.cfg.pendingCommit ≠ none then s.withReply tag 0x10#8 .busy []
          else State.withReply { s with cfg := { s.cfg with buffer := some s.cfg.running } } tag 0x10#8 .ok []) ∧
      exec (.editDiscard tag body) s =
        .next
          (if s.cfg.buffer = none then s.withReply tag 0x14#8 .noSession []
          else State.withReply { s with cfg := { s.cfg with buffer := none } } tag 0x14#8 .ok []))

/-- R188: EDIT_READ and CONFIG_READ in all their cases. The order NO_SESSION, BAD_LENGTH, OUT_OF_RANGE of EDIT_READ, and
BAD_LENGTH before OUT_OF_RANGE of CONFIG_READ, are the model's choice (notes/assumptions/19.md). -/
def Obligations.RecordReadsReturnBufferOrRunning : Prop :=
  ∀ (s : State) (tag : Byte) (body : List Byte), s.takes tag body →
    (s.cfg.buffer = none → exec (.editRead tag body) s = .next (s.withReply tag 0x12#8 .noSession [])) ∧
    (body.length ≠ 2 →
      exec (.configRead tag body) s = .next (s.withReply tag 0x15#8 .badLength []) ∧
      (s.cfg.buffer ≠ none → exec (.editRead tag body) s = .next (s.withReply tag 0x12#8 .badLength []))) ∧
    ∀ k i : Byte, body = [k, i] →
      (∀ cls rec, RecordClass.ofCode k.toNat = some cls → s.cfg.running.read cls i.toNat = some rec →
        exec (.configRead tag body) s = .next (s.withReply tag 0x15#8 .ok rec)) ∧
      (∀ buf cls rec, s.cfg.buffer = some buf → RecordClass.ofCode k.toNat = some cls → buf.read cls i.toNat = some rec →
        exec (.editRead tag body) s = .next (s.withReply tag 0x12#8 .ok rec)) ∧
      ((14 ≤ k.toNat ∨ ∀ cls, RecordClass.ofCode k.toNat = some cls → i.toNat = 0 ∨ cls.count < i.toNat) →
        exec (.configRead tag body) s = .next (s.withReply tag 0x15#8 .outOfRange []) ∧
        (s.cfg.buffer ≠ none → exec (.editRead tag body) s = .next (s.withReply tag 0x12#8 .outOfRange [])))

/-- R187: EDIT_WRITE replaces the record in the buffer and answers with it as stored, or refuses and changes nothing.
That an empty body is BAD_LENGTH, and so is one that ends after the byte of one of the fourteen classes, is the model's
choice (notes/assumptions/19.md). -/
def Obligations.EditWriteStoresWholeRecord : Prop :=
  ∀ (s : State) (tag : Byte) (body : List Byte), s.takes tag body →
    (s.cfg.buffer = none → exec (.editWrite tag body) s = .next (s.withReply tag 0x11#8 .noSession [])) ∧
    ∀ buf, s.cfg.buffer = some buf →
      (body = [] → exec (.editWrite tag body) s = .next (s.withReply tag 0x11#8 .badLength [])) ∧
      (∀ k : Byte, body = [k] →
        exec (.editWrite tag body) s =
          .next (s.withReply tag 0x11#8 (if 14 ≤ k.toNat then .outOfRange else .badLength) [])) ∧
      ∀ (k i : Byte) (rec : List Byte), body = k :: i :: rec →
        (14 ≤ k.toNat → exec (.editWrite tag body) s = .next (s.withReply tag 0x11#8 .outOfRange [])) ∧
        ∀ cls, RecordClass.ofCode k.toNat = some cls →
          (i.toNat = 0 ∨ cls.count < i.toNat →
            exec (.editWrite tag body) s = .next (s.withReply tag 0x11#8 .outOfRange [])) ∧
          (1 ≤ i.toNat → i.toNat ≤ cls.count →
            (∀ st, buf.write cls i.toNat rec = .error st →
              exec (.editWrite tag body) s = .next (s.withReply tag 0x11#8 st [])) ∧
            ∀ new clampedAny stored, buf.write cls i.toNat rec = .ok (new, clampedAny) →
              new.read cls i.toNat = some stored →
              exec (.editWrite tag body) s =
                .next (State.withReply { s with cfg := { s.cfg with buffer := some new } } tag 0x11#8
                  (if clampedAny then .okClamped else .ok) stored))

/-- R187: in every class and at every index of its range, a write whose body its class takes is taken, reads back as the
record that the body spells, with its clamped values, and changes that record alone; a body its class refuses is refused with
the class's own status. -/
def Obligations.WriteChangesOneRecord : Prop :=
  (∀ (c : ConfigSet) (cls : RecordClass) (k : Nat) (rec : List Byte), 1 ≤ k → k ≤ cls.count →
    (∀ stored f, cls.takes rec = .ok (stored, f) →
      ∃ new, c.write cls k rec = .ok (new, f) ∧ new.read cls k = some stored) ∧
    ∀ st, cls.takes rec = .error st → c.write cls k rec = .error st) ∧
  ∀ (c new : ConfigSet) (cls cls' : RecordClass) (k k' : Nat) (rec : List Byte) (f : Bool),
    c.write cls k rec = .ok (new, f) → (cls ≠ cls' ∨ k ≠ k') → new.read cls' k' = c.read cls' k'

/-- R187, R196: a record of each of the fourteen classes whose values lie in their ranges is written back as it is read,
and no value is clamped; a duration, percentage, count or limit outside its range is moved to the nearer limit, and the
flag of the clamped reply says whether one was; 12.6: the channel status record has 20 bytes and the fault entry record
22. The codes are the model's reading where the manual does not number them, the lists of a GROUP and a CABLE record
hold nothing twice, and a channel record has its group and aspect absent together by the model's choice
(notes/assumptions/10.md, notes/assumptions/17.md, notes/assumptions/18.md). -/
def Obligations.RecordsInRangeReadBack : Prop :=
  (∀ r : GroupTiming, 40 ≤ r.minGreen → r.minGreen ≤ 600 → 20 ≤ r.amber → r.amber ≤ 60 → r.redAmber ≤ 30 →
    30 ≤ r.clearance → r.clearance ≤ 300 → 5 ≤ r.extension → r.extension ≤ 100 → 1 ≤ r.redMin → r.redMin ≤ 8 →
    r.redFailGrace ≤ 600 → parseGroupTiming r.bytes = .ok (r, false)) ∧
  (∀ r : ChanSettings, 10 ≤ r.pullIn → r.pullIn ≤ 250 → 10 ≤ r.release → r.release ≤ 250 → 30 ≤ r.holdDuty →
    r.holdDuty ≤ 100 → r.holdDuty % 5 = 0 → r.wear < 4294967296 → 20 ≤ r.fixedRef → r.fixedRef ≤ 4000 → 2 ≤ r.confirm →
    r.confirm ≤ 15 → parseSettings r.bytes = .ok (r, false)) ∧
  (∀ r : ChannelRec, (r.group = none ↔ r.aspect = none) → 1 ≤ r.heads → r.heads ≤ 8 →
    parseChannel r.bytes = .ok (r, false)) ∧
  (∀ r : ProbeRec, 1 ≤ r.limit → r.limit ≤ 65535 → parseProbe r.bytes = .ok (r, false)) ∧
  (∀ row : Tab 16 Nat, (∀ g, row.get g ≤ 300) → parseIntergreen (row.items.flatMap u16) = .ok (row, false)) ∧
  (∀ r : GroupRec, r.red.Nodup → r.amber.Nodup → r.green.Nodup → r.red.length ≤ 16 → r.amber.length ≤ 16 →
    r.green.length ≤ 16 → parseGroup r.bytes = .ok (r, false)) ∧
  (∀ l : List Gid, l.Pairwise (· < ·) → parseGroupSet (counted l) = .ok (l, false)) ∧
  (∀ l : List Ch, l.Nodup → l.length ≤ 12 → parseCable (counted l) = .ok (l, false)) ∧
  (∀ r : PlanRec, (r.cycle = 0 ∨ 300 ≤ r.cycle ∧ r.cycle ≤ 2400) → r.offset ≤ 2399 → 5 ≤ r.pmax → r.pmax ≤ 30 →
    r.entries.length ≤ 16 →
    (∀ e ∈ r.entries, 1 ≤ e.endPos ∧ e.endPos ≤ 2400 ∧ 50 ≤ e.maxGreen ∧ e.maxGreen ≤ 1200) →
    parsePlan r.bytes = .ok (r, false)) ∧
  (∀ r : DetectorRec, 10 ≤ r.debounce → r.debounce ≤ 500 → r.served.Pairwise (· < ·) → r.served.length ≤ 4 →
    r.maxPresence ≤ 255 → r.maxAbsence ≤ 255 → r.priorityMax ≤ 255 → parseDetector r.bytes = .ok (r, false)) ∧
  (∀ r : ScheduleRec, r.minute ≤ 1439 → parseSchedule r.bytes = .ok (r, false)) ∧
  parseSpecial (specialBytes none) = .ok (none, false) ∧
  (∀ r : SpecialRec, 1 ≤ r.month → r.month ≤ 12 → 1 ≤ r.day → r.day ≤ 31 →
    (∀ y, r.year = some y → 2000 ≤ y ∧ y ≤ 2199) → parseSpecial (specialBytes (some r)) = .ok (some r, false)) ∧
  (∀ r : CabinetRec, 50 ≤ r.flashRate → r.flashRate ≤ 90 → r.startFlash ≤ 600 → 30 ≤ r.startRed → r.startRed ≤ 300 →
    r.attempts ≤ 5 → 1 ≤ r.holdoff → r.holdoff ≤ 60 → 1 ≤ r.probation → r.probation ≤ 60 →
    parseCabinet r.bytes = .ok (r, false)) ∧
  (∀ r r' : GroupTiming, r.minGreen < 65536 → r.amber < 256 → r.redAmber < 256 → r.clearance < 65536 →
    r.extension < 256 → r.redMin < 256 → r.redFailGrace < 65536 →
    r' =
      { r with
        minGreen := max 40 (min 600 r.minGreen), amber := max 20 (min 60 r.amber), redAmber := min 30 r.redAmber
        clearance := max 30 (min 300 r.clearance), extension := max 5 (min 100 r.extension)
        redMin := max 1 (min 8 r.redMin), redFailGrace := min 600 r.redFailGrace } →
    parseGroupTiming r.bytes = .ok (r', decide (r' ≠ r))) ∧
  (∀ (r : ChanSettings) (duty : Nat), r.pullIn < 256 → r.release < 256 → r.holdDuty < 256 → r.wear < 4294967296 →
    r.fixedRef < 65536 → r.confirm < 256 → duty = max 30 (min 100 r.holdDuty) →
    ∀ r' : ChanSettings,
      r' =
        { r with
          pullIn := max 10 (min 250 r.pullIn), release := max 10 (min 250 r.release), holdDuty := (duty + 2) / 5 * 5
          fixedRef := max 20 (min 4000 r.fixedRef), confirm := max 2 (min 15 r.confirm) } →
      parseSettings r.bytes = .ok (r', decide ({ r' with holdDuty := duty } ≠ r))) ∧
  (∀ r r' : ChannelRec, (r.group = none ↔ r.aspect = none) → r.heads < 256 → r' = { r with heads := max 1 (min 8 r.heads) } →
    parseChannel r.bytes = .ok (r', decide (r' ≠ r))) ∧
  (∀ r r' : ProbeRec, r.limit < 65536 → r' = { r with limit := max 1 r.limit } →
    parseProbe r.bytes = .ok (r', decide (r' ≠ r))) ∧
  (∀ row row' : Tab 16 Nat, (∀ g, row.get g < 65536 ∧ row'.get g = min 300 (row.get g)) →
    parseIntergreen (row.items.flatMap u16) = .ok (row', decide (row' ≠ row))) ∧
  (∀ r r' : PlanRec, r.cycle < 65536 → r.offset < 65536 → r.pmax < 256 → r.entries.length ≤ 16 →
    (∀ e ∈ r.entries, e.endPos < 65536 ∧ e.maxGreen < 65536) →
    r' =
      { r with
        cycle := if r.cycle = 0 then 0 else max 300 (min 2400 r.cycle), offset := min 2399 r.offset
        pmax := max 5 (min 30 r.pmax)
        entries := r.entries.map fun e =>
          { e with endPos := max 1 (min 2400 e.endPos), maxGreen := max 50 (min 1200 e.maxGreen) } } →
    parsePlan r.bytes = .ok (r', decide (r' ≠ r))) ∧
  (∀ r r' : DetectorRec, r.debounce < 65536 → r.served.Pairwise (· < ·) → r.served.length ≤ 4 → r.maxPresence ≤ 255 →
    r.maxAbsence ≤ 255 → r.priorityMax ≤ 255 → r' = { r with debounce := max 10 (min 500 r.debounce) } →
    parseDetector r.bytes = .ok (r', decide (r' ≠ r))) ∧
  (∀ r r' : ScheduleRec, r.minute < 65536 → r' = { r with minute := min 1439 r.minute } →
    parseSchedule r.bytes = .ok (r', decide (r' ≠ r))) ∧
  (∀ r r' : CabinetRec, r.flashRate < 256 → r.startFlash < 65536 → r.startRed < 65536 → r.attempts < 256 →
    r.holdoff < 256 → r.probation < 256 →
    r' =
      { r with
        flashRate := max 50 (min 90 r.flashRate), startFlash := min 600 r.startFlash
        startRed := max 30 (min 300 r.startRed), attempts := min 5 r.attempts, holdoff := max 1 (min 60 r.holdoff)
        probation := max 1 (min 60 r.probation) } →
    parseCabinet r.bytes = .ok (r', decide (r' ≠ r))) ∧
  (∀ (s : State) (c : Ch), (s.channelBody c).length = 20) ∧ ∀ e : FaultEntry, e.bytes.length = 22

/-- R189 to R191: EDIT_COMMIT in all its cases, and R14, R154: what an applied structural commit leaves in every group,
channel, lamp and tester record, where it neither ends a scheduled flash nor makes a standing relay fault a hard fault;
R109: where it does the latter, the cabinet is in DARK, latched; R110: wherever a commit is applied, the wear of every channel
is judged. The byte of the outcome is the model's reading
(notes/assumptions/10.md), and the mark of a sweep that is not counted is the model's own (notes/assumptions/33.md). -/
def Obligations.EditCommitAppliesPendsOrRefuses : Prop :=
  ∀ (s : State) (tag : Byte) (body : List Byte), s.takes tag body →
    (body ≠ [] → exec (.editCommit tag body) s = .next (s.withReply tag 0x13#8 .badLength [])) ∧
    (body = [] → s.cfg.pendingCommit ≠ none → exec (.editCommit tag body) s = .next (s.withReply tag 0x13#8 .busy [])) ∧
    (body = [] → s.cfg.pendingCommit = none → s.cfg.buffer = none →
      exec (.editCommit tag body) s = .next (s.withReply tag 0x13#8 .noSession [])) ∧
    ∀ buf, body = [] → s.cfg.pendingCommit = none → s.cfg.buffer = some buf →
      (∀ f, buf.check = some f →
        exec (.editCommit tag body) s =
          .next (s.withReply tag 0x13#8 .invalidConfig [BitVec.ofNat 8 f.cls.code, BitVec.ofNat 8 f.index, BitVec.ofNat 8 f.number])) ∧
      (buf.check = none → buf.st ≠ s.cfg.running.st →
        s.sup.mode ≠ .unconfigured → s.sup.mode ≠ .flash → s.sup.mode ≠ .dark →
        exec (.editCommit tag body) s = .next (s.withReply tag 0x13#8 .wrongMode [])) ∧
      (buf.check = none → buf.st = s.cfg.running.st → s.sup.mode.runs = true →
        exec (.editCommit tag body) s =
          .next (State.withReply { s with cfg := { s.cfg with buffer := none, pendingCommit := some buf.tm } } tag 0x13#8 .ok
            [1#8])) ∧
      (buf.check = none →
        (s.sup.mode = .unconfigured ∨ s.sup.mode = .flash ∨ s.sup.mode = .dark ∨
          (s.sup.mode = .clearing ∧ buf.st = s.cfg.running.st)) →
        ∃ t, exec (.editCommit tag body) s = .next t ∧
          t.cfg = { running := buf, buffer := none, pendingCommit := none, committed := true } ∧
          t.flt.pendingSet.commitApplied = true ∧ t.wearJudged ∧ State.answers s t tag 0x13#8 .ok) ∧
      (buf.check = none → buf.st ≠ s.cfg.running.st →
        (s.sup.mode = .unconfigured ∨ s.sup.mode = .flash ∨ s.sup.mode = .dark) →
        ((∃ c : Ch, ((s.chan c).fault = .failToOpen ∨ (s.chan c).fault = .foreignVoltage) ∧
            (s.chanRec c).aspect ≠ some .green ∧ (buf.st.channels.get c).aspect = some .green) →
          (s.waitingSupply = false ∨ s.sup.mode = .dark) →
          ∃ t, exec (.editCommit tag body) s = .next t ∧ t.sup.mode = .dark ∧ t.sup.latched = true) ∧
        ((∀ c : Ch, ((s.chan c).fault = .failToOpen ∨ (s.chan c).fault = .foreignVoltage) →
            (s.chanRec c).aspect ≠ some .green → (buf.st.channels.get c).aspect ≠ some .green) →
          ¬(s.sup.mode = .flash ∧ s.sup.reason = some .hostRequest ∧ s.sup.latched = false) →
          ∃ t, exec (.editCommit tag body) s = .next t ∧ t.sup.mode = s.sup.mode ∧ t.sup.reason = s.sup.reason ∧
            t.sup.latched = s.sup.latched ∧
            (∀ g : Gid,
              (t.group g).colour =
                (if s.sup.mode = .flash ∧ t.kind g = some .traffic then .flashAmber
                else if s.sup.mode = .flash ∧ t.kind g ≠ none then .off
                else .darkAll) ∧
              (t.group g).timeIn = 0 ∧ (t.group g).latch = false ∧
              (t.group g).greenEnd = (if s.kind g ≠ none ∧ t.kind g ≠ none then (s.group g).greenEnd else none) ∧
              (t.group g).demand = t.standing g ∧ (t.group g).redHealth = t.redHealthOf g ∧
              (t.group g).inhibited = t.inhibitedBy g ∧ (t.group g).observedGreen = t.showsGreen g) ∧
            (∀ c : Ch,
              (t.chan c).command = t.commandFor c ∧ (t.chan c).indication = (s.chan c).indication ∧
              ((s.chan c).command = t.commandFor c → t.chan c = s.chan c) ∧
              (t.lamp c).iref = (if (t.settings c).refMode = .fixed then some (t.settings c).fixedRef else none) ∧
              (t.lamp c).learn = (if (t.settings c).refMode = .fixed then .learned else .unlearned) ∧
              (t.lamp c).healthy = none ∧ (t.lamp c).set = none ∧ (t.lamp c).run = none ∧
              (t.lamp c).maintenance = (s.lamp c).maintenance ∧
              (t.lamp c).verdict = (if t.commandFor c = .flashing then .held else .unknown) ∧
              (t.commandFor c = .flashing → (t.lamp c).saved = some .unknown) ∧ t.cbt.cable.get c = .untested) ∧
            (∀ e : PEnt, t.result e = ⟨.none, 0, .none, none, none, none, 0, false⟩) ∧
            t.cbt.urgent = [] ∧ t.cbt.deferred = [] ∧ (s.cbt.probe ≠ none → t.cbt.phase ≠ .closing ∧ t.cbt.phase ≠ .measuring) ∧
            t.cbt.period = s.cbt.period ∧ t.cbt.sweepTime = s.cbt.sweepTime ∧ t.cbt.quietSince = s.cbt.quietSince ∧
            t.cbt.walk = (if s.cbt.period ≠ none then 1 else s.cbt.walk) ∧ (s.cbt.period ≠ none → t.cbt.uncounted = true) ∧
            ∀ f ∈ t.flt.entries,
              ((∃ e, f.subject = .entry e) ∧ f.kind = .testStarved ∨
                (∃ c, f.subject = .channel c) ∧
                  (f.kind = .lampPartial ∨ f.kind = .lampFailed ∨ f.kind = .lampOvercurrent ∨ f.kind = .circuitOpen ∨
                    f.kind = .earthLeak ∨ f.kind = .crossNuisance)) →
              f.active = false))

/-! ### Resets, the clock and its ticks (R70 to R79) -/

/-- R8, R70, R78, R175, R199: the two resets; a line at space is timed from the reset. The values of the fields that are
the model's own are its choice (notes/assumptions/35.md), and so is that the pins keep their levels through both resets,
that VBAK at a power-on is an operand, and that the interval count advances with the tenths counted while the power was off
(notes/assumptions/8.md). Where the backup held, the time stays valid unless the date range ended meanwhile (R71, R78). -/
def Obligations.ResetsEmptyEveryRecord : Prop :=
  ∀ (s : State) (spd1 spd0 : Bool),
    (∃ t, exec (.resetInput spd1 spd0) s = .next t ∧ t.emptied (spd1 && spd0) ∧
      t.clk = { s.clk with secs := 0, pendingSet := none, setTags := [] } ∧ t.flt.entries = [] ∧
      t.flt.pendingSet = PendingSet.empty ∧ (∀ d, (t.input d).pin = (s.input d).pin) ∧
      t.lnk.line = (if s.lnk.line = .mark then .mark else .space 0 false)) ∧
    ∀ (held low : Bool) (n : Nat),
      ∃ t, exec (.powerOnReset held n low spd1 spd0) s = .next t ∧ t.emptied (spd1 && spd0) ∧
        (∀ d, (t.input d).pin = (s.input d).pin) ∧
        t.lnk.line = (if s.lnk.line = .mark then .mark else .space 0 false) ∧
        t.clk.source = .crystal ∧ t.clk.mainsCount = 0 ∧ t.clk.stability = 0 ∧ t.clk.pattern = 1 ∧ t.clk.secs = 0 ∧
        t.clk.pendingSet = none ∧ t.clk.vbakLow = low ∧
        (held = false →
          t.clk.date = ⟨2000, 1, 1⟩ ∧ t.clk.tod = 0 ∧ t.clk.valid = false ∧ t.clk.trim = 0 ∧ t.clk.interval = 0 ∧
            t.clk.preference = .crystal ∧ t.clk.freq = .hz50) ∧
        (held = true →
          t.clk.tod = (s.clk.tod + n) % 864000 ∧ t.clk.date = (Date.plusDays ((s.clk.tod + n) / 864000) s.clk.date).1 ∧
            (t.clk.valid = true ↔
              s.clk.valid = true ∧ (Date.plusDays ((s.clk.tod + n) / 864000) s.clk.date).2 = false) ∧
            t.clk.interval = (s.clk.interval + n) % 100 ∧
            t.clk.trim = s.clk.trim ∧ t.clk.preference = s.clk.preference ∧ t.clk.freq = s.clk.freq) ∧
        (t.clk.valid = true → t.flt.entries = [] ∧ t.flt.pendingSet = PendingSet.empty) ∧
        (t.clk.valid = false →
          t.flt.entries = [⟨.timeInvalid, .nothing, false, true, false, .invalid 0, .invalid 0, 1⟩] ∧
            t.flt.pendingSet = { PendingSet.empty with faultNew := true })

/-- R79, R77, R184: CLOCK_SET waits for its tick with its reply deferred; CLOCK_TRIM and NOTICE_ENABLE in all their
cases. The bytes of the two values of NOTICE_ENABLE are the model's reading (notes/assumptions/10.md). -/
def Obligations.ClockAndNoticeRequests : Prop :=
  ∀ (s : State) (tag : Byte) (body : List Byte), s.takes tag body →
    (body.length ≠ 7 → exec (.clockSet tag body) s = .next (s.withReply tag 0x20#8 .badLength [])) ∧
    (∀ yh yl mo d h mi sec : Byte, body = [yh, yl, mo, d, h, mi, sec] →
      ∀ y, y = yh.toNat * 256 + yl.toNat →
      exec (.clockSet tag body) s =
        .next
          (if 2000 ≤ y ∧ y ≤ 2199 ∧ 1 ≤ mo.toNat ∧ mo.toNat ≤ 12 ∧ 1 ≤ d.toNat ∧ d.toNat ≤ monthLength y mo.toNat ∧
              h.toNat ≤ 23 ∧ mi.toNat ≤ 59 ∧ sec.toNat ≤ 59 then
            { s with
              clk :=
                { s.clk with
                  pendingSet := some (⟨y, mo.toNat, d.toNat⟩, h.toNat * 36000 + mi.toNat * 600 + sec.toNat * 10)
                  setTags := s.clk.setTags ++ [tag] }
              lnk := { s.lnk with reserved := s.lnk.reserved + 1 } }
          else s.withReply tag 0x20#8 .outOfRange [])) ∧
    (body.length ≠ 1 →
      exec (.clockTrim tag body) s = .next (s.withReply tag 0x22#8 .badLength []) ∧
      exec (.noticeEnable tag body) s = .next (s.withReply tag 0x64#8 .badLength [])) ∧
    ∀ b : Byte, body = [b] →
      (-63 ≤ b.toInt → b.toInt ≤ 63 →
        exec (.clockTrim tag body) s =
          .next (State.withReply { s with clk := { s.clk with trim := b.toInt } } tag 0x22#8 .ok [])) ∧
      (b.toInt < -63 →
        exec (.clockTrim tag body) s =
          .next (State.withReply { s with clk := { s.clk with trim := -63 } } tag 0x22#8 .okClamped [])) ∧
      (63 < b.toInt →
        exec (.clockTrim tag body) s =
          .next (State.withReply { s with clk := { s.clk with trim := 63 } } tag 0x22#8 .okClamped [])) ∧
      (b = 0 →
        exec (.noticeEnable tag body) s =
          .next (State.withReply { s with lnk := { s.lnk with notices := true } } tag 0x64#8 .ok [])) ∧
      (b = 1 →
        exec (.noticeEnable tag body) s =
          .next (State.withReply { s with lnk := { s.lnk with notices := false } } tag 0x64#8 .ok [])) ∧
      (1 < b.toNat → exec (.noticeEnable tag body) s = .next (s.withReply tag 0x64#8 .outOfRange []))

/-- R71, R79, R76, R75: a tick of the crystal advances the time or takes the pending set; while the cabinet mode stays,
every timer of the tenth tick counts it. That CRYSTAL_TICK makes its tick whatever the divider has counted is the model's
choice (notes/assumptions/4.md), and so are the tick at which the maximum timer starts (notes/assumptions/52.md) and that a
decision, a correction or a change point whose row was not taken stays due (notes/assumptions/32.md); the order within the
tick (notes/assumptions/24.md) and the allowance of 0 where d moves on in service (notes/assumptions/21.md) are its
readings. R62, R83, R85, R163, R31: the Day Schedule evaluates at a minute boundary, at the tick that takes a CLOCK_SET and
at the end of the date range, and at no other tick, and delivers what it selected; every CLOCK_SET is answered; a FLASH that
waits in STARTUP_RED is entered; inhibited gaining groups are dropped (State.tickSchedules, with its readings of
notes/assumptions/77.md, notes/assumptions/24.md and notes/assumptions/31.md; the governing entry beside a source other than
SCHEDULE, notes/assumptions/37.md; a commit that a FLASH releases, with the order of its blocks,
notes/assumptions/74.md). -/
def Obligations.CrystalTickAdvancesTime : Prop :=
  ∀ s : State, s.betweenSteps → s.clk.source = .crystal →
    ∃ t, exec .crystalTick s = .next t ∧ t.seq.tick = s.seq.tick + 1 ∧ t.seq.tickOpen = true ∧
      t.clk.pattern = s.clk.pattern % 5 + 1 ∧ t.clk.interval = (if s.clk.interval = 99 then 0 else s.clk.interval + 1) ∧
      t.clk.trim = s.clk.trim ∧ t.clk.pendingSet = none ∧
      (∀ d tod, s.clk.pendingSet = some (d, tod) →
        t.clk.date = d ∧ t.clk.tod = tod ∧ t.clk.valid = true ∧ t.clk.setTags = [] ∧ t.clk.secs = s.clk.secs ∧
          t.flt.pendingSet.clock = true) ∧
      (s.clk.pendingSet = none → s.clk.tod + 1 < 864000 →
        t.clk.date = s.clk.date ∧ t.clk.tod = s.clk.tod + 1 ∧ t.clk.valid = s.clk.valid) ∧
      (s.clk.pendingSet = none → s.clk.tod + 1 = 864000 → s.clk.date ≠ ⟨2199, 12, 31⟩ → s.clk.date.year ≤ 2199 →
        1 ≤ s.clk.date.day → s.clk.date.day ≤ monthLength s.clk.date.year s.clk.date.month →
        1 ≤ s.clk.date.month → s.clk.date.month ≤ 12 →
        t.clk.date = s.clk.date.next.1 ∧ t.clk.tod = 0 ∧ t.clk.valid = s.clk.valid) ∧
      (s.clk.pendingSet = none → s.clk.tod + 1 = 864000 → s.clk.date = ⟨2199, 12, 31⟩ →
        t.clk.date = ⟨2000, 1, 1⟩ ∧ t.clk.tod = 0 ∧ t.clk.valid = false ∧ t.flt.pendingSet.clock = true) ∧
      (s.clk.preference = .mains → 2000 ≤ s.clk.stability → s.cfg.pendingCommit = none →
        t.clk.source = .mains ∧ t.clk.mainsCount = 0) ∧
      (s.clk.pendingSet = none →
        t.clk.secs = (if t.clk.tod % 10 = 0 then min 4294967295 (s.clk.secs + 1) else s.clk.secs)) ∧
      (t.sup.mode = s.sup.mode → s.tickCounts t) ∧ s.tickSchedules t

/-- R73, R169: a zero-crossing returns the supply gap to 0; a counted one advances the mains count while the source is
MAINS, and the fifth or sixth makes the tenth tick, which every timer of the tick counts while the cabinet mode stays
(the tick at which the maximum timer starts, notes/assumptions/52.md, that a decision, a correction or a change point whose
row was not taken stays due, notes/assumptions/32.md, the order within the tick, notes/assumptions/24.md, and the allowance
of 0 where d moves on in service, notes/assumptions/21.md, are the model's), and at which the Day Schedule evaluates as at a
tick of the crystal (State.tickSchedules, with its readings of notes/assumptions/77.md, notes/assumptions/24.md,
notes/assumptions/31.md, notes/assumptions/37.md and notes/assumptions/74.md). Intervals between crossings in whole
milliseconds are the model's choice (notes/assumptions/6.md). -/
def Obligations.ZeroCrossingCountsAndTicks : Prop :=
  ∀ s : State, s.betweenSteps →
    ∃ t, exec .zeroCrossing s = .next t ∧ t.sup.supplyGap = 0 ∧
      (s.clk.sinceCrossing * s.clk.freq.hertz < 800 →
        t.clk = s.clk ∧ t.seq = s.seq ∧ t.cfg = s.cfg ∧ t.out = s.out ∧ t.lmp = s.lmp ∧ t.det = s.det ∧ t.lnk = s.lnk) ∧
      (800 ≤ s.clk.sinceCrossing * s.clk.freq.hertz →
        t.clk.sinceCrossing = 0 ∧
        (s.clk.source = .crystal → t.seq = s.seq ∧ t.clk.mainsCount = s.clk.mainsCount ∧
          t.clk.stability = (if 1200 < s.clk.sinceCrossing * s.clk.freq.hertz then 0 else s.clk.stability)) ∧
        (s.clk.source = .mains → s.clk.mainsCount + 1 < s.clk.freq.perTick →
          t.seq = s.seq ∧ t.clk.mainsCount = s.clk.mainsCount + 1) ∧
        (s.clk.source = .mains → s.clk.freq.perTick ≤ s.clk.mainsCount + 1 →
          t.seq.tick = s.seq.tick + 1 ∧ t.seq.tickOpen = true ∧ t.clk.mainsCount = 0 ∧ t.clk.pattern = 1 ∧
            t.clk.divider = 0 ∧ t.clk.interval = 0 ∧
            (s.clk.pendingSet = none → s.clk.tod + 1 < 864000 →
              t.clk.date = s.clk.date ∧ t.clk.tod = s.clk.tod + 1 ∧ t.clk.valid = s.clk.valid) ∧
            (t.sup.mode = s.sup.mode → s.tickCounts t) ∧ s.tickSchedules t))

/-- R74, R73, R169: 50 ms without a counted crossing end mains timing, with one catch-up tick where the divider has
completed a tenth, which every timer of the tick counts while the cabinet mode stays; a gap of 50 ms ends the two
stability times. The model's, as at any tick, are the tick at which the maximum timer starts (notes/assumptions/52.md),
that a decision, a correction or a change point whose row was not taken stays due (notes/assumptions/32.md), the order within
the tick (notes/assumptions/24.md) and the allowance of 0 where d moves on in service (notes/assumptions/21.md). That the
catch-up is one tick also where the divider has completed two tenths, the second staying in the divider, is the model's
choice (notes/assumptions/40.md). The Day Schedule evaluates at it as at any tick (State.tickSchedules, with its readings of
notes/assumptions/77.md, notes/assumptions/24.md, notes/assumptions/31.md, notes/assumptions/37.md and
notes/assumptions/74.md). -/
def Obligations.MainsLossTurnsToCrystal : Prop :=
  (∀ s : State, s.betweenSteps → s.clk.source = .mains → s.clk.sinceCrossing = 50 →
    ∃ t, exec .mainsTimingLoss s = .next t ∧ t.clk.source = .crystal ∧ t.flt.pendingSet.clock = true ∧
      (s.clk.divider < 1000 * s.clk.length → t.seq = s.seq ∧ t.clk = { s.clk with source := .crystal, stability := 0 }) ∧
      (1000 * s.clk.length ≤ s.clk.divider → t.seq.tick = s.seq.tick + 1 ∧
        t.clk.divider = s.clk.divider - 1000 * s.clk.length ∧ (t.sup.mode = s.sup.mode → s.tickCounts t) ∧
        s.tickSchedules t)) ∧
  ∀ s : State, s.clk.sinceCrossing = 50 → 50 ≤ s.sup.supplyGap →
    exec .crossingGap50Ms s =
      .next
        { s with
          clk := { s.clk with stability := 0 }
          sup := { s.sup with supplyStable := 0, crossingSeen := false } }

/-! ### The cabinet mode and the schedule (R84, R163, R172 to R174) -/

/-- R172: START in all its cases, where no FULL indication already completes the contactor's close. -/
def Obligations.StartEntersStartupCheck : Prop :=
  ∀ (s : State) (tag : Byte) (body : List Byte), s.takes tag body →
    (body ≠ [] → exec (.start tag body) s = .next (s.withReply tag 0x30#8 .badLength [])) ∧
    (body = [] → (s.sup.mode ≠ .unconfigured ∨ s.cfg.committed = false) →
      exec (.start tag body) s = .next (s.withReply tag 0x30#8 .wrongMode [])) ∧
    (body = [] → s.sup.mode = .unconfigured → s.cfg.committed = true → (s.sup.supplyPresent = false ∨ s.out.trip = true) →
      exec (.start tag body) s = .next (s.withReply tag 0x30#8 .conditionPresent [])) ∧
    (body = [] → s.sup.mode = .unconfigured → s.cfg.committed = true → s.sup.supplyPresent = true → s.out.trip = false →
      s.closesLater →
      ∃ t, exec (.start tag body) s = .next t ∧ State.answers s t tag 0x30#8 .ok ∧
        t.sup.mode = .startupCheck ∧ t.sup.reason = none ∧ t.sup.latched = false ∧ t.sup.phaseTime = 0 ∧
        t.sup.exit = (if t.sch.action = some .flash then .flash (some .hostRequest) false else .startupFlash) ∧
        t.sch.action = some s.select.action ∧ t.out.contactor.closeCommand = true ∧ t.out.contactor.driven = true ∧
        (∀ g, s.kind g ≠ none → (t.group g).colour = .darkAll) ∧ t.flt.pendingSet.modeChange = true ∧ t.cfg = s.cfg ∧
        t.clk = s.clk)

/-- R174: RESTART in all its cases, where no FULL indication already completes the contactor's close. That a CONFLICT
entry whose pair the conflict table no longer marks refuses no RESTART and can stay ACTIVE is the model's choice
(notes/assumptions/48.md). -/
def Obligations.RestartReturnsToStartupCheck : Prop :=
  ∀ (s : State) (tag : Byte) (body : List Byte), s.takes tag body →
    (body ≠ [] → exec (.restart tag body) s = .next (s.withReply tag 0x31#8 .badLength [])) ∧
    (body = [] → ((s.sup.mode ≠ .flash ∧ s.sup.mode ≠ .dark) ∨ s.waitingSupply = true) →
      exec (.restart tag body) s = .next (s.withReply tag 0x31#8 .wrongMode [])) ∧
    (body = [] → (s.sup.mode = .flash ∨ s.sup.mode = .dark) → s.waitingSupply = false →
      ((∃ i j : Gid, i < j ∧ s.conflicting i j = true ∧ (s.group i).observedGreen = true ∧ (s.group j).observedGreen = true) ∨
        (∃ e : PEnt, (s.probeRec e).kind = some .coupling ∧ (s.result e).standing = .fault ∧ (s.result e).cross = .dangerous) ∨
        s.out.trip = true) →
      exec (.restart tag body) s = .next (s.withReply tag 0x31#8 .conditionPresent [])) ∧
    (body = [] → (s.sup.mode = .flash ∨ s.sup.mode = .dark) → s.waitingSupply = false → s.restartRefused = false →
      s.closesLater →
      ∃ t, exec (.restart tag body) s = .next t ∧ State.answers s t tag 0x31#8 .ok ∧
        t.sup.mode = .startupCheck ∧ t.sup.reason = none ∧ t.sup.latched = false ∧ t.sup.attempts = 0 ∧
        t.sup.recovering = false ∧ t.sup.holdoff = none ∧ t.sup.probation = 0 ∧ t.out.contactor.closeCommand = true ∧
        (∀ e ∈ t.flt.entries, e.kind = .recoveryLockout → e.subject = .nothing → e.active = false) ∧
        (∀ e ∈ t.flt.entries, e.active = true → e.safety = true → s.conditionHolds e = true))

/-- R173, R163, R169: MODE_SET in all its cases, by the mode, the latched flag and a supply loss being waited out. The
bytes 0 for FLASH and 1 for DARK, and the reading of a latched DARK that meets a supply loss, are the model's
(notes/assumptions/10.md, notes/assumptions/22.md). -/
def Obligations.ModeSetTakesLatchedCause : Prop :=
  ∀ (s : State) (tag : Byte) (body : List Byte), s.takes tag body →
    (body.length ≠ 1 → exec (.modeSet tag body) s = .next (s.withReply tag 0x32#8 .badLength [])) ∧
    (∀ b : Byte, body = [b] → 1 < b.toNat → exec (.modeSet tag body) s = .next (s.withReply tag 0x32#8 .outOfRange [])) ∧
    (∀ b : Byte, body = [b] → b.toNat ≤ 1 → s.sup.mode = .unconfigured →
      exec (.modeSet tag body) s = .next (s.withReply tag 0x32#8 .wrongMode [])) ∧
    (body = [1] → s.sup.mode ≠ .unconfigured → s.waitingSupply = false →
      ∃ t, exec (.modeSet tag body) s = .next t ∧ State.answers s t tag 0x32#8 .ok ∧
        t.sup.mode = .dark ∧ t.sup.latched = true ∧ t.sup.recovering = false ∧ t.sup.holdoff = none ∧
        t.sup.reason = (if s.sup.mode = .dark ∧ s.sup.latched = true then s.sup.reason else some .hostRequest) ∧
        (s.sup.mode ≠ .dark → t.out.contactor.closeCommand = false ∧ t.out.contactor.driven = false)) ∧
    (body = [0] → s.sup.mode ≠ .unconfigured → s.waitingSupply = false →
      ∃ t, exec (.modeSet tag body) s = .next t ∧ State.answers s t tag 0x32#8 .ok ∧
        (s.sup.mode = .startupCheck → t.sup.mode = .startupCheck ∧ t.sup.exit = .flash (some .hostRequest) true) ∧
        (s.sup.mode = .startupFlash ∨ s.sup.mode = .startupRed →
          t.sup.mode = .flash ∧ t.sup.reason = some .hostRequest ∧ t.sup.latched = true) ∧
        (s.sup.mode = .normal → t.sup.mode = .clearing ∧ t.sup.reason = some .hostRequest ∧ t.sup.latched = true) ∧
        ((s.sup.mode = .clearing ∨ s.sup.mode = .flash ∨ s.sup.mode = .dark) →
          t.sup.mode = s.sup.mode ∧ t.sup.latched = true ∧
            t.sup.reason = (if s.sup.latched then s.sup.reason else some .hostRequest))) ∧
    (s.sup.mode ≠ .unconfigured → s.waitingSupply = true →
      (body = [1] → ∃ t, exec (.modeSet tag body) s = .next t ∧ t.sup.mode = s.sup.mode ∧ t.sup.latched = true ∧
        t.sup.reason = some .hostRequest ∧ t.sup.saved = some (.dark (some .hostRequest) true)) ∧
      (body = [0] → ∃ t, exec (.modeSet tag body) s = .next t ∧ t.sup.mode = s.sup.mode ∧
        t.sup.latched = s.sup.latched ∧ t.sup.reason = s.sup.reason ∧
        (s.sup.saved = some .startup → t.sup.saved = some (.flash (some .hostRequest) true)) ∧
        (∀ r, s.sup.saved = some (.flash r false) → t.sup.saved = some (.flash (some .hostRequest) true)) ∧
        (∀ r, s.sup.saved = some (.flash r true) → t.sup.saved = s.sup.saved) ∧
        (∀ r l, s.sup.saved = some (.dark r l) → t.sup.saved = s.sup.saved)))

/-- R82 to R85, R62, R167: PLAN_FORCE and PLAN_RELEASE in all their cases, with the one evaluation that each makes and what
it delivers (State.evaluates): a force takes the plan to the Plan Runner and ends a scheduled FLASH, and a release ends with
the selection of the schedule itself, which may start one. The selection is that of the five steps of R82
(Timing.selects). What the record's governing entry is beside a source other than SCHEDULE is the model's reading
(notes/assumptions/37.md); so is what a latched FLASH waiting in STARTUP_RED keeps (notes/assumptions/24.md), and the order
of the blocks at a commit that a FLASH releases is its choice (notes/assumptions/74.md). -/
def Obligations.PlanForceAndRelease : Prop :=
  ∀ (s : State) (tag : Byte) (body : List Byte), s.takes tag body →
    (body.length ≠ 1 → exec (.planForce tag body) s = .next (s.withReply tag 0x33#8 .badLength [])) ∧
    (∀ b : Byte, body = [b] →
      (s.sup.mode = .unconfigured → exec (.planForce tag body) s = .next (s.withReply tag 0x33#8 .wrongMode [])) ∧
      (s.sup.mode ≠ .unconfigured → (b.toNat = 0 ∨ 8 < b.toNat) →
        exec (.planForce tag body) s = .next (s.withReply tag 0x33#8 .outOfRange []))) ∧
    (∀ p : Pln, body = [BitVec.ofNat 8 (p.val + 1)] → s.sup.mode ≠ .unconfigured →
      ((s.plan p).entries = [] → exec (.planForce tag body) s = .next (s.withReply tag 0x33#8 .undefinedPlan [])) ∧
      ((s.plan p).entries ≠ [] →
        ∃ t, exec (.planForce tag body) s = .next t ∧ State.answers s t tag 0x33#8 .ok ∧ s.evaluates t (some p) ∧
          t.sch = { action := some (.plan p), source := some .forced, governing := none, forced := some p } ∧
          t.cfg = s.cfg ∧ t.clk = s.clk)) ∧
    (body ≠ [] → exec (.planRelease tag body) s = .next (s.withReply tag 0x34#8 .badLength [])) ∧
    (body = [] → s.sup.mode = .unconfigured → exec (.planRelease tag body) s = .next (s.withReply tag 0x34#8 .wrongMode [])) ∧
    (body = [] → s.sup.mode ≠ .unconfigured →
      ∃ t, exec (.planRelease tag body) s = .next t ∧ State.answers s t tag 0x34#8 .ok ∧ s.evaluates t none ∧
        t.clk.date = s.clk.date ∧ t.clk.tod = s.clk.tod ∧ t.clk.valid = s.clk.valid ∧
        (s.cfg.pendingCommit = none → t.cfg = s.cfg ∧ t.clk = s.clk) ∧
        ∀ sel : Selection, sel = t.cfg.running.tm.select none s.clk.valid s.clk.date s.clk.tod →
          t.sch = { action := some sel.action, source := some sel.source, governing := sel.governing, forced := none }) ∧
    ∀ (tm : Timing) (forced : Option Pln) (valid : Bool) (d : Date) (tod : Nat),
      tm.selects forced valid d tod (tm.select forced valid d tod)

/-- R22: DEMAND_PLACE in all its cases. -/
def Obligations.DemandPlaceSetsDemand : Prop :=
  ∀ (s : State) (tag : Byte) (body : List Byte), s.takes tag body →
    (body.length ≠ 1 → exec (.demandPlace tag body) s = .next (s.withReply tag 0x35#8 .badLength [])) ∧
    (∀ b : Byte, body = [b] →
      (s.sup.mode = .unconfigured → exec (.demandPlace tag body) s = .next (s.withReply tag 0x35#8 .wrongMode [])) ∧
      (s.sup.mode ≠ .unconfigured → (b.toNat = 0 ∨ 16 < b.toNat) →
        exec (.demandPlace tag body) s = .next (s.withReply tag 0x35#8 .outOfRange []))) ∧
    ∀ g : Gid, body = [BitVec.ofNat 8 (g.val + 1)] → s.sup.mode ≠ .unconfigured →
      (s.kind g = none → exec (.demandPlace tag body) s = .next (s.withReply tag 0x35#8 .outOfRange [])) ∧
      (s.kind g ≠ none → (s.group g).colour = .green →
        exec (.demandPlace tag body) s = .next (s.withReply tag 0x35#8 .ok [])) ∧
      (s.kind g ≠ none → (s.group g).colour ≠ .green →
        exec (.demandPlace tag body) s =
          .next (State.withReply
            { s with seq := { s.seq with groups := s.seq.groups.put g { s.group g with demand := true } } }
            tag 0x35#8 .ok []))

/-! ### Lamp records, sweeps and probes on request (R131 to R133, R148, R152) -/

/-- R131 to R133: MAINT_UPDATE and LAMP_RELEARN in all their cases; the bit of a channel in the mask is read as
notes/assumptions/10.md says, and BAD_LENGTH before OUT_OF_RANGE is the model's choice (notes/assumptions/19.md). The red
health that follows can drop a group that entered RED_AMBER at this very tick (R31), whose channels then change; what a
lamp record keeps is stated where there is no such group. -/
def Obligations.MaintenanceAndRelearnRequests : Prop :=
  ∀ (s : State) (tag : Byte) (body : List Byte), s.takes tag body →
    (body.length ≠ 7 → exec (.maintUpdate tag body) s = .next (s.withReply tag 0x36#8 .badLength [])) ∧
    (body.length = 7 → 2 < (body.getD 0 0).toNat →
      exec (.maintUpdate tag body) s = .next (s.withReply tag 0x36#8 .outOfRange [])) ∧
    (body.length = 7 → (body.getD 0 0).toNat ≤ 2 →
      ∃ t, exec (.maintUpdate tag body) s = .next t ∧ State.answers s t tag 0x36#8 .ok ∧ t.cfg = s.cfg ∧ t.clk = s.clk ∧
        t.sch = s.sch ∧ t.det = s.det ∧
        ∀ (c : Ch) (op : Nat), op = (body.getD 0 0).toNat →
          (t.lamp c).maintenance =
            (if maskHas body c = false then (s.lamp c).maintenance
            else if op = 0 then true else if op = 1 then false else !(s.lamp c).maintenance) ∧
          (s.redAmberSettled → maskHas body c = false → t.lamp c = s.lamp c) ∧
          (s.redAmberSettled → maskHas body c = true →
            ((t.lamp c).maintenance = (s.lamp c).maintenance → t.lamp c = s.lamp c) ∧
            ((s.lamp c).maintenance = false → (t.lamp c).maintenance = true →
              (t.lamp c).healthy = none ∧ (t.lamp c).set = none ∧ (t.lamp c).run = none ∧
                (t.lamp c).iref = (s.lamp c).iref ∧
                (if (s.lamp c).verdict = .held then (t.lamp c).verdict = .held ∧ (t.lamp c).saved = some .unknown
                else (t.lamp c).verdict = .unknown)) ∧
            ((s.lamp c).maintenance = true → (t.lamp c).maintenance = false →
              ((s.settings c).refMode = .learn → (t.lamp c).iref = none ∧ (t.lamp c).learn = .unlearned) ∧
              ((s.settings c).refMode = .fixed →
                (t.lamp c).iref = some (s.settings c).fixedRef ∧ (t.lamp c).learn = .learned)))) ∧
    (body.length ≠ 1 → exec (.lampRelearn tag body) s = .next (s.withReply tag 0x37#8 .badLength [])) ∧
    (∀ b : Byte, body = [b] → (b.toNat = 0 ∨ 48 < b.toNat) →
      exec (.lampRelearn tag body) s = .next (s.withReply tag 0x37#8 .outOfRange [])) ∧
    ∀ c : Ch, body = [BitVec.ofNat 8 (c.val + 1)] →
      ∃ t, exec (.lampRelearn tag body) s = .next t ∧ State.answers s t tag 0x37#8 .ok ∧ t.cfg = s.cfg ∧ t.clk = s.clk ∧
        t.det = s.det ∧
        (s.redAmberSettled → t.out = s.out ∧ t.cbt = s.cbt ∧ ∀ k, k ≠ c → t.lamp k = s.lamp k) ∧
        (t.lamp c).healthy = none ∧ (t.lamp c).set = none ∧ (t.lamp c).run = none ∧
        (t.lamp c).maintenance = (s.lamp c).maintenance ∧
        (s.redAmberSettled → if (s.lamp c).verdict = .held then (t.lamp c).verdict = .held ∧ (t.lamp c).saved = some .unknown
        else (t.lamp c).verdict = .unknown) ∧
        ((s.settings c).refMode = .learn → (t.lamp c).iref = none ∧ (t.lamp c).learn = .unlearned) ∧
        ((s.settings c).refMode = .fixed → (t.lamp c).iref = some (s.settings c).fixedRef ∧ (t.lamp c).learn = .learned)

/-- R148, R152, R141: SWEEP_START, SWEEP_STOP and PROBE_RUN in all their cases. The marks sweepNext and uncounted are the
model's own (notes/assumptions/33.md). -/
def Obligations.SweepAndProbeRequests : Prop :=
  ∀ (s : State) (tag : Byte) (body : List Byte), s.takes tag body →
    (body.length ≠ 2 → exec (.sweepStart tag body) s = .next (s.withReply tag 0x40#8 .badLength [])) ∧
    (∀ hi lo : Byte, body = [hi, lo] → ∀ p q, p = hi.toNat * 256 + lo.toNat → q = max 1 (min 1440 p) →
      exec (.sweepStart tag body) s =
        .next
          (State.withReply
            { s with
              cbt :=
                if s.cbt.period = none then
                  { s.cbt with
                    period := some q, sweepTime := 0, walk := 1, deferred := [], choice := true, sweepNext := false
                    uncounted := false
                    results := s.cbt.results.map fun r => { r with done := false } }
                else { s.cbt with period := some q, sweepNext := decide (q * 600 ≤ s.cbt.sweepTime) } }
            tag 0x40#8 (if p = q then .ok else .okClamped) [])) ∧
    (body ≠ [] → exec (.sweepStop tag body) s = .next (s.withReply tag 0x41#8 .badLength [])) ∧
    (body = [] →
      exec (.sweepStop tag body) s =
        .next
          (State.withReply
            { s with
              cbt :=
                if s.cbt.period = none then s.cbt
                else
                  { s.cbt with
                    period := none, deferred := [], urgent := [], walk := 1, choice := false, sweepNext := false
                    uncounted := false
                    results := s.cbt.results.map fun r => { r with done := false } } }
            tag 0x41#8 .ok [])) ∧
    (body.length ≠ 1 → exec (.probeRun tag body) s = .next (s.withReply tag 0x42#8 .badLength [])) ∧
    (∀ b : Byte, body = [b] → (b.toNat = 0 ∨ 64 < b.toNat) →
      exec (.probeRun tag body) s = .next (s.withReply tag 0x42#8 .outOfRange [])) ∧
    ∀ e : PEnt, body = [BitVec.ofNat 8 (e.val + 1)] →
      ((s.probeRec e).kind = none → exec (.probeRun tag body) s = .next (s.withReply tag 0x42#8 .outOfRange [])) ∧
      ((s.probeRec e).kind ≠ none → s.cbt.phase ≠ .idle →
        exec (.probeRun tag body) s = .next (s.withReply tag 0x42#8 .busy [])) ∧
      ((s.probeRec e).kind ≠ none → s.cbt.phase = .idle → s.canStart e = false →
        exec (.probeRun tag body) s = .next (s.withReply tag 0x42#8 .notTestable [])) ∧
      (s.canStart e = true →
        ∃ t, exec (.probeRun tag body) s = .next t ∧ t.cbt.phase = .closing ∧ t.cbt.phaseTime = 0 ∧
          t.cbt.probe = some ⟨e, .request tag, false⟩ ∧ t.cbt.urgent = s.cbt.urgent.erase e ∧
          t.cbt.deferred = s.cbt.deferred.erase e ∧ t.cbt.results = s.cbt.results ∧
          (t.chan (s.probeRec e).subject).testBus = .drive ∧
          (∀ q, (s.probeRec e).kind = some .coupling → (s.probeRec e).partner = some q → q ≠ (s.probeRec e).subject →
            (t.chan q).testBus = .sense) ∧
          (∀ c, c ≠ (s.probeRec e).subject → (s.probeRec e).partner ≠ some c → t.chan c = s.chan c) ∧
          t.lnk.output = s.lnk.output ∧ t.lnk.reserved = s.lnk.reserved + 1 ∧ t.cfg = s.cfg ∧ t.clk = s.clk ∧
          t.seq = s.seq ∧ t.sup = s.sup ∧ t.flt = s.flt ∧ t.lmp = s.lmp ∧ t.det = s.det ∧ t.sch = s.sch)

/-! ### Detector inputs and priority (R38 to R41, R86 to R97) -/

/-- R86, R89, R90 to R94, R34, R38 to R40, R68: a pin change restarts or keeps the debounce; an accepted change writes the
runtime record and is handed to the sequencer in the form of its kind; the first priority request is served at once, one
behind others changes no end due, and the last one returns the sequencer to its plan; the gap timer is at its hold value
after an actuation that serves a green member, and after a deactivation while another detector holds it; a button lights
the auxiliary outputs of its groups. That an end due of the service names the first entry of its stage is the model's
choice (notes/assumptions/45.md), and so is that a request is served under a plan without entries too
(notes/assumptions/83.md); that one which joins behind the head leaves it as it was is its reading
(notes/assumptions/21.md). That a running count which a commit's new debounce completes waits for the next millisecond, and that the pin is
read at its event, are the model's choices (notes/assumptions/33.md, notes/assumptions/38.md), and so is that the return
removes an end that was due (notes/assumptions/21.md, in an isolated plan notes/assumptions/63.md). -/
def Obligations.DetectorChangesAreAcceptedAndHandedOver : Prop :=
  (∀ (s : State) (d : Det) (high : Bool),
    ((s.detector d).kind = none →
      exec (.detectorPinChange d high) s =
        .next { s with det := s.det.put d { s.input d with pin := high } }) ∧
    ((s.detector d).kind ≠ none → ∀ v : Bool, (v = true ↔ ((s.detector d).polarity = .activeHigh ↔ high = true)) →
      exec (.detectorPinChange d high) s =
        .next
          { s with
            det :=
              s.det.put d
                { s.input d with
                  pin := high
                  reading := v
                  debounceTime := if v = (s.input d).accepted then 0 else (s.input d).debounceTime } })) ∧
  ∀ (s : State) (d : Det), s.betweenSteps → s.listsSound → (s.detector d).kind ≠ none →
    (s.input d).reading ≠ (s.input d).accepted → (s.detector d).debounce ≤ (s.input d).debounceTime →
    (s.input d).nextMs = false →
    ∃ t, exec (.detectorAcceptedChange d) s = .next t ∧
      (t.input d).accepted = (s.input d).reading ∧ (t.input d).reading = (s.input d).reading ∧
      (t.input d).debounceTime = 0 ∧ (t.input d).stateTime = 0 ∧ (t.input d).fault = .none ∧
      (t.input d).count = (if (s.input d).reading then ((s.input d).count + 1) % 65536 else (s.input d).count) ∧
      (∀ k, k ≠ d → t.input k = s.input k) ∧ t.cfg = s.cfg ∧ t.clk = s.clk ∧ t.sch = s.sch ∧ t.out = s.out ∧
      t.lmp = s.lmp ∧ t.cbt = s.cbt ∧ t.sup = s.sup ∧ (∀ g, (t.group g).colour = (s.group g).colour) ∧
      (s.sup.mode ≠ .unconfigured → (s.input d).reading = true →
        ((s.detector d).kind = some .presence →
          (∀ g ∈ (s.detector d).served, s.kind g ≠ none → (s.group g).colour ≠ .green → (t.group g).demand = true) ∧
          ((∃ g ∈ (s.detector d).served, s.greenMember g = true) → t.gapHold = some t.seq.gap) ∧
          ((∀ g ∈ (s.detector d).served, s.greenMember g = false) → t.seq.gap = s.seq.gap)) ∧
        ((s.detector d).kind = some .button →
          ∀ g ∈ (s.detector d).served, s.kind g = some .pedestrian → (s.group g).colour ≠ .green →
            (t.group g).latch = true ∧ (t.group g).demand = true ∧
            (s.sup.mode = .startupRed ∨ s.sup.mode = .normal ∨ s.sup.mode = .clearing →
              ∀ x, s.cabinet.aux.get x = some g → t.auxLit x = true)) ∧
        (∀ b, (s.detector d).kind = some .priority → (s.detector d).target = some b → s.sup.mode = .normal →
          d ∉ s.seq.barred → (∀ r ∈ s.seq.priority, r.input ≠ d) → s.seq.priority.length < 4 →
          t.seq.priority = s.seq.priority ++ [⟨d, b, 0⟩] ∧
            (s.seq.priority = [] → s.seq.change = none →
              t.seq.endDue = (if s.seq.running = some b then none else some ⟨b, s.activePlan.firstNaming b, none⟩)) ∧
            (s.seq.priority ≠ [] ∨ s.seq.change ≠ none → t.seq.endDue = s.seq.endDue)) ∧
        ((s.detector d).kind = some .priority →
          (s.sup.mode ≠ .normal ∨ d ∈ s.seq.barred ∨ (∃ r ∈ s.seq.priority, r.input = d) ∨ 4 ≤ s.seq.priority.length) →
          t.seq.priority = s.seq.priority)) ∧
      (s.sup.mode ≠ .unconfigured → (s.input d).reading = false →
        ((s.detector d).kind = some .priority →
          (∀ r ∈ t.seq.priority, r.input ≠ d) ∧ t.seq.barred = s.seq.barred.erase d) ∧
        (∀ h, s.sup.mode = .normal → (s.detector d).kind = some .priority → s.seq.priority = [h] → h.input = d →
          (∀ l k e, s.activePlan.coordinated = true → s.seq.pos = some l → s.activePlan.entry? k = some e → l < e.endPos →
            (∀ j x, j < k → s.activePlan.entry? j = some x → x.endPos ≤ l) →
            t.seq.decision = some k ∧
            (s.seq.running = some e.stage → s.seq.change = none → t.seq.entry = some k ∧ t.seq.endDue = none) ∧
            (s.seq.running ≠ some e.stage ∨ s.seq.change ≠ none →
              t.seq.entry = s.seq.entry ∧ t.seq.endDue = some ⟨e.stage, some k, none⟩)) ∧
          (s.activePlan.isolated = true →
            t.seq.entry = s.activePlan.firstNaming h.target ∧ t.seq.maxTimer = none ∧ t.seq.endDue = none ∧
              t.seq.gap = s.seq.gap)) ∧
        ((s.detector d).kind = some .presence →
          (∀ v, t.gapHold = some v → t.seq.gap = v) ∧ (t.gapHold = none → t.seq.gap = s.seq.gap)))

/-- R95 to R97, R20, R34, R41: an input that has stood too long is stuck, demands its served groups, no longer holds the
gap timer and is recorded; a head request served for its maximum is removed and barred. -/
def Obligations.StuckInputsAndOverstays : Prop :=
  (∀ (s : State) (d : Det), s.betweenSteps → s.listsSound → s.seq.tickOpen = true → (s.detector d).kind ≠ none →
    (s.input d).fault = .none → s.flt.entries.length < 64 →
    ((s.input d).accepted = true → 0 < (s.detector d).maxPresence →
      (s.detector d).maxPresence * 600 ≤ (s.input d).stateTime →
      ∃ t, exec (.stuckOn d) s = .next t ∧ (t.input d).fault = .stuckOn ∧ (∀ k, k ≠ d → t.input k = s.input k) ∧
        (∀ g ∈ (s.detector d).served, s.kind g ≠ none → (t.group g).demand = true) ∧
        (∃ e ∈ t.flt.entries, e.kind = .detectorStuckOn ∧ e.subject = .input d ∧ e.active = true ∧ e.safety = false) ∧
        ((s.detector d).kind = some .priority → ∀ r ∈ t.seq.priority, r.input ≠ d) ∧
        ((s.detector d).kind = some .presence →
          (∀ v, t.gapHold = some v → t.seq.gap = v) ∧ (t.gapHold = none → t.seq.gap = s.seq.gap)) ∧
        t.seq.barred = s.seq.barred ∧ t.cfg = s.cfg ∧ t.clk = s.clk ∧ t.out = s.out ∧ t.sup = s.sup) ∧
    ((s.input d).accepted = false → 0 < (s.detector d).maxAbsence →
      (s.detector d).maxAbsence * 36000 ≤ (s.input d).stateTime →
      ∃ t, exec (.stuckOff d) s = .next t ∧ (t.input d).fault = .stuckOff ∧ (∀ k, k ≠ d → t.input k = s.input k) ∧
        (∀ g ∈ (s.detector d).served, s.kind g ≠ none → (t.group g).demand = true) ∧
        (∃ e ∈ t.flt.entries, e.kind = .detectorStuckOff ∧ e.subject = .input d ∧ e.active = true ∧ e.safety = false) ∧
        t.seq.priority = s.seq.priority ∧ t.cfg = s.cfg ∧ t.clk = s.clk ∧ t.out = s.out ∧ t.sup = s.sup)) ∧
  ∀ (s : State) (h : PriorityReq) (rest : List PriorityReq), s.betweenSteps → s.seq.tickOpen = true →
    s.seq.priority = h :: rest → 0 < (s.detector h.input).priorityMax →
    10 * (s.detector h.input).priorityMax ≤ h.service → s.flt.entries.length < 64 →
    ∃ t, exec .priorityOverstay s = .next t ∧ t.seq.priority = rest ∧ t.seq.barred = s.seq.barred ++ [h.input] ∧
      (∃ e ∈ t.flt.entries, e.kind = .priorityOverstay ∧ e.subject = .input h.input ∧ e.active = true) ∧
      (∀ g, t.group g = s.group g) ∧ t.cfg = s.cfg ∧ t.clk = s.clk ∧ t.out = s.out ∧ t.sup = s.sup ∧ t.det = s.det

/-! ### The stage sequencer (R24 to R45) -/

/-- R26 to R28, R58: a stage change starts at t0: the losing greens end, the change record names the target, each gaining
group's green instant is the latest that its intergreens and its red-amber give, and an end set at a skip point makes its
jump. That the gap timer is 0 after t0 also where an active detector serves a green group that continues (R34) is the
model's choice (notes/assumptions/39.md), and so is what a t0 without a change record does beside taking the end due
(notes/assumptions/62.md). -/
def Obligations.StageChangeStartsAtT0 : Prop :=
  ∀ (s : State) (e : EndDue), s.betweenSteps → s.seq.tickOpen = true → s.sup.mode = .normal → s.seq.endDue = some e →
    s.seq.change = none → (∀ g, (s.group g).colour ≠ .redAmber) →
    (∀ g, (s.group g).colour = .green → g ∉ s.stage e.target → (s.group g).minInForce ≤ (s.group g).timeIn) →
    ∃ t, exec .stageChangeStart s = .next t ∧ t.seq.endDue = none ∧ t.seq.maxTimer = none ∧ t.seq.gap = 0 ∧
      t.seq.entry = e.entry ∧ t.seq.running = s.seq.running ∧ t.cfg = s.cfg ∧ t.clk = s.clk ∧ t.sch = s.sch ∧
      t.det = s.det ∧ t.sup.mode = .normal ∧
      (s.seq.running = some e.target → (∀ g ∈ s.stage e.target, (s.group g).colour = .green) →
        t.seq.change = none ∧ ∀ g, t.group g = s.group g) ∧
      ((s.seq.running ≠ some e.target ∨ ∃ g ∈ s.stage e.target, (s.group g).colour ≠ .green) →
        (∃ ch, t.seq.change = some ch ∧ ch.target = e.target ∧ ch.t0 = s.seq.tick ∧
          (∀ g, g ∈ ch.losing ↔ (s.group g).colour = .green ∧ g ∉ s.stage e.target) ∧
          (∀ g, (∃ i, (g, i) ∈ ch.gaining) ↔
            g ∈ s.stage e.target ∧ ((s.group g).colour = .red ∨ (s.group g).colour = .dark) ∧
              (s.group g).inhibited = false) ∧
          (∀ g i, (g, i) ∈ ch.gaining →
            s.seq.tick + s.redAmberOf g ≤ i ∧
              (∀ k endAt, s.conflicting k g = true → (t.group k).greenEnd = some endAt → endAt + s.intergreen k g ≤ i) ∧
              (i = s.seq.tick + s.redAmberOf g ∨
                ∃ k endAt, s.conflicting k g = true ∧ (t.group k).greenEnd = some endAt ∧ i = endAt + s.intergreen k g))) ∧
        (∀ l jumpTo, s.seq.pos = some l → e.jump = some jumpTo → l < jumpTo →
          t.seq.shorten = s.seq.shorten - (jumpTo - l) ∧
            (jumpTo ≠ s.activePlan.cycle →
              t.seq.pos = some jumpTo ∧ t.seq.cycleStart = s.seq.cycleStart ∧ t.seq.changePoint = s.seq.changePoint) ∧
            (jumpTo = s.activePlan.cycle →
              t.seq.pos = some 0 ∧ t.seq.cycleStart = true ∧ t.seq.changePoint = true)) ∧
        ((∀ l jumpTo, s.seq.pos = some l → e.jump = some jumpTo → jumpTo ≤ l) →
          t.seq.pos = s.seq.pos ∧ t.seq.shorten = s.seq.shorten ∧ t.seq.cycleStart = s.seq.cycleStart ∧
            t.seq.changePoint = s.seq.changePoint) ∧
        (∀ g, (s.group g).colour = .green → g ∉ s.stage e.target →
          (s.kind g = some .traffic → (t.group g).colour = .amber) ∧
          (s.kind g = some .pedestrian → (t.group g).colour = .clear) ∧
          (s.kind g = some .arrow → (t.group g).colour = .dark) ∧
          (s.kind g ≠ none → (t.group g).greenEnd = some s.seq.tick ∧ (t.group g).timeIn = 0)) ∧
        ∀ g, ¬((s.group g).colour = .green ∧ g ∉ s.stage e.target) → (t.group g).colour = (s.group g).colour)

/-- R28, R31, R32, R18 to R21, R93: a gaining group enters RED_AMBER and GREEN at its instants, and so does a joiner of the
running stage; an inhibited one is dropped with its computed green instant, and a dropped group joins late; GREEN puts
the auxiliary outputs of the group out. That RED_AMBER starts by the running configuration's red-amber at its tick is
the model's reading (notes/assumptions/29.md), and so is the instant a late joiner keeps (notes/assumptions/31.md); that a
group without a red-amber passes from RED to GREEN at once is the model's choice (notes/assumptions/64.md). That the minimum
green of each group that enters GREEN counts to the stage minimum of the change, and that of a dropped one does not, is its
reading (notes/assumptions/30.md). -/
def Obligations.GainingGroupsEnterGreenOrAreDropped : Prop :=
  ∀ (s : State) (g : Gid), s.betweenSteps → s.seq.tickOpen = true → s.sup.mode = .normal →
    (∀ i, s.seq.gainingInstant g = some i → s.kind g = some .traffic → 0 < (s.gt g).redAmber →
      (s.group g).colour = .red → i ≤ s.seq.tick + (s.gt g).redAmber →
      ∃ t, exec (.redAmberStart g) s = .next t ∧
        ((s.group g).inhibited = false → (t.group g).colour = .redAmber ∧ (t.group g).timeIn = 0 ∧
          (t.group g).redAmberInForce = (s.gt g).redAmber ∧ t.seq.change = s.seq.change ∧ t.seq.dropped = s.seq.dropped) ∧
        ((s.group g).inhibited = true → (t.group g).colour = .red ∧ t.seq.gainingInstant g = none ∧
          t.seq.dropped = s.seq.dropped ++ [(g, (s.seq.joinedInstant g).getD i)]) ∧
        (∀ k, k ≠ g → (t.group k).colour = (s.group k).colour) ∧ t.cfg = s.cfg ∧ t.clk = s.clk ∧ t.det = s.det) ∧
    (∀ i, s.seq.gainingInstant g = some i → i ≤ s.seq.tick → s.beforeGreen g = true →
      ∃ t, exec (.greenInstant g) s = .next t ∧
        ((s.group g).inhibited = false → (t.group g).colour = .green ∧ (t.group g).timeIn = 0 ∧
          (t.group g).minInForce = (s.gt g).minGreen ∧ (t.group g).latch = false ∧
          (t.group g).demand = s.standing g ∧ t.seq.gainingInstant g = none ∧ t.seq.dropped = s.seq.dropped ∧
          ∀ x, s.cabinet.aux.get x = some g → t.auxLit x = false) ∧
        ((s.group g).inhibited = true → (t.group g).colour ≠ .green ∧ (t.group g).colour ≠ .redAmber ∧
          (t.group g).demand = (s.group g).demand ∧ t.seq.gainingInstant g = none ∧
          t.seq.dropped = s.seq.dropped ++ [(g, (s.seq.joinedInstant g).getD i)]) ∧
        (∀ k, k ≠ g → (t.group k).colour = (s.group k).colour) ∧ t.cfg = s.cfg ∧ t.clk = s.clk ∧ t.det = s.det) ∧
    (s.seq.gainingInstant g = none → (s.group g).colour = .redAmber →
      (s.group g).redAmberInForce ≤ (s.group g).timeIn →
      ∃ t, exec (.greenInstant g) s = .next t ∧
        ((s.group g).inhibited = false → (t.group g).colour = .green ∧ (t.group g).timeIn = 0 ∧
          (t.group g).minInForce = (s.gt g).minGreen ∧ (t.group g).latch = false ∧
          (t.group g).demand = s.standing g ∧ t.seq.dropped = s.seq.dropped ∧ t.seq.change = s.seq.change.map (fun ch =>
            { ch with
              gaining := ch.gaining.filter fun p => p.1 != g
              minMax := max ch.minMax (s.gt g).minGreen })) ∧
        ((s.group g).inhibited = true → (t.group g).colour = .red ∧ (t.group g).demand = (s.group g).demand ∧
          ∀ i, s.seq.joinedInstant g = some i → t.seq.dropped = s.seq.dropped ++ [(g, i)]) ∧
        (∀ k, k ≠ g → (t.group k).colour = (s.group k).colour) ∧ t.cfg = s.cfg ∧ t.clk = s.clk ∧ t.det = s.det) ∧
    (∀ i b, s.seq.endDue = none → (s.group g).inhibited = false →
      ((s.group g).colour = .red ∨ (s.group g).colour = .dark) → s.seq.joinable = some b → g ∈ s.stage b →
      s.seq.droppedInstant g = some i → i ≤ s.seq.tick →
      ∃ t, exec (.lateJoin g) s = .next t ∧ (∀ p ∈ t.seq.dropped, p.1 ≠ g) ∧
        (0 < s.redAmberOf g → (t.group g).colour = .redAmber ∧ (t.group g).timeIn = 0 ∧
          t.seq.joined = s.seq.joined ++ [(g, i)] ∧
          (s.seq.change ≠ none → ∃ ch, t.seq.change = some ch ∧ (g, s.seq.tick + s.redAmberOf g) ∈ ch.gaining)) ∧
        (s.redAmberOf g = 0 → (t.group g).colour = .green ∧ (t.group g).minInForce = (s.gt g).minGreen ∧
          (t.group g).demand = s.standing g) ∧
        (∀ k, k ≠ g → (t.group k).colour = (s.group k).colour) ∧ t.cfg = s.cfg ∧ t.clk = s.clk ∧ t.det = s.det)

/-- R27, R29, R45, R57, R68, R161: an amber or a clearance ends in RED when its time in force has run, and the change
completes; the last one of CLEARING brings FLASH. That the allowance is computed for the decision entry's stage also outside
the return of R68, for a plan taken in the middle of the change, is the model's reading (notes/assumptions/21.md), and that
the end due of a served target names the first entry of its stage, and that it is set under a plan without entries too, are
the model's choices (notes/assumptions/45.md, notes/assumptions/83.md). That the
stage minimum, on which the allowance rests, is the largest of the groups that entered GREEN in the change is its reading
(notes/assumptions/30.md). -/
def Obligations.AmbersEndAndChangeCompletes : Prop :=
  (∀ (s : State) (g : Gid), s.betweenSteps → s.seq.tickOpen = true → (s.sup.mode = .normal ∨ s.sup.mode = .clearing) →
    ((s.group g).colour = .amber → (s.group g).amberInForce ≤ (s.group g).timeIn →
      ∃ t, exec (.amberEnd g) s = .next t ∧ (t.group g).colour = .red ∧ (t.group g).timeIn = 0 ∧
        (t.group g).greenEnd = (s.group g).greenEnd ∧ (∀ k, k ≠ g → (t.group k).colour = (s.group k).colour) ∧
        t.cfg = s.cfg ∧ t.clk = s.clk ∧ t.det = s.det ∧ (s.sup.mode = .normal → t.sup.mode = .normal) ∧
        (s.sup.mode = .clearing → s.seq.clearingDue = false →
          (∀ k, k ≠ g → (s.group k).colour ≠ .amber ∧ (s.group k).colour ≠ .clear) →
          t.sup.mode = .flash ∧ t.sup.reason = s.sup.reason ∧ t.sup.latched = s.sup.latched)) ∧
    ((s.group g).colour = .clear → (s.group g).clearanceInForce ≤ (s.group g).timeIn →
      ∃ t, exec (.clearanceEnd g) s = .next t ∧ (t.group g).colour = .red ∧ (t.group g).timeIn = 0 ∧
        (t.group g).greenEnd = (s.group g).greenEnd ∧ (∀ k, k ≠ g → (t.group k).colour = (s.group k).colour) ∧
        t.cfg = s.cfg ∧ t.clk = s.clk ∧ t.det = s.det ∧ (s.sup.mode = .normal → t.sup.mode = .normal) ∧
        (s.sup.mode = .clearing → s.seq.clearingDue = false →
          (∀ k, k ≠ g → (s.group k).colour ≠ .amber ∧ (s.group k).colour ≠ .clear) →
          t.sup.mode = .flash ∧ t.sup.reason = s.sup.reason ∧ t.sup.latched = s.sup.latched))) ∧
  ∀ (s : State) (ch : StageChange), s.betweenSteps → s.seq.tickOpen = true → s.sup.mode = .normal →
    s.seq.change = some ch → ch.gaining = [] →
    (∀ g ∈ ch.losing, (s.group g).colour = .red ∨ (s.group g).colour = .dark) →
    ∃ t, exec .stageChangeComplete s = .next t ∧ t.seq.running = some ch.target ∧ t.seq.change = none ∧
      t.seq.greenStart = s.seq.pos.getD 0 ∧ t.seq.stageMin = ch.minMax ∧ t.seq.dropped = s.seq.dropped ∧
      (∀ g, t.group g = s.group g) ∧ t.cfg = s.cfg ∧ t.clk = s.clk ∧ t.det = s.det ∧ t.out = s.out ∧ t.sup = s.sup ∧
      (∀ ending, s.activePlan.coordinated = true → s.seq.decision.bind s.activePlan.entry? = some ending →
        (ending.stage = ch.target ∨
          ∃ current, s.seq.entry.bind s.activePlan.entry? = some current ∧ current.stage = ch.target) →
        t.seq.allowance = min s.seq.shorten (ending.endPos - s.seq.pos.getD 0 - ch.minMax)) ∧
      ((∀ named, s.seq.entry.bind s.activePlan.entry? = some named ∨ s.seq.decision.bind s.activePlan.entry? = some named →
        named.stage ≠ ch.target) → t.seq.allowance = s.seq.allowance) ∧
      (s.seq.priority = [] → t.seq.endDue = s.seq.endDue) ∧
      ∀ h rest, s.seq.priority = h :: rest →
        t.seq.endDue =
          (if ch.target = h.target then none else some ⟨h.target, s.activePlan.firstNaming h.target, none⟩)

/-- R33, R35, R36: a gap-out and a max-out make the end due to the selection and touch nothing else; a max-out without
a candidate lets the maximum timer go idle. The selection is the first candidate in plan order from the entry after the
current one, and none only where there is no candidate. That the look of the selection comes round to the current entry, as the last,
is the model's choice (notes/assumptions/53.md). -/
def Obligations.IsolatedEndsGoToSelection : Prop :=
  ∀ s : State, s.seq.tickOpen = true → s.sup.mode = .normal → s.activePlan.isolated = true → s.seq.change = none →
    s.seq.endDue = none → s.seq.priority = [] →
    (∀ b k, s.selection = some (b, k) → s.seq.gap = 0 → (∀ g, (s.group g).colour ≠ .redAmber) →
      (∀ g, (s.group g).colour = .green → g ∉ s.stage b → (s.group g).minInForce ≤ (s.group g).timeIn) →
      exec .gapOut s = .next { s with seq := { s.seq with endDue := some ⟨b, some k, none⟩ } }) ∧
    (∀ n, s.seq.maxTimer = some n → s.seq.maxLimit ≤ n →
      (∀ b k, s.selection = some (b, k) →
        exec .maxOut s = .next { s with seq := { s.seq with endDue := some ⟨b, some k, none⟩ } }) ∧
      (s.selection = none → exec .maxOut s = .next { s with seq := { s.seq with maxTimer := none } })) ∧
    (∀ b k, s.selection = some (b, k) →
      s.seq.running ≠ some b ∧ (s.activePlan.entry? k).map (·.stage) = some b ∧
        ∃ g ∈ s.stage b, (s.group g).colour ≠ .green ∧ (s.group g).demand = true ∧ (s.group g).inhibited = false) ∧
    ∀ candidate : Nat → Prop,
      candidate = (fun k => ∃ e, s.activePlan.entry? k = some e ∧ s.seq.running ≠ some e.stage ∧
        ∃ g ∈ s.stage e.stage, (s.group g).colour ≠ .green ∧ (s.group g).demand = true ∧ (s.group g).inhibited = false) →
      ∀ n cur, n = s.activePlan.entries.length → cur = s.seq.entry.getD 0 →
        (∀ i, i < n → candidate ((cur + i) % n + 1) → (∀ j, j < i → ¬candidate ((cur + j) % n + 1)) →
          ∃ b, s.selection = some (b, (cur + i) % n + 1)) ∧
        ((∀ k, ¬candidate k) → s.selection = none)

/-! ### The Plan Runner (R50 to R65) -/

/-- R51, R52, R57, R60: the end-of-entry decision, at E_d, at the end of a hold, at a gap-out and at a skip point, and
the hold that begins in its place; an end that still waits is replaced, and where the decision sets no end the running
stage continues; nothing but the sequencer record changes. The readings of the decision during a change, and of a decision
entry of the next cycle, whose skip point L has still to reach, are the model's (notes/assumptions/21.md). -/
def Obligations.EndOfEntryDecisions : Prop :=
  ∀ (s : State) (d n : Nat) (ed en : PlanEntry), s.seq.tickOpen = true → s.sup.mode = .normal →
    s.activePlan.coordinated = true → s.seq.priority = [] → s.seq.decision = some d →
    s.activePlan.entry? d = some ed → n = s.activePlan.next d → s.activePlan.entry? n = some en →
    ∀ outcome, outcome = (fun q : Seq =>
        q.decision = some n ∧ q.running = s.seq.running ∧ q.change = s.seq.change ∧ q.pos = s.seq.pos ∧
          q.groups = s.seq.groups ∧ q.shorten = s.seq.shorten ∧ q.priority = [] ∧
        (if s.seq.running = some en.stage ∨ s.seq.change.map (·.target) = some en.stage then
          q.entry = some n ∧ q.endDue = none
        else if s.stageWanted en.stage = false ∧ s.demandDependent en.stage = true then
          q.entry = s.seq.entry ∧ q.endDue = none
        else
          q.entry = s.seq.entry ∧ (q.endDue.map fun e => (e.target, e.entry)) = some (en.stage, some n))) →
    (s.seq.hold = none → s.seq.reached = true →
      (0 < s.seq.holdBudget → ed.dwell = true → s.seq.entry = some d → s.seq.running = some ed.stage →
        s.seq.change = none → s.seq.endDue = none →
        exec .endOfEntryDecision s =
          .next { s with seq := { s.seq with hold := some s.seq.holdBudget, holdBudget := 0, allowance := 0, reached := false } }) ∧
      ((s.seq.holdBudget = 0 ∨ ed.dwell = false ∨ s.seq.entry ≠ some d ∨ s.seq.running ≠ some ed.stage ∨
          s.seq.change ≠ none ∨ s.seq.endDue ≠ none) →
        ∃ q, exec .endOfEntryDecision s = .next { s with seq := q } ∧ outcome q)) ∧
    (s.seq.hold = some 0 →
      ∃ q, exec .holdEnd s = .next { s with seq := q } ∧ q.hold = none ∧ outcome q) ∧
    (∀ l, s.seq.pos = some l → ed.endPos ≤ l → exec .skipPoint s = .next s) ∧
    (∀ l, s.seq.hold = none → s.seq.decided = false → s.seq.reached = false → s.seq.change = none → 0 < s.seq.allowance →
      s.seq.cycleStart = false → s.seq.pos = some l → l < ed.endPos → ed.endPos ≤ l + s.seq.allowance →
      ∃ q, exec .skipPoint s = .next { s with seq := q } ∧ outcome q ∧
        ∀ e, q.endDue = some e → e.jump = some ed.endPos) ∧
    (s.seq.hold = none → s.seq.decided = false → s.seq.entry = some d → s.seq.change = none → s.seq.endDue = none →
      s.seq.gap = 0 → (∀ g, (s.group g).colour ≠ .redAmber) → ed.gapOut = true →
      (ed.dwell = false ∨ s.seq.holdBudget = 0) →
      (∀ g, (s.group g).colour = .green → g ∉ s.stage en.stage → (s.group g).minInForce ≤ (s.group g).timeIn) →
      s.decisionOn en.stage = .endDue →
      ∃ q, exec .coordinatedGapOut s = .next { s with seq := q } ∧ outcome q ∧ q.endDue.map (·.jump) = some none)

/-- R53 to R55, R57, R62 to R65, R84, R110, R190, R191: the correction of a cycle start, by both methods, and the change point,
which takes a pending timing commit, lets the Day Schedule evaluate on it and takes the pending plan, with the correction a
coordinated plan begins on, and the end toward its entry 1 unless its stage runs with every member in GREEN; during a
priority service no end is set (R42). That an end still waiting for the old plan is removed, that the current entry is none
where step 4 does not name it, and that an end due of the service keeps its entry number, are the model's readings
(notes/assumptions/21.md), and so is that the plan the Day Schedule selects stands in place of an active plan that the
commit empties (notes/assumptions/76.md). The order of the blocks at a commit (notes/assumptions/74.md) is the model's
choice, and so is that a plan without entries leaves the end due of a service standing (notes/assumptions/83.md). -/
def Obligations.CycleStartsAndChangePoints : Prop :=
  (∀ (m : CorrectionMethod) (c kmax e : Nat),
    budgets .shortest c kmax 0 = (0, 0) ∧ budgets .lengthenOnly c kmax 0 = (0, 0) ∧
    (0 < e → e ≤ c / 2 → budgets .shortest c kmax e = (min e kmax, 0)) ∧
    (c / 2 < e → budgets .shortest c kmax e = (0, min (c - e) kmax)) ∧
    (0 < e → budgets .lengthenOnly c kmax e = (0, min (c - e) kmax)) ∧
    (e < c → (budgets m c kmax e).1 ≤ kmax ∧ (budgets m c kmax e).2 ≤ kmax)) ∧
  (∀ (s : State) (p : PlanRec) (l : Nat), s.seq.tickOpen = true → s.sup.mode = .normal → p = s.activePlan →
    p.coordinated = true → s.seq.cycleStart = true → s.seq.pos = some l →
    ∃ q, exec .cycleStart s = .next { s with seq := q } ∧ q.hold = none ∧ q.greenStart = 0 ∧ q.stageMin = 0 ∧
      q.cycleStart = false ∧ q.pos = s.seq.pos ∧ q.groups = s.seq.groups ∧
      (s.clk.valid = false → q.shorten = 0 ∧ q.holdBudget = 0) ∧
      (s.clk.valid = true → l = 0 → p.offset < p.cycle →
        (q.shorten, q.holdBudget) =
          budgets p.method p.cycle (p.cycle * p.pmax / 100) ((s.clk.tod + p.cycle - p.offset) % p.cycle))) ∧
  (∀ (s : State) (p : Pln), s.betweenSteps → s.seq.tickOpen = true → s.sup.mode = .normal → s.cfg.pendingCommit = none →
    s.seq.pendingPlan = some p → s.changePointDue = true →
    ∃ t, exec .changePoint s = .next t ∧ s.takesPlan t p ∧ t.seq.priority = s.seq.priority ∧ t.cfg = s.cfg ∧
      t.clk = s.clk ∧ ∀ g, t.group g = s.group g) ∧
  ∀ (s : State) (tm : Timing), s.betweenSteps → s.seq.tickOpen = true → s.sup.mode = .normal →
    s.cfg.pendingCommit = some tm → s.changePointDue = true →
    (∀ q, (s.selectionUnder tm).action = .plan q →
      ∃ t, exec .changePoint s = .next t ∧ s.commits t tm ∧ t.sup.mode = .normal ∧ t.seq.running = s.seq.running ∧
        (∀ g, (t.group g).colour = (s.group g).colour ∨
          (s.group g).colour = .redAmber ∧ (t.group g).colour = .red ∧ (t.group g).inhibited = true) ∧
        (∀ p, s.pendingUnder tm q = some p → s.takesPlan t p) ∧
        (s.pendingUnder tm q = none →
          t.seq.active = s.seq.active ∧ t.seq.pos = s.seq.pos ∧ t.seq.pendingPlan = none ∧
            (t.seq.priority = s.seq.priority →
              t.seq.endDue = s.seq.endDue ∧ t.seq.entry = s.seq.entry ∧ t.seq.decision = s.seq.decision)) ∧
        (s.redAmberSettled → (s.selectionUnder tm).replaced = true ∨ s.forcedUnder tm ≠ s.sch.forced →
          (∃ e ∈ t.flt.entries, e.kind = .planUndefined ∧ e.subject = .nothing ∧ e.active = true) ∨
            t.flt.overflow = true)) ∧
    ((s.selectionUnder tm).action = .flash → s.sch.action ≠ some .flash → s.waitingSupply = false →
      ∃ t, exec .changePoint s = .next t ∧ s.commits t tm ∧ t.sup.mode = .clearing ∧ t.sup.reason = some .hostRequest ∧
        t.sup.latched = false ∧ t.seq.active = none ∧ t.seq.pendingPlan = none ∧
        ∀ g, (t.group g).colour = (s.group g).colour)

/-- R43, R45, R161: the colours of the cabinet modes at a tick, and the greens that CLEARING ends without their
minimums. -/
def Obligations.ModeColoursAndClearing : Prop :=
  (∀ s : State, s.betweenSteps → s.seq.tickOpen = true → s.seq.coloursDue = true →
    ∃ t, exec .modeColoursApply s = .next t ∧ t.seq.coloursDue = false ∧ t.sup.mode = s.sup.mode ∧ t.cfg = s.cfg ∧
      t.clk = s.clk ∧ t.det = s.det ∧
      ∀ g : Gid,
        ((s.sup.mode = .flash ∨ s.sup.mode = .startupFlash) →
          (s.kind g = some .traffic → (t.group g).colour = .flashAmber) ∧
          (s.kind g = some .pedestrian → (t.group g).colour = .off) ∧
          (s.kind g = some .arrow → (t.group g).colour = .off)) ∧
        (s.sup.mode = .startupRed →
          (s.kind g = some .traffic → (t.group g).colour = .red) ∧
          (s.kind g = some .pedestrian → (t.group g).colour = .red) ∧
          (s.kind g = some .arrow → (t.group g).colour = .dark)) ∧
        (s.kind g = none → (t.group g).colour = (s.group g).colour)) ∧
  ∀ s : State, s.betweenSteps → s.seq.tickOpen = true → s.seq.clearingDue = true → s.sup.mode = .clearing →
    ∃ t, exec .clearingGreensEnd s = .next t ∧ t.seq.clearingDue = false ∧ t.cfg = s.cfg ∧ t.clk = s.clk ∧ t.det = s.det ∧
      (∀ g, s.kind g ≠ none →
        ((s.group g).colour = .green →
          (t.group g).colour =
              (if s.kind g = some .traffic then .amber else if s.kind g = some .pedestrian then .clear else .dark) ∧
            (t.group g).greenEnd = some s.seq.tick) ∧
        ((s.group g).colour = .redAmber → (t.group g).colour = .red) ∧
        ((s.group g).colour ≠ .green → (s.group g).colour ≠ .redAmber →
          (t.group g).colour = (s.group g).colour ∧ (t.group g).timeIn = (s.group g).timeIn ∧
            (t.group g).greenEnd = (s.group g).greenEnd)) ∧
      ((∃ g, (t.group g).colour = .amber ∨ (t.group g).colour = .clear) → t.sup.mode = .clearing) ∧
      ((∀ g, (t.group g).colour ≠ .amber ∧ (t.group g).colour ≠ .clear) →
        t.sup.mode = .flash ∧ t.sup.reason = s.sup.reason ∧ t.sup.latched = s.sup.latched ∧ t.seq.coloursDue = true)

/-! ### Relays, proofs and the flash generator (R100 to R112) -/

/-- R100 to R110: what an indication event does to its channel by the state of its relay, with the supply proven and
not, the wear that a completed pull-in brings to its threshold, and the ends of the full-drive time, the pull-in limit and the release limit. -/
def Obligations.RelayProvingAndLimits : Prop :=
  ∀ (s : State) (c : Ch), s.betweenSteps →
    (∀ l : Level, (l = .full → (s.chan c).testBus = .no) →
      (s.supplyProven = false ∨ l ≠ .full ∨ (s.chan c).relay ≠ .released) →
      ∃ t, exec (.voltageIndication c l) s = .next t ∧ (t.chan c).indication = l ∧
        (t.chan c).command = (s.chan c).command ∧ (t.chan c).testBus = (s.chan c).testBus ∧
        t.cbt.quietSince.get c = (if l = .none then some s.now else none) ∧
        (∀ k, k ≠ c → t.chan k = s.chan k ∧ t.lamp k = s.lamp k) ∧ (∀ g, (t.group g).colour = (s.group g).colour) ∧
        t.sup.mode = s.sup.mode ∧ t.out.contactor = s.out.contactor ∧ t.cfg = s.cfg ∧ t.clk = s.clk ∧ t.sch = s.sch ∧
        t.det = s.det ∧
        (s.supplyProven = false → (t.chan c).relay = (s.chan c).relay ∧ (t.chan c).proof = (s.chan c).proof ∧
          (t.chan c).drive = (s.chan c).drive ∧ (t.chan c).fault = (s.chan c).fault) ∧
        (s.supplyProven = true → l ≠ .full →
          (t.chan c).opCount = (s.chan c).opCount ∧
          ((s.chan c).fault = .foreignVoltage → (t.chan c).fault = .none) ∧
          ((s.chan c).fault = .failToClose → (t.chan c).fault = .failToClose) ∧
          ((s.chan c).relay = .held →
            (t.chan c).relay = .pullingIn ∧ (t.chan c).proof = .opened ∧ (t.chan c).drive = .full ∧
              (t.chan c).fullTime = some 0 ∧ (t.chan c).limit = some ⟨0, max (s.settings c).pullIn 50⟩) ∧
          ((s.chan c).relay = .pullingIn → (t.chan c).relay = .pullingIn ∧ (t.chan c).proof = (s.chan c).proof ∧
            (t.chan c).drive = (s.chan c).drive ∧ (t.chan c).limit = (s.chan c).limit) ∧
          (((s.chan c).relay = .releasing ∨ (s.chan c).relay = .released) →
            (t.chan c).relay = .released ∧ (t.chan c).proof = .opened ∧ (t.chan c).limit = none ∧
              ((s.chan c).fault = .failToOpen → (t.chan c).fault = .none))) ∧
        (s.supplyProven = true → l = .full →
          ((s.chan c).relay = .held → (t.chan c).relay = .held ∧ (t.chan c).proof = (s.chan c).proof ∧
            (t.chan c).drive = (s.chan c).drive ∧ (t.chan c).fault = (s.chan c).fault) ∧
          ((s.chan c).relay = .pullingIn →
            (t.chan c).relay = .held ∧ (t.chan c).proof = .closed ∧ (t.chan c).limit = none ∧
              (t.chan c).drive = (if (s.chan c).fullTime = none then .hold else .full) ∧
              (t.chan c).fault = (if (s.chan c).fault = .failToClose then .none else (s.chan c).fault) ∧
              (t.chan c).opCount =
                (if (s.chan c).proof = .opened then min 4294967295 ((s.chan c).opCount + 1) else (s.chan c).opCount) ∧
              ∀ w, w = (s.settings c).wear →
                ((s.chan c).opCount < w → w ≤ (t.chan c).opCount → s.flt.entries.length < 64 →
                  ∃ e ∈ t.flt.entries, e.kind = .relayWear ∧ e.subject = .channel c ∧ e.active = true ∧ e.safety = false) ∧
                (w ≤ (s.chan c).opCount ∨ (t.chan c).opCount < w →
                  ∀ e : FaultEntry, e.kind = .relayWear → (e ∈ t.flt.entries ↔ e ∈ s.flt.entries))) ∧
          ((s.chan c).relay = .releasing → (t.chan c).relay = .releasing ∧ (t.chan c).proof = .closed ∧
            (t.chan c).drive = (s.chan c).drive ∧ (t.chan c).limit = (s.chan c).limit))) ∧
    (s.supplyProven = true → (s.chan c).relay = .released → (s.chan c).testBus = .no → s.flt.entries.length < 64 →
      (s.greenAspect c = false →
        ∃ t, exec (.voltageIndication c .full) s = .next t ∧ (t.chan c).fault = .foreignVoltage ∧
          (t.chan c).relay = .released ∧ (t.chan c).proof = (s.chan c).proof ∧ t.sup.mode = s.sup.mode ∧
          ∃ e ∈ t.flt.entries, e.kind = .foreignVoltage ∧ e.subject = .channel c ∧ e.active = true ∧ e.safety = false) ∧
      (s.greenAspect c = true → s.waitingSupply = false → s.sup.mode ≠ .dark →
        ∃ t, exec (.voltageIndication c .full) s = .next t ∧ t.sup.mode = .dark ∧
          t.sup.reason = some .foreignGreen ∧ t.sup.latched = true ∧ t.out.contactor.driven = false ∧
          ∃ e ∈ t.flt.entries, e.kind = .foreignVoltage ∧ e.subject = .channel c ∧ e.active = true ∧ e.safety = true)) ∧
    ((s.chan c).fullTime = some 100 →
      exec (.fullDriveEnd c) s =
        .next
          { s with
            out :=
              { s.out with
                chans := s.out.chans.put c
                  { s.chan c with
                    fullTime := none
                    drive := if (s.chan c).relay = .held then .hold else (s.chan c).drive } } }) ∧
    ((s.chan c).relay = .pullingIn → (∃ n, (s.chan c).limit = some ⟨n, n⟩) → s.flt.entries.length < 64 →
      ∃ t, exec (.pullInLimit c) s = .next t ∧ t.chan c = { s.chan c with fault := .failToClose, limit := none } ∧
        (∀ k, k ≠ c → t.chan k = s.chan k) ∧
        (∃ e ∈ t.flt.entries, e.kind = .relayFailToClose ∧ e.subject = .channel c ∧ e.active = true ∧ e.safety = false) ∧
        t.out.contactor = s.out.contactor ∧ t.out.flash = s.out.flash ∧ t.seq = s.seq ∧ t.sup = s.sup ∧ t.lmp = s.lmp ∧
        t.cbt = s.cbt ∧ t.cfg = s.cfg ∧ t.clk = s.clk ∧ t.sch = s.sch ∧ t.det = s.det) ∧
    ((s.chan c).relay = .releasing → (∃ n, (s.chan c).limit = some ⟨n, n⟩) →
      ((s.chan c).indication ≠ .full →
        ∃ t, exec (.releaseLimit c) s = .next t ∧ (t.chan c).relay = .released ∧ (t.chan c).proof = .opened ∧
          (t.chan c).limit = none ∧ (t.chan c).fault = (s.chan c).fault ∧ (∀ k, k ≠ c → t.chan k = s.chan k) ∧
          t.flt = s.flt ∧ t.sup.mode = s.sup.mode ∧ t.cfg = s.cfg ∧ t.clk = s.clk ∧ t.det = s.det) ∧
      ((s.chan c).indication = .full → s.flt.entries.length < 64 →
        (s.greenAspect c = false →
          ∃ t, exec (.releaseLimit c) s = .next t ∧ (t.chan c).fault = .failToOpen ∧ (t.chan c).proof = .closed ∧
            (t.chan c).relay = .releasing ∧ (t.chan c).limit = none ∧ (∀ k, k ≠ c → t.chan k = s.chan k) ∧
            (∃ e ∈ t.flt.entries,
              e.kind = .relayFailToOpen ∧ e.subject = .channel c ∧ e.active = true ∧ e.safety = false) ∧
            t.sup.mode = s.sup.mode ∧ t.cfg = s.cfg ∧ t.clk = s.clk ∧ t.det = s.det) ∧
        (s.greenAspect c = true → s.waitingSupply = false → s.sup.mode ≠ .dark →
          ∃ t, exec (.releaseLimit c) s = .next t ∧ t.sup.mode = .dark ∧ t.sup.reason = some .weld ∧
            t.sup.latched = true ∧ t.out.contactor.driven = false ∧
            ∃ e ∈ t.flt.entries,
              e.kind = .relayFailToOpen ∧ e.subject = .channel c ∧ e.active = true ∧ e.safety = true)))

/-- R112, R114, R115, R102: the flash phase drives the coils of the FLASHING channels; the contactor's close and release
by its indication, its close limit and its open limit, with the re-proof and the loss of proof of every channel; what a
re-proof finds at a channel that stands at FULL behind a coil that is not driven; a FULL indication at a RELEASING and at a
RELEASED contactor; and the open limit with FULL still standing, in UNCONFIGURED and in every other mode. That a RELEASING contactor re-proves after a reset too (notes/assumptions/42.md), that a re-proof takes
the channels in ascending order (notes/assumptions/43.md) and ends every fault it does not find (notes/assumptions/44.md),
that the state of a contactor stands behind the trip (notes/assumptions/47.md), and that a close failure leaves a cabinet latched for which a lockout waits in
STARTUP_RED (notes/assumptions/24.md), are the model's readings. -/
def Obligations.ContactorAndFlashPhase : Prop :=
  ∀ (s : State) (k : Contactor), s.betweenSteps → k = s.out.contactor →
    (s.out.flash.running = true → s.out.flash.phaseLength ≤ s.out.flash.phaseTime →
      ∃ t, exec .flashPhaseChange s = .next t ∧
        t.out.flash = ⟨true, !s.out.flash.onPhase, 0, 30000 / s.cabinet.flashRate⟩ ∧
        (∀ c, (t.chan c).command = (s.chan c).command) ∧
        (∀ c, (s.chan c).command ≠ .flashing → t.chan c = s.chan c) ∧
        (∀ c, (s.chan c).command = .flashing → (s.chan c).testBus = .no →
          ((t.chan c).drive ≠ .off ↔ s.out.flash.onPhase = false)) ∧
        t.out.contactor = k ∧ (∀ g, (t.group g).colour = (s.group g).colour) ∧ t.sup.mode = s.sup.mode ∧ t.cfg = s.cfg ∧
        t.clk = s.clk ∧ t.sch = s.sch ∧ t.det = s.det) ∧
    (∀ l : Level, (s.out.trip = true ∨ (k.state = .held ∧ l = .full) ∨ (l ≠ .full ∧ (k.state = .pullingIn ∨ k.state = .released))) →
      exec (.supplyOutputIndication l) s = .next { s with out := { s.out with contactor := { k with indication := l } } }) ∧
    (∀ l : Level, s.out.trip = false → l ≠ .full → (k.state = .held ∨ k.state = .releasing) →
      ∃ t, exec (.supplyOutputIndication l) s = .next t ∧
        t.out.contactor =
          (if k.state = .held then { k with indication := l, state := .pullingIn, proof := .opened, limit := some 0 }
          else { k with indication := l, state := .released, proof := .opened, limit := none }) ∧
        (k.proof = .closed → ∀ c, (t.chan c).proof = .unproven ∧ (t.chan c).limit = none ∧
          (t.chan c).indication = (s.chan c).indication ∧ (t.chan c).fault = (s.chan c).fault) ∧
        (k.proof ≠ .closed → ∀ c, t.chan c = s.chan c) ∧ t.out.trip = false ∧ t.flt = s.flt ∧
        (∀ g, (t.group g).colour = (s.group g).colour) ∧ t.sup.mode = s.sup.mode ∧ t.cfg = s.cfg ∧ t.clk = s.clk ∧
        t.det = s.det) ∧
    (s.out.trip = false → k.state = .pullingIn → k.proof ≠ .closed →
      (∀ c, (s.chan c).drive = .off → (s.chan c).indication ≠ .full) →
      ∃ t, exec (.supplyOutputIndication .full) s = .next t ∧
        t.out.contactor = { k with indication := .full, state := .held, proof := .closed, limit := none, fault := .none } ∧
        (∀ c,
          ((s.chan c).drive = .off → (t.chan c).relay = .released ∧ (t.chan c).proof = .opened ∧ (t.chan c).drive = .off ∧
            (t.chan c).fault = .none) ∧
          ((s.chan c).drive ≠ .off → (s.chan c).indication = .full →
            (t.chan c).relay = .held ∧ (t.chan c).proof = .closed ∧ (t.chan c).drive = .full ∧
              (t.chan c).fullTime = some 0 ∧ (t.chan c).fault = .none) ∧
          ((s.chan c).drive ≠ .off → (s.chan c).indication ≠ .full →
            (t.chan c).relay = .pullingIn ∧ (t.chan c).proof = .opened ∧ (t.chan c).drive = .full ∧
              (t.chan c).limit = some ⟨0, (s.settings c).pullIn⟩ ∧
              (t.chan c).fault = (if (s.chan c).fault = .failToClose then .failToClose else .none))) ∧
        (∀ g, (t.group g).colour = (s.group g).colour) ∧ t.sup.mode = s.sup.mode ∧ t.cfg = s.cfg ∧ t.clk = s.clk ∧
        t.det = s.det) ∧
    (s.out.trip = false → (k.state = .pullingIn ∨ k.state = .releasing) → k.proof ≠ .closed →
      s.cfg.pendingCommit = none → s.flt.entries.length < 16 →
      ((∀ c, s.backFed c → s.greenAspect c = false) →
        ∃ t, exec (.supplyOutputIndication .full) s = .next t ∧ t.sup.mode = s.sup.mode ∧
          (∀ g, (t.group g).colour = (s.group g).colour) ∧ t.cfg = s.cfg ∧ t.clk = s.clk ∧ t.det = s.det ∧
          t.out.contactor =
            (if k.state = .pullingIn then
              { k with indication := .full, state := .held, proof := .closed, limit := none, fault := .none }
            else { k with indication := .full, proof := .closed }) ∧
          ∀ c, s.backFed c →
            (t.chan c).drive = .off ∧ (t.chan c).limit = none ∧
            ((s.chan c).fault = .failToOpen → (t.chan c).relay = .releasing ∧ (t.chan c).proof = .closed ∧
              (t.chan c).fault = .failToOpen ∧
              ∃ e ∈ t.flt.entries,
                e.kind = .relayFailToOpen ∧ e.subject = .channel c ∧ e.active = true ∧ e.safety = false) ∧
            ((s.chan c).fault ≠ .failToOpen → (t.chan c).relay = .released ∧ (t.chan c).proof = .opened ∧
              (t.chan c).fault = .foreignVoltage ∧
              ∃ e ∈ t.flt.entries,
                e.kind = .foreignVoltage ∧ e.subject = .channel c ∧ e.active = true ∧ e.safety = false)) ∧
      (∀ c, s.backFed c → s.greenAspect c = true → (∀ c', c' < c → s.backFed c' → s.greenAspect c' = false) →
        s.waitingSupply = false → s.sup.mode ≠ .dark →
        ∃ t, exec (.supplyOutputIndication .full) s = .next t ∧ t.sup.mode = .dark ∧ t.sup.latched = true ∧
          t.sup.reason = (if (s.chan c).fault = .failToOpen then some .weld else some .foreignGreen) ∧
          t.out.contactor.driven = false ∧ t.cfg = s.cfg ∧
          ∃ e ∈ t.flt.entries,
            e.kind = (if (s.chan c).fault = .failToOpen then .relayFailToOpen else .foreignVoltage) ∧
              e.subject = .channel c ∧ e.active = true ∧ e.safety = true)) ∧
    (s.out.trip = false → k.state = .releasing → k.proof = .closed →
      exec (.supplyOutputIndication .full) s =
        .next { s with out := { s.out with contactor := { k with indication := .full } } }) ∧
    (s.out.trip = false → k.state = .released → (∀ c, ¬s.backFed c) → s.flt.entries.length < 64 →
      ∃ t, exec (.supplyOutputIndication .full) s = .next t ∧ t.out.trip = true ∧ t.out.contactor.fault = .failToOpen ∧
        t.out.contactor.proof = .unproven ∧ t.out.contactor.driven = false ∧ (∀ c, (t.chan c).proof = .unproven) ∧
        (∃ e ∈ t.flt.entries, e.kind = .supplyContactor ∧ e.subject = .nothing ∧ e.active = true ∧ e.safety = true) ∧
        (s.sup.mode = .unconfigured → t.sup.mode = .unconfigured) ∧
        (s.waitingSupply = false → s.sup.mode ≠ .unconfigured →
          t.sup.mode = .dark ∧ t.sup.latched = true ∧
            t.sup.reason = (if s.sup.mode = .dark ∧ s.sup.latched = true then s.sup.reason else some .contactor))) ∧
    (k.state = .pullingIn → k.limit = some 200 → s.flt.entries.length < 64 →
      (s.sup.mode = .unconfigured →
        ∃ t, exec .contactorCloseLimit s = .next t ∧ t.out.contactor = { k with fault := .failToClose, limit := none } ∧
          (∃ e ∈ t.flt.entries, e.kind = .supplyContactor ∧ e.subject = .nothing ∧ e.active = true ∧ e.safety = true) ∧
          t.sup = s.sup ∧ t.seq = s.seq ∧ t.out.chans = s.out.chans ∧ t.cfg = s.cfg ∧ t.clk = s.clk ∧ t.det = s.det) ∧
      (s.sup.mode.runs = true → s.sup.recovering = false → s.waitingSupply = false → s.cfg.pendingCommit = none →
        ¬(s.sup.mode = .startupRed ∧ ∃ r, s.sup.flashNext = some (r, true)) →
        ∃ t, exec .contactorCloseLimit s = .next t ∧ t.sup.mode = .dark ∧ t.sup.reason = some .contactor ∧
          t.sup.latched = false ∧ t.sup.holdoff = (if 0 < s.cabinet.attempts then some 0 else s.sup.holdoff) ∧
          t.out.contactor.fault = .failToClose ∧ t.out.contactor.driven = false ∧ t.cfg = s.cfg ∧ t.clk = s.clk ∧
          t.det = s.det ∧
          ∃ e ∈ t.flt.entries, e.kind = .supplyContactor ∧ e.subject = .nothing ∧ e.active = true ∧ e.safety = true) ∧
      (s.sup.mode = .startupRed → s.sup.recovering = false → s.waitingSupply = false →
        ∀ r, s.sup.flashNext = some (r, true) →
          ∃ t, exec .contactorCloseLimit s = .next t ∧ t.sup.mode = .dark ∧ t.sup.reason = some .contactor ∧
            t.sup.latched = true ∧ t.sup.holdoff = none ∧ t.out.contactor.driven = false)) ∧
    (k.state = .releasing → k.limit = some 200 →
      (k.indication ≠ .full →
        ∃ t, exec .contactorOpenLimit s = .next t ∧
          t.out.contactor = { k with state := .released, proof := .opened, limit := none } ∧
          (k.proof = .closed → ∀ c, (t.chan c).proof = .unproven) ∧ (k.proof ≠ .closed → ∀ c, t.chan c = s.chan c) ∧
          t.flt = s.flt ∧ (∀ g, (t.group g).colour = (s.group g).colour) ∧ t.sup.mode = s.sup.mode ∧ t.cfg = s.cfg ∧
          t.clk = s.clk ∧ t.det = s.det) ∧
      (k.indication = .full → s.waitingSupply = false → s.sup.mode ≠ .unconfigured →
        ∃ t, exec .contactorOpenLimit s = .next t ∧ t.out.trip = true ∧ t.out.contactor.fault = .failToOpen ∧
          t.out.contactor.proof = .unproven ∧ t.out.contactor.driven = false ∧ (∀ c, (t.chan c).proof = .unproven) ∧
          t.sup.mode = .dark ∧ t.sup.latched = true ∧
          t.sup.reason = (if s.sup.mode = .dark ∧ s.sup.latched = true then s.sup.reason else some .contactor)) ∧
      (k.indication = .full → s.waitingSupply = true → s.sup.mode ≠ .unconfigured →
        ∃ t, exec .contactorOpenLimit s = .next t ∧ t.out.trip = true ∧ t.out.contactor.fault = .failToOpen ∧
          t.out.contactor.proof = .unproven ∧ t.out.contactor.driven = false ∧ t.sup.mode = s.sup.mode ∧
          t.sup.latched = true ∧ t.sup.reason = some .contactor ∧ t.sup.saved = some (.dark (some .contactor) true)) ∧
      (k.indication = .full → s.sup.mode = .unconfigured →
        ∃ t, exec .contactorOpenLimit s = .next t ∧ t.out.trip = true ∧
          t.out.contactor = { k with fault := .failToOpen, proof := .unproven, limit := none, driven := false } ∧
          (∀ c, (t.chan c).proof = .unproven) ∧ (∀ g, (t.group g).colour = (s.group g).colour) ∧
          t.sup.mode = .unconfigured ∧ (s.waitingSupply = false → t.sup.reason = s.sup.reason ∧ t.sup.latched = s.sup.latched)) ∧
      (k.indication = .full → s.flt.entries.length < 64 → ∀ t, exec .contactorOpenLimit s = .next t →
        ∃ e ∈ t.flt.entries, e.kind = .supplyContactor ∧ e.subject = .nothing ∧ e.active = true ∧ e.safety = true))

/-! ### Current samples (R119 to R125, R129) -/

/-- R119 to R125: a sample that is no on-sample changes nothing; one taken to learning joins, completes or discards the
set; one taken to the estimate agrees, joins the run or confirms it, and tracks the reference; a confirmed verdict is
passed to red health (R129). An inhibition that this brings at an open tick drops a gaining group at once (R31), and where
that group entered RED_AMBER at this tick its colour turns back; all else is stated where there is no such group. Two
readings are the model's: a sample above 4000 mA is read as 4000 (notes/assumptions/9.md), and a group dropped at the tick
keeps the instant g_j that its first joining gave it (notes/assumptions/31.md). -/
def Obligations.CurrentSampleLearnsAndEstimates : Prop :=
  ∀ (s : State) (c : Ch) (mA i : Nat), s.betweenSteps → i = min 4000 mA →
    ((s.chan c).command ≠ .on ∨ (s.chan c).proof ≠ .closed ∨ (s.chan c).steadySince = none ∨
        (∃ t0, (s.chan c).steadySince = some t0 ∧ s.now < t0 + (if (s.chanRec c).lamp = .filament then 200 else 500)) ∨
        (s.lamp c).maintenance = true ∨ s.sup.mode = .dark →
      exec (.currentSample c mA) s = .next s) ∧
    (∀ t0, (s.chan c).command = .on → (s.chan c).proof = .closed → (s.chan c).steadySince = some t0 →
      t0 + (if (s.chanRec c).lamp = .filament then 200 else 500) ≤ s.now → (s.lamp c).maintenance = false →
      s.sup.mode ≠ .dark →
      ∃ t, exec (.currentSample c mA) s = .next t ∧ t.cfg = s.cfg ∧ t.clk = s.clk ∧ t.sch = s.sch ∧ t.det = s.det ∧
        t.sup.mode = s.sup.mode ∧ (t.lamp c).maintenance = false ∧
        (∀ g, (t.group g).colour = (s.group g).colour ∨
          (s.group g).colour = .redAmber ∧ (t.group g).colour = .red ∧ (t.group g).inhibited = true) ∧
        (s.seq.tickOpen = true → s.sup.mode = .normal → ∀ g at', s.seq.gainingInstant g = some at' →
          (s.group g).inhibited = false → (t.group g).inhibited = true →
          ((s.group g).colour ≠ .redAmber ∨ (s.group g).timeIn = 0) →
          t.seq.gainingInstant g = none ∧ (g, (s.seq.joinedInstant g).getD at') ∈ t.seq.dropped) ∧
        (s.redAmberSettled → (∀ k, k ≠ c → t.lamp k = s.lamp k) ∧ (t.lamp c).leak = (s.lamp c).leak ∧ t.out = s.out ∧
          t.cbt = s.cbt ∧ (∀ g, (t.group g).colour = (s.group g).colour) ∧
        (i = 4000 → (s.lamp c).learn ≠ .learned →
          t.lamp c = { s.lamp c with learn := .learning 0, set := none, run := none }) ∧
        (i < 4000 → ((s.lamp c).learn = .unlearned ∨ (s.lamp c).learn = .learning 0) → (s.lamp c).set = none →
          t.lamp c = { s.lamp c with learn := .learning 1, set := some ⟨i, i, i⟩, run := none }) ∧
        (∀ n g, i < 4000 → (s.lamp c).learn = .learning n → (s.lamp c).set = some g →
          (n < 7 →
            t.lamp c =
              { s.lamp c with
                learn := .learning (n + 1), set := some ⟨g.sum + i, min g.lowest i, max g.highest i⟩, run := none }) ∧
          (n = 7 →
            ((max g.highest i - min g.lowest i) * 4 ≤ (g.sum + i) / 8 → 20 ≤ (g.sum + i) / 8 →
              t.lamp c = { s.lamp c with learn := .learned, iref := some ((g.sum + i) / 8), set := none, run := none }) ∧
            ((g.sum + i) / 8 < (max g.highest i - min g.lowest i) * 4 ∨ (g.sum + i) / 8 < 20 →
              t.lamp c = { s.lamp c with learn := .learning 0, set := none, run := none }))) ∧
        (∀ (r n h : Nat) (cat : Category), (s.lamp c).learn = .learned → (s.lamp c).iref = some r →
          (s.lamp c).verdict ≠ .held → n = (s.chanRec c).heads → h = min n ((i * n + r / 2) / r) →
          cat = (if r * 3 < i * 2 then .over else if h = n then .good else if 0 < h then .partialFail else .dark) →
          (t.lamp c).learn = .learned ∧ (t.lamp c).set = (s.lamp c).set ∧
          (t.lamp c).iref =
            some (if (s.settings c).refMode = .learn ∧ i ≠ 4000 ∧ ((i : Int) - r).natAbs * 8 ≤ r then
              ((r : Int) + ((i : Int) - r).tdiv 64).toNat else r) ∧
          (((s.lamp c).verdict = .good ∧ cat = .good ∨
              (s.lamp c).verdict = .partialFail ∧ cat = .partialFail ∧ (s.lamp c).healthy = some h ∨
              (s.lamp c).verdict = .failed ∧ cat = .dark ∨ (s.lamp c).verdict = .overcurrent ∧ cat = .over) →
            (t.lamp c).verdict = (s.lamp c).verdict ∧ (t.lamp c).healthy = (s.lamp c).healthy ∧ (t.lamp c).run = none) ∧
          (¬((s.lamp c).verdict = .good ∧ cat = .good ∨
              (s.lamp c).verdict = .partialFail ∧ cat = .partialFail ∧ (s.lamp c).healthy = some h ∨
              (s.lamp c).verdict = .failed ∧ cat = .dark ∨ (s.lamp c).verdict = .overcurrent ∧ cat = .over) →
            ∀ now : ConfirmRun,
              ((∃ old, (s.lamp c).run = some old ∧ old.candidate = cat ∧ now = ⟨cat, old.count + 1, min old.lowest h⟩) ∨
                ((∀ old, (s.lamp c).run = some old → old.candidate ≠ cat) ∧ now = ⟨cat, 1, h⟩)) →
              (now.count < (s.settings c).confirm →
                (t.lamp c).verdict = (s.lamp c).verdict ∧ (t.lamp c).healthy = (s.lamp c).healthy ∧
                  (t.lamp c).run = some now) ∧
              ((s.settings c).confirm ≤ now.count →
                (t.lamp c).run = none ∧ (∀ g, (t.group g).redHealth = t.redHealthOf g) ∧
                (cat = .good → (t.lamp c).verdict = .good ∧ (t.lamp c).healthy = some n) ∧
                (cat = .partialFail → (t.lamp c).verdict = .partialFail ∧ (t.lamp c).healthy = some now.lowest) ∧
                (cat = .dark → (t.lamp c).verdict = .failed ∧ (t.lamp c).healthy = some 0) ∧
                (cat = .over → (t.lamp c).verdict = .overcurrent ∧ (t.lamp c).healthy = some n))))))

/-! ### Cable testing (R134, R141 to R151) -/

/-- R134, R149 to R151, R141 to R147, R113: the leak request, the choice of a probe, its phases, its classification with
the cable state, the cross class and what the result does, its abandonment and release, and the end of a sweep, but for one
that a new period finds at its end (R148) and the count of one that a structural commit began anew (R154), whose marks are
the model's own (notes/assumptions/33.md). That an entry done this sweep counts as done also where it is in progress again
at the sweep's end is the model's choice (notes/assumptions/58.md), and so is that an abandoned one still in RELEASING then
is counted at once (notes/assumptions/72.md). -/
def Obligations.ProbesRunAndSweepsEnd : Prop :=
  ∀ s : State, s.betweenSteps →
    (∀ (c : Ch) (e : PEnt), (s.lamp c).leak = some 1000 → (s.lamp c).leakAsked = false →
      (s.probeRec e).kind = some .insulation → (s.probeRec e).subject = c →
      (∀ e', e' < e → ¬((s.probeRec e').kind = some .insulation ∧ (s.probeRec e').subject = c)) →
      exec (.leakRequest c) s =
        .next
          { s with
            lmp := s.lmp.put c { s.lamp c with leakAsked := true }
            cbt :=
              { s.cbt with
                urgent :=
                  if s.cbt.period ≠ none ∧ s.cbt.urgent.length < 8 ∧ e ∉ s.cbt.urgent ∧
                      s.cbt.probe.map (·.entry) ≠ some e then
                    s.cbt.urgent ++ [e]
                  else s.cbt.urgent } }) ∧
    (s.cbt.choice = true → s.cbt.period ≠ none → s.cbt.phase = .idle →
      ∃ t, exec .probeStart s = .next t ∧ t.cbt.choice = false ∧ t.cbt.results = s.cbt.results ∧
        t.cbt.cable = s.cbt.cable ∧ t.lnk = s.lnk ∧ t.flt = s.flt ∧ t.cfg = s.cfg ∧ t.clk = s.clk ∧ t.sch = s.sch ∧
        t.seq = s.seq ∧ t.det = s.det ∧ t.lmp = s.lmp ∧ t.sup = s.sup ∧
        (∀ c, (t.chan c).drive = (s.chan c).drive ∧ (t.chan c).command = (s.chan c).command ∧
          (t.chan c).relay = (s.chan c).relay) ∧
        (∀ a e b, s.cbt.urgent = a ++ e :: b → (∀ x ∈ a, s.canStart x = false) → s.canStart e = true →
          t.cbt.phase = .closing ∧ t.cbt.phaseTime = 0 ∧ t.cbt.probe = some ⟨e, .urgent, false⟩ ∧ t.cbt.urgent = a ++ b ∧
            t.cbt.walk = s.cbt.walk ∧ (t.chan (s.probeRec e).subject).testBus = .drive) ∧
        (∀ e : PEnt, (∀ x ∈ s.cbt.urgent, s.canStart x = false) → s.cbt.walk = e.val + 1 → (s.result e).done = false →
          e ∉ s.cbt.deferred → s.canStart e = true →
          t.cbt.phase = .closing ∧ t.cbt.phaseTime = 0 ∧ t.cbt.probe = some ⟨e, .sweep, false⟩ ∧
            t.cbt.walk = e.val + 2 ∧ (t.chan (s.probeRec e).subject).testBus = .drive) ∧
        (∀ a e b, (∀ x ∈ s.cbt.urgent, s.canStart x = false) → s.cbt.walk = 65 → s.cbt.deferred = a ++ e :: b →
          (∀ x ∈ a, s.canStart x = false) → s.canStart e = true →
          t.cbt.phase = .closing ∧ t.cbt.phaseTime = 0 ∧ t.cbt.probe = some ⟨e, .sweep, false⟩ ∧ t.cbt.deferred = a ++ b ∧
            t.cbt.walk = 65 ∧ (t.chan (s.probeRec e).subject).testBus = .drive) ∧
        ((∀ e, s.canStart e = false) → 1 ≤ s.cbt.walk →
          t.cbt.phase = .idle ∧ t.cbt.probe = s.cbt.probe ∧ t.out = s.out ∧
            ∀ e : PEnt, s.probeUsed e = true → (s.result e).done = false → s.cbt.walk ≤ e.val + 1 → e ∈ t.cbt.deferred)) ∧
    (s.cbt.phase = .closing → 10 ≤ s.cbt.phaseTime →
      exec .probeClosingEnd s = .next { s with cbt := { s.cbt with phase := .measuring, phaseTime := 0 } }) ∧
    (∀ (run : ProbeRun) (k : ProbeKind) (m : BitVec 16) (x : Nat) (res : ProbeResult),
      s.cbt.probe = some run → (s.probeRec run.entry).kind = some k → s.cbt.phase = .measuring →
      (match k with | .loop => 120 | .insulation => 400 | .coupling => 250) ≤ s.cbt.phaseTime →
      x = (s.probeRec run.entry).limit →
      res =
        (if (k = .loop ∧ x < m.toNat) ∨ (k ≠ .loop ∧ m.toNat < x) then
          (if (s.result run.entry).failures = 0 then .suspect else .fault)
        else if (k = .loop ∧ x < 2 * m.toNat) ∨ (k ≠ .loop ∧ m.toNat < 2 * x) then .passMarginal
        else .pass) →
      ∃ t, exec (.probeClassify m) s = .next t ∧ t.cbt.phase = .releasing ∧ t.cbt.phaseTime = 0 ∧
        (t.result run.entry).last = some res ∧ (t.result run.entry).measurement = some m.toNat ∧
        (t.result run.entry).time = some s.stamp ∧ (t.result run.entry).starved = 0 ∧
        (t.result run.entry).failures =
          (if res = .pass ∨ res = .passMarginal then 0 else min 255 ((s.result run.entry).failures + 1)) ∧
        (t.result run.entry).standing =
          (if res = .pass ∨ res = .passMarginal then .pass else if res = .suspect then .suspect else .fault) ∧
        ((t.result run.entry).done = true ↔ (s.result run.entry).done = true ∨ s.cbt.period ≠ none) ∧
        (∀ e, e ≠ run.entry → t.result e = s.result e) ∧
        (∀ tag, run.origin = .request tag → State.answers s t tag 0x42#8 .ok ∧ t.flt.pendingSet.probeDone = true) ∧
        (k ≠ .coupling → t.sup.mode = s.sup.mode ∧ t.cfg = s.cfg ∧ t.clk = s.clk ∧ t.det = s.det ∧
          (k = .insulation ∨ s.redAmberSettled → t.out = s.out)) ∧
        (∀ c, c ∉ (s.probeRec run.entry).channels → t.cbt.cable.get c = s.cbt.cable.get c) ∧
        (∀ c ∈ (s.probeRec run.entry).channels, ∀ stands : ProbeKind → PEnt → Prop,
          stands = (fun kind e => (s.probeRec e).involves c = true ∧ (s.probeRec e).kind = some kind ∧
            (t.result e).standing = .fault) →
          (∀ e, stands .coupling e → (∀ e', e' < e → ¬stands .coupling e') →
            t.cbt.cable.get c = .crossed ((s.probeRec e).other c)) ∧
          ((∀ e, ¬stands .coupling e) →
            ((∃ e, stands .insulation e) → t.cbt.cable.get c = .earthLeak) ∧
            ((∀ e, ¬stands .insulation e) →
              ((∃ e, stands .loop e) → t.cbt.cable.get c = .opened) ∧
              ((∀ e, ¬stands .loop e) → ∀ some' : Standing → Prop,
                some' = (fun v => ∃ e, (s.probeRec e).involves c = true ∧ (t.result e).standing = v) →
                (some' .suspect → t.cbt.cable.get c = .suspect) ∧
                (¬some' .suspect → some' .pass → t.cbt.cable.get c = .sound) ∧
                (¬some' .suspect → ¬some' .pass → t.cbt.cable.get c = .untested))))) ∧
        (res ≠ .fault → (t.result run.entry).cross = .none) ∧
        (k = .coupling → ∀ c y, (s.probeRec run.entry).subject = c → (s.probeRec run.entry).partner = some y →
          (res = .fault → ∀ dangerous : Prop,
            (dangerous ↔
              ((∃ g h, (s.chanRec c).group = some g ∧ (s.chanRec y).group = some h ∧ s.conflicting g h = true) ∧
                (s.chanRec c).aspect = some .green ∧ (s.chanRec y).aspect = some .green) ∨
              ((∃ g, (s.chanRec c).group = some g ∧ (s.chanRec y).group = some g) ∧
                ((s.chanRec c).aspect = some .green ∧ (s.chanRec y).aspect = some .red ∨
                  (s.chanRec c).aspect = some .red ∧ (s.chanRec y).aspect = some .green))) →
            (dangerous → (t.result run.entry).cross = .dangerous ∧ t.sup.latched = true ∧
              (s.waitingSupply = false → t.sup.mode = .dark ∧
                t.sup.reason = (if s.sup.mode = .dark ∧ s.sup.latched = true then s.sup.reason else some .cross) ∧
                (s.sup.mode ≠ .dark → t.out.contactor.driven = false)) ∧
              (s.flt.entries.length < 64 →
                ∃ f ∈ t.flt.entries,
                  f.kind = .crossDangerous ∧ f.subject = .channel c ∧ f.active = true ∧ f.safety = true)) ∧
            (¬dangerous → (t.result run.entry).cross = .nuisance ∧ t.sup.mode = s.sup.mode ∧ t.out = s.out ∧
              (s.flt.entries.length < 64 →
                ∃ f ∈ t.flt.entries,
                  f.kind = .crossNuisance ∧ f.subject = .channel c ∧ f.active = true ∧ f.safety = false))) ∧
          (res ≠ .fault → t.sup.mode = s.sup.mode ∧ t.out = s.out ∧
            ∀ cross kind, (s.result run.entry).cross = cross →
              (cross = .dangerous ∧ kind = .crossDangerous ∨ cross = .nuisance ∧ kind = .crossNuisance) →
              (∀ e, e ≠ run.entry → (s.probeRec e).kind = some .coupling → (s.probeRec e).subject = c →
                ¬((s.result e).standing = .fault ∧ (s.result e).cross = cross)) →
              ∀ f ∈ t.flt.entries, f.kind = kind → f.subject = .channel c → f.active = false)) ∧
        (k = .loop → s.redAmberSettled → (s.lamp (s.probeRec run.entry).subject).verdict ≠ .held →
          (res = .fault → (s.lamp (s.probeRec run.entry).subject).verdict ≠ .failed →
            (t.lamp (s.probeRec run.entry).subject).verdict = .circuitOpen ∧
              (t.lamp (s.probeRec run.entry).subject).healthy = some 0) ∧
          ((res = .pass ∨ res = .passMarginal) → (s.lamp (s.probeRec run.entry).subject).verdict = .circuitOpen →
            (t.lamp (s.probeRec run.entry).subject).verdict = .unknown ∧
              (t.lamp (s.probeRec run.entry).subject).healthy = none)) ∧
        (k = .insulation → res = .fault → s.flt.entries.length < 64 →
          ∃ f ∈ t.flt.entries, f.kind = .earthLeak ∧ f.subject = .channel (s.probeRec run.entry).subject ∧
            f.active = true)) ∧
    (∀ run : ProbeRun, s.cbt.probe = some run → (s.cbt.phase = .closing ∨ s.cbt.phase = .measuring) →
      ∀ ended : State → Prop,
        ended = (fun t =>
          (t.result run.entry).last = some .abandoned ∧ (t.result run.entry).measurement = none ∧
            (t.result run.entry).standing = (s.result run.entry).standing ∧
            (t.result run.entry).failures = (s.result run.entry).failures ∧
            (t.result run.entry).done = (s.result run.entry).done ∧
            (run.sweepEnded = false → (t.result run.entry).starved = (s.result run.entry).starved) ∧
            (∀ e, e ≠ run.entry → t.result e = s.result e) ∧ t.cbt.cable = s.cbt.cable ∧ t.cbt.walk = s.cbt.walk ∧
            t.cbt.urgent = s.cbt.urgent ∧
            (∀ tag, run.origin = .request tag → State.answers s t tag 0x42#8 .ok) ∧
            t.cbt.deferred =
              (if s.cbt.period ≠ none ∧ (s.result run.entry).done = false ∧ run.entry.val + 1 < s.cbt.walk ∧
                  run.entry ∉ s.cbt.deferred then s.cbt.deferred ++ [run.entry]
              else s.cbt.deferred)) →
      (∀ c, (s.chan c).testBus ≠ .no →
        ∃ t, exec (.voltageIndication c .full) s = .next t ∧ t.cbt.phase = .idle ∧ t.cbt.probe = none ∧
          (∀ k, (t.chan k).testBus = .no) ∧ ended t) ∧
      (∀ c tag body, s.takes tag body → (s.chan c).testBus ≠ .no → (s.lamp c).maintenance = false → body.length = 7 →
        ((body.getD 0 0).toNat = 0 ∨ (body.getD 0 0).toNat = 2) → maskHas body c = true →
        ∃ t, exec (.maintUpdate tag body) s = .next t ∧ t.cbt.phase = .releasing ∧ t.cbt.phaseTime = 0 ∧
          t.cbt.probe = some run ∧ ended t)) ∧
    (s.cbt.phase = .releasing → 20 ≤ s.cbt.phaseTime →
      ∃ t, exec .probeReleaseEnd s = .next t ∧ t.cbt.phase = .idle ∧ t.cbt.probe = none ∧ t.cbt.phaseTime = 0 ∧
        t.cbt.choice = true ∧ t.cbt.results = s.cbt.results ∧ (∀ c, (t.chan c).testBus = .no) ∧
        (∀ c, (s.chan c).testBus = .no → t.chan c = s.chan c) ∧
        (∀ c, (s.chan c).testBus ≠ .no → ((t.chan c).drive ≠ .off ↔ s.coilDue c = true)) ∧
        (∀ g, (t.group g).colour = (s.group g).colour) ∧ t.sup.mode = s.sup.mode ∧ t.cfg = s.cfg ∧ t.clk = s.clk ∧
        t.sch = s.sch ∧ t.det = s.det) ∧
    (s.cbt.sweepNext = true → exec .sweepEnd s = .next s) ∧
    ∀ p, s.cbt.period = some p → s.seq.tickOpen = true → s.cbt.sweepNext = false → p * 600 ≤ s.cbt.sweepTime →
      ∃ t, exec .sweepEnd s = .next t ∧ t.cbt.sweepTime = 0 ∧ t.cbt.walk = 1 ∧ t.cbt.deferred = [] ∧ t.cbt.choice = true ∧
        t.cbt.period = some p ∧ t.cbt.urgent = s.cbt.urgent ∧ t.cbt.phase = s.cbt.phase ∧ t.cbt.cable = s.cbt.cable ∧
        (∀ e, (t.result e).done = false ∧ (t.result e).standing = (s.result e).standing ∧
          (t.result e).failures = (s.result e).failures ∧ (t.result e).last = (s.result e).last) ∧
        t.cbt.uncounted = false ∧
        (∀ e, (s.cbt.uncounted = true ∨ s.probeUsed e = false ∨ (s.result e).done = true) → (t.result e).starved = (s.result e).starved) ∧
        (∀ e, s.cbt.uncounted = false → s.probeUsed e = true → (s.result e).done = false →
          ((s.cbt.phase ≠ .closing ∧ s.cbt.phase ≠ .measuring) ∨ s.cbt.probe.map (·.entry) ≠ some e) →
          (t.result e).starved = min 255 ((s.result e).starved + 1)) ∧
        t.out = s.out ∧ t.lmp = s.lmp ∧ t.seq = s.seq ∧ t.sup = s.sup ∧ t.cfg = s.cfg ∧ t.clk = s.clk ∧ t.sch = s.sch ∧
        t.det = s.det

/-! ### Faults and the cabinet mode (R158 to R167, R169, R170) -/

/-- R158, R159, R160, R162, R163: a conflict found takes the cabinet to DARK, latched; a red failure is a soft fault
by mode, by the recovery and by the attempts left, but for a grace that a commit changed at this very tick, which is
judged at the next. How a red failure of STARTUP_RED waits for the next tick, and that a latched FLASH waiting there is
left as it is, is the model's reading (notes/assumptions/24.md). -/
def Obligations.ConflictsAndRedFailuresTakeCabinet : Prop :=
  (∀ (s : State) (i j lo hi : Gid) (p : PairTime), s.betweenSteps → s.waitingSupply = false → s.sup.mode ≠ .dark →
    lo = (if i ≤ j then i else j) → hi = (if i ≤ j then j else i) →
    p ∈ s.sup.conflicts → p.low = lo → p.high = hi → p.found = false → 50 ≤ p.ms → s.flt.entries.length < 64 →
    ∃ t, exec (.conflictFound i j) s = .next t ∧ t.sup.mode = .dark ∧ t.sup.reason = some .conflict ∧
      t.sup.latched = true ∧ t.sup.recovering = false ∧ t.sup.holdoff = none ∧ t.out.contactor.driven = false ∧
      t.out.contactor.closeCommand = false ∧ (∀ g, s.kind g ≠ none → (t.group g).colour = .darkAll) ∧
      (∃ e ∈ t.flt.entries, e.kind = .conflict ∧ e.subject = .pair lo hi ∧ e.active = true ∧ e.safety = true) ∧
      t.flt.pendingSet.modeChange = true) ∧
  ∀ (s : State) (g : Gid) (n : Nat), s.betweenSteps → s.waitingSupply = false → s.seq.tickOpen = true →
    s.cfg.pendingCommit = none → (s.kind g = some .traffic ∨ s.kind g = some .pedestrian) →
    (s.group g).redHealth = .deficient → (s.gt g).redFailAction = .flash → s.sup.grace.get g = .running n →
    1 ≤ n → (s.gt g).redFailGrace ≤ n →
    (s.sup.graceNext.get g = true → exec (.redFailure g) s = .next s) ∧
    (s.sup.graceNext.get g = false → (s.sup.recovering = false ∨ s.sup.attempts + 1 < s.cabinet.attempts ∧ s.sup.attempts < 5) →
      (s.sup.mode = .normal →
        ∃ t, exec (.redFailure g) s = .next t ∧ t.sup.mode = .clearing ∧ t.sup.reason = some .redFail ∧
          t.sup.latched = false ∧ t.sup.holdoffPending = true ∧ t.seq.clearingDue = true ∧
          t.sup.attempts = (if s.sup.recovering then s.sup.attempts + 1 else s.sup.attempts) ∧
          (∀ k, (t.group k).colour = (s.group k).colour) ∧ t.cfg = s.cfg ∧ t.clk = s.clk ∧ t.out = s.out) ∧
      (s.sup.mode = .startupFlash →
        ∃ t, exec (.redFailure g) s = .next t ∧ t.sup.mode = .flash ∧ t.sup.reason = some .redFail ∧
          t.sup.latched = false ∧ t.sup.holdoff = (if 0 < s.cabinet.attempts then some 0 else s.sup.holdoff) ∧
          t.seq.coloursDue = true ∧ (∀ k, (t.group k).colour = (s.group k).colour) ∧ t.cfg = s.cfg ∧ t.clk = s.clk ∧
          t.out = s.out) ∧
      (s.sup.mode = .startupRed →
        ∃ t, exec (.redFailure g) s = .next t ∧ t.sup.mode = .startupRed ∧
          ((∀ r, s.sup.flashNext ≠ some (r, true)) → t.sup.flashNext = some (some .redFail, false)) ∧
          (∀ r, s.sup.flashNext = some (r, true) → t.sup.flashNext = some (r, true)) ∧ t.sup.grace.get g = .stopped ∧ t.seq = s.seq ∧
          t.cfg = s.cfg ∧ t.clk = s.clk ∧ t.out = s.out) ∧
      (s.sup.mode = .startupCheck → s.sup.exit = .startupFlash →
        ∃ t, exec (.redFailure g) s = .next t ∧ t.sup.mode = .startupCheck ∧
          t.sup.exit = .flash (some .redFail) false ∧ t.sup.grace.get g = .stopped ∧ t.seq = s.seq ∧ t.cfg = s.cfg ∧
          t.clk = s.clk ∧ t.out = s.out)) ∧
    (s.sup.graceNext.get g = false → s.sup.mode = .normal → s.sup.recovering = true → s.cabinet.attempts ≤ min 5 (s.sup.attempts + 1) →
      s.flt.entries.length < 64 →
      ∃ t, exec (.redFailure g) s = .next t ∧ t.sup.mode = .clearing ∧ t.sup.reason = some .lockout ∧
        t.sup.latched = true ∧ t.sup.recovering = false ∧ t.sup.holdoff = none ∧ t.sup.probation = 0 ∧
        ∃ e ∈ t.flt.entries, e.kind = .recoveryLockout ∧ e.subject = .nothing ∧ e.active = true)

/-- R164 to R167, R67, R85, R110, R169, R170, R191: the start-up sequence to NORMAL, the holdoff and the probation, and the loss
and return of the supply, with the timing commit that waits through the start-up and is applied at the entry to NORMAL,
FLASH or DARK. A holdoff or a probation that a commit changed at this very tick is judged at the next (R157). That the
entry to NORMAL makes one evaluation with a commit is the model's reading (notes/assumptions/77.md), and the order of the
blocks at a commit is its choice (notes/assumptions/74.md).
That a FLASH selected at the entry to NORMAL is met in NORMAL (notes/assumptions/26.md), that the probation is judged in
NORMAL alone (notes/assumptions/50.md), and that a latched FLASH waiting
in STARTUP_RED is what a supply loss saves (notes/assumptions/24.md), are the model's readings. -/
def Obligations.StartupRecoveryAndSupply : Prop :=
  (∀ (s : State) (tm : Timing), s.betweenSteps → s.cfg.pendingCommit = some tm →
    (s.sup.mode = .startupCheck → s.supplyProven = true → 500 ≤ s.sup.phaseTime →
      (s.sup.exit = .startupFlash →
        ∃ t, exec .startupCheckComplete s = .next t ∧ t.sup.mode = .startupFlash ∧ t.cfg = s.cfg ∧ t.sch = s.sch) ∧
      ∀ r l, s.sup.exit = .flash r l →
        ∃ t, exec .startupCheckComplete s = .next t ∧ s.commits t tm ∧
          ((s.selectionUnder tm).action = .flash ∨ s.sch.action ≠ some .flash ∨ r ≠ some .hostRequest ∨ l = true →
            t.sup.mode = .flash ∧ t.sup.reason = r ∧ t.sup.latched = l)) ∧
    (s.sup.mode = .startupFlash → s.seq.tickOpen = true → 1 ≤ s.sup.phaseTime → s.sup.phaseLength ≤ s.sup.phaseTime →
      ∃ t, exec .startupFlashEnd s = .next t ∧ t.sup.mode = .startupRed ∧ t.cfg = s.cfg ∧ t.sch = s.sch) ∧
    (s.sup.mode = .startupRed → s.seq.tickOpen = true → s.sup.phaseLength ≤ s.sup.phaseTime → s.sup.flashNext = none →
      (∀ p, (s.selectionUnder tm).action = .plan p →
        ∃ t, exec .startupRedEnd s = .next t ∧ s.commits t tm ∧ t.sup.mode = .normal ∧ t.sup.phaseTime = 0 ∧
          t.seq.active = some p ∧ t.seq.pendingPlan = none ∧ t.seq.running = none ∧ t.seq.priority = [] ∧
          t.seq.pos = (if (tm.plans.get p).coordinated then some 0 else none) ∧
          t.seq.endDue = ((tm.plans.get p).entry? 1).map (fun e => ⟨e.stage, some 1, none⟩) ∧
          ∀ g, (t.group g).colour = (s.group g).colour ∨
            (s.group g).colour = .redAmber ∧ (t.group g).colour = .red ∧ (t.group g).inhibited = true) ∧
      ((s.selectionUnder tm).action = .flash → s.sch.action ≠ some .flash → s.waitingSupply = false →
        ∃ t, exec .startupRedEnd s = .next t ∧ s.commits t tm ∧ t.sup.mode = .clearing ∧
          t.sup.reason = some .hostRequest ∧ t.sup.latched = false)) ∧
    (s.sup.supplyPresent = true → 200 ≤ s.sup.supplyGap → s.sup.mode.runs = true →
      ∃ t, exec .supplyLoss s = .next t ∧ s.commits t tm ∧ t.sup.mode = .dark ∧ t.sup.reason = some .supplyLoss ∧
        t.sup.supplyPresent = false ∧ t.out.contactor.closeCommand = false)) ∧
  ∀ s : State, s.betweenSteps → s.cfg.pendingCommit = none →
    (s.sup.mode = .startupCheck → s.supplyProven = true → 500 ≤ s.sup.phaseTime →
      ∃ t, exec .startupCheckComplete s = .next t ∧ t.sup.phaseTime = 0 ∧ t.seq.coloursDue = true ∧
        (∀ g, (t.group g).colour = (s.group g).colour) ∧ t.cfg = s.cfg ∧ t.clk = s.clk ∧ t.out = s.out ∧
        (s.sup.exit = .startupFlash → t.sup.mode = .startupFlash ∧ t.sup.phaseLength = s.cabinet.startFlash) ∧
        ∀ r l, s.sup.exit = .flash r l → t.sup.mode = .flash ∧ t.sup.reason = r ∧ t.sup.latched = l) ∧
    (s.sup.mode = .startupFlash → s.seq.tickOpen = true → 1 ≤ s.sup.phaseTime → s.sup.phaseLength ≤ s.sup.phaseTime →
      ∃ t, exec .startupFlashEnd s = .next t ∧ t.sup.mode = .startupRed ∧ t.sup.phaseTime = 0 ∧
        t.sup.phaseLength = s.cabinet.startRed ∧ t.seq.coloursDue = true ∧
        (∀ g, (t.group g).colour = (s.group g).colour) ∧ t.cfg = s.cfg ∧ t.clk = s.clk ∧ t.out = s.out) ∧
    (s.sup.mode = .startupRed → s.seq.tickOpen = true → s.sup.phaseLength ≤ s.sup.phaseTime → s.sup.flashNext = none →
      (∀ p, s.select.action = .plan p →
        ∃ t, exec .startupRedEnd s = .next t ∧ t.sup.mode = .normal ∧ t.sup.phaseTime = 0 ∧
          t.sch.action = some (.plan p) ∧ t.seq.active = some p ∧ t.seq.pendingPlan = none ∧ t.seq.running = none ∧
          t.seq.change = none ∧ t.seq.pos = (if (s.plan p).coordinated then some 0 else none) ∧
          t.seq.endDue = ((s.plan p).entry? 1).map (fun e => ⟨e.stage, some 1, none⟩) ∧
          (∀ g, t.group g = s.group g) ∧ t.cfg = s.cfg ∧ t.clk = s.clk ∧ t.out = s.out) ∧
      (s.select.action = .flash → s.sch.action ≠ some .flash → s.waitingSupply = false →
        ∃ t, exec .startupRedEnd s = .next t ∧ t.sup.mode = .clearing ∧ t.sup.reason = some .hostRequest ∧
          t.sup.latched = false ∧ t.sch.action = some .flash ∧ t.cfg = s.cfg ∧ t.clk = s.clk ∧ t.out = s.out)) ∧
    (∀ n, s.seq.tickOpen = true → s.sup.latched = false →
      (s.sup.mode = .flash ∧ s.sup.reason = some .redFail ∨ s.sup.mode = .dark ∧ s.sup.reason = some .contactor) →
      s.waitingSupply = false → s.sup.holdoff = some n → s.cabinet.holdoff * 600 ≤ n → s.sup.holdoffNext = false →
      ((s.sup.mode = .flash ∧ ∃ g, s.kind g ≠ none ∧ (s.gt g).redFailAction = .flash ∧ (s.group g).redHealth = .deficient) ∨
          (s.sup.mode = .dark ∧ (s.sup.supplyPresent = false ∨ s.out.trip = true)) →
        exec .holdoffExpiry s = .next { s with sup := { s.sup with holdoff := some 0 } }) ∧
      ((s.sup.mode = .flash ∧ ∀ g, s.kind g ≠ none → (s.gt g).redFailAction = .flash → (s.group g).redHealth ≠ .deficient) ∨
          (s.sup.mode = .dark ∧ s.sup.supplyPresent = true ∧ s.out.trip = false) → s.closesLater →
        ∃ t, exec .holdoffExpiry s = .next t ∧ t.sup.mode = .startupCheck ∧ t.sup.recovering = true ∧
          t.sup.holdoff = none ∧ t.out.contactor.closeCommand = true ∧
          t.sup.exit = (if s.sch.action = some .flash then .flash (some .hostRequest) false else .startupFlash))) ∧
    (s.seq.tickOpen = true → s.sup.recovering = true → s.sup.mode = .normal →
      s.cabinet.probation * 600 ≤ s.sup.probation → s.sup.probationNext = false →
      exec .probationExpiry s =
        .next { s with sup := { s.sup with recovering := false, attempts := 0, probation := 0 } }) ∧
    (s.sup.holdoffNext = true → exec .holdoffExpiry s = .next s) ∧
    (s.sup.probationNext = true → exec .probationExpiry s = .next s) ∧
    (s.sup.supplyPresent = true → 200 ≤ s.sup.supplyGap → s.flt.entries.length < 64 →
      ∃ t, exec .supplyLoss s = .next t ∧ t.sup.supplyPresent = false ∧
        (s.sup.mode = .unconfigured → t.sup.mode = .unconfigured ∧ t.sup.saved = s.sup.saved) ∧
        (s.sup.mode = .dark → t.sup.mode = .dark ∧ t.sup.reason = s.sup.reason ∧
          t.sup.saved = some (.dark s.sup.reason s.sup.latched)) ∧
        (s.sup.mode = .clearing ∨ s.sup.mode = .flash → t.sup.mode = .dark ∧ t.sup.reason = some .supplyLoss ∧
          t.sup.latched = s.sup.latched ∧ t.sup.saved = some (.flash s.sup.reason s.sup.latched)) ∧
        (s.sup.mode.runs = true → t.sup.mode = .dark ∧ t.sup.reason = some .supplyLoss ∧
          t.out.contactor.closeCommand = false ∧
          (¬(s.sup.mode = .startupRed ∧ ∃ r, s.sup.flashNext = some (r, true)) →
            t.sup.latched = false ∧ (s.sup.exit = .startupFlash → t.sup.saved = some .startup) ∧
            ∀ r l, s.sup.exit = .flash r l → t.sup.saved = some (.flash r l)) ∧
          ∀ r, s.sup.mode = .startupRed → s.sup.flashNext = some (r, true) →
            t.sup.latched = true ∧ t.sup.saved = some (.flash r true)) ∧
        (∃ e ∈ t.flt.entries, e.kind = .supplyLoss ∧ e.subject = .nothing ∧ e.active = true) ∧ t.cfg = s.cfg ∧
        t.clk = s.clk ∧ t.det = s.det) ∧
    (s.sup.supplyPresent = false → 2000 ≤ s.sup.supplyStable → s.closesLater →
      ∃ t, exec .supplyReturn s = .next t ∧ t.sup.supplyPresent = true ∧ t.sup.saved = none ∧
        (s.sup.saved = none → t.sup.mode = s.sup.mode ∧ t.sup.reason = s.sup.reason) ∧
        (s.sup.saved = some .startup → t.sup.mode = .startupCheck ∧
          t.sup.exit = (if s.sch.action = some .flash then .flash (some .hostRequest) false else .startupFlash)) ∧
        (∀ r l, s.sup.saved = some (.flash r l) → t.sup.mode = .startupCheck ∧ t.sup.exit = .flash r l) ∧
        (∀ r l, s.sup.saved = some (.dark r l) → t.sup.mode = s.sup.mode ∧ t.sup.reason = r ∧ t.sup.latched = l) ∧
        (∀ e ∈ t.flt.entries, e.kind = .supplyLoss → e.subject = .nothing → e.active = false) ∧ t.cfg = s.cfg ∧
        t.clk = s.clk ∧ t.det = s.det)
end

