-- ==== Sys2Proof/Laws/Frames.lean ====
section
/-! SUPPORT. What the shared operations leave alone. `State.base` is what no operation below the commits, the schedule,
the clock and the inputs can change; `base_<op>` says so of an operation, once, so that a proof about a command cites it
and unfolds nothing. -/

namespace Sys2Proof.Machine

/-- The blocks that the sequencer's, the outputs', the lamps', the tester's and the supervisor's operations leave alone:
the waiting commands, the millisecond count, the configuration, the clock, the schedule and the inputs. -/
def State.base (s : State) : List Instr × Nat × Cfg × Clk × Sch × Tab 32 DetRun :=
  (s.pending, s.now, s.cfg, s.clk, s.sch, s.det)

namespace Frames

variable {s t : State}

theorem pending_of_base (h : t.base = s.base) : t.pending = s.pending := congrArg (·.1) h
theorem now_of_base (h : t.base = s.base) : t.now = s.now := congrArg (·.2.1) h
theorem cfg_of_base (h : t.base = s.base) : t.cfg = s.cfg := congrArg (·.2.2.1) h
theorem clk_of_base (h : t.base = s.base) : t.clk = s.clk := congrArg (·.2.2.2.1) h
theorem sch_of_base (h : t.base = s.base) : t.sch = s.sch := congrArg (·.2.2.2.2.1) h
theorem det_of_base (h : t.base = s.base) : t.det = s.det := congrArg (·.2.2.2.2.2) h

/-! ### One block changed -/

@[simp] theorem base_onLnk (s : State) (f : Lnk → Lnk) : (s.onLnk f).base = s.base := rfl
@[simp] theorem base_onSeq (s : State) (f : Seq → Seq) : (s.onSeq f).base = s.base := rfl
@[simp] theorem base_onOut (s : State) (f : Out → Out) : (s.onOut f).base = s.base := rfl
@[simp] theorem base_onLmp (s : State) (f : Tab 48 LampRec → Tab 48 LampRec) : (s.onLmp f).base = s.base := rfl
@[simp] theorem base_onCbt (s : State) (f : Cbt → Cbt) : (s.onCbt f).base = s.base := rfl
@[simp] theorem base_onSup (s : State) (f : Sup → Sup) : (s.onSup f).base = s.base := rfl
@[simp] theorem base_onFlt (s : State) (f : Flt → Flt) : (s.onFlt f).base = s.base := rfl
@[simp] theorem base_onGroup (s : State) (g : Gid) (f : GroupRun → GroupRun) : (s.onGroup g f).base = s.base := rfl
@[simp] theorem base_onChan (s : State) (c : Ch) (f : ChanRun → ChanRun) : (s.onChan c f).base = s.base := rfl
@[simp] theorem base_onLamp (s : State) (c : Ch) (f : LampRec → LampRec) : (s.onLamp c f).base = s.base := rfl
@[simp] theorem base_onResult (s : State) (e : PEnt) (f : ResultRec → ResultRec) : (s.onResult e f).base = s.base := rfl
@[simp] theorem base_onContactor (s : State) (f : Contactor → Contactor) : (s.onContactor f).base = s.base := rfl

/-! ### A change made for every member of a list, or for every index -/

/-- What every single change keeps, the whole list of changes keeps. -/
theorem foldl_keeps {α β : Type} (p : State → β) {f : State → α → State} (h : ∀ t a, p (f t a) = p t) (l : List α)
    (s : State) : p (l.foldl f s) = p s := by
  induction l generalizing s with
  | nil => rfl
  | cons a l ih => rw [List.foldl_cons, ih, h]

/-- What every single change keeps, the change of every index keeps. -/
theorem forAll_keeps {β : Type} {n : Nat} (p : State → β) {f : State → Fin n → State} (h : ∀ t i, p (f t i) = p t)
    (s : State) : p (s.forAll f) = p s := foldl_keeps p h _ s

/-- An invariant of every single change is an invariant of the change of every index. -/
theorem forAll_invariant {n : Nat} {P : State → Prop} {f : State → Fin n → State} (h : ∀ t i, P t → P (f t i))
    (hs : P s) : P (s.forAll f) := by
  unfold State.forAll
  generalize allFin n = l
  induction l generalizing s with
  | nil => exact hs
  | cons a l ih => exact ih (h s a hs)

/-! ### The fault table and the link -/

@[simp] theorem base_addEvents (s : State) (p : PendingSet) : (s.addEvents p).base = s.base := rfl
@[simp] theorem base_reportAs (s : State) (k : FaultKind) (x : Subject) (b : Bool) : (s.reportAs k x b).base = s.base := rfl
@[simp] theorem base_report (s : State) (k : FaultKind) (x : Subject) : (s.report k x).base = s.base := rfl
@[simp] theorem base_clearFault (s : State) (k : FaultKind) (x : Subject) : (s.clearFault k x).base = s.base := rfl
@[simp] theorem base_reply (s : State) (tag code : Byte) (st : Status) (b : List Byte) :
    (s.reply tag code st b).base = s.base := rfl
@[simp] theorem base_refuse (s : State) (tag code : Byte) (st : Status) : (s.refuse tag code st).base = s.base := rfl
@[simp] theorem base_closeAdditions (s t : State) : (State.closeAdditions s t).base = t.base := by
  simp only [State.closeAdditions]
  split
  · rw [apply_ite State.base]; simp
  · rfl

/-! ### Groups and lamps -/

@[simp] theorem base_refreshInhibited (s : State) : s.refreshInhibited.base = s.base := rfl
@[simp] theorem base_refreshGrace (s : State) : s.refreshGrace.base = s.base := rfl
@[simp] theorem base_refreshConflicts (s : State) : s.refreshConflicts.base = s.base := rfl
@[simp] theorem base_refreshStanding (s t : State) : (State.refreshStanding s t).base = t.base := rfl
@[simp] theorem base_refreshGreen (s : State) (g : Gid) : (s.refreshGreen g).base = s.base := by
  unfold State.refreshGreen; split <;> rfl
@[simp] theorem base_refreshShowing (s : State) (c : Ch) : (s.refreshShowing c).base = s.base := by
  unfold State.refreshShowing; split <;> simp
@[simp] theorem base_placeDemand (s : State) (g : Gid) : (s.placeDemand g).base = s.base := by
  unfold State.placeDemand; split <;> rfl
@[simp] theorem base_pressButton (s : State) (g : Gid) : (s.pressButton g).base = s.base := by
  unfold State.pressButton; split <;> simp
@[simp] theorem base_evalRedHealth (s : State) (g : Gid) : (s.evalRedHealth g).base = s.base := by
  unfold State.evalRedHealth
  dsimp only
  repeat' split
  all_goals simp
@[simp] theorem base_evalAllRedHealth (s : State) : s.evalAllRedHealth.base = s.base := forAll_keeps _ base_evalRedHealth s
@[simp] theorem base_reportVerdict (s : State) (c : Ch) (v w : Verdict) : (s.reportVerdict c v w).base = s.base := by
  unfold State.reportVerdict
  dsimp only
  repeat' split
  all_goals simp
@[simp] theorem base_setVerdict (s : State) (c : Ch) (v : Verdict) (h : Option Nat) : (s.setVerdict c v h).base = s.base := by
  unfold State.setVerdict; simp
@[simp] theorem base_clearLampFaults (s : State) (c : Ch) : (s.clearLampFaults c).base = s.base := by
  unfold State.clearLampFaults; simp
@[simp] theorem base_relearn (s : State) (c : Ch) : (s.relearn c).base = s.base := by
  unfold State.relearn; simp
@[simp] theorem base_refreshLeak (s : State) (c : Ch) : (s.refreshLeak c).base = s.base := by
  unfold State.refreshLeak
  repeat' split
  all_goals simp
@[simp] theorem base_enterMaintenance (s : State) (c : Ch) : (s.enterMaintenance c).base = s.base := by
  unfold State.enterMaintenance; simp
@[simp] theorem base_leaveMaintenance (s : State) (c : Ch) : (s.leaveMaintenance c).base = s.base := by
  unfold State.leaveMaintenance; simp
@[simp] theorem base_loopOpen (s : State) (c : Ch) : (s.loopOpen c).base = s.base := by
  unfold State.loopOpen; split <;> simp
@[simp] theorem base_loopPass (s : State) (c : Ch) : (s.loopPass c).base = s.base := by
  unfold State.loopPass; split <;> simp
@[simp] theorem base_estimateSample (s : State) (c : Ch) (i r : Nat) : (s.estimateSample c i r).base = s.base := by
  unfold State.estimateSample
  dsimp only
  repeat' split
  all_goals simp
@[simp] theorem base_takeSample (s : State) (c : Ch) (i : Nat) : (s.takeSample c i).base = s.base := by
  unfold State.takeSample
  repeat' split
  all_goals simp

/-! ### The test bus and the relays -/

@[simp] theorem base_connectBus (s : State) (e : PEnt) : (s.connectBus e).base = s.base := by
  unfold State.connectBus
  dsimp only
  split <;> simp
@[simp] theorem base_startProbe (s : State) (e : PEnt) (o : Origin) : (s.startProbe e o).base = s.base := by
  unfold State.startProbe; simp
@[simp] theorem base_countStarved (s : State) (e : PEnt) : (s.countStarved e).base = s.base := by
  unfold State.countStarved
  dsimp only
  split <;> simp
@[simp] theorem base_deferAgain (s : State) (e : PEnt) : (s.deferAgain e).base = s.base := by
  unfold State.deferAgain; split <;> simp
@[simp] theorem base_answerProbe (s : State) (o : Origin) (r : ProbeResult) (m : Option Nat) :
    (s.answerProbe o r m).base = s.base := by
  unfold State.answerProbe; split <;> simp
@[simp] theorem base_recordAbandoned (s : State) (p : ProbeRun) : (s.recordAbandoned p).base = s.base := by
  unfold State.recordAbandoned
  dsimp only
  split <;> simp
@[simp] theorem base_abandonProbe (s : State) : s.abandonProbe.base = s.base := by
  unfold State.abandonProbe
  repeat' split
  all_goals simp
@[simp] theorem base_claimChannel (s : State) (c : Ch) : (s.claimChannel c).base = s.base := by
  unfold State.claimChannel; split <;> simp
@[simp] theorem base_putChan (s : State) (c : Ch) (r : ChanRun) : (s.putChan c r).base = s.base := by
  unfold State.putChan; simp
@[simp] theorem base_clearRelayEntry (s : State) (c : Ch) (f : RelayFault) : (s.clearRelayEntry c f).base = s.base := by
  unfold State.clearRelayEntry; split <;> simp
@[simp] theorem base_endRelayFault (s : State) (c : Ch) (f : RelayFault) : (s.endRelayFault c f).base = s.base := by
  unfold State.endRelayFault; split <;> simp
@[simp] theorem base_clearRelayFault (s : State) (c : Ch) : (s.clearRelayFault c).base = s.base := by
  unfold State.clearRelayFault; simp
@[simp] theorem base_countOperation (s : State) (c : Ch) : (s.countOperation c).base = s.base := by
  unfold State.countOperation
  dsimp only
  split <;> simp
@[simp] theorem base_completePullIn (s : State) (c : Ch) : (s.completePullIn c).base = s.base := by
  unfold State.completePullIn
  dsimp only
  split <;> simp
@[simp] theorem base_coilStart (s : State) (c : Ch) : (s.coilStart c).base = s.base := by
  unfold State.coilStart
  dsimp only
  repeat' split
  all_goals simp
@[simp] theorem base_coilStop (s : State) (c : Ch) : (s.coilStop c).base = s.base := by
  unfold State.coilStop
  dsimp only
  split <;> simp
@[simp] theorem base_updateCoil (s : State) (c : Ch) : (s.updateCoil c).base = s.base := by
  unfold State.updateCoil
  dsimp only
  repeat' split
  all_goals simp
@[simp] theorem base_unproveAll (s : State) : s.unproveAll.base = s.base :=
  forAll_keeps _ (fun t c => by unfold State.unproveChan; simp) s
@[simp] theorem base_settleFlashGen (s : State) : s.settleFlashGen.base = s.base := by
  unfold State.settleFlashGen; split <;> simp
@[simp] theorem base_syncCommand (s : State) (c : Ch) : (s.syncCommand c).base = s.base := by
  unfold State.syncCommand
  dsimp only
  repeat' split
  all_goals simp [State.startFlashGen]
@[simp] theorem base_syncCommands (s : State) : s.syncCommands.base = s.base := by
  unfold State.syncCommands; rw [base_settleFlashGen]; exact forAll_keeps _ base_syncCommand s
@[simp] theorem base_openBus (s : State) : s.openBus.base = s.base := by
  unfold State.openBus
  dsimp only
  rw [foldl_keeps _ base_updateCoil, base_onCbt]
  exact foldl_keeps State.base (f := fun (t : State) c => t.onChan c fun r => { r with testBus := .no }) (fun _ _ => rfl) _ s
@[simp] theorem base_openContactor (s : State) : s.openContactor.base = s.base := rfl

/-! ### Colours and the sequencer -/

@[simp] theorem base_holdGap (s : State) : s.holdGap.base = s.base := by unfold State.holdGap; split <;> simp
@[simp] theorem base_holdGapFor (s : State) (g : Gid) : (s.holdGapFor g).base = s.base := by
  unfold State.holdGapFor
  repeat' split
  all_goals simp
@[simp] theorem base_putColour (s : State) (g : Gid) (col : Colour) : (s.putColour g col).base = s.base := by
  unfold State.putColour; split <;> simp
@[simp] theorem base_setColour (s : State) (g : Gid) (col : Colour) : (s.setColour g col).base = s.base := by
  unfold State.setColour
  dsimp only
  split <;> simp
@[simp] theorem base_setAllColours (s : State) (f : GroupKind → Colour) : (s.setAllColours f).base = s.base := by
  unfold State.setAllColours
  rw [base_syncCommands]
  exact forAll_keeps _ (fun t g => by split <;> simp) s
@[simp] theorem base_clearSequencer (s : State) : s.clearSequencer.base = s.base := rfl
@[simp] theorem base_serveHead (s : State) : s.serveHead.base = s.base := by
  unfold State.serveHead
  repeat' split
  all_goals simp
@[simp] theorem base_startMaxTimer (s : State) : s.startMaxTimer.base = s.base := by
  unfold State.startMaxTimer; split <;> simp
@[simp] theorem base_refreshAllowance (s : State) : s.refreshAllowance.base = s.base := rfl
@[simp] theorem base_correct (s : State) : s.correct.base = s.base := rfl
@[simp] theorem base_takeDecision (s : State) (j : Option Nat) : (s.takeDecision j).base = s.base := by
  unfold State.takeDecision
  repeat' split
  all_goals simp
@[simp] theorem base_towardFirst (s : State) : s.towardFirst.base = s.base := by
  unfold State.towardFirst
  repeat' split
  all_goals simp
@[simp] theorem base_takePlan (s : State) (p : Pln) : (s.takePlan p).base = s.base := by
  unfold State.takePlan
  dsimp only
  split <;> simp
@[simp] theorem base_takeRequest (s : State) (d : Det) (b : Stg) : (s.takeRequest d b).base = s.base := by
  unfold State.takeRequest State.beginService
  dsimp only
  repeat' split
  all_goals simp
@[simp] theorem base_returnToPlan (s : State) (b : Stg) : (s.returnToPlan b).base = s.base := by
  unfold State.returnToPlan
  dsimp only
  repeat' split
  all_goals simp
@[simp] theorem base_removeRequest (s : State) (d : Det) : (s.removeRequest d).base = s.base := by
  unfold State.removeRequest
  repeat' split
  all_goals simp
@[simp] theorem base_releaseInput (s : State) (d : Det) : (s.releaseInput d).base = s.base := by
  unfold State.releaseInput
  dsimp only
  split <;> simp
@[simp] theorem base_dropGroup (s : State) (g : Gid) (i : Nat) : (s.dropGroup g i).base = s.base := by
  unfold State.dropGroup
  dsimp only
  split <;> simp
@[simp] theorem base_dropIfInhibited (s : State) (g : Gid) : (s.dropIfInhibited g).base = s.base := by
  unfold State.dropIfInhibited
  repeat' split
  all_goals simp
@[simp] theorem base_dropInhibited (s : State) : s.dropInhibited.base = s.base := forAll_keeps _ base_dropIfInhibited s
@[simp] theorem base_takeInhibition (s t : State) : (State.takeInhibition s t).base = t.base := by
  unfold State.takeInhibition
  split
  · exact forAll_keeps _ (fun u g => by split <;> simp) t
  · rfl
@[simp] theorem base_startChange (s : State) (e : EndDue) : (s.startChange e).base = s.base := by
  unfold State.startChange
  dsimp only
  split
  · simp
  · rw [base_dropInhibited, base_onSeq]
    exact foldl_keeps State.base (fun t g => by split <;> simp) _ s
@[simp] theorem base_enterGreen (s : State) (g : Gid) : (s.enterGreen g).base = s.base := by unfold State.enterGreen; simp

/-! ### The supervisor and the contactor -/

@[simp] theorem base_onMode (s : State) (f : Sup → Sup) : (s.onMode f).base = s.base := by
  unfold State.onMode
  dsimp only
  split <;> simp
@[simp] theorem base_darken (s : State) : s.darken.base = s.base := by unfold State.darken; simp
@[simp] theorem base_enterDark (s : State) (r : Option Reason) (l : Bool) : (s.enterDark r l).base = s.base := by
  unfold State.enterDark; simp
@[simp] theorem base_enterClearing (s : State) (r : Reason) (l : Bool) : (s.enterClearing r l).base = s.base := by
  unfold State.enterClearing; simp
@[simp] theorem base_enterFlash (s : State) (r : Option Reason) (l : Bool) : (s.enterFlash r l).base = s.base := by
  unfold State.enterFlash; simp
@[simp] theorem base_latchWith (s : State) (r : Reason) : (s.latchWith r).base = s.base := base_onMode s _
@[simp] theorem base_takeWhileWaiting (s : State) (k : Cause) (r : Reason) : (s.takeWhileWaiting k r).base = s.base := by
  unfold State.takeWhileWaiting; split <;> simp
@[simp] theorem base_takeLatchedDark (s : State) (h : Bool) (r : Reason) : (s.takeLatchedDark h r).base = s.base := by
  unfold State.takeLatchedDark
  dsimp only
  repeat' split
  all_goals simp
@[simp] theorem base_takeCloseFailure (s : State) : s.takeCloseFailure.base = s.base := by
  unfold State.takeCloseFailure
  dsimp only
  repeat' split
  all_goals simp
@[simp] theorem base_takeLatchedFlash (s : State) (r : Reason) : (s.takeLatchedFlash r).base = s.base := by
  unfold State.takeLatchedFlash
  dsimp only
  repeat' split
  all_goals simp
@[simp] theorem base_takeUnlatchedFlash (s : State) (r : Reason) : (s.takeUnlatchedFlash r).base = s.base := by
  unfold State.takeUnlatchedFlash
  dsimp only
  split <;> repeat' split
  all_goals simp
@[simp] theorem base_takeCause (s : State) (k : Cause) (r : Reason) : (s.takeCause k r).base = s.base := by
  unfold State.takeCause
  repeat' split
  all_goals simp
@[simp] theorem base_hardFault (s : State) (r : Reason) : (s.hardFault r).base = s.base := base_takeCause s _ r
@[simp] theorem base_softFault (s : State) (b : Bool) : (s.softFault b).base = s.base := by
  unfold State.softFault
  dsimp only
  repeat' split
  all_goals simp
@[simp] theorem base_reportRelayFault (s : State) (c : Ch) (f : RelayFault) : (s.reportRelayFault c f).base = s.base := by
  unfold State.reportRelayFault
  dsimp only
  repeat' split
  all_goals simp
@[simp] theorem base_findRelayFault (s : State) (c : Ch) (f : RelayFault) : (s.findRelayFault c f).base = s.base := by
  unfold State.findRelayFault
  dsimp only
  split <;> simp
@[simp] theorem base_reproveAll (s : State) : s.reproveAll.base = s.base := by
  unfold State.reproveAll
  dsimp only
  rw [forAll_keeps State.base (fun t c => ?_), forAll_keeps State.base (fun t c => base_putChan t c _)]
  unfold State.reproofFinding
  repeat' split
  all_goals simp
@[simp] theorem base_completeClose (s : State) : s.completeClose.base = s.base := by
  unfold State.completeClose
  dsimp only
  repeat' split
  all_goals simp
@[simp] theorem base_closeContactor (s : State) : s.closeContactor.base = s.base := by
  unfold State.closeContactor
  dsimp only
  repeat' split
  all_goals simp
@[simp] theorem base_contactorFailsToOpen (s : State) : s.contactorFailsToOpen.base = s.base := by
  unfold State.contactorFailsToOpen; simp
@[simp] theorem base_enterStartupCheck (s : State) (e : CheckExit) : (s.enterStartupCheck e).base = s.base := by
  unfold State.enterStartupCheck; simp
@[simp] theorem base_scheduledFlashStart (s : State) : s.scheduledFlashStart.base = s.base := base_takeCause s _ _
@[simp] theorem base_scheduledFlashEnd (s : State) : s.scheduledFlashEnd.base = s.base := by
  unfold State.scheduledFlashEnd
  repeat' split
  all_goals simp
@[simp] theorem base_clearingCheck (s : State) : s.clearingCheck.base = s.base := by
  unfold State.clearingCheck; split <;> simp

end Frames

end Sys2Proof.Machine
end

