-- ==== Sys2Proof/Laws/State.lean ====
section
/-! SUPPORT. One lemma for each field of the state under each update of one block, one group, one channel, one lamp,
one input, one result record or the contactor, so that no proof unfolds a record update; and the reads of a table
after a write. -/

namespace Sys2Proof

/-! ### Tables -/

@[simp] theorem Tab.get_put_self {n : Nat} {α : Type} (t : Tab n α) (i : Fin n) (a : α) : (t.put i a).get i = a := by
  simp [Tab.get, Tab.put]

theorem Tab.get_put_ne {n : Nat} {α : Type} (t : Tab n α) {i j : Fin n} (a : α) (h : i ≠ j) :
    (t.put i a).get j = t.get j := by
  have h' : i.val ≠ j.val := fun e => h (Fin.ext e)
  simp [Tab.get, Tab.put, List.getElem_set_ne h']

theorem Tab.get_put {n : Nat} {α : Type} (t : Tab n α) (i j : Fin n) (a : α) :
    (t.put i a).get j = if i = j then a else t.get j := by
  split
  · next h => subst h; simp
  · next h => exact Tab.get_put_ne t a h

@[simp] theorem Tab.get_modify_self {n : Nat} {α : Type} (t : Tab n α) (i : Fin n) (f : α → α) :
    (t.modify i f).get i = f (t.get i) := by simp [Tab.modify]

theorem Tab.get_modify_ne {n : Nat} {α : Type} (t : Tab n α) {i j : Fin n} (f : α → α) (h : i ≠ j) :
    (t.modify i f).get j = t.get j := by simp [Tab.modify, Tab.get_put_ne t _ h]

theorem Tab.get_modify {n : Nat} {α : Type} (t : Tab n α) (i j : Fin n) (f : α → α) :
    (t.modify i f).get j = if i = j then f (t.get j) else t.get j := by
  split
  · next h => subst h; simp
  · next h => exact Tab.get_modify_ne t f h

@[simp] theorem Tab.get_fill {n : Nat} {α : Type} (a : α) (i : Fin n) : (Tab.fill n a).get i = a := by
  simp [Tab.get, Tab.fill]

@[simp] theorem Tab.get_map {n : Nat} {α β : Type} (f : α → β) (t : Tab n α) (i : Fin n) :
    (t.map f).get i = f (t.get i) := by simp [Tab.get, Tab.map]

@[simp] theorem Tab.get_ofFn {n : Nat} {α : Type} (f : Fin n → α) (i : Fin n) : (Tab.ofFn n f).get i = f i := by
  simp [Tab.get, Tab.ofFn]

end Sys2Proof

namespace Sys2Proof.Machine

/-! ### LNK changed -/

@[simp] theorem State.onLnk_pending (s : State) (f : Lnk → Lnk) : (s.onLnk f).pending = s.pending := rfl
@[simp] theorem State.onLnk_now (s : State) (f : Lnk → Lnk) : (s.onLnk f).now = s.now := rfl
@[simp] theorem State.onLnk_lnk (s : State) (f : Lnk → Lnk) : (s.onLnk f).lnk = f s.lnk := rfl
@[simp] theorem State.onLnk_cfg (s : State) (f : Lnk → Lnk) : (s.onLnk f).cfg = s.cfg := rfl
@[simp] theorem State.onLnk_clk (s : State) (f : Lnk → Lnk) : (s.onLnk f).clk = s.clk := rfl
@[simp] theorem State.onLnk_sch (s : State) (f : Lnk → Lnk) : (s.onLnk f).sch = s.sch := rfl
@[simp] theorem State.onLnk_seq (s : State) (f : Lnk → Lnk) : (s.onLnk f).seq = s.seq := rfl
@[simp] theorem State.onLnk_det (s : State) (f : Lnk → Lnk) : (s.onLnk f).det = s.det := rfl
@[simp] theorem State.onLnk_out (s : State) (f : Lnk → Lnk) : (s.onLnk f).out = s.out := rfl
@[simp] theorem State.onLnk_lmp (s : State) (f : Lnk → Lnk) : (s.onLnk f).lmp = s.lmp := rfl
@[simp] theorem State.onLnk_cbt (s : State) (f : Lnk → Lnk) : (s.onLnk f).cbt = s.cbt := rfl
@[simp] theorem State.onLnk_sup (s : State) (f : Lnk → Lnk) : (s.onLnk f).sup = s.sup := rfl
@[simp] theorem State.onLnk_flt (s : State) (f : Lnk → Lnk) : (s.onLnk f).flt = s.flt := rfl

/-! ### CFG changed -/

@[simp] theorem State.onCfg_pending (s : State) (f : Cfg → Cfg) : (s.onCfg f).pending = s.pending := rfl
@[simp] theorem State.onCfg_now (s : State) (f : Cfg → Cfg) : (s.onCfg f).now = s.now := rfl
@[simp] theorem State.onCfg_lnk (s : State) (f : Cfg → Cfg) : (s.onCfg f).lnk = s.lnk := rfl
@[simp] theorem State.onCfg_cfg (s : State) (f : Cfg → Cfg) : (s.onCfg f).cfg = f s.cfg := rfl
@[simp] theorem State.onCfg_clk (s : State) (f : Cfg → Cfg) : (s.onCfg f).clk = s.clk := rfl
@[simp] theorem State.onCfg_sch (s : State) (f : Cfg → Cfg) : (s.onCfg f).sch = s.sch := rfl
@[simp] theorem State.onCfg_seq (s : State) (f : Cfg → Cfg) : (s.onCfg f).seq = s.seq := rfl
@[simp] theorem State.onCfg_det (s : State) (f : Cfg → Cfg) : (s.onCfg f).det = s.det := rfl
@[simp] theorem State.onCfg_out (s : State) (f : Cfg → Cfg) : (s.onCfg f).out = s.out := rfl
@[simp] theorem State.onCfg_lmp (s : State) (f : Cfg → Cfg) : (s.onCfg f).lmp = s.lmp := rfl
@[simp] theorem State.onCfg_cbt (s : State) (f : Cfg → Cfg) : (s.onCfg f).cbt = s.cbt := rfl
@[simp] theorem State.onCfg_sup (s : State) (f : Cfg → Cfg) : (s.onCfg f).sup = s.sup := rfl
@[simp] theorem State.onCfg_flt (s : State) (f : Cfg → Cfg) : (s.onCfg f).flt = s.flt := rfl

/-! ### CLK changed -/

@[simp] theorem State.onClk_pending (s : State) (f : Clk → Clk) : (s.onClk f).pending = s.pending := rfl
@[simp] theorem State.onClk_now (s : State) (f : Clk → Clk) : (s.onClk f).now = s.now := rfl
@[simp] theorem State.onClk_lnk (s : State) (f : Clk → Clk) : (s.onClk f).lnk = s.lnk := rfl
@[simp] theorem State.onClk_cfg (s : State) (f : Clk → Clk) : (s.onClk f).cfg = s.cfg := rfl
@[simp] theorem State.onClk_clk (s : State) (f : Clk → Clk) : (s.onClk f).clk = f s.clk := rfl
@[simp] theorem State.onClk_sch (s : State) (f : Clk → Clk) : (s.onClk f).sch = s.sch := rfl
@[simp] theorem State.onClk_seq (s : State) (f : Clk → Clk) : (s.onClk f).seq = s.seq := rfl
@[simp] theorem State.onClk_det (s : State) (f : Clk → Clk) : (s.onClk f).det = s.det := rfl
@[simp] theorem State.onClk_out (s : State) (f : Clk → Clk) : (s.onClk f).out = s.out := rfl
@[simp] theorem State.onClk_lmp (s : State) (f : Clk → Clk) : (s.onClk f).lmp = s.lmp := rfl
@[simp] theorem State.onClk_cbt (s : State) (f : Clk → Clk) : (s.onClk f).cbt = s.cbt := rfl
@[simp] theorem State.onClk_sup (s : State) (f : Clk → Clk) : (s.onClk f).sup = s.sup := rfl
@[simp] theorem State.onClk_flt (s : State) (f : Clk → Clk) : (s.onClk f).flt = s.flt := rfl

/-! ### SCH changed -/

@[simp] theorem State.onSch_pending (s : State) (f : Sch → Sch) : (s.onSch f).pending = s.pending := rfl
@[simp] theorem State.onSch_now (s : State) (f : Sch → Sch) : (s.onSch f).now = s.now := rfl
@[simp] theorem State.onSch_lnk (s : State) (f : Sch → Sch) : (s.onSch f).lnk = s.lnk := rfl
@[simp] theorem State.onSch_cfg (s : State) (f : Sch → Sch) : (s.onSch f).cfg = s.cfg := rfl
@[simp] theorem State.onSch_clk (s : State) (f : Sch → Sch) : (s.onSch f).clk = s.clk := rfl
@[simp] theorem State.onSch_sch (s : State) (f : Sch → Sch) : (s.onSch f).sch = f s.sch := rfl
@[simp] theorem State.onSch_seq (s : State) (f : Sch → Sch) : (s.onSch f).seq = s.seq := rfl
@[simp] theorem State.onSch_det (s : State) (f : Sch → Sch) : (s.onSch f).det = s.det := rfl
@[simp] theorem State.onSch_out (s : State) (f : Sch → Sch) : (s.onSch f).out = s.out := rfl
@[simp] theorem State.onSch_lmp (s : State) (f : Sch → Sch) : (s.onSch f).lmp = s.lmp := rfl
@[simp] theorem State.onSch_cbt (s : State) (f : Sch → Sch) : (s.onSch f).cbt = s.cbt := rfl
@[simp] theorem State.onSch_sup (s : State) (f : Sch → Sch) : (s.onSch f).sup = s.sup := rfl
@[simp] theorem State.onSch_flt (s : State) (f : Sch → Sch) : (s.onSch f).flt = s.flt := rfl

/-! ### SEQ changed -/

@[simp] theorem State.onSeq_pending (s : State) (f : Seq → Seq) : (s.onSeq f).pending = s.pending := rfl
@[simp] theorem State.onSeq_now (s : State) (f : Seq → Seq) : (s.onSeq f).now = s.now := rfl
@[simp] theorem State.onSeq_lnk (s : State) (f : Seq → Seq) : (s.onSeq f).lnk = s.lnk := rfl
@[simp] theorem State.onSeq_cfg (s : State) (f : Seq → Seq) : (s.onSeq f).cfg = s.cfg := rfl
@[simp] theorem State.onSeq_clk (s : State) (f : Seq → Seq) : (s.onSeq f).clk = s.clk := rfl
@[simp] theorem State.onSeq_sch (s : State) (f : Seq → Seq) : (s.onSeq f).sch = s.sch := rfl
@[simp] theorem State.onSeq_seq (s : State) (f : Seq → Seq) : (s.onSeq f).seq = f s.seq := rfl
@[simp] theorem State.onSeq_det (s : State) (f : Seq → Seq) : (s.onSeq f).det = s.det := rfl
@[simp] theorem State.onSeq_out (s : State) (f : Seq → Seq) : (s.onSeq f).out = s.out := rfl
@[simp] theorem State.onSeq_lmp (s : State) (f : Seq → Seq) : (s.onSeq f).lmp = s.lmp := rfl
@[simp] theorem State.onSeq_cbt (s : State) (f : Seq → Seq) : (s.onSeq f).cbt = s.cbt := rfl
@[simp] theorem State.onSeq_sup (s : State) (f : Seq → Seq) : (s.onSeq f).sup = s.sup := rfl
@[simp] theorem State.onSeq_flt (s : State) (f : Seq → Seq) : (s.onSeq f).flt = s.flt := rfl

/-! ### DET changed -/

@[simp] theorem State.onDet_pending (s : State) (f : Tab 32 DetRun → Tab 32 DetRun) : (s.onDet f).pending = s.pending := rfl
@[simp] theorem State.onDet_now (s : State) (f : Tab 32 DetRun → Tab 32 DetRun) : (s.onDet f).now = s.now := rfl
@[simp] theorem State.onDet_lnk (s : State) (f : Tab 32 DetRun → Tab 32 DetRun) : (s.onDet f).lnk = s.lnk := rfl
@[simp] theorem State.onDet_cfg (s : State) (f : Tab 32 DetRun → Tab 32 DetRun) : (s.onDet f).cfg = s.cfg := rfl
@[simp] theorem State.onDet_clk (s : State) (f : Tab 32 DetRun → Tab 32 DetRun) : (s.onDet f).clk = s.clk := rfl
@[simp] theorem State.onDet_sch (s : State) (f : Tab 32 DetRun → Tab 32 DetRun) : (s.onDet f).sch = s.sch := rfl
@[simp] theorem State.onDet_seq (s : State) (f : Tab 32 DetRun → Tab 32 DetRun) : (s.onDet f).seq = s.seq := rfl
@[simp] theorem State.onDet_det (s : State) (f : Tab 32 DetRun → Tab 32 DetRun) : (s.onDet f).det = f s.det := rfl
@[simp] theorem State.onDet_out (s : State) (f : Tab 32 DetRun → Tab 32 DetRun) : (s.onDet f).out = s.out := rfl
@[simp] theorem State.onDet_lmp (s : State) (f : Tab 32 DetRun → Tab 32 DetRun) : (s.onDet f).lmp = s.lmp := rfl
@[simp] theorem State.onDet_cbt (s : State) (f : Tab 32 DetRun → Tab 32 DetRun) : (s.onDet f).cbt = s.cbt := rfl
@[simp] theorem State.onDet_sup (s : State) (f : Tab 32 DetRun → Tab 32 DetRun) : (s.onDet f).sup = s.sup := rfl
@[simp] theorem State.onDet_flt (s : State) (f : Tab 32 DetRun → Tab 32 DetRun) : (s.onDet f).flt = s.flt := rfl

/-! ### OUT changed -/

@[simp] theorem State.onOut_pending (s : State) (f : Out → Out) : (s.onOut f).pending = s.pending := rfl
@[simp] theorem State.onOut_now (s : State) (f : Out → Out) : (s.onOut f).now = s.now := rfl
@[simp] theorem State.onOut_lnk (s : State) (f : Out → Out) : (s.onOut f).lnk = s.lnk := rfl
@[simp] theorem State.onOut_cfg (s : State) (f : Out → Out) : (s.onOut f).cfg = s.cfg := rfl
@[simp] theorem State.onOut_clk (s : State) (f : Out → Out) : (s.onOut f).clk = s.clk := rfl
@[simp] theorem State.onOut_sch (s : State) (f : Out → Out) : (s.onOut f).sch = s.sch := rfl
@[simp] theorem State.onOut_seq (s : State) (f : Out → Out) : (s.onOut f).seq = s.seq := rfl
@[simp] theorem State.onOut_det (s : State) (f : Out → Out) : (s.onOut f).det = s.det := rfl
@[simp] theorem State.onOut_out (s : State) (f : Out → Out) : (s.onOut f).out = f s.out := rfl
@[simp] theorem State.onOut_lmp (s : State) (f : Out → Out) : (s.onOut f).lmp = s.lmp := rfl
@[simp] theorem State.onOut_cbt (s : State) (f : Out → Out) : (s.onOut f).cbt = s.cbt := rfl
@[simp] theorem State.onOut_sup (s : State) (f : Out → Out) : (s.onOut f).sup = s.sup := rfl
@[simp] theorem State.onOut_flt (s : State) (f : Out → Out) : (s.onOut f).flt = s.flt := rfl

/-! ### LMP changed -/

@[simp] theorem State.onLmp_pending (s : State) (f : Tab 48 LampRec → Tab 48 LampRec) : (s.onLmp f).pending = s.pending := rfl
@[simp] theorem State.onLmp_now (s : State) (f : Tab 48 LampRec → Tab 48 LampRec) : (s.onLmp f).now = s.now := rfl
@[simp] theorem State.onLmp_lnk (s : State) (f : Tab 48 LampRec → Tab 48 LampRec) : (s.onLmp f).lnk = s.lnk := rfl
@[simp] theorem State.onLmp_cfg (s : State) (f : Tab 48 LampRec → Tab 48 LampRec) : (s.onLmp f).cfg = s.cfg := rfl
@[simp] theorem State.onLmp_clk (s : State) (f : Tab 48 LampRec → Tab 48 LampRec) : (s.onLmp f).clk = s.clk := rfl
@[simp] theorem State.onLmp_sch (s : State) (f : Tab 48 LampRec → Tab 48 LampRec) : (s.onLmp f).sch = s.sch := rfl
@[simp] theorem State.onLmp_seq (s : State) (f : Tab 48 LampRec → Tab 48 LampRec) : (s.onLmp f).seq = s.seq := rfl
@[simp] theorem State.onLmp_det (s : State) (f : Tab 48 LampRec → Tab 48 LampRec) : (s.onLmp f).det = s.det := rfl
@[simp] theorem State.onLmp_out (s : State) (f : Tab 48 LampRec → Tab 48 LampRec) : (s.onLmp f).out = s.out := rfl
@[simp] theorem State.onLmp_lmp (s : State) (f : Tab 48 LampRec → Tab 48 LampRec) : (s.onLmp f).lmp = f s.lmp := rfl
@[simp] theorem State.onLmp_cbt (s : State) (f : Tab 48 LampRec → Tab 48 LampRec) : (s.onLmp f).cbt = s.cbt := rfl
@[simp] theorem State.onLmp_sup (s : State) (f : Tab 48 LampRec → Tab 48 LampRec) : (s.onLmp f).sup = s.sup := rfl
@[simp] theorem State.onLmp_flt (s : State) (f : Tab 48 LampRec → Tab 48 LampRec) : (s.onLmp f).flt = s.flt := rfl

/-! ### CBT changed -/

@[simp] theorem State.onCbt_pending (s : State) (f : Cbt → Cbt) : (s.onCbt f).pending = s.pending := rfl
@[simp] theorem State.onCbt_now (s : State) (f : Cbt → Cbt) : (s.onCbt f).now = s.now := rfl
@[simp] theorem State.onCbt_lnk (s : State) (f : Cbt → Cbt) : (s.onCbt f).lnk = s.lnk := rfl
@[simp] theorem State.onCbt_cfg (s : State) (f : Cbt → Cbt) : (s.onCbt f).cfg = s.cfg := rfl
@[simp] theorem State.onCbt_clk (s : State) (f : Cbt → Cbt) : (s.onCbt f).clk = s.clk := rfl
@[simp] theorem State.onCbt_sch (s : State) (f : Cbt → Cbt) : (s.onCbt f).sch = s.sch := rfl
@[simp] theorem State.onCbt_seq (s : State) (f : Cbt → Cbt) : (s.onCbt f).seq = s.seq := rfl
@[simp] theorem State.onCbt_det (s : State) (f : Cbt → Cbt) : (s.onCbt f).det = s.det := rfl
@[simp] theorem State.onCbt_out (s : State) (f : Cbt → Cbt) : (s.onCbt f).out = s.out := rfl
@[simp] theorem State.onCbt_lmp (s : State) (f : Cbt → Cbt) : (s.onCbt f).lmp = s.lmp := rfl
@[simp] theorem State.onCbt_cbt (s : State) (f : Cbt → Cbt) : (s.onCbt f).cbt = f s.cbt := rfl
@[simp] theorem State.onCbt_sup (s : State) (f : Cbt → Cbt) : (s.onCbt f).sup = s.sup := rfl
@[simp] theorem State.onCbt_flt (s : State) (f : Cbt → Cbt) : (s.onCbt f).flt = s.flt := rfl

/-! ### SUP changed -/

@[simp] theorem State.onSup_pending (s : State) (f : Sup → Sup) : (s.onSup f).pending = s.pending := rfl
@[simp] theorem State.onSup_now (s : State) (f : Sup → Sup) : (s.onSup f).now = s.now := rfl
@[simp] theorem State.onSup_lnk (s : State) (f : Sup → Sup) : (s.onSup f).lnk = s.lnk := rfl
@[simp] theorem State.onSup_cfg (s : State) (f : Sup → Sup) : (s.onSup f).cfg = s.cfg := rfl
@[simp] theorem State.onSup_clk (s : State) (f : Sup → Sup) : (s.onSup f).clk = s.clk := rfl
@[simp] theorem State.onSup_sch (s : State) (f : Sup → Sup) : (s.onSup f).sch = s.sch := rfl
@[simp] theorem State.onSup_seq (s : State) (f : Sup → Sup) : (s.onSup f).seq = s.seq := rfl
@[simp] theorem State.onSup_det (s : State) (f : Sup → Sup) : (s.onSup f).det = s.det := rfl
@[simp] theorem State.onSup_out (s : State) (f : Sup → Sup) : (s.onSup f).out = s.out := rfl
@[simp] theorem State.onSup_lmp (s : State) (f : Sup → Sup) : (s.onSup f).lmp = s.lmp := rfl
@[simp] theorem State.onSup_cbt (s : State) (f : Sup → Sup) : (s.onSup f).cbt = s.cbt := rfl
@[simp] theorem State.onSup_sup (s : State) (f : Sup → Sup) : (s.onSup f).sup = f s.sup := rfl
@[simp] theorem State.onSup_flt (s : State) (f : Sup → Sup) : (s.onSup f).flt = s.flt := rfl

/-! ### FLT changed -/

@[simp] theorem State.onFlt_pending (s : State) (f : Flt → Flt) : (s.onFlt f).pending = s.pending := rfl
@[simp] theorem State.onFlt_now (s : State) (f : Flt → Flt) : (s.onFlt f).now = s.now := rfl
@[simp] theorem State.onFlt_lnk (s : State) (f : Flt → Flt) : (s.onFlt f).lnk = s.lnk := rfl
@[simp] theorem State.onFlt_cfg (s : State) (f : Flt → Flt) : (s.onFlt f).cfg = s.cfg := rfl
@[simp] theorem State.onFlt_clk (s : State) (f : Flt → Flt) : (s.onFlt f).clk = s.clk := rfl
@[simp] theorem State.onFlt_sch (s : State) (f : Flt → Flt) : (s.onFlt f).sch = s.sch := rfl
@[simp] theorem State.onFlt_seq (s : State) (f : Flt → Flt) : (s.onFlt f).seq = s.seq := rfl
@[simp] theorem State.onFlt_det (s : State) (f : Flt → Flt) : (s.onFlt f).det = s.det := rfl
@[simp] theorem State.onFlt_out (s : State) (f : Flt → Flt) : (s.onFlt f).out = s.out := rfl
@[simp] theorem State.onFlt_lmp (s : State) (f : Flt → Flt) : (s.onFlt f).lmp = s.lmp := rfl
@[simp] theorem State.onFlt_cbt (s : State) (f : Flt → Flt) : (s.onFlt f).cbt = s.cbt := rfl
@[simp] theorem State.onFlt_sup (s : State) (f : Flt → Flt) : (s.onFlt f).sup = s.sup := rfl
@[simp] theorem State.onFlt_flt (s : State) (f : Flt → Flt) : (s.onFlt f).flt = f s.flt := rfl

/-! ### One group changed -/

@[simp] theorem State.onGroup_pending (s : State) (g : Gid) (f : GroupRun → GroupRun) : (s.onGroup g f).pending = s.pending := rfl
@[simp] theorem State.onGroup_now (s : State) (g : Gid) (f : GroupRun → GroupRun) : (s.onGroup g f).now = s.now := rfl
@[simp] theorem State.onGroup_lnk (s : State) (g : Gid) (f : GroupRun → GroupRun) : (s.onGroup g f).lnk = s.lnk := rfl
@[simp] theorem State.onGroup_cfg (s : State) (g : Gid) (f : GroupRun → GroupRun) : (s.onGroup g f).cfg = s.cfg := rfl
@[simp] theorem State.onGroup_clk (s : State) (g : Gid) (f : GroupRun → GroupRun) : (s.onGroup g f).clk = s.clk := rfl
@[simp] theorem State.onGroup_sch (s : State) (g : Gid) (f : GroupRun → GroupRun) : (s.onGroup g f).sch = s.sch := rfl
@[simp] theorem State.onGroup_det (s : State) (g : Gid) (f : GroupRun → GroupRun) : (s.onGroup g f).det = s.det := rfl
@[simp] theorem State.onGroup_out (s : State) (g : Gid) (f : GroupRun → GroupRun) : (s.onGroup g f).out = s.out := rfl
@[simp] theorem State.onGroup_lmp (s : State) (g : Gid) (f : GroupRun → GroupRun) : (s.onGroup g f).lmp = s.lmp := rfl
@[simp] theorem State.onGroup_cbt (s : State) (g : Gid) (f : GroupRun → GroupRun) : (s.onGroup g f).cbt = s.cbt := rfl
@[simp] theorem State.onGroup_sup (s : State) (g : Gid) (f : GroupRun → GroupRun) : (s.onGroup g f).sup = s.sup := rfl
@[simp] theorem State.onGroup_flt (s : State) (g : Gid) (f : GroupRun → GroupRun) : (s.onGroup g f).flt = s.flt := rfl

/-! ### One chan changed -/

@[simp] theorem State.onChan_pending (s : State) (c : Ch) (f : ChanRun → ChanRun) : (s.onChan c f).pending = s.pending := rfl
@[simp] theorem State.onChan_now (s : State) (c : Ch) (f : ChanRun → ChanRun) : (s.onChan c f).now = s.now := rfl
@[simp] theorem State.onChan_lnk (s : State) (c : Ch) (f : ChanRun → ChanRun) : (s.onChan c f).lnk = s.lnk := rfl
@[simp] theorem State.onChan_cfg (s : State) (c : Ch) (f : ChanRun → ChanRun) : (s.onChan c f).cfg = s.cfg := rfl
@[simp] theorem State.onChan_clk (s : State) (c : Ch) (f : ChanRun → ChanRun) : (s.onChan c f).clk = s.clk := rfl
@[simp] theorem State.onChan_sch (s : State) (c : Ch) (f : ChanRun → ChanRun) : (s.onChan c f).sch = s.sch := rfl
@[simp] theorem State.onChan_seq (s : State) (c : Ch) (f : ChanRun → ChanRun) : (s.onChan c f).seq = s.seq := rfl
@[simp] theorem State.onChan_det (s : State) (c : Ch) (f : ChanRun → ChanRun) : (s.onChan c f).det = s.det := rfl
@[simp] theorem State.onChan_lmp (s : State) (c : Ch) (f : ChanRun → ChanRun) : (s.onChan c f).lmp = s.lmp := rfl
@[simp] theorem State.onChan_cbt (s : State) (c : Ch) (f : ChanRun → ChanRun) : (s.onChan c f).cbt = s.cbt := rfl
@[simp] theorem State.onChan_sup (s : State) (c : Ch) (f : ChanRun → ChanRun) : (s.onChan c f).sup = s.sup := rfl
@[simp] theorem State.onChan_flt (s : State) (c : Ch) (f : ChanRun → ChanRun) : (s.onChan c f).flt = s.flt := rfl

/-! ### One lamp changed -/

@[simp] theorem State.onLamp_pending (s : State) (c : Ch) (f : LampRec → LampRec) : (s.onLamp c f).pending = s.pending := rfl
@[simp] theorem State.onLamp_now (s : State) (c : Ch) (f : LampRec → LampRec) : (s.onLamp c f).now = s.now := rfl
@[simp] theorem State.onLamp_lnk (s : State) (c : Ch) (f : LampRec → LampRec) : (s.onLamp c f).lnk = s.lnk := rfl
@[simp] theorem State.onLamp_cfg (s : State) (c : Ch) (f : LampRec → LampRec) : (s.onLamp c f).cfg = s.cfg := rfl
@[simp] theorem State.onLamp_clk (s : State) (c : Ch) (f : LampRec → LampRec) : (s.onLamp c f).clk = s.clk := rfl
@[simp] theorem State.onLamp_sch (s : State) (c : Ch) (f : LampRec → LampRec) : (s.onLamp c f).sch = s.sch := rfl
@[simp] theorem State.onLamp_seq (s : State) (c : Ch) (f : LampRec → LampRec) : (s.onLamp c f).seq = s.seq := rfl
@[simp] theorem State.onLamp_det (s : State) (c : Ch) (f : LampRec → LampRec) : (s.onLamp c f).det = s.det := rfl
@[simp] theorem State.onLamp_out (s : State) (c : Ch) (f : LampRec → LampRec) : (s.onLamp c f).out = s.out := rfl
@[simp] theorem State.onLamp_cbt (s : State) (c : Ch) (f : LampRec → LampRec) : (s.onLamp c f).cbt = s.cbt := rfl
@[simp] theorem State.onLamp_sup (s : State) (c : Ch) (f : LampRec → LampRec) : (s.onLamp c f).sup = s.sup := rfl
@[simp] theorem State.onLamp_flt (s : State) (c : Ch) (f : LampRec → LampRec) : (s.onLamp c f).flt = s.flt := rfl

/-! ### One input changed -/

@[simp] theorem State.onInput_pending (s : State) (d : Det) (f : DetRun → DetRun) : (s.onInput d f).pending = s.pending := rfl
@[simp] theorem State.onInput_now (s : State) (d : Det) (f : DetRun → DetRun) : (s.onInput d f).now = s.now := rfl
@[simp] theorem State.onInput_lnk (s : State) (d : Det) (f : DetRun → DetRun) : (s.onInput d f).lnk = s.lnk := rfl
@[simp] theorem State.onInput_cfg (s : State) (d : Det) (f : DetRun → DetRun) : (s.onInput d f).cfg = s.cfg := rfl
@[simp] theorem State.onInput_clk (s : State) (d : Det) (f : DetRun → DetRun) : (s.onInput d f).clk = s.clk := rfl
@[simp] theorem State.onInput_sch (s : State) (d : Det) (f : DetRun → DetRun) : (s.onInput d f).sch = s.sch := rfl
@[simp] theorem State.onInput_seq (s : State) (d : Det) (f : DetRun → DetRun) : (s.onInput d f).seq = s.seq := rfl
@[simp] theorem State.onInput_out (s : State) (d : Det) (f : DetRun → DetRun) : (s.onInput d f).out = s.out := rfl
@[simp] theorem State.onInput_lmp (s : State) (d : Det) (f : DetRun → DetRun) : (s.onInput d f).lmp = s.lmp := rfl
@[simp] theorem State.onInput_cbt (s : State) (d : Det) (f : DetRun → DetRun) : (s.onInput d f).cbt = s.cbt := rfl
@[simp] theorem State.onInput_sup (s : State) (d : Det) (f : DetRun → DetRun) : (s.onInput d f).sup = s.sup := rfl
@[simp] theorem State.onInput_flt (s : State) (d : Det) (f : DetRun → DetRun) : (s.onInput d f).flt = s.flt := rfl

/-! ### One result changed -/

@[simp] theorem State.onResult_pending (s : State) (e : PEnt) (f : ResultRec → ResultRec) : (s.onResult e f).pending = s.pending := rfl
@[simp] theorem State.onResult_now (s : State) (e : PEnt) (f : ResultRec → ResultRec) : (s.onResult e f).now = s.now := rfl
@[simp] theorem State.onResult_lnk (s : State) (e : PEnt) (f : ResultRec → ResultRec) : (s.onResult e f).lnk = s.lnk := rfl
@[simp] theorem State.onResult_cfg (s : State) (e : PEnt) (f : ResultRec → ResultRec) : (s.onResult e f).cfg = s.cfg := rfl
@[simp] theorem State.onResult_clk (s : State) (e : PEnt) (f : ResultRec → ResultRec) : (s.onResult e f).clk = s.clk := rfl
@[simp] theorem State.onResult_sch (s : State) (e : PEnt) (f : ResultRec → ResultRec) : (s.onResult e f).sch = s.sch := rfl
@[simp] theorem State.onResult_seq (s : State) (e : PEnt) (f : ResultRec → ResultRec) : (s.onResult e f).seq = s.seq := rfl
@[simp] theorem State.onResult_det (s : State) (e : PEnt) (f : ResultRec → ResultRec) : (s.onResult e f).det = s.det := rfl
@[simp] theorem State.onResult_out (s : State) (e : PEnt) (f : ResultRec → ResultRec) : (s.onResult e f).out = s.out := rfl
@[simp] theorem State.onResult_lmp (s : State) (e : PEnt) (f : ResultRec → ResultRec) : (s.onResult e f).lmp = s.lmp := rfl
@[simp] theorem State.onResult_sup (s : State) (e : PEnt) (f : ResultRec → ResultRec) : (s.onResult e f).sup = s.sup := rfl
@[simp] theorem State.onResult_flt (s : State) (e : PEnt) (f : ResultRec → ResultRec) : (s.onResult e f).flt = s.flt := rfl

/-! ### One contactor changed -/

@[simp] theorem State.onContactor_pending (s : State) (f : Contactor → Contactor) : (s.onContactor f).pending = s.pending := rfl
@[simp] theorem State.onContactor_now (s : State) (f : Contactor → Contactor) : (s.onContactor f).now = s.now := rfl
@[simp] theorem State.onContactor_lnk (s : State) (f : Contactor → Contactor) : (s.onContactor f).lnk = s.lnk := rfl
@[simp] theorem State.onContactor_cfg (s : State) (f : Contactor → Contactor) : (s.onContactor f).cfg = s.cfg := rfl
@[simp] theorem State.onContactor_clk (s : State) (f : Contactor → Contactor) : (s.onContactor f).clk = s.clk := rfl
@[simp] theorem State.onContactor_sch (s : State) (f : Contactor → Contactor) : (s.onContactor f).sch = s.sch := rfl
@[simp] theorem State.onContactor_seq (s : State) (f : Contactor → Contactor) : (s.onContactor f).seq = s.seq := rfl
@[simp] theorem State.onContactor_det (s : State) (f : Contactor → Contactor) : (s.onContactor f).det = s.det := rfl
@[simp] theorem State.onContactor_lmp (s : State) (f : Contactor → Contactor) : (s.onContactor f).lmp = s.lmp := rfl
@[simp] theorem State.onContactor_cbt (s : State) (f : Contactor → Contactor) : (s.onContactor f).cbt = s.cbt := rfl
@[simp] theorem State.onContactor_sup (s : State) (f : Contactor → Contactor) : (s.onContactor f).sup = s.sup := rfl
@[simp] theorem State.onContactor_flt (s : State) (f : Contactor → Contactor) : (s.onContactor f).flt = s.flt := rfl

@[simp] theorem State.onGroup_self (s : State) (g : Gid) (f : GroupRun → GroupRun) :
    (s.onGroup g f).group g = f (s.group g) := Tab.get_modify_self _ _ _

theorem State.onGroup_other (s : State) {g h : Gid} (f : GroupRun → GroupRun) (ne : g ≠ h) :
    (s.onGroup g f).group h = s.group h := Tab.get_modify_ne _ _ ne

@[simp] theorem State.onChan_self (s : State) (c : Ch) (f : ChanRun → ChanRun) :
    (s.onChan c f).chan c = f (s.chan c) := Tab.get_modify_self _ _ _

theorem State.onChan_other (s : State) {c k : Ch} (f : ChanRun → ChanRun) (ne : c ≠ k) :
    (s.onChan c f).chan k = s.chan k := Tab.get_modify_ne _ _ ne

@[simp] theorem State.onLamp_self (s : State) (c : Ch) (f : LampRec → LampRec) :
    (s.onLamp c f).lamp c = f (s.lamp c) := Tab.get_modify_self _ _ _

theorem State.onLamp_other (s : State) {c k : Ch} (f : LampRec → LampRec) (ne : c ≠ k) :
    (s.onLamp c f).lamp k = s.lamp k := Tab.get_modify_ne _ _ ne

@[simp] theorem State.onInput_self (s : State) (d : Det) (f : DetRun → DetRun) :
    (s.onInput d f).input d = f (s.input d) := Tab.get_modify_self _ _ _

theorem State.onInput_other (s : State) {d e : Det} (f : DetRun → DetRun) (ne : d ≠ e) :
    (s.onInput d f).input e = s.input e := Tab.get_modify_ne _ _ ne

@[simp] theorem State.onResult_self (s : State) (e : PEnt) (f : ResultRec → ResultRec) :
    (s.onResult e f).result e = f (s.result e) := Tab.get_modify_self _ _ _

theorem State.onResult_other (s : State) {e k : PEnt} (f : ResultRec → ResultRec) (ne : e ≠ k) :
    (s.onResult e f).result k = s.result k := Tab.get_modify_ne _ _ ne

end Sys2Proof.Machine
end

