-- ==== Sys2Proof/Laws/Ops.lean ====
section
/-! SUPPORT. One lemma for each shared operation of the link, the fault table, the schedule, the supervisor, the tester, the
Plan Runner and the end of a step, that says once what it can do. -/

namespace Sys2Proof.Machine

namespace Laws

/-! ### The end of a step -/

/-- No commit is applied where none is pending. -/
theorem applyPending_of_none {s : State} (h : s.cfg.pendingCommit = none) : s.applyPending = s := by
  unfold State.applyPending; rw [h]

/-- A mode that keeps commits, or no pending commit: nothing is applied. -/
theorem drainPending_of_none {s : State} (h : s.sup.mode.drains = true → s.cfg.pendingCommit = none) :
    s.drainPending = s := by
  unfold State.drainPending
  split
  · next hm => exact applyPending_of_none (h hm)
  · rfl

/-- With no addition made, the end of an event changes nothing. -/
theorem closeAdditions_of_quiet {before s : State} (h : s.flt.added = false) : State.closeAdditions before s = s := by
  unfold State.closeAdditions; rw [h]; rfl

/-- The end of an event counts its additions, keeps the table and the pending set, and queues at most one notice. -/
theorem closeAdditions_spec (before s : State) :
    (State.closeAdditions before s).flt.added = false ∧
      (State.closeAdditions before s).flt.entries = s.flt.entries ∧
      (State.closeAdditions before s).flt.pendingSet = s.flt.pendingSet ∧
      (State.closeAdditions before s).flt.overflow = s.flt.overflow ∧
      (State.closeAdditions before s).lnk.reserved = s.lnk.reserved ∧
      (State.closeAdditions before s).lnk.input = s.lnk.input ∧
      (State.closeAdditions before s).seq = s.seq ∧ (State.closeAdditions before s).out = s.out ∧
      (State.closeAdditions before s).lmp = s.lmp ∧ (State.closeAdditions before s).cbt = s.cbt ∧
      (State.closeAdditions before s).sup = s.sup ∧
      ∃ l : List OutFrame, l.length ≤ 1 ∧ (State.closeAdditions before s).lnk.output = s.lnk.output ++ l := by
  simp only [State.closeAdditions]
  by_cases h : s.flt.added = true
  · simp only [h, if_true]
    generalize hs : s.onFlt _ = u
    have hf : u.flt.added = false ∧ u.flt.entries = s.flt.entries ∧ u.flt.pendingSet = s.flt.pendingSet ∧
        u.flt.overflow = s.flt.overflow := by rw [← hs]; exact ⟨rfl, rfl, rfl, rfl⟩
    have hl : u.lnk = s.lnk ∧ u.seq = s.seq ∧ u.out = s.out ∧ u.lmp = s.lmp ∧ u.cbt = s.cbt ∧ u.sup = s.sup := by
      rw [← hs]; exact ⟨rfl, rfl, rfl, rfl, rfl, rfl⟩
    obtain ⟨f1, f2, f3, f4⟩ := hf
    obtain ⟨l1, l2, l3, l4, l5, l6⟩ := hl
    split
    · exact ⟨f1, f2, f3, f4, by rw [← l1]; rfl, by rw [← l1]; rfl, l2, l3, l4, l5, l6, [u.notice], le_refl 1, by simp [l1]⟩
    · exact ⟨f1, f2, f3, f4, congrArg Lnk.reserved l1, congrArg Lnk.input l1, l2, l3, l4, l5, l6, [], by simp, by simp [l1]⟩
  · have h' : s.flt.added = false := by simpa using h
    simp only [h', Bool.false_eq_true, if_false]
    exact ⟨trivial, trivial, trivial, trivial, trivial, trivial, trivial, trivial, trivial, trivial, trivial, [], by simp, by simp⟩

/-- A list of changes none of which changes the state changes nothing. -/
theorem foldl_idle {α : Type} {f : State → α → State} {s : State} (h : ∀ a, f s a = s) (l : List α) : l.foldl f s = s := by
  induction l with
  | nil => rfl
  | cons a l ih => rw [List.foldl_cons, h, ih]

/-- With no inhibition newly arisen, the inhibition check at the end of a step drops no group (R31). -/
theorem takeInhibition_of_none {before s : State}
    (h : ∀ g, (s.group g).inhibited = true → (before.group g).inhibited = true) : State.takeInhibition before s = s := by
  unfold State.takeInhibition
  split
  · refine foldl_idle (fun g => ?_) _
    split
    · next hg =>
      have hb : (before.group g).inhibited = false := by
        have := (Bool.and_eq_true _ _).mp hg |>.1
        simpa using this
      have hs : (s.group g).inhibited = false := by
        cases hi : (s.group g).inhibited
        · rfl
        · rw [h g hi] at hb; exact absurd hb (by decide)
      unfold State.dropIfInhibited
      rw [hs]; rfl
    · rfl
  · rfl

/-- An event that leaves the groups alone drops none (R31). -/
theorem takeInhibition_of_groups {before s : State} (h : s.seq.groups = before.seq.groups) :
    State.takeInhibition before s = s :=
  takeInhibition_of_none fun g hg => by unfold State.group at *; rw [← h]; exact hg

/-- After a step's effect that makes no addition, leaves no commit to apply and leaves the groups alone, the end of the
step changes nothing. -/
theorem finish_of_quiet {before s : State} (h : s.flt.added = false)
    (hp : s.sup.mode.drains = true → s.cfg.pendingCommit = none) (hg : s.seq.groups = before.seq.groups) :
    State.finish before s = s := by
  unfold State.finish; rw [drainPending_of_none hp, takeInhibition_of_groups hg, closeAdditions_of_quiet h]

/-- Between two steps the end of a step that left the groups alone changes nothing. -/
theorem finish_betweenSteps {before s : State} (h : s.betweenSteps) (hg : s.seq.groups = before.seq.groups) :
    State.finish before s = s := finish_of_quiet h.1 h.2 hg

/-! ### Requests and replies -/

/-- The code of a reply is the request's code plus 0x80 (R192). -/
theorem replyCode_of_lt {code : Byte} (h : code.toNat < 128) : replyCode code = code + 0x80#8 := by
  unfold replyCode; rw [if_pos h]

/-- A reply in the slot just reserved is the reply and nothing else. -/
theorem reserve_reply (s : State) (tag : Byte) {code : Byte} (st : Status) (b : List Byte) (h : code.toNat < 128) :
    s.reserve.reply tag code st b = s.withReply tag code st b := by
  simp only [State.reserve, State.reply, State.withReply, State.replyFrame, State.onLnk, State.summary, replyCode_of_lt h,
    Nat.add_sub_cancel]
  rfl

/-- A request that is taken is served with its slot reserved. -/
theorem direct_of_takes {s : State} {tag : Byte} {body : List Byte} (h : s.takes tag body) (serve : State → State) :
    s.direct tag body serve = State.finish s (serve s.reserve) := by
  obtain ⟨-, htag, hlen, hfree⟩ := h
  unfold State.direct
  rw [if_neg (by rintro (h | h); exact htag h; omega), if_neg hfree]

/-- A request refused at once is answered and changes nothing else. -/
theorem direct_refuse {s : State} {tag code : Byte} {body : List Byte} (st : Status) (h : s.takes tag body)
    (hc : code.toNat < 128) {serve : State → State} (hs : serve s.reserve = s.reserve.refuse tag code st) :
    s.direct tag body serve = s.withReply tag code st [] := by
  rw [direct_of_takes h, hs, State.refuse, reserve_reply s tag st [] hc]
  exact finish_of_quiet h.1.1 h.1.2 rfl

/-- With no slot free a request is not taken. -/
theorem direct_of_full {s : State} {tag : Byte} {body : List Byte} (htag : tag ≠ 0) (hlen : body.length ≤ Config.maxBody)
    (hfree : s.lnk.freeSlots = 0) (serve : State → State) : s.direct tag body serve = s := by
  unfold State.direct
  rw [if_neg (by rintro (h | h); exact htag h; omega), if_pos hfree]

/-- A frame that cannot be a request is abandoned. -/
theorem direct_of_illFormed {s : State} {tag : Byte} {body : List Byte} (h : tag = 0 ∨ Config.maxBody < body.length)
    (serve : State → State) : s.direct tag body serve = s.abandonFrame := by
  unfold State.direct; rw [if_pos h]

/-! ### The fault table -/

/-- An entry of the key is ACTIVE after its report, where the table has room for it (R176). -/
theorem report_active (f : Flt) (k : FaultKind) (x : Subject) (safety : Bool) (now : Stamp) (h : f.entries.length < 64) :
    ∃ e ∈ (f.report k x safety now).entries,
      e.kind = k ∧ e.subject = x ∧ e.active = true ∧ e.acked = false ∧ e.safety = safety ∧ e.last = now := by
  unfold Flt.report
  split
  · next hk =>
    obtain ⟨e, he, hkey⟩ := List.any_eq_true.mp hk
    have hkey' : e.kind = k ∧ e.subject = x := by simpa [FaultEntry.hasKey] using hkey
    refine ⟨e.again safety now, List.mem_map.mpr ⟨e, he, by rw [if_pos hkey]⟩, ?_⟩
    simp [FaultEntry.again, hkey']
  · rw [if_pos (show f.entries.length < Config.faultCapacity from h)]
    exact ⟨FaultEntry.fresh k x safety now, by simp, rfl, rfl, rfl, rfl, rfl, rfl⟩

/-- No entry of the key is ACTIVE after its clear (R177). -/
theorem clear_inactive (f : Flt) (k : FaultKind) (x : Subject) :
    ∀ e ∈ (f.clear k x).entries, e.kind = k → e.subject = x → e.active = false := by
  unfold Flt.clear
  split
  · intro e he hk hx
    obtain ⟨e', -, rfl⟩ := List.mem_map.mp he
    by_cases h : e'.hasKey k x = true
    · rw [if_pos h]
    · rw [if_neg h] at hk hx ⊢
      exact absurd (by simp [FaultEntry.hasKey, hk, hx]) h
  · next h =>
    intro e he hk hx
    cases ha : e.active
    · rfl
    · exact absurd (List.any_eq_true.mpr ⟨e, he, by simp [FaultEntry.hasKey, hk, hx, ha]⟩) h

/-- A clear removes no entry and adds none. -/
theorem clear_length (f : Flt) (k : FaultKind) (x : Subject) : (f.clear k x).entries.length = f.entries.length := by
  unfold Flt.clear; split <;> simp

/-! ### The schedule and the supervisor -/

/-- What an evaluation leaves alone, and the selection it makes (R82, R83). -/
theorem evaluate_spec (s : State) :
    s.evaluate.pending = s.pending ∧ s.evaluate.now = s.now ∧ s.evaluate.cfg = s.cfg ∧ s.evaluate.clk = s.clk ∧
      s.evaluate.det = s.det ∧
      s.evaluate.sch =
        { s.sch with action := some s.select.action, source := some s.select.source, governing := s.select.governing } := by
  have hj (t : State) (a b : Bool) : (t.judgePlan a b).base = t.base := by
    unfold State.judgePlan; repeat' split
    all_goals simp
  have hd (t : State) (o : Option Action) (n : Action) : (t.deliver o n).base = t.base := by
    unfold State.deliver State.deliverPlan
    dsimp only
    repeat' split
    all_goals simp
  have h : s.evaluate.base = (s.onSch fun h =>
      { h with action := some s.select.action, source := some s.select.source, governing := s.select.governing }).base := by
    simp only [State.evaluate]
    split
    · rw [hj]
    · rw [hd, hj]
  exact ⟨congrArg (·.1) h, congrArg (·.2.1) h, congrArg (·.2.2.1) h, congrArg (·.2.2.2.1) h, congrArg (·.2.2.2.2.2) h,
    congrArg (·.2.2.2.2.1) h⟩

/-- A change of the supervisor record is the change, with MODE_CHANGE counted where it shows (R156). -/
theorem onMode_sup (s : State) (f : Sup → Sup) : (s.onMode f).sup = f s.sup := by
  simp only [State.onMode]; split <;> rfl

/-- An unlatched FLASH cause leaves a latched FLASH waiting in STARTUP_RED as it is (R168). -/
theorem takeUnlatchedFlash_of_latchedWaits {s : State} (h : s.sup.latchedWaits = true) (r : Reason) :
    s.takeUnlatchedFlash r = s := by
  have hm : s.sup.mode = .startupRed := by
    simp only [Sup.latchedWaits, Bool.and_eq_true, beq_iff_eq] at h; exact h.1
  simp [State.takeUnlatchedFlash, hm, h]

/-- A length that a commit changed is not judged before the next tenth tick (R157, R160). -/
theorem redFailureDue_of_marked {s : State} {g : Gid} (h : s.sup.graceNext.get g = true) : s.redFailureDue g = false := by
  simp [State.redFailureDue, h]

theorem holdoffDue_of_marked {s : State} (h : s.sup.holdoffNext = true) : s.holdoffDue = false := by
  simp [State.holdoffDue, h]

theorem probationDue_of_marked {s : State} (h : s.sup.probationNext = true) : s.probationDue = false := by
  simp [State.probationDue, h]

/-! ### The re-proof, sweeps and skip points -/

/-- The re-proof of a channel whose kept fault it does not find leaves it without one (R102, R109): a driven one at FULL,
or one with its coil off and no voltage. -/
theorem reproofFinding_of_notFound {s : State} {c : Ch} {was : ChanRun}
    (h : was.driven = decide (was.indication = .full)) : s.reproofFinding c was = s.clearRelayFault c := by
  by_cases hi : was.indication = .full <;> simp [State.reproofFinding, hi, h]

/-- A sweep that a new period found at its end does not end before the next tenth tick (R148). -/
theorem sweepEndDue_of_marked {s : State} (h : s.cbt.sweepNext = true) : s.sweepEndDue = false := by
  unfold State.sweepEndDue; split <;> simp [h]

/-- A sweep that a structural commit began anew ends without counting an entry (R154). -/
theorem endSweep_of_uncounted {s : State} (h : s.cbt.uncounted = true) : s.endSweep = s.onCbt Cbt.beginSweep := by
  simp [State.endSweep, h]

/-- A change is into the current entry's stage exactly where the current entry names its target (R57). -/
theorem entersCurrentEntry_iff {s : State} {b : Stg} :
    s.entersCurrentEntry b = true ↔ ∃ e, s.seq.entry.bind s.activePlan.entry? = some e ∧ e.stage = b := by
  simp only [State.entersCurrentEntry, beq_iff_eq]; rw [Option.map_eq_some_iff]

/-- A change is into the decision entry's stage exactly where the decision entry names its target (R68). -/
theorem entersDecisionEntry_iff {s : State} {b : Stg} :
    s.entersDecisionEntry b = true ↔ ∃ e, s.seq.decision.bind s.activePlan.entry? = some e ∧ e.stage = b := by
  simp only [State.entersDecisionEntry, State.decisionEntry, beq_iff_eq]; rw [Option.map_eq_some_iff]
  cases s.seq.decision <;> simp [PlanRec.entry?]

/-- The window of L is that of the first entry whose end position L has not reached (R40). -/
theorem windowOf_eq {p : PlanRec} {l k : Nat} {e : PlanEntry} (he : p.entry? k = some e) (hl : l < e.endPos)
    (hb : ∀ j x, j < k → p.entry? j = some x → x.endPos ≤ l) : p.windowOf l = some k := by
  obtain ⟨n, rfl⟩ : ∃ n, k = n + 1 := ⟨k - 1, by rcases k with _ | n <;> simp_all [PlanRec.entry?]⟩
  have hn : p.entries[n]? = some e := by simpa [PlanRec.entry?] using he
  obtain ⟨hlt, hget⟩ := List.getElem?_eq_some_iff.mp hn
  refine Option.map_eq_some_iff.mpr ⟨n, List.findIdx?_eq_some_iff_getElem.mpr ⟨hlt, by simpa [hget] using hl, ?_⟩, rfl⟩
  intro j hj
  have := hb (j + 1) p.entries[j] (by omega) (by simp [PlanRec.entry?])
  simpa using this

/-- The return in a coordinated plan (R40, R68): the window's stage already runs, or its end is due. -/
theorem returnToPlan_coordinated {s : State} {b : Stg} {k : Nat} {e : PlanEntry} (hp : s.activePlan.coordinated = true)
    (hk : s.activePlan.windowOf (s.seq.pos.getD 0) = some k) (he : s.activePlan.entry? k = some e) :
    s.returnToPlan b =
      if s.seq.running = some e.stage ∧ s.seq.change.isNone = true then
        (s.onSeq fun q => { q with endDue := none, entry := some k, decision := some k }).refreshAllowance
      else s.onSeq fun q => { q with endDue := some ⟨e.stage, some k, none⟩, decision := some k, allowance := 0 } := by
  simp [State.returnToPlan, hp, hk, he]

/-- The only request leaves: the list is empty and the plan is returned to (R40). -/
theorem removeRequest_last {s : State} {h : PriorityReq} (hs : s.seq.priority = [h]) :
    s.removeRequest h.input = (s.onSeq fun q => { q with priority := [] }).returnToPlan h.target := by
  simp [State.removeRequest, hs]

/-- Serving the head request and the start of the maximum timer leave the allowance (R39, R35). -/
@[simp] theorem allowance_serveHead (s : State) : s.serveHead.seq.allowance = s.seq.allowance := by
  unfold State.serveHead; repeat' split
  all_goals rfl

@[simp] theorem allowance_startMaxTimer (s : State) : s.startMaxTimer.seq.allowance = s.seq.allowance := by
  unfold State.startMaxTimer; split <;> rfl

/-- A head request served, and the maximum timer started, leave where the cycle stands (R39, R35). -/
@[simp] theorem pos_serveHead (s : State) : s.serveHead.seq.pos = s.seq.pos := by
  unfold State.serveHead; repeat' split
  all_goals rfl

@[simp] theorem pos_startMaxTimer (s : State) : s.startMaxTimer.seq.pos = s.seq.pos := by
  unfold State.startMaxTimer; split <;> rfl

/-- An end without a jump, or one that L has passed, leaves the cycle as it is (R58). -/
theorem jumped_of_passed {q : Seq} {cycle : Nat} {e : EndDue} (h : ∀ l to', q.pos = some l → e.jump = some to' → to' ≤ l) :
    q.jumped cycle e = q := by
  unfold Seq.jumped
  split
  · next t l ht hl => simp [Nat.not_lt.mpr (h l t hl ht)]
  · rfl

/-- An end position that does not lie ahead in this cycle has no skip point in it (R57). -/
theorem skipDue_of_behind {s : State} {l : Nat} {e : PlanEntry} (hl : s.seq.pos = some l)
    (he : s.decisionEntry = some e) (h : e.endPos ≤ l) : s.skipDue = false := by
  simp [State.skipDue, hl, he, Nat.not_lt.mpr h]

/-! ### Commits and plans (R62 to R67) -/

/-- A request that joins behind the head changes the list alone (R38, R39). -/
theorem takeRequest_behindHead {s : State} {d : Det} {b : Stg} (h : s.seq.priority ≠ []) :
    s.takeRequest d b = s ∨
      s.takeRequest d b = s.onSeq fun q => { q with priority := q.priority ++ [⟨d, b, 0⟩] } := by
  unfold State.takeRequest
  split
  · right; simp [h]
  · exact .inl rfl

/-- Only NORMAL takes the active plan again (R62). -/
theorem retakeActive_of_mode {s before : State} (h : s.sup.mode ≠ .normal) : s.retakeActive before = s := by
  simp [State.retakeActive, h]

/-- Taking the active plan again writes the pending plan and nothing else (R62, R64). -/
theorem retakeActive_eq (s before : State) :
    s.retakeActive before = s ∨
      s.retakeActive before =
        s.onSeq fun q => { q with pendingPlan := if s.activeEmptied before then s.selectedPlan else q.active } := by
  unfold State.retakeActive; split
  · exact .inr rfl
  · exact .inl rfl

@[simp] theorem base_retakeActive (s before : State) : (s.retakeActive before).base = s.base := by
  unfold State.retakeActive; split <;> rfl

/-- The entry to NORMAL with no commit pending evaluates, and with one applies it (R67). -/
theorem applyAndEvaluate_of_none {s : State} (h : s.cfg.pendingCommit = none) : s.applyAndEvaluate = s.evaluate := by
  simp [State.applyAndEvaluate, h]

theorem applyAndEvaluate_of_some {s : State} {tm : Timing} (h : s.cfg.pendingCommit = some tm) :
    s.applyAndEvaluate = s.applyPending := by
  simp [State.applyAndEvaluate, h]

/-- What a pending commit applies (R191). -/
theorem applyPending_of_some {s : State} {tm : Timing} (h : s.cfg.pendingCommit = some tm) :
    s.applyPending =
      (s.onCfg fun c => { c with pendingCommit := none }).applyCommit { s.cfg.running with tm := tm } := by
  unfold State.applyPending; rw [h]

/-- Under the records in force, with no force ended, the selection is the one an evaluation makes now (R82, R84). -/
theorem selectionUnder_current (s : State) (h : s.forceUndefined = false) :
    s.selectionUnder s.cfg.running.tm = s.select := by
  have hf : s.forcedUnder s.cfg.running.tm = s.sch.forced := by
    unfold State.forcedUnder State.forceUndefined at *
    cases hp : s.sch.forced with
    | none => rfl
    | some p => simp_all [State.plan, PlanRec.defined]
  unfold State.selectionUnder State.select; rw [hf]

end Laws

end Sys2Proof.Machine
end

