-- ==== Sys2Proof/Laws/PerInstr.lean ====
section
/-! SUPPORT. What well-formedness says of each command as syntax: a command that carries a frame carries one that
R192 allows, a sample is one that R119 allows, and a pair of groups has its lower group first (R175). -/

namespace Sys2Proof.Laws.Operands

/-- A well-formed command has operands that the manual allows. -/
def Statement (i : Instr) : Prop :=
  i.wellFormed = true →
    (∀ tag body, i.frameOf = some (tag, body) → tag ≠ 0 ∧ body.length ≤ 240) ∧
      (∀ c mA, i = .currentSample c mA → mA ≤ 4000) ∧ (∀ g h, i = .conflictFound g h → g < h)

/-- A command that carries a request frame. -/
theorem ofRequest {i : Instr} {tag : Byte} {body : List Byte} (hw : i.wellFormed = requestWellFormed tag body)
    (hf : i.frameOf = some (tag, body)) (hs : ∀ c mA, i ≠ .currentSample c mA) (hc : ∀ g h, i ≠ .conflictFound g h) :
    Statement i := by
  intro h
  rw [hw] at h
  refine ⟨fun t b e => ?_, fun c mA e => absurd e (hs c mA), fun g k e => absurd e (hc g k)⟩
  rw [hf] at e
  cases e
  simp only [requestWellFormed, Bool.and_eq_true, bne_iff_ne, decide_eq_true_eq] at h
  exact h

/-- A command without operands that the manual bounds. -/
theorem ofFree {i : Instr} (hf : i.frameOf = none) (hs : ∀ c mA, i ≠ .currentSample c mA)
    (hc : ∀ g h, i ≠ .conflictFound g h) : Statement i :=
  fun _ => ⟨fun _ _ e => (nomatch hf.symm.trans e), fun c mA e => absurd e (hs c mA), fun g k e => absurd e (hc g k)⟩

theorem powerOnReset (backupHeld : Bool) (offTenths : Nat) (vbakLow spd1 spd0 : Bool) : Statement (.powerOnReset backupHeld offTenths vbakLow spd1 spd0) := ofFree rfl nofun nofun

theorem resetInput (spd1 spd0 : Bool) : Statement (.resetInput spd1 spd0) := ofFree rfl nofun nofun

theorem rxFrame (tag code : Byte) (body : List Byte) (crc : BitVec 16) : Statement (.rxFrame tag code body crc) := ofRequest rfl rfl nofun nofun

theorem interbyteTimeout : Statement .interbyteTimeout := ofFree rfl nofun nofun

theorem linkBreak : Statement .linkBreak := ofFree rfl nofun nofun

theorem requestTaken : Statement .requestTaken := ofFree rfl nofun nofun

theorem frameSent : Statement .frameSent := ofFree rfl nofun nofun

theorem identify (tag : Byte) (body : List Byte) : Statement (.identify tag body) := ofRequest rfl rfl nofun nofun

theorem status (tag : Byte) (body : List Byte) : Statement (.status tag body) := ofRequest rfl rfl nofun nofun

theorem editOpen (tag : Byte) (body : List Byte) : Statement (.editOpen tag body) := ofRequest rfl rfl nofun nofun

theorem editWrite (tag : Byte) (body : List Byte) : Statement (.editWrite tag body) := ofRequest rfl rfl nofun nofun

theorem editRead (tag : Byte) (body : List Byte) : Statement (.editRead tag body) := ofRequest rfl rfl nofun nofun

theorem editCommit (tag : Byte) (body : List Byte) : Statement (.editCommit tag body) := ofRequest rfl rfl nofun nofun

theorem editDiscard (tag : Byte) (body : List Byte) : Statement (.editDiscard tag body) := ofRequest rfl rfl nofun nofun

theorem configRead (tag : Byte) (body : List Byte) : Statement (.configRead tag body) := ofRequest rfl rfl nofun nofun

theorem clockSet (tag : Byte) (body : List Byte) : Statement (.clockSet tag body) := ofRequest rfl rfl nofun nofun

theorem clockRead (tag : Byte) (body : List Byte) : Statement (.clockRead tag body) := ofRequest rfl rfl nofun nofun

theorem clockTrim (tag : Byte) (body : List Byte) : Statement (.clockTrim tag body) := ofRequest rfl rfl nofun nofun

theorem start (tag : Byte) (body : List Byte) : Statement (.start tag body) := ofRequest rfl rfl nofun nofun

theorem restart (tag : Byte) (body : List Byte) : Statement (.restart tag body) := ofRequest rfl rfl nofun nofun

theorem modeSet (tag : Byte) (body : List Byte) : Statement (.modeSet tag body) := ofRequest rfl rfl nofun nofun

theorem planForce (tag : Byte) (body : List Byte) : Statement (.planForce tag body) := ofRequest rfl rfl nofun nofun

theorem planRelease (tag : Byte) (body : List Byte) : Statement (.planRelease tag body) := ofRequest rfl rfl nofun nofun

theorem demandPlace (tag : Byte) (body : List Byte) : Statement (.demandPlace tag body) := ofRequest rfl rfl nofun nofun

theorem maintUpdate (tag : Byte) (body : List Byte) : Statement (.maintUpdate tag body) := ofRequest rfl rfl nofun nofun

theorem lampRelearn (tag : Byte) (body : List Byte) : Statement (.lampRelearn tag body) := ofRequest rfl rfl nofun nofun

theorem sweepStart (tag : Byte) (body : List Byte) : Statement (.sweepStart tag body) := ofRequest rfl rfl nofun nofun

theorem sweepStop (tag : Byte) (body : List Byte) : Statement (.sweepStop tag body) := ofRequest rfl rfl nofun nofun

theorem probeRun (tag : Byte) (body : List Byte) : Statement (.probeRun tag body) := ofRequest rfl rfl nofun nofun

theorem groupRead (tag : Byte) (body : List Byte) : Statement (.groupRead tag body) := ofRequest rfl rfl nofun nofun

theorem channelRead (tag : Byte) (body : List Byte) : Statement (.channelRead tag body) := ofRequest rfl rfl nofun nofun

theorem detectorRead (tag : Byte) (body : List Byte) : Statement (.detectorRead tag body) := ofRequest rfl rfl nofun nofun

theorem cableRead (tag : Byte) (body : List Byte) : Statement (.cableRead tag body) := ofRequest rfl rfl nofun nofun

theorem faultRead (tag : Byte) (body : List Byte) : Statement (.faultRead tag body) := ofRequest rfl rfl nofun nofun

theorem faultAck (tag : Byte) (body : List Byte) : Statement (.faultAck tag body) := ofRequest rfl rfl nofun nofun

theorem faultPurge (tag : Byte) (body : List Byte) : Statement (.faultPurge tag body) := ofRequest rfl rfl nofun nofun

theorem attentionRead (tag : Byte) (body : List Byte) : Statement (.attentionRead tag body) := ofRequest rfl rfl nofun nofun

theorem noticeEnable (tag : Byte) (body : List Byte) : Statement (.noticeEnable tag body) := ofRequest rfl rfl nofun nofun

theorem attentionPulseEnd : Statement .attentionPulseEnd := ofFree rfl nofun nofun

theorem zeroCrossing : Statement .zeroCrossing := ofFree rfl nofun nofun

theorem crystalTick : Statement .crystalTick := ofFree rfl nofun nofun

theorem mainsTimingLoss : Statement .mainsTimingLoss := ofFree rfl nofun nofun

theorem detectorPinChange (d : Det) (high : Bool) : Statement (.detectorPinChange d high) := ofFree rfl nofun nofun

theorem detectorAcceptedChange (d : Det) : Statement (.detectorAcceptedChange d) := ofFree rfl nofun nofun

theorem stuckOn (d : Det) : Statement (.stuckOn d) := ofFree rfl nofun nofun

theorem stuckOff (d : Det) : Statement (.stuckOff d) := ofFree rfl nofun nofun

theorem priorityOverstay : Statement .priorityOverstay := ofFree rfl nofun nofun

theorem stageChangeStart : Statement .stageChangeStart := ofFree rfl nofun nofun

theorem redAmberStart (g : Gid) : Statement (.redAmberStart g) := ofFree rfl nofun nofun

theorem greenInstant (g : Gid) : Statement (.greenInstant g) := ofFree rfl nofun nofun

theorem amberEnd (g : Gid) : Statement (.amberEnd g) := ofFree rfl nofun nofun

theorem clearanceEnd (g : Gid) : Statement (.clearanceEnd g) := ofFree rfl nofun nofun

theorem stageChangeComplete : Statement .stageChangeComplete := ofFree rfl nofun nofun

theorem lateJoin (g : Gid) : Statement (.lateJoin g) := ofFree rfl nofun nofun

theorem gapOut : Statement .gapOut := ofFree rfl nofun nofun

theorem maxOut : Statement .maxOut := ofFree rfl nofun nofun

theorem coordinatedGapOut : Statement .coordinatedGapOut := ofFree rfl nofun nofun

theorem endOfEntryDecision : Statement .endOfEntryDecision := ofFree rfl nofun nofun

theorem skipPoint : Statement .skipPoint := ofFree rfl nofun nofun

theorem holdEnd : Statement .holdEnd := ofFree rfl nofun nofun

theorem cycleStart : Statement .cycleStart := ofFree rfl nofun nofun

theorem changePoint : Statement .changePoint := ofFree rfl nofun nofun

theorem modeColoursApply : Statement .modeColoursApply := ofFree rfl nofun nofun

theorem clearingGreensEnd : Statement .clearingGreensEnd := ofFree rfl nofun nofun

theorem voltageIndication (c : Ch) (level : Level) : Statement (.voltageIndication c level) := ofFree rfl nofun nofun

theorem supplyOutputIndication (level : Level) : Statement (.supplyOutputIndication level) := ofFree rfl nofun nofun

theorem fullDriveEnd (c : Ch) : Statement (.fullDriveEnd c) := ofFree rfl nofun nofun

theorem pullInLimit (c : Ch) : Statement (.pullInLimit c) := ofFree rfl nofun nofun

theorem releaseLimit (c : Ch) : Statement (.releaseLimit c) := ofFree rfl nofun nofun

theorem contactorCloseLimit : Statement .contactorCloseLimit := ofFree rfl nofun nofun

theorem contactorOpenLimit : Statement .contactorOpenLimit := ofFree rfl nofun nofun

theorem flashPhaseChange : Statement .flashPhaseChange := ofFree rfl nofun nofun

theorem currentSample (c : Ch) (mA : Nat) : Statement (.currentSample c mA) := by
  simp [Statement, Instr.wellFormed, Instr.frameOf]

theorem leakRequest (c : Ch) : Statement (.leakRequest c) := ofFree rfl nofun nofun

theorem probeStart : Statement .probeStart := ofFree rfl nofun nofun

theorem probeClosingEnd : Statement .probeClosingEnd := ofFree rfl nofun nofun

theorem probeClassify (measurement : BitVec 16) : Statement (.probeClassify measurement) := ofFree rfl nofun nofun

theorem probeReleaseEnd : Statement .probeReleaseEnd := ofFree rfl nofun nofun

theorem sweepEnd : Statement .sweepEnd := ofFree rfl nofun nofun

theorem conflictFound (i j : Gid) : Statement (.conflictFound i j) := by
  simp [Statement, Instr.wellFormed, Instr.frameOf]

theorem redFailure (g : Gid) : Statement (.redFailure g) := ofFree rfl nofun nofun

theorem startupCheckComplete : Statement .startupCheckComplete := ofFree rfl nofun nofun

theorem startupFlashEnd : Statement .startupFlashEnd := ofFree rfl nofun nofun

theorem startupRedEnd : Statement .startupRedEnd := ofFree rfl nofun nofun

theorem holdoffExpiry : Statement .holdoffExpiry := ofFree rfl nofun nofun

theorem probationExpiry : Statement .probationExpiry := ofFree rfl nofun nofun

theorem supplyLoss : Statement .supplyLoss := ofFree rfl nofun nofun

theorem supplyReturn : Statement .supplyReturn := ofFree rfl nofun nofun

theorem byteReceived (b : Byte) (framingError : Bool) : Statement (.byteReceived b framingError) := ofFree rfl nofun nofun

theorem crossingGap50Ms : Statement .crossingGap50Ms := ofFree rfl nofun nofun

end Sys2Proof.Laws.Operands
end

