-- ==== Sys2Proof/Tests/Slice0.lean ====
section
/-! SUPPORT. The model's own tests: well-formedness refuses each kind of ill-formed command, single steps on a small
junction have the results the manual gives, and for every obligation with hypotheses a state and operands that meet
them, clause by clause. -/

namespace Sys2Proof.Tests

set_option Elab.async false

open Sys2Proof.Machine

/-! ### A small junction -/

/-- G1 is TRAFFIC on CH1, CH2, CH3, G2 PEDESTRIAN on CH4, CH5, G3 ARROW on CH6; G1 and G2 conflict; S1 holds G1 and S2
holds G2; P1 is isolated, P2 coordinated. -/
def junction : ConfigSet :=
  { st :=
      { Structural.empty with
        groups :=
          (((Tab.fill 16 GroupRec.empty).put 0 ⟨some .traffic, [0], [1], [2]⟩).put 1 ⟨some .pedestrian, [3], [], [4]⟩).put 2
            ⟨some .arrow, [], [], [5]⟩
        channels :=
          ((((((Tab.fill 48 ChannelRec.empty).put 0 ⟨some 0, some .red, .filament, 4⟩).put 1
            ⟨some 0, some .amber, .led, 1⟩).put 2 ⟨some 0, some .green, .led, 1⟩).put 3
            ⟨some 1, some .red, .led, 1⟩).put 4 ⟨some 1, some .green, .led, 1⟩).put 5 ⟨some 2, some .green, .led, 1⟩
        conflicts := ((Tab.fill 16 []).put 0 [1]).put 1 [0]
        intergreens := ((Tab.fill 16 (Tab.fill 16 0)).put 0 ((Tab.fill 16 0).put 1 50)).put 1 ((Tab.fill 16 0).put 0 80)
        probes :=
          (((Tab.fill 64 ProbeRec.empty).put 0 ⟨some .loop, 0, none, 50⟩).put 1 ⟨some .insulation, 0, none, 20⟩).put 2
            ⟨some .coupling, 2, some 4, 20⟩ }
    tm :=
      { Timing.empty with
        groupTimings := (Tab.fill 16 GroupTiming.empty).put 0 { GroupTiming.empty with redAmber := 20, redFailAction := .flash }
        stages := ((Tab.fill 16 []).put 0 [0]).put 1 [1]
        plans :=
          ((Tab.fill 8 PlanRec.empty).put 0 ⟨0, 0, 10, .shortest, [⟨0, 1, 300, false, false⟩, ⟨1, 2, 200, false, false⟩]⟩).put 1
            ⟨600, 100, 10, .shortest, [⟨0, 300, 50, true, true⟩, ⟨1, 600, 50, false, false⟩]⟩
        detectors :=
          (((Tab.fill 32 DetectorRec.empty).put 0 ⟨some .presence, .activeHigh, 50, [0], 5, 2, none, 0⟩).put 1
            ⟨some .button, .activeLow, 50, [1], 0, 0, none, 0⟩).put 2 ⟨some .priority, .activeHigh, 50, [1], 1, 1, some 1, 10⟩
        cabinet := { CabinetRec.empty with attempts := 3 } } }

/-- The junction in NORMAL at an open tenth tick: S1 runs with G1 in GREEN, G2 in RED, and P1 is active. -/
def running : State :=
  { State.reset with
    cfg := { running := junction, buffer := none, pendingCommit := none, committed := true }
    seq :=
      { Seq.reset with
        groups :=
          (((Tab.fill 16 GroupRun.reset).put 0 { GroupRun.reset with colour := .green, timeIn := 40, minInForce := 40 }).put 1
            { GroupRun.reset with colour := .red }).put 2 { GroupRun.reset with colour := .dark }
        running := some 0, entry := some 1, active := some 0, tickOpen := true }
    sup := { Sup.reset with mode := .normal, supplyPresent := true } }

/-- The state after a command. -/
def after (c : Instr) (s : State) : State :=
  match exec c s with
  | .next t => t
  | _ => s

/-- The junction loaded in UNCONFIGURED, with every group dark. -/
def parked : State :=
  { State.reset with cfg := { running := junction, buffer := none, pendingCommit := none, committed := true } }

/-- A fault entry. -/
def entry (k : FaultKind) (x : Subject) (safety active acked : Bool) : FaultEntry :=
  ⟨k, x, safety, active, acked, .invalid 0, .invalid 0, 1⟩

/-- The state in a mode. -/
def inMode (m : Mode) (s : State) : State := s.onSup fun u => { u with mode := m }

/-- The supply proven by the contactor. -/
def proven (s : State) : State := s.onContactor fun k => { k with proof := .closed, state := .held, driven := true }

/-! ### Well-formed commands -/

theorem test_wellFormed_refusesTagZero : (Instr.status 0 []).wellFormed = false := by decide
theorem test_wellFormed_refusesLongBody : (Instr.editWrite 1 (List.replicate 241 0)).wellFormed = false := by decide +kernel
theorem test_wellFormed_takesLongestBody : (Instr.editWrite 1 (List.replicate 240 0)).wellFormed = true := by decide +kernel
theorem test_wellFormed_refusesLargeSample : (Instr.currentSample 0 4001).wellFormed = false := by decide
theorem test_wellFormed_takesLargestSample : (Instr.currentSample 0 4000).wellFormed = true := by decide
theorem test_wellFormed_refusesEqualPair : (Instr.conflictFound 3 3).wellFormed = false := by decide
theorem test_wellFormed_refusesHigherFirst : (Instr.conflictFound 3 2).wellFormed = false := by decide
theorem test_decode_readsNoWord : decodeTableWord 8 1 = none := rfl

/-! ### The link -/

/-- The check value of the CRC of R192 over the nine digits "123456789". -/
theorem test_crc_checkValue :
    crc16 [0x31#8, 0x32#8, 0x33#8, 0x34#8, 0x35#8, 0x36#8, 0x37#8, 0x38#8, 0x39#8] = 0x29B1#16 := by decide +kernel
theorem test_byteReceived_syncByteStartsFrame :
    (after (.byteReceived 0xC3#8 false) State.reset).lnk.assembler = .assembling [] := by decide +kernel
theorem test_rxFrame_joinsBuffer :
    (after (.rxFrame 5 2 [] (crc16 [5, 2, 0])) State.reset).lnk.input = [⟨5, 2, []⟩] := by decide +kernel
theorem test_rxFrame_wrongCrcIsLinkError :
    (after (.rxFrame 5 2 [] (crc16 [5, 2, 1])) State.reset).lnk.linkError = true := by decide +kernel
theorem test_interbyteTimeout_returnsToHunt :
    (after .interbyteTimeout (State.reset.onLnk fun l => { l with assembler := .assembling [1], interbyte := 5 })).lnk.assembler
      = .hunt := by decide +kernel
theorem test_linkBreak_latchesNormal :
    (after .linkBreak { running.onLnk (fun l => { l with line := .space 25 false }) with cfg := { running.cfg with running := { junction with
      tm := { junction.tm with cabinet := { junction.tm.cabinet with breakAction := .flash } } } } }).sup.reason
      = some .linkBreak := by decide +kernel
theorem test_requestTaken_unknownCode :
    ((after .requestTaken (State.reset.onLnk fun l => { l with input := [⟨7, 0x03, []⟩] })).lnk.output.map
      fun f => (f.tag, f.code, f.payload.head?)) = [(7, 0x83#8, some 2)] := by decide +kernel
theorem test_frameSent_leavesQueue :
    (after .frameSent (State.reset.onLnk fun l => { l with output := [⟨1, 0x82, []⟩] })).lnk.output = [] := by decide +kernel
theorem test_identify_answersPartAndSpeed :
    ((after (.identify 1 []) State.reset).lnk.output.map fun f => f.payload.take 6)
      = [[0, 0x10, 0x4A, 0x43, 0x36, 0x32]] := by decide +kernel
theorem test_noticeEnable_on : (after (.noticeEnable 1 [0]) State.reset).lnk.notices = true := by decide +kernel

/-! ### Configuration -/

theorem test_editOpen_copiesRunning : (after (.editOpen 1 []) parked).cfg.buffer.isSome = true := by decide +kernel
/-- A minimum green of 39 tenths is moved to 40 and answered OK_CLAMPED (R17, R187). -/
theorem test_editWrite_clamps :
    ((after (.editWrite 1 [6, 1, 0, 39, 30, 0, 0, 30, 5, 1, 1, 0, 0, 0])
      { parked with cfg := { parked.cfg with buffer := some junction } }).lnk.output.map fun f => f.payload.getD 0 0) = [1]
      := by decide +kernel
/-- A class outside the fourteen is OUT_OF_RANGE before any case of length (R187). -/
theorem test_editWrite_classBeforeLength :
    ((after (.editWrite 1 [14]) { parked with cfg := { parked.cfg with buffer := some junction } }).lnk.output.map
      fun f => f.payload.getD 0 0) = [4] := by decide +kernel
theorem test_editCommit_emptyBufferApplies :
    (after (.editCommit 1 []) { State.reset with cfg := { State.reset.cfg with buffer := some ConfigSet.empty } }).cfg.committed
      = true := by decide +kernel
/-- Conflicting groups in one stage: STAGE check 2 (R13), class code 8, index 1. -/
theorem test_editCommit_refusesConflictInStage :
    ((after (.editCommit 1 []) { parked with cfg := { parked.cfg with
      buffer := some { junction with
        st := { junction.st with
          probes := Tab.fill 64 ProbeRec.empty }
        tm := { junction.tm with stages := junction.tm.stages.put 0 [0, 1] } } } }).lnk.output.map
        fun f => (f.payload.getD 0 0, f.payload.drop 2)) = [(9, [8, 1, 2])] := by decide +kernel

/-! ### Clock and schedule -/

/-- 2000-01-01 was a Saturday (R70); 2100 is no leap year, 2000 is one (R71). -/
theorem test_calendar :
    (⟨2000, 1, 1⟩ : Date).weekday = 5 ∧ monthLength 2100 2 = 28 ∧ monthLength 2000 2 = 29
      ∧ (⟨2199, 12, 31⟩ : Date).next = (⟨2000, 1, 1⟩, true) := by decide +kernel
theorem test_crystalTick_takesClockSet :
    (after .crystalTick (State.reset.onClk fun k =>
      { k with pendingSet := some (⟨2024, 2, 29⟩, 360000) })).clk.valid = true := by decide +kernel
theorem test_clockSet_refusesLeapDayOfOrdinaryYear :
    ((after (.clockSet 1 [0x07, 0xE7, 2, 29, 0, 0, 0]) State.reset).lnk.output.map fun f => f.payload.getD 0 0) = [4]
      := by decide +kernel
/-- The fifth counted crossing at 50 Hz makes the tick (R73). -/
theorem test_zeroCrossing_fifthTicks :
    (after .zeroCrossing (State.reset.onClk fun k =>
      { k with source := .mains, mainsCount := 4, sinceCrossing := 20 })).seq.tick = 1 := by decide +kernel
theorem test_planForce_forces :
    (after (.planForce 1 [2]) (inMode .flash running)).sch.source = some .forced := by decide +kernel

/-! ### The sequencer and the plans -/

theorem test_demandPlace_setsDemand : ((after (.demandPlace 1 [2]) running).group 1).demand = true := by decide +kernel
/-- Case A of 3.9: e = 800 of C = 900 with K_max 180 gives H = 100; case B: e = 300 gives S = 180 (R54). -/
theorem test_budgets_workedCases :
    desiredPosition 365500 200 900 = 800 ∧ budgets .shortest 900 180 800 = (0, 100)
      ∧ desiredPosition 365000 200 900 = 300 ∧ budgets .shortest 900 180 300 = (180, 0) := by decide
/-- The odd cycle of R54: e = 150 of 301 shortens, e = 151 lengthens by 150. -/
theorem test_budgets_oddCycle :
    budgets .shortest 301 200 150 = (150, 0) ∧ budgets .shortest 301 200 151 = (0, 150) := by decide
/-- With IG(1,2) = 50 the gaining green waits for t0 + 50 (R28). -/
theorem test_stageChangeStart_greenInstant :
    ((after .stageChangeStart (running.onSeq fun q => { q with tick := 500, endDue := some ⟨1, some 2, none⟩ })).seq.change.map
      fun ch => (ch.t0, ch.losing, ch.gaining)) = some (500, [0], [(1, 550)]) := by decide +kernel
theorem test_stageChangeStart_losingEntersAmber :
    ((after .stageChangeStart (running.onSeq fun q => { q with endDue := some ⟨1, some 2, none⟩ })).group 0).colour = .amber
      := by decide +kernel
/-- Entry 1 as the decision entry of the next cycle, with L in the last window: its skip point lies in the next cycle
(R57), so no decision is taken in this one. -/
theorem test_skipPoint_ofNextCycle :
    (running.onSeq fun q =>
      { q with active := some 1, pos := some 500, decision := some 1, shorten := 40, allowance := 40 }).skipDue = false ∧
    (running.onSeq fun q =>
      { q with active := some 1, pos := some 260, decision := some 1, shorten := 40, allowance := 40 }).skipDue = true := by
  decide +kernel
/-- A gap-out ends the running stage toward the candidate (R36). -/
theorem test_gapOut_endDue :
    (after .gapOut (running.onGroup 1 fun r => { r with demand := true })).seq.endDue = some ⟨1, some 2, none⟩ := by decide +kernel
theorem test_amberEnd_entersRed :
    ((after (.amberEnd 0) (running.onGroup 0 fun r => { r with colour := .amber, amberInForce := 30, timeIn := 30 })).group 0).colour
      = .red := by decide +kernel
theorem test_greenInstant_clearsDemandAndLatch :
    ((after (.greenInstant 1) ((running.onGroup 1 fun r => { r with demand := true, latch := true }).onSeq fun q =>
      { q with change := some ⟨1, 0, [], [(1, 0)], 0⟩ })).group 1) =
      { GroupRun.reset with colour := .green, minInForce := 40 } := by decide +kernel

/-! ### Relays, lamps and cables -/

/-- A pull-in that voltage completes: HELD, CLOSED, and one more operation (R104, R110). -/
theorem test_voltageIndication_completesPullIn :
    ((after (.voltageIndication 0 .full) ((proven running).onChan 0 fun r =>
      { r with relay := .pullingIn, drive := .full, fullTime := some 10, proof := .opened, limit := some ⟨10, 60⟩ })).chan 0).relay
      = .held := by decide +kernel
/-- FULL at a released GREEN channel is foreign voltage: the cabinet goes dark (R109, R159). -/
theorem test_voltageIndication_foreignGreen :
    (after (.voltageIndication 2 .full) (proven running)).sup.reason = some .foreignGreen := by decide +kernel
/-- The example of 7.8: with Iref 1600 and n = 4, 1610 mA is GOOD and 1180 mA PARTIAL with h = 3 (R124). -/
theorem test_sample_workedExample :
    sampleCategory 1610 4 1600 = .good ∧ sampleCategory 1180 4 1600 = .partialFail ∧ sampleEstimate 1180 4 1600 = 3
      ∧ sampleEstimate 1190 4 1600 = 3 ∧ sampleEstimate 1250 4 1600 = 3 := by decide
/-- A GOOD sample of 1610 tracks by 10 / 64, which is 0; one of 1800 by 3 (R123). -/
theorem test_sample_tracking : trackReference .learn 1610 1600 = 1600 ∧ trackReference .learn 1800 1600 = 1603 := by decide
/-- The learning set of 7.8: seven samples, then the eighth gives Iref = 12,880 / 8 = 1610 (R121). -/
theorem test_sample_learningCompletes :
    (LampRec.learnSample { LampRec.reset with learn := .learning 7, set := some ⟨11260, 1598, 1624⟩ } 1620).iref = some 1610
      := by decide
/-- A LOOP of limit 50: 51 fails, 26 is marginal, 25 passes; INSULATION of limit 20: 19 fails, 39 is marginal (R142). -/
theorem test_classify_limits :
    classify .loop 51 50 0 = .suspect ∧ classify .loop 51 50 1 = .fault ∧ classify .loop 26 50 0 = .passMarginal
      ∧ classify .loop 25 50 0 = .pass ∧ classify .insulation 19 20 0 = .suspect
      ∧ classify .insulation 39 20 0 = .passMarginal ∧ classify .insulation 40 20 0 = .pass := by decide

/-- A new period that finds the sweep at its end lets it end at the next tenth tick (R148). -/
theorem test_sweepStart_endsAtNextTick :
    let s := after (.sweepStart 1 [0, 1]) (running.onCbt fun b => { b with period := some 5, sweepTime := 700 })
    s.sweepEndDue = false ∧ (s.onCbt Cbt.tick).sweepEndDue = true := by decide +kernel
/-- A sweep that a structural commit began anew adds to no starved count (R154). -/
theorem test_sweepEnd_uncounted :
    let s (u : Bool) := after .sweepEnd (running.onCbt fun b => { b with period := some 1, sweepTime := 600, uncounted := u })
    ((s true).result 0).starved = 0 ∧ ((s false).result 0).starved = 1 := by decide +kernel
/-- The re-proof ends a relay fault that it does not find: FAIL_TO_CLOSE behind an undriven coil, FOREIGN_VOLTAGE behind a
driven one at FULL (R109). -/
theorem test_reproof_clearsFaults :
    let s (d : Drive) (i : Level) (f : RelayFault) := ((running.onContactor fun k => { k with state := .pullingIn }).onChan 0
      fun r => { r with drive := d, indication := i, fault := f }).reproveAll
    ((s .off .none .failToClose).chan 0).fault = .none ∧ ((s .full .full .foreignVoltage).chan 0).fault = .none ∧
      ((s .full .none .failToClose).chan 0).fault = .failToClose := by decide +kernel

/-! ### The cabinet -/

theorem test_start_entersCheck :
    (after (.start 1 []) (parked.onSup fun u => { u with supplyPresent := true })).sup.mode = .startupCheck := by decide +kernel
theorem test_conflictFound_darkens :
    (after (.conflictFound 0 1) (running.onSup fun u => { u with conflicts := [⟨0, 1, 50, false⟩] })).sup.reason
      = some .conflict := by decide +kernel
theorem test_supplyLoss_savesStartup :
    (after .supplyLoss (running.onSup fun u => { u with supplyGap := 200 })).sup.saved = some .startup := by decide +kernel
/-- A second red failure leaves the latched FLASH of a lockout waiting in STARTUP_RED (R163, R168). -/
theorem test_redFailure_keepsWaitingLockout :
    (after (.redFailure 0) (inMode .startupRed ((running.onGroup 0 fun r => { r with redHealth := .deficient }).onSup fun u =>
      { u with grace := u.grace.put 0 (.running 1), flashNext := some (some .lockout, true) }))).sup.flashNext
      = some (some .lockout, true) := by decide +kernel
/-- A commit that takes a minute off the probation is judged at the next tenth tick, not at this one (R157). -/
theorem test_probationExpiry_waitsAfterCommit :
    let s := { (running.onSup fun u => { u with recovering := true, probation := 8400 }) with
      cfg := { running.cfg with pendingCommit := some { junction.tm with
        cabinet := { junction.tm.cabinet with probation := 14 } } } }
    s.applyPending.probationDue = false ∧ (s.applyPending.onSup fun u => u.tick false).probationDue = true := by decide +kernel
theorem test_modeSet_normalClears : (after (.modeSet 1 [0]) running).sup.mode = .clearing := by decide +kernel
/-- The full table of ACTIVE SAFETY entries refuses a newcomer (R178). -/
theorem test_report_overflow :
    (({ Flt.reset with entries := List.replicate 64 (entry .redDeficient (.group 0) true true false) }).report .conflict
      (.pair 0 1) true (.invalid 0)).overflow = true := by decide +kernel

/-! ### Witnesses: states and operands that meet the hypotheses of each obligation, clause by clause -/

/-- The junction in NORMAL with P2 active, S1 running and its entry 1 the current and the decision entry. -/
def coordinated : State :=
  running.onSeq fun q =>
    { q with active := some 1, pos := some 300, decision := some 1, reached := true, allowance := 0 }

/-- Bodies of one byte at the ends of a range of numbers. -/
def ends (n : Nat) : List (List Byte) := [[0], [1], [BitVec.ofNat 8 n], [BitVec.ofNat 8 (n + 1)]]

theorem witness_StepRunsFrontCommand :
    ({ running with pending := [.gapOut, .maxOut] } : State).pending = .gapOut :: [.maxOut] := rfl
theorem witness_IdleStep :
    State.reset.pending = [] ∧ State.reset.firstDue = none ∧
      ((State.reset.onLnk fun l => { l with input := [⟨1, 2, []⟩] }).firstDue = some .requestTaken) := by decide +kernel
theorem witness_safe : parked.evalAllRedHealth.safe := by
  refine ⟨⟨?_, ?_⟩, ?_, ?_, ?_, ⟨?_, ?_⟩, ⟨?_, ?_, ?_⟩, ⟨?_, ?_, ?_, ?_⟩, ?_, ?_⟩ <;>
    first
      | decide +kernel
      | (unfold State.coilSafe; decide +kernel)
      | (unfold State.followsColours; decide +kernel)
      | (unfold State.handedOn; decide +kernel)
theorem witness_step : ∃ t, step parked = .next t := ⟨_, rfl⟩
theorem witness_InhibitedGroup :
    ((running.onGroup 1 fun r => { r with inhibited := true }).group 1).inhibited = true ∧
      ∃ t, exec .gapOut (running.onGroup 1 fun r => { r with inhibited := true }) = .next t := ⟨by decide +kernel, _, rfl⟩
theorem witness_ActiveSafetyEntry :
    let e := entry .conflict (.pair 0 1) true true false
    e ∈ [e] ∧ e.active = true ∧ e.safety = true := by decide
theorem witness_Report :
    let e := entry .linkBreak .nothing false true false
    ((∀ x ∈ ([] : List FaultEntry), ¬(x.kind = .linkBreak ∧ x.subject = .nothing)) ∧ ([] : List FaultEntry).length < 64) ∧
      (∀ x ∈ List.replicate 63 (entry .testStarved (.entry 0) false true false),
        ¬(x.kind = .linkBreak ∧ x.subject = .nothing)) ∧
      ([e] = [] ++ e :: [] ∧ e.kind = .linkBreak ∧ e.subject = .nothing) := by decide +kernel
theorem witness_FullTable :
    let old (active acked : Bool) := entry .testStarved (.entry 0) false active acked
    let others := List.replicate 63 (entry .conflict (.pair 0 1) true true false)
    (∀ b c : Bool, (old b c :: others).length = 64 ∧
      ∀ x ∈ old b c :: others, ¬(x.kind = .linkBreak ∧ x.subject = .nothing)) ∧
      ((old false true).active = false ∧ (old false true).acked = true) ∧
      ((old false false).active = false ∧ ∀ x ∈ old false false :: others, ¬(x.active = false ∧ x.acked = true)) ∧
      ((old true false).active = true ∧ (old true false).safety = false ∧ ∀ x ∈ old true false :: others, x.active = true) ∧
      (∀ x ∈ List.replicate 64 (entry .conflict (.pair 0 1) true true false), x.active = true ∧ x.safety = true) := by
  decide +kernel
theorem witness_Clear :
    let e := entry .linkBreak .nothing false true false
    ([e] = [] ++ e :: [] ∧ e.kind = .linkBreak ∧ e.subject = .nothing ∧ e.active = true) ∧
      (∀ x ∈ [{ e with active := false }], x.kind = .linkBreak → x.subject = .nothing → x.active = false) ∧
      ([e] : List FaultEntry).length < 64 := by decide +kernel
/-- The hypothesis `takes` of every request, at both ends of the tags and of the bodies. -/
theorem witness_takes :
    State.reset.takes 1 [] ∧ State.reset.takes 255 (List.replicate 240 0) ∧ parked.takes 1 [1] ∧ running.takes 1 [1, 1] ∧
      coordinated.takes 1 [1] := by
  unfold State.takes State.betweenSteps; decide +kernel
/-- FAULT_ACK: the last kind with its subject, and a kind beyond the last. -/
theorem witness_FaultAck :
    parseKey [23, 0, 0, 0] = some (.recoveryLockout, .nothing) ∧ parseKey [1, 3, 0, 1] = none ∧
      parseKey [24, 0, 0, 0] = none ∧ parseKey [1, 3, 2, 1] = some (.conflict, .pair 0 1) := by decide +kernel
theorem witness_AttentionPulseEnd : (State.reset.onFlt fun f => { f with pulse := some 250 }).flt.pulse = some 250 := rfl
/-- An addition in UNCONFIGURED, with three slots free for its notice and with two. -/
theorem witness_AttentionNotice :
    let s (n : Nat) := (parked.onSup fun u => { u with supplyPresent := true, supplyGap := 200 }).onLnk fun l =>
      { l with notices := true, output := List.replicate n ⟨1, 0x82, []⟩ }
    ∀ n ∈ [5, 6], (s n).betweenSteps ∧ (s n).sup.mode = .unconfigured ∧ (s n).sup.supplyPresent = true ∧
      200 ≤ (s n).sup.supplyGap ∧ (s n).flt.entries.length < 64 ∧ (s n).lnk.notices = true ∧
      ∀ e ∈ (s n).flt.entries, ¬(e.kind = .supplyLoss ∧ e.subject = .nothing) := by
  unfold State.betweenSteps; decide +kernel
theorem witness_UnservableRequest :
    (Instr.status 1 []).frameOf = some (1, []) ∧
      (State.reset.onLnk fun l => { l with reserved := 8 }).lnk.freeSlots = 0 ∧
      240 < (List.replicate 241 (0 : Byte)).length := by decide +kernel
theorem witness_ReceivedFrame :
    State.reset.betweenSteps ∧ crc16 [1, 2, 0] ≠ 0 ∧ (crc16 ((1 : Byte) :: 2 :: BitVec.ofNat 8 0 :: [])) = crc16 [1, 2, 0] := by
  unfold State.betweenSteps; decide +kernel
theorem witness_Assembler :
    let s (got : List Byte) := State.reset.onLnk fun l => { l with assembler := .assembling got }
    State.reset.lnk.assembler = .hunt ∧ (∀ got ∈ [[], [1], [1, 2], [1, 2, 0], [1, 2, 0, 9]], (s got).lnk.assembler = .assembling got) ∧
      (240 < (241#8).toNat ∧ (240#8).toNat ≤ 240) ∧ ([1, 2, 0] : List Byte).length + 1 < (([1, 2, 0] : List Byte).getD 2 0).toNat + 5 ∧
      ([1, 2, 0, 9] : List Byte) = 1 :: 2 :: 0 :: [] ++ [9] := by decide +kernel
theorem witness_InterbyteGap :
    let s := State.reset.onLnk fun l => { l with assembler := .assembling [1], interbyte := 5, output := [⟨1, 0x82, []⟩] }
    s.lnk.assembler = .assembling [1] ∧ s.lnk.interbyte = 5 ∧ s.lnk.output = ⟨1, 0x82, []⟩ :: [] := by decide +kernel
theorem witness_LinkBreak :
    let s (n : Nat) (declared : Bool) := running.onLnk fun l => { l with line := .space n declared }
    let idle (n : Nat) (declared : Bool) := State.reset.onLnk fun l => { l with line := .space n declared }
    ((s 25 false).betweenSteps ∧ (s 25 false).lnk.line = .space 25 false ∧ (s 25 false).cabinet.breakAction = .none ∧
      (s 25 false).waitingSupply = false ∧ (s 25 false).flt.entries.length < 64) ∧
    (running.lnk.line = .mark ∧ (s 24 false).lnk.line = .space 24 false ∧ (s 25 true).lnk.line = .space 25 true) ∧
    (∀ x ∈ [(0, false), (24, false), (25, true)], (idle x.1 x.2).pending = [] ∧ (idle x.1 x.2).firstDue = none) := by
  unfold State.betweenSteps; decide +kernel
theorem witness_OldestFrame :
    let s (code : Byte) := State.reset.onLnk fun l => { l with input := [⟨1, code, []⟩] }
    (∀ code ∈ [0x01#8, 0x64#8, 0x7F#8], (s code).lnk.input = ⟨1, code, []⟩ :: [] ∧ (s code).lnk.freeSlots ≠ 0) ∧
      catalogued 1 0x64 [] = some (.noticeEnable 1 []) ∧ catalogued 1 0x7F [] = none := by decide +kernel
theorem witness_EditRecords :
    RecordClass.ofCode 13 = some .cabinet ∧ RecordClass.ofCode 14 = none ∧ RecordClass.cabinet.count = 1 ∧
      (ConfigSet.empty.read .cabinet 1).isSome = true ∧ (ConfigSet.empty.read .probe 64).isSome = true := by decide +kernel
theorem witness_EditWrite :
    ∃ new, ConfigSet.empty.write .stage 16 [1, 16] = .ok (new, false) ∧ new.read .stage 16 = some [1, 16] ∧
      (∃ st, ConfigSet.empty.write .stage 16 [1, 17] = .error st) ∧ (RecordClass.stage ≠ .plan) ∧
      ∀ k ∈ [13#8, 14#8], (State.reset.onCfg fun c => { c with buffer := some ConfigSet.empty }).takes 1 [k] :=
  ⟨{ ConfigSet.empty with tm := { Timing.empty with stages := (Tab.fill 16 []).put 15 [15] } },
    by decide +kernel, by decide +kernel, ⟨.outOfRange, by decide +kernel⟩, by decide,
    by unfold State.takes State.betweenSteps; decide +kernel⟩
theorem witness_RecordsInRange :
    let t := GroupTiming.empty
    let st := ChanSettings.empty
    (40 ≤ t.minGreen ∧ t.minGreen ≤ 600 ∧ 20 ≤ t.amber ∧ t.amber ≤ 60 ∧ t.redAmber ≤ 30 ∧ 30 ≤ t.clearance ∧
      t.clearance ≤ 300 ∧ 5 ≤ t.extension ∧ t.extension ≤ 100 ∧ 1 ≤ t.redMin ∧ t.redMin ≤ 8 ∧ t.redFailGrace ≤ 600) ∧
    (10 ≤ st.pullIn ∧ st.pullIn ≤ 250 ∧ 10 ≤ st.release ∧ st.release ≤ 250 ∧ 30 ≤ st.holdDuty ∧ st.holdDuty ≤ 100 ∧
      st.holdDuty % 5 = 0 ∧ st.wear < 4294967296 ∧ 20 ≤ st.fixedRef ∧ st.fixedRef ≤ 4000 ∧ 2 ≤ st.confirm ∧ st.confirm ≤ 15) ∧
    (ChannelRec.empty.group = none ∧ ChannelRec.empty.aspect = none) ∧ (1 ≤ ProbeRec.empty.limit) ∧
      ∀ g : Gid, (Tab.fill 16 300).get g ≤ 300 := by decide +kernel
theorem witness_RecordsInRangeOfListClasses :
    (let r : GroupRec := ⟨some .traffic, [0, 47], [1], [2]⟩
     r.red.Nodup ∧ r.amber.Nodup ∧ r.green.Nodup ∧ r.red.length ≤ 16 ∧ r.amber.length ≤ 16 ∧ r.green.length ≤ 16) ∧
    ([0, 15] : List Gid).Pairwise (· < ·) ∧ ([47, 0] : List Ch).Nodup ∧
    (∀ c ∈ [0, 300, 2400], let r : PlanRec := ⟨c, 2399, 30, .shortest, [⟨15, 2400, 1200, true, true⟩, ⟨0, 1, 50, false, false⟩]⟩
     (r.cycle = 0 ∨ 300 ≤ r.cycle ∧ r.cycle ≤ 2400) ∧ r.offset ≤ 2399 ∧ 5 ≤ r.pmax ∧ r.pmax ≤ 30 ∧ r.entries.length ≤ 16 ∧
      ∀ e ∈ r.entries, 1 ≤ e.endPos ∧ e.endPos ≤ 2400 ∧ 50 ≤ e.maxGreen ∧ e.maxGreen ≤ 1200) ∧
    (let r : DetectorRec := ⟨some .button, .activeLow, 500, [0, 1, 2, 15], 255, 0, none, 255⟩
     10 ≤ r.debounce ∧ r.debounce ≤ 500 ∧ r.served.Pairwise (· < ·) ∧ r.served.length ≤ 4 ∧ r.maxPresence ≤ 255 ∧
      r.maxAbsence ≤ 255 ∧ r.priorityMax ≤ 255) ∧
    (⟨0xFF, 1439, .flash⟩ : ScheduleRec).minute ≤ 1439 ∧
    (let r : SpecialRec := ⟨12, 31, some 2199⟩
     1 ≤ r.month ∧ r.month ≤ 12 ∧ 1 ≤ r.day ∧ r.day ≤ 31 ∧ ∀ y, r.year = some y → 2000 ≤ y ∧ y ≤ 2199) ∧
    (let r := { CabinetRec.empty with flashRate := 90, startFlash := 600, startRed := 300, attempts := 5, holdoff := 60, probation := 1 }
     50 ≤ r.flashRate ∧ r.flashRate ≤ 90 ∧ r.startFlash ≤ 600 ∧ 30 ≤ r.startRed ∧ r.startRed ≤ 300 ∧ r.attempts ≤ 5 ∧
      1 ≤ r.holdoff ∧ r.holdoff ≤ 60 ∧ 1 ≤ r.probation ∧ r.probation ≤ 60) := by
  refine ⟨by decide +kernel, by decide, by decide, by decide +kernel, by decide, by decide, ?_, by decide +kernel⟩
  exact ⟨by decide, by decide, by decide, by decide, fun y h => by cases h; decide⟩
/-- Values beyond both ends of their ranges: a clamp moves them. -/
theorem witness_ClampedRecords :
    (let r := { GroupTiming.empty with minGreen := 65535, amber := 0, redAmber := 255, clearance := 29, extension := 101, redMin := 9, redFailGrace := 601 }
     r.minGreen < 65536 ∧ r.amber < 256 ∧ r.redAmber < 256 ∧ r.clearance < 65536 ∧ r.extension < 256 ∧ r.redMin < 256 ∧
      r.redFailGrace < 65536) ∧
    (let r := { ChanSettings.empty with pullIn := 9, release := 251, holdDuty := 57, fixedRef := 65535, confirm := 1 }
     r.pullIn < 256 ∧ r.release < 256 ∧ r.holdDuty < 256 ∧ r.wear < 4294967296 ∧ r.fixedRef < 65536 ∧ r.confirm < 256) ∧
    (let r : ChannelRec := ⟨some 0, some .green, .led, 9⟩; (r.group = none ↔ r.aspect = none) ∧ r.heads < 256) ∧
    (⟨none, 0, none, 0⟩ : ProbeRec).limit < 65536 ∧
    (∀ g : Gid, (Tab.fill 16 301).get g < 65536 ∧ (Tab.fill 16 300).get g = min 300 ((Tab.fill 16 301).get g)) ∧
    (∀ c ∈ [0, 1, 2401], let r : PlanRec := ⟨c, 2400, 4, .shortest, [⟨0, 0, 1201, false, false⟩]⟩
     r.cycle < 65536 ∧ r.offset < 65536 ∧ r.pmax < 256 ∧ r.entries.length ≤ 16 ∧
      ∀ e ∈ r.entries, e.endPos < 65536 ∧ e.maxGreen < 65536) ∧
    (let r := { DetectorRec.empty with debounce := 501, served := [0, 3] }
     r.debounce < 65536 ∧ r.served.Pairwise (· < ·) ∧ r.served.length ≤ 4 ∧ r.maxPresence ≤ 255) ∧
    (⟨0, 1440, .flash⟩ : ScheduleRec).minute < 65536 ∧
    (let r := { CabinetRec.empty with flashRate := 49, startFlash := 601, startRed := 29, attempts := 6, holdoff := 0, probation := 61 }
     r.flashRate < 256 ∧ r.startFlash < 65536 ∧ r.startRed < 65536 ∧ r.attempts < 256 ∧ r.holdoff < 256 ∧
      r.probation < 256) := by decide +kernel
theorem witness_EditCommit :
    ConfigSet.empty.check = none ∧ ({ junction with tm := Timing.empty } : ConfigSet).check.isSome = true ∧
      parked.cfg.pendingCommit = none ∧ running.sup.mode.runs = true ∧ ConfigSet.empty.st ≠ junction.st := by decide +kernel
/-- The junction without probes, whose cables it does not say. -/
def buildable : ConfigSet := { junction with st := { junction.st with probes := Tab.fill 64 ProbeRec.empty } }

/-- A structural commit in the modes that take one, with a welded relay that becomes a GREEN channel and with none. -/
theorem witness_StructuralCommit :
    let s (m : Mode) (f : RelayFault) := inMode m
      ({ State.reset with cfg := { State.reset.cfg with buffer := some buildable } }.onChan 2 fun r => { r with fault := f })
    buildable.check = none ∧ ∀ m ∈ [Mode.unconfigured, .flash, .dark],
      ((s m .failToOpen).takes 1 [] ∧ (s m .failToOpen).cfg.pendingCommit = none ∧ buildable.st ≠ (s m .none).cfg.running.st ∧
        ((s m .failToOpen).chan 2).fault = .failToOpen ∧ ((s m .failToOpen).chanRec 2).aspect ≠ some .green ∧
        (buildable.st.channels.get 2).aspect = some .green ∧ (s m .failToOpen).waitingSupply = false) ∧
      (s m .none).takes 1 [] ∧ (∀ c, ((s m .none).chan c).fault = .none) ∧ (s m .none).sup.reason ≠ some .hostRequest := by
  unfold State.takes State.betweenSteps; decide +kernel
theorem witness_CrystalTick :
    let s (d : Date) (tod : Nat) := State.reset.onClk fun k => { k with date := d, tod := tod }
    (s ⟨2000, 1, 1⟩ 863998).clk.source = .crystal ∧ (s ⟨2000, 1, 1⟩ 863999).clk.tod + 1 = 864000 ∧
      (s ⟨2199, 12, 31⟩ 863999).clk.date = ⟨2199, 12, 31⟩ ∧ (s ⟨2000, 2, 29⟩ 863999).clk.date.day ≤ monthLength 2000 2 ∧
      (State.reset.onClk fun k => { k with preference := .mains, stability := 2000 }).cfg.pendingCommit = none ∧
      State.reset.betweenSteps := by
  unfold State.betweenSteps; decide +kernel
/-- The counts of a tick in which the mode stays, clause by clause (R34, R35, R39, R50, R58, R60, R88, R148, R160, R165
to R167): the premises hold and the tick gives the rule's value. -/
theorem witness_TickCountsOfThePlan :
    let s (f : Seq → Seq) := coordinated.onSeq fun q => f { q with pos := some 298, reached := false }
    let t (f : Seq → Seq) := after .crystalTick (s f)
    let serving : List PriorityReq := [⟨2, 1, 2550⟩, ⟨1, 1, 7⟩]
    (∀ f ∈ [id, fun q => { q with hold := some 3 }, fun q => { q with pos := some 599 }], (s f).betweenSteps ∧
      (s f).clk.source = .crystal ∧ (s f).sup.mode = .normal ∧ (t f).sup.mode = .normal ∧
      (s f).activePlan.coordinated = true) ∧
    ((t id).seq.pos = some 299 ∧ (t id).seq.reached = false ∧ (t id).seq.cycleStart = false) ∧
    (let u := t fun q => { q with hold := some 3 }
     u.seq.hold = some 2 ∧ u.seq.pos = some 298) ∧
    (let u := t fun q => { q with pos := some 599 }
     u.seq.pos = some 0 ∧ u.seq.cycleStart = true ∧ u.seq.changePoint = true) ∧
    (let u := t fun q => { q with pos := some 299, endDue := some ⟨1, some 2, some 300⟩ }
     u.seq.pos = some 300 ∧ u.seq.reached = true ∧ u.seq.decision = some 1 ∧ u.seq.endDue = some ⟨1, some 2, none⟩) ∧
    (let u := t fun q => { q with pos := some 299, priority := serving }
     u.seq.reached = false ∧ u.seq.decision = some 2 ∧ u.seq.allowance = 0 ∧
       u.seq.priority = [⟨2, 1, 2550⟩, ⟨1, 1, 7⟩]) := by
  unfold State.betweenSteps; decide +kernel
theorem witness_TickCountsOfTheTimers :
    let held := (running.onInput 0 fun r => { r with accepted := true }).onSeq fun q => { q with maxTimer := some 1200, gap := 3 }
    let wanted := (running.onGroup 1 fun r => { r with demand := true }).onSeq fun q => { q with gap := 3 }
    let soft := (inMode .flash running).onSup fun u =>
      { u with reason := some .redFail, holdoff := some 5, grace := u.grace.put 0 (.running 600), phaseTime := 9 }
    let back := (running.onSup fun u => { u with recovering := true, probation := 5 }).onCbt fun b => { b with period := some 60, sweepTime := 8 }
    (∀ s ∈ [held, wanted, soft, back], s.betweenSteps ∧ s.clk.source = .crystal ∧
      (after .crystalTick s).sup.mode = s.sup.mode) ∧
    (held.gapHold = some 5 ∧ (after .crystalTick held).seq.gap = 5 ∧ (after .crystalTick held).seq.maxTimer = some 1200 ∧
      ((after .crystalTick held).input 0).stateTime = 1 ∧ held.inputUsed 5 = false) ∧
    (wanted.gapHold = none ∧ (after .crystalTick wanted).seq.gap = 2 ∧ (after .crystalTick wanted).selects = true ∧
      (after .crystalTick wanted).seq.maxTimer = some 0 ∧ (after .crystalTick wanted).seq.maxLimit = 300) ∧
    (soft.waitingSupply = false ∧ soft.sup.latched = false ∧ (after .crystalTick soft).sup.holdoff = some 6 ∧
      (after .crystalTick soft).sup.grace.get 0 = .running 600 ∧ (after .crystalTick soft).sup.phaseTime = 9) ∧
    ((after .crystalTick back).sup.probation = 6 ∧ (after .crystalTick back).sup.holdoff = none ∧
      (after .crystalTick back).cbt.sweepTime = 9 ∧
      (after .crystalTick (inMode .startupFlash running)).sup.phaseTime = 1) := by
  unfold State.betweenSteps; decide +kernel
/-- At 50 Hz a crossing 15 ms after the last counted one is not counted and one after 16 ms is; the fifth counted one makes
the tick, at which G1's time in state advances and the mode stays; with the source CRYSTAL one after 25 ms ends the
stability time (R73). -/
theorem witness_ZeroCrossing :
    let s (src : ClockSource) (gap count : Nat) := running.onClk fun k =>
      { k with source := src, freq := .hz50, sinceCrossing := gap, mainsCount := count, stability := 9 }
    (∀ src ∈ [ClockSource.mains, .crystal], ∀ gap ∈ [15, 16, 20, 24, 25], ∀ count ∈ [3, 4],
      (s src gap count).betweenSteps) ∧
    ((s .mains 15 4).clk.sinceCrossing * (s .mains 15 4).clk.freq.hertz < 800 ∧
      (after .zeroCrossing (s .mains 15 4)).clk.mainsCount = 4) ∧
    (800 ≤ (s .mains 16 3).clk.sinceCrossing * (s .mains 16 3).clk.freq.hertz ∧
      (after .zeroCrossing (s .mains 16 3)).clk.mainsCount = 4) ∧
    ((s .mains 20 4).clk.freq.perTick ≤ (s .mains 20 4).clk.mainsCount + 1 ∧
      (after .zeroCrossing (s .mains 20 4)).seq.tick = running.seq.tick + 1 ∧
      (after .zeroCrossing (s .mains 20 4)).clk.mainsCount = 0 ∧
      (after .zeroCrossing (s .mains 20 4)).sup.mode = (s .mains 20 4).sup.mode ∧
      ((after .zeroCrossing (s .mains 20 4)).group 0).timeIn = 41) ∧
    ((after .zeroCrossing (s .crystal 24 0)).clk.stability = 9 ∧ (after .zeroCrossing (s .crystal 25 0)).clk.stability = 0) := by
  unfold State.betweenSteps; decide +kernel
theorem witness_MainsLoss :
    let s (n : Nat) := State.reset.onClk fun k => { k with source := .mains, divider := n }
    (s 0).betweenSteps ∧ (s 0).clk.source = .mains ∧ (s 0).clk.sinceCrossing = 50 ∧
      (s 3276999).clk.divider < 1000 * (s 3276999).clk.length ∧ 1000 * (s 3277000).clk.length ≤ (s 3277000).clk.divider ∧
      50 ≤ ((s 0).onSup fun u => { u with supplyGap := 50 }).sup.supplyGap := by
  unfold State.betweenSteps; decide +kernel
theorem witness_Start :
    let s := parked.onSup fun u => { u with supplyPresent := true }
    s.takes 1 [] ∧ s.sup.mode = .unconfigured ∧ s.cfg.committed = true ∧ s.sup.supplyPresent = true ∧ s.out.trip = false ∧
      s.closesLater ∧ parked.sup.supplyPresent = false ∧ State.reset.cfg.committed = false := by
  unfold State.takes State.betweenSteps State.closesLater; decide +kernel
theorem witness_Restart :
    let s := inMode .dark running
    s.takes 1 [] ∧ s.waitingSupply = false ∧ s.restartRefused = false ∧ s.closesLater ∧ s.sup.mode = .dark ∧
      (s.onOut fun o => { o with trip := true }).restartRefused = true ∧
      (inMode .dark (parked.onSup fun u => { u with saved := some .startup })).waitingSupply = true := by
  unfold State.takes State.betweenSteps State.closesLater; decide +kernel
theorem witness_ModeSet :
    (∀ m ∈ [Mode.startupCheck, .startupFlash, .startupRed, .normal, .clearing, .flash, .dark],
      (inMode m running).takes 1 [1] ∧ (inMode m running).sup.mode = m ∧ (inMode m running).sup.mode ≠ .unconfigured ∧
        (inMode m running).waitingSupply = false) ∧
      ∀ x ∈ [SavedState.startup, .flash none false, .flash none true, .dark none false],
        (inMode .dark (parked.onSup fun u => { u with saved := some x })).waitingSupply = true := by
  unfold State.takes State.betweenSteps; decide +kernel
theorem witness_PlanForce :
    running.takes 1 [8] ∧ running.takes 1 [] ∧ running.cfg.pendingCommit = none ∧ (running.plan 7).entries = [] ∧ (running.plan 1).entries ≠ [] ∧ running.sup.mode ≠ .unconfigured := by
  unfold State.takes State.betweenSteps; decide +kernel
theorem witness_DemandPlace :
    (∀ b ∈ ends 16, running.takes 1 b) ∧ running.kind 15 = none ∧ running.kind 0 ≠ none ∧
      (running.group 0).colour = .green ∧ running.kind 1 ≠ none ∧ (running.group 1).colour ≠ .green := by
  unfold State.takes State.betweenSteps; decide +kernel
theorem witness_Maintenance :
    let b (op : Byte) : List Byte := [op, 0x80, 0, 0, 0, 0, 1]
    (∀ op ∈ [0#8, 1#8, 2#8, 3#8], running.takes 1 (b op)) ∧ maskHas (b 0) 0 = true ∧ maskHas (b 0) 47 = true ∧
      maskHas (b 0) 1 = false ∧ (∀ c ∈ ends 48, running.takes 1 c) ∧ running.redAmberSettled ∧
      (running.settings 0).refMode = .learn := by
  unfold State.takes State.betweenSteps State.redAmberSettled; decide +kernel

/-- The junction with every terminal quiet for a second, the bus free and nothing lit: its entries can be probed. -/
def quiet : State := { parked with now := 1000 }

theorem witness_SweepAndProbe :
    (∀ b ∈ ends 64, quiet.takes 1 b) ∧ (quiet.probeRec 63).kind = none ∧ (quiet.probeRec 2).kind = some .coupling ∧
      quiet.canStart 2 = true ∧ parked.canStart 2 = false ∧ parked.cbt.phase = .idle ∧
      (quiet.onCbt fun b => { b with phase := .closing }).cbt.phase ≠ .idle := by
  unfold State.takes State.betweenSteps; decide +kernel
theorem witness_Detector :
    let s (d : Det) (now was : Bool) (n : Nat) :=
      running.onInput d fun r => { r with reading := now, accepted := was, debounceTime := n }
    (running.detector 31).kind = none ∧
      (∀ d ∈ [(0 : Det), 1, 2], (running.detector d).kind ≠ none ∧ (s d true false 50).betweenSteps ∧
        (s d true false 50).listsSound ∧ ((s d true false 50).input d).reading ≠ ((s d true false 50).input d).accepted ∧
        ((s d true false 50).detector d).debounce ≤ ((s d true false 50).input d).debounceTime ∧
        ((s d true false 50).input d).nextMs = false) ∧
      (s 2 false true 50).input 2 ≠ running.input 2 ∧
      (2 : Det) ∉ running.seq.barred ∧ running.seq.priority.length < 4 ∧
      running.greenMember 0 = true ∧ running.greenMember 1 = false ∧ (running.detector 1).served = [1] ∧
      running.kind 1 = some .pedestrian ∧ (running.group 1).colour ≠ .green ∧
      (running.detector 2).target = some 1 ∧ running.seq.priority = [] ∧ running.seq.change = none ∧
      (after (.detectorAcceptedChange 2) (s 2 true false 50)).seq.endDue = some ⟨1, some 2, none⟩ := by
  unfold State.listsSound State.betweenSteps; decide +kernel
/-- The last request's end, in both kinds of plan, at the two ends of entry 2's window, with and without S2 running. -/
theorem witness_LastRequestLeaves :
    let s (p : Pln) (l : Nat) (run : Stg) := (running.onInput 2 fun r => { r with accepted := true, debounceTime := 50 }).onSeq
      fun q => { q with active := some p, pos := some l, running := some run, priority := [⟨2, 1, 0⟩] }
    (∀ l ∈ [300, 599], ∀ run : Stg, (s 1 l run).betweenSteps ∧ (s 1 l run).listsSound ∧ (s 1 l run).sup.mode = .normal ∧
      ((s 1 l run).detector 2).kind = some .priority ∧ (s 1 l run).seq.priority = [⟨2, 1, 0⟩] ∧
      (s 1 l run).activePlan.coordinated = true ∧ (s 1 l run).activePlan.entry? 1 = some ⟨0, 300, 50, true, true⟩ ∧
      (s 1 l run).activePlan.entry? 2 = some ⟨1, 600, 50, false, false⟩ ∧ (s 1 l run).seq.change = none ∧
      ((s 1 l run).input 2).reading = false ∧ ((s 1 l run).input 2).accepted = true) ∧
    (s 0 0 1).activePlan.isolated = true ∧
    (after (.detectorAcceptedChange 2) (s 1 299 1)).seq.endDue = some ⟨0, some 1, none⟩ ∧
    (after (.detectorAcceptedChange 2) (s 1 300 1)).seq.entry = some 2 := by
  unfold State.listsSound State.betweenSteps; decide +kernel
theorem witness_Stuck :
    let on := running.onInput 0 fun r => { r with accepted := true, stateTime := 3000 }
    let off := running.onInput 0 fun r => { r with stateTime := 72000 }
    let late := running.onSeq fun q => { q with priority := [⟨2, 1, 100⟩] }
    (on.betweenSteps ∧ on.listsSound ∧ on.seq.tickOpen = true ∧ (on.detector 0).kind ≠ none ∧ (on.input 0).fault = .none ∧
      (on.input 0).accepted = true ∧ 0 < (on.detector 0).maxPresence ∧
      (on.detector 0).maxPresence * 600 ≤ (on.input 0).stateTime) ∧
    (off.betweenSteps ∧ off.listsSound ∧ (off.input 0).accepted = false ∧ 0 < (off.detector 0).maxAbsence ∧
      (off.detector 0).maxAbsence * 36000 ≤ (off.input 0).stateTime) ∧
    (late.betweenSteps ∧ late.seq.priority = ⟨2, 1, 100⟩ :: [] ∧ 0 < (late.detector 2).priorityMax ∧
      10 * (late.detector 2).priorityMax ≤ 100 ∧ late.flt.entries.length < 64) := by
  unfold State.listsSound State.betweenSteps; decide +kernel
theorem witness_StageChangeStart :
    let s (b : Stg) := running.onSeq fun q => { q with endDue := some ⟨b, some 1, none⟩ }
    ∀ b : Stg, (s b).betweenSteps ∧ (s b).seq.tickOpen = true ∧ (s b).sup.mode = .normal ∧
      (s b).seq.endDue = some ⟨b, some 1, none⟩ ∧ (s b).seq.change = none ∧ (∀ g, ((s b).group g).colour ≠ .redAmber) ∧
      (∀ g, ((s b).group g).colour = .green → g ∉ (s b).stage b → ((s b).group g).minInForce ≤ ((s b).group g).timeIn) ∧
      ((s 0).seq.running = some 0 ∧ ∀ g ∈ (s 0).stage 0, ((s 0).group g).colour = .green) ∧ (s 1).seq.running ≠ some 1 := by
  unfold State.betweenSteps; decide +kernel
/-- The jump of an end set at a skip point: below its end position, below position C, and none once L has passed it
(R58). -/
theorem witness_StageChangeJump :
    let s (l e : Nat) := coordinated.onSeq fun q =>
      { q with pos := some l, shorten := 40, reached := false, endDue := some ⟨1, some 2, some e⟩ }
    (∀ p ∈ [(270, 300), (590, 600), (310, 300)], (s p.1 p.2).betweenSteps ∧ (s p.1 p.2).seq.tickOpen = true ∧
      (s p.1 p.2).sup.mode = .normal ∧ (s p.1 p.2).seq.change = none ∧ (s p.1 p.2).seq.running ≠ some 1 ∧
      (∀ g, ((s p.1 p.2).group g).colour ≠ .redAmber) ∧ (s p.1 p.2).activePlan.cycle = 600 ∧
      ∀ g, ((s p.1 p.2).group g).colour = .green → ((s p.1 p.2).group g).minInForce ≤ ((s p.1 p.2).group g).timeIn) ∧
    (let t := after .stageChangeStart (s 270 300)
     t.seq.pos = some 300 ∧ t.seq.shorten = 10) ∧
    (let t := after .stageChangeStart (s 590 600)
     t.seq.pos = some 0 ∧ t.seq.shorten = 30 ∧ t.seq.cycleStart = true) ∧
    (let t := after .stageChangeStart (s 310 300)
     t.seq.pos = some 310 ∧ t.seq.shorten = 40) := by
  unfold State.betweenSteps; decide +kernel
theorem witness_GainingGroups :
    let traffic (inh : Bool) := (running.onGroup 0 fun r => { r with colour := .red, inhibited := inh }).onSeq fun q =>
      { q with tick := 100, change := some ⟨0, 0, [], [(0, 120)], 0⟩ }
    let walk (inh : Bool) := (running.onGroup 1 fun r => { r with inhibited := inh }).onSeq fun q =>
      { q with tick := 100, change := some ⟨1, 0, [], [(1, 100)], 0⟩ }
    let joiner (inh : Bool) := (running.onGroup 0 fun r =>
      { r with colour := .redAmber, redAmberInForce := 20, timeIn := 20, inhibited := inh }).onSeq fun q => { q with joined := [(0, 80)] }
    let late := (running.onGroup 0 fun r => { r with colour := .red }).onSeq fun q => { q with tick := 100, dropped := [(0, 100)] }
    let lateWalk := running.onSeq fun q => { q with tick := 100, running := some 1, dropped := [(1, 100)] }
    (∀ inh, (traffic inh).betweenSteps ∧ (traffic inh).seq.gainingInstant 0 = some 120 ∧
      (traffic inh).kind 0 = some .traffic ∧ 0 < ((traffic inh).gt 0).redAmber ∧ ((traffic inh).group 0).colour = .red ∧
      120 ≤ (traffic inh).seq.tick + ((traffic inh).gt 0).redAmber) ∧
    (∀ inh, (walk inh).betweenSteps ∧ (walk inh).seq.gainingInstant 1 = some 100 ∧ 100 ≤ (walk inh).seq.tick ∧
      (walk inh).beforeGreen 1 = true) ∧
    (late.betweenSteps ∧ late.seq.endDue = none ∧ late.seq.joinable = some 0 ∧ (0 : Gid) ∈ late.stage 0 ∧
      late.seq.droppedInstant 0 = some 100 ∧ 0 < late.redAmberOf 0) ∧
    (lateWalk.seq.joinable = some 1 ∧ (1 : Gid) ∈ lateWalk.stage 1 ∧ lateWalk.seq.droppedInstant 1 = some 100 ∧
      lateWalk.redAmberOf 1 = 0) ∧
    (∀ inh, (joiner inh).betweenSteps ∧ (joiner inh).seq.gainingInstant 0 = none ∧ ((joiner inh).group 0).colour = .redAmber ∧
      ((joiner inh).group 0).redAmberInForce ≤ ((joiner inh).group 0).timeIn ∧ (joiner inh).seq.joinedInstant 0 = some 80) := by
  unfold State.betweenSteps; decide +kernel
theorem witness_AmbersEnd :
    let amber (m : Mode) := inMode m (running.onGroup 0 fun r => { r with colour := .amber, amberInForce := 30, timeIn := 30 })
    let clear (m : Mode) :=
      inMode m ((running.onGroup 1 fun r => { r with colour := .clear, clearanceInForce := 30, timeIn := 30 }).onGroup 0 fun r =>
        { r with colour := .red })
    let done := (running.onGroup 0 fun r => { r with colour := .red }).onSeq fun q => { q with change := some ⟨1, 0, [0], [], 40⟩ }
    (∀ m ∈ [Mode.normal, .clearing], (amber m).betweenSteps ∧ (amber m).seq.tickOpen = true ∧
      ((amber m).group 0).colour = .amber ∧ ((amber m).group 0).amberInForce ≤ ((amber m).group 0).timeIn ∧
      (clear m).betweenSteps ∧ ((clear m).group 1).colour = .clear ∧
      ((clear m).group 1).clearanceInForce ≤ ((clear m).group 1).timeIn ∧ (clear m).seq.clearingDue = false ∧
      ∀ k, k ≠ (1 : Gid) → ((clear m).group k).colour ≠ .amber ∧ ((clear m).group k).colour ≠ .clear) ∧
    (done.betweenSteps ∧ done.seq.change = some ⟨1, 0, [0], [], 40⟩ ∧
      ∀ g ∈ [(0 : Gid)], (done.group g).colour = .red ∨ (done.group g).colour = .dark) := by
  unfold State.betweenSteps; decide +kernel
/-- The completion of a change into S1 computes the allowance afresh where the current or the decision entry names S1; the
completion of one that a pass-over left behind keeps the allowance of the pass-over (R57, R68). -/
theorem witness_CompletionAllowance :
    let s (entry : Option Nat) (d : Nat) := (coordinated.onGroup 1 fun r => { r with colour := .red }).onSeq fun q =>
      { q with
        pos := some 20, reached := false, shorten := 60, allowance := 7, entry := entry, decision := some d
        change := some ⟨0, 0, [1], [], 40⟩ }
    (∀ p ∈ [(some 1, 2), (some 1, 1), (none, 1), (some 2, 2)], (s p.1 p.2).betweenSteps ∧ (s p.1 p.2).seq.tickOpen = true ∧
      (s p.1 p.2).sup.mode = .normal ∧ (s p.1 p.2).activePlan.coordinated = true) ∧
    ((s none 1).activePlan.entry? 1).map (·.stage) = some 0 ∧ ((s none 1).activePlan.entry? 2).map (·.stage) = some 1 ∧
    (∀ p ∈ [(some 1, 2), (some 1, 1), (none, 1)], (after .stageChangeComplete (s p.1 p.2)).seq.allowance = 60) ∧
    (after .stageChangeComplete (s (some 2) 2)).seq.allowance = 7 := by
  unfold State.betweenSteps; decide +kernel
/-- A plan taken in service in mid-change left no current entry; the list empties before that change into S1 ends: the
return makes entry 1 due and the decision entry, the completion computes its allowance, and the t0 of the end, which makes
no change, makes entry 1 the current entry (R40, R68, R57, R26). -/
theorem test_returnInMidChangeComputesAllowance :
    let s := (running.onInput 2 fun r => { r with accepted := true, debounceTime := 50 }).onSeq fun q =>
      { q with
        active := some 1, pos := some 20, shorten := 60, entry := none, decision := some 1, running := some 1
        change := some ⟨0, 0, [1], [], 40⟩, priority := [⟨2, 0, 0⟩] }
    let t1 := after (.detectorAcceptedChange 2) s
    let t2 := after .stageChangeComplete t1
    let t3 := after .stageChangeStart t2
    (t1.seq.priority = [] ∧ t1.seq.endDue = some ⟨0, some 1, none⟩ ∧ t1.seq.decision = some 1 ∧ t1.seq.entry = none) ∧
    t2.seq.allowance = 60 ∧ (t3.seq.entry = some 1 ∧ t3.seq.change = none ∧ t3.seq.allowance = 60) := by
  decide +kernel
theorem witness_IsolatedEnds :
    let s := running.onGroup 1 fun r => { r with demand := true }
    let out (t : State) := t.onSeq fun q => { q with maxTimer := some 300, maxLimit := 300 }
    s.seq.tickOpen = true ∧ s.sup.mode = .normal ∧ s.activePlan.isolated = true ∧ s.seq.change = none ∧
      s.seq.endDue = none ∧ s.seq.priority = [] ∧ s.selection = some (1, 2) ∧ s.seq.gap = 0 ∧
      (∀ g, (s.group g).colour ≠ .redAmber) ∧
      (∀ g, (s.group g).colour = .green → g ∉ s.stage 1 → (s.group g).minInForce ≤ (s.group g).timeIn) ∧
      (out s).selection = some (1, 2) ∧ (out s).seq.maxTimer = some 300 ∧ (out running).selection = none := by
  decide +kernel
theorem witness_EndOfEntry :
    let s := coordinated
    let hold := s.onSeq fun q => { q with holdBudget := 30 }
    let ended := s.onSeq fun q => { q with hold := some 0, reached := false }
    let skip := s.onSeq fun q => { q with pos := some 270, allowance := 30, reached := false }
    let gap := (s.onSeq fun q => { q with pos := some 200, reached := false }).onGroup 1 fun r => { r with demand := true }
    (s.seq.tickOpen = true ∧ s.sup.mode = .normal ∧ s.activePlan.coordinated = true ∧ s.seq.priority = [] ∧
      s.seq.decision = some 1 ∧ s.activePlan.entry? 1 = some ⟨0, 300, 50, true, true⟩ ∧ s.activePlan.next 1 = 2 ∧
      s.activePlan.entry? 2 = some ⟨1, 600, 50, false, false⟩) ∧
    (s.seq.hold = none ∧ s.seq.reached = true ∧ s.seq.holdBudget = 0) ∧
    (0 < hold.seq.holdBudget ∧ hold.seq.entry = some 1 ∧ hold.seq.running = some 0 ∧ hold.seq.change = none ∧
      hold.seq.endDue = none ∧ hold.seq.hold = none) ∧
    ended.seq.hold = some 0 ∧
    (skip.seq.decided = false ∧ 0 < skip.seq.allowance ∧ skip.seq.cycleStart = false ∧ skip.seq.pos = some 270 ∧
      270 < 300 ∧ 300 ≤ 270 + skip.seq.allowance ∧ (skip.onSeq fun q => { q with pos := some 300 }).seq.pos = some 300) ∧
    (gap.seq.entry = some 1 ∧ gap.seq.gap = 0 ∧ (∀ g, (gap.group g).colour ≠ .redAmber) ∧ gap.seq.holdBudget = 0 ∧
      (∀ g, (gap.group g).colour = .green → g ∉ gap.stage 1 → (gap.group g).minInForce ≤ (gap.group g).timeIn) ∧
      gap.decisionOn 1 = .endDue) := by
  decide +kernel
theorem witness_CyclesAndChangePoints :
    let start (valid : Bool) :=
      (coordinated.onSeq fun q => { q with pos := some 0, cycleStart := true }).onClk fun k => { k with valid := valid }
    let change := coordinated.onSeq fun q => { q with changePoint := true, pendingPlan := some 0 }
    let isolated := (running.onSeq fun q => { q with pendingPlan := some 1 })
    (∀ v, (start v).activePlan.coordinated = true ∧ (start v).seq.cycleStart = true ∧ (start v).seq.pos = some 0 ∧
      (start v).clk.valid = v ∧ (start v).activePlan.offset < (start v).activePlan.cycle) ∧
    (change.betweenSteps ∧ change.cfg.pendingCommit = none ∧ change.seq.pendingPlan = some 0 ∧ change.changePointDue = true ∧
      change.seq.running = some 0 ∧ change.seq.change = none ∧ change.seq.priority = [] ∧
      (change.plan 0).coordinated = false ∧ (change.plan 0).entry? 1 = some ⟨0, 1, 300, false, false⟩ ∧
      ∀ g ∈ change.stage 0, (change.group g).colour = .green) ∧
    (isolated.betweenSteps ∧ isolated.seq.pendingPlan = some 1 ∧ isolated.changePointDue = true) ∧
    (0 < 300 ∧ 300 ≤ 600 / 2 ∧ 600 / 2 < 301 ∧ 599 < 600) := by
  unfold State.betweenSteps; decide +kernel
/-- P2's timing records with it emptied. -/
def emptied2 : Timing := { junction.tm with plans := junction.tm.plans.put 1 PlanRec.empty }
/-- P2 active at its change point with a timing commit pending, the Day Schedule's action as given. -/
def committing (tm : Timing) (a : Option Action) (pending : Option Pln) : State :=
  let s := (coordinated.onSeq fun q => { q with reached := false, changePoint := true, pendingPlan := pending }).onSch fun h =>
    { h with action := a }
  { s with cfg := { s.cfg with pendingCommit := some tm } }
/-- The commit empties the active P2 while P1, which the Day Schedule selects unchanged, is pending: P1 is taken (R64). -/
theorem test_changePoint_emptiedActivePlanNotTaken :
    (after .changePoint (committing emptied2 (some (.plan 0)) (some 0))).seq.active = some 0 := by decide +kernel
/-- A plan delivered at the change point, the active plan taken again with its new records, the emptied one replaced, a
return to the active plan that clears the pending one, nothing pending, FLASH, and a force ended with its plan. -/
theorem witness_ChangePointCommits :
    let moved : Timing := { junction.tm with plans := junction.tm.plans.put 1 { junction.tm.plans.get 1 with offset := 200 } }
    let flash : Timing := { junction.tm with schedule := junction.tm.schedule.put 0 ⟨0xFF, 0, .flash⟩ }
    let home : Timing := { junction.tm with cabinet := { junction.tm.cabinet with defaultPlan := 1 } }
    let timed := (committing flash (some (.plan 1)) none).onClk fun k => { k with valid := true }
    let forced := (committing emptied2 (some (.plan 1)) none).onSch fun h => { h with forced := some 1 }
    (∀ s ∈ [committing moved (some (.plan 0)) none, timed, forced], s.betweenSteps ∧ s.seq.tickOpen = true ∧
      s.sup.mode = .normal ∧ s.changePointDue = true ∧ s.redAmberSettled) ∧
    (((committing junction.tm none none).selectionUnder junction.tm).action = .plan 0 ∧
      (committing junction.tm none none).pendingUnder junction.tm 0 = some 0) ∧
    ((committing moved (some (.plan 0)) none).pendingUnder moved 0 = some 1 ∧
      (after .changePoint (committing moved (some (.plan 0)) none)).seq.active = some 1 ∧
      (after .changePoint (committing moved (some (.plan 0)) none)).cfg.pendingCommit = none) ∧
    ((committing emptied2 (some (.plan 0)) (some 0)).pendingUnder emptied2 0 = some 0) ∧
    (((committing home (some (.plan 0)) (some 0)).selectionUnder home).action = .plan 1 ∧
      (committing home (some (.plan 0)) (some 0)).pendingUnder home 1 = none ∧
      (committing junction.tm (some (.plan 0)) none).pendingUnder junction.tm 0 = none) ∧
    ((timed.selectionUnder flash).action = .flash ∧ timed.waitingSupply = false ∧
      (after .changePoint timed).sup.mode = .clearing) ∧
    (forced.forcedUnder emptied2 = none ∧
      (after .changePoint forced).flt.entries.any (fun e => e.kind == .planUndefined && e.active) = true) := by
  unfold State.betweenSteps State.redAmberSettled; decide +kernel
/-- A request that joins behind the head leaves the end due of the service as it was set (R39, R42; log 21). -/
theorem test_takeRequest_joiningTailKeepsEndDue :
    let served := running.onSeq fun q => { q with active := some 7, priority := [⟨2, 1, 0⟩], endDue := some ⟨1, some 2, none⟩ }
    (served.takeRequest 5 0).seq.priority.length = 2 ∧ (served.takeRequest 5 0).seq.endDue = some ⟨1, some 2, none⟩ := by
  decide +kernel
/-- Under a plan without entries a request is served by an end due that names no entry, and its return leaves no end due
(R39, R40, R44; log 83). -/
theorem test_takeRequest_servedUnderPlanWithoutEntries :
    let served := (running.onSeq fun q => { q with active := some 7, running := none, entry := none }).takeRequest 2 1
    served.activePlan.entries = [] ∧ served.seq.endDue = some ⟨1, none, none⟩ ∧
      (served.removeRequest 2).seq.endDue = none ∧ (served.removeRequest 2).seq.entry = none := by
  decide +kernel
/-- The change point with a member of the new entry's stage outside GREEN, with the clock valid and not, during a
priority service, and to a plan that is not defined. -/
theorem witness_ChangePoints :
    let isolated := running.onSeq fun q => { q with pendingPlan := some 1 }
    (let red := isolated.onGroup 0 fun r => { r with colour := .red }
     red.betweenSteps ∧ red.changePointDue = true ∧ (red.plan 1).entry? 1 = some ⟨0, 300, 50, true, true⟩ ∧
      red.seq.running = some 0 ∧ red.seq.change = none ∧ (0 : Gid) ∈ red.stage 0 ∧ (red.group 0).colour ≠ .green) ∧
    (∀ v, ((isolated.onClk fun k => { k with valid := v }).plan 1).coordinated = true ∧
      (isolated.onClk fun k => { k with valid := v }).changePointDue = true ∧
      (isolated.onClk fun k => { k with valid := v }).clk.valid = v ∧ (isolated.plan 1).offset < (isolated.plan 1).cycle) ∧
    (let served := isolated.onSeq fun q => { q with priority := [⟨2, 1, 0⟩] }
     served.betweenSteps ∧ served.changePointDue = true ∧ served.seq.priority ≠ []) ∧
    (let undefined := isolated.onSeq fun q => { q with pendingPlan := some 7 }
     undefined.changePointDue = true ∧ (undefined.plan 7).entries = [] ∧ undefined.seq.priority = []) := by
  unfold State.betweenSteps; decide +kernel
theorem witness_ModeColours :
    let s (m : Mode) := inMode m (running.onSeq fun q => { q with coloursDue := true, clearingDue := true })
    ∀ m ∈ [Mode.flash, .startupFlash, .startupRed, .clearing],
      (s m).betweenSteps ∧ (s m).seq.tickOpen = true ∧ (s m).seq.coloursDue = true ∧ (s m).seq.clearingDue = true ∧
        (s m).sup.mode = m := by
  unfold State.betweenSteps; decide +kernel
theorem witness_RelayProving :
    let s (r : RelayState) (i : Level) := (proven running).onChan 2 fun k =>
      { k with relay := r, drive := if r = .held ∨ r = .pullingIn then .full else .off, indication := i, limit := some ⟨60, 60⟩
               fullTime := some 100 }
    (running.betweenSteps ∧ running.supplyProven = false ∧ (running.chan 0).testBus = .no) ∧
    (∀ r ∈ [RelayState.released, .pullingIn, .held, .releasing], (s r .none).supplyProven = true ∧ (s r .none).betweenSteps ∧
      ((s r .none).chan 2).relay = r ∧ ((s r .none).chan 2).limit = some ⟨60, 60⟩ ∧ ((s r .none).chan 2).fullTime = some 100 ∧
      ((s r .full).chan 2).indication = .full) ∧
    ((s .released .none).greenAspect 2 = true ∧ (s .released .none).greenAspect 0 = false ∧
      (s .released .none).waitingSupply = false ∧ (s .released .none).sup.mode ≠ .dark ∧
      (s .released .none).flt.entries.length < 64) := by
  unfold State.betweenSteps; decide +kernel
theorem witness_Contactor :
    let k (st : RelayState) (n : Nat) (i : Level) (s : State) := s.onContactor fun k => { k with state := st, limit := some n, indication := i }
    let flash := running.onOut fun o => { o with flash := ⟨true, true, 500, 500⟩ }
    (flash.out.flash.running = true ∧ flash.out.flash.phaseLength ≤ flash.out.flash.phaseTime) ∧
    (running.onOut fun o => { o with trip := true }).out.trip = true ∧
    (∀ st ∈ [RelayState.released, .pullingIn, .held, .releasing], (k st 0 .none running).out.contactor.state = st ∧
      (k st 0 .none running).betweenSteps ∧ (k st 0 .none running).out.trip = false) ∧
    ((k .pullingIn 0 .none running).out.contactor.proof ≠ .closed ∧
      ∀ c, ((k .pullingIn 0 .none running).chan c).drive = .off → ((k .pullingIn 0 .none running).chan c).indication ≠ .full) ∧
    ((k .pullingIn 200 .none running).out.contactor.limit = some 200 ∧ running.sup.mode.runs = true ∧
      running.sup.recovering = false ∧ running.waitingSupply = false ∧ running.cfg.pendingCommit = none ∧
      running.flt.entries.length < 64 ∧ parked.sup.mode = .unconfigured) ∧
    (let waits := (inMode .startupRed (k .pullingIn 200 .none running)).onSup fun u => { u with flashNext := some (some .lockout, true) }
     waits.betweenSteps ∧ waits.sup.recovering = false ∧ waits.waitingSupply = false ∧
      waits.out.contactor.limit = some 200 ∧ waits.sup.flashNext = some (some .lockout, true)) ∧
    ((k .releasing 200 .full running).out.contactor.indication = .full ∧
      (k .releasing 200 .low running).out.contactor.indication ≠ .full) := by
  unfold State.betweenSteps; decide +kernel
/-- The contactor in a state at its proof, with one channel behind a coil that is off, with a fault and an indication. -/
def fed (st : RelayState) (p : Proof) (i : Level) (c : Ch) (f : RelayFault) : State :=
  (running.onContactor fun k => { k with state := st, proof := p }).onChan c fun r => { r with indication := i, fault := f }

/-- The re-proof with a channel that stands at FULL behind its coil, by its fault and its aspect. -/
theorem witness_ContactorReproof :
    ∀ st ∈ [RelayState.pullingIn, .releasing], ∀ f ∈ [RelayFault.none, .failToOpen], ∀ c ∈ [(0 : Ch), 2],
      (fed st .unproven .full c f).betweenSteps ∧ (fed st .unproven .full c f).out.trip = false ∧
      (fed st .unproven .full c f).out.contactor.state = st ∧ (fed st .unproven .full c f).out.contactor.proof ≠ .closed ∧
      (fed st .unproven .full c f).cfg.pendingCommit = none ∧ (fed st .unproven .full c f).flt.entries.length < 16 ∧
      (fed st .unproven .full c f).backFed c ∧ (∀ k, k < c → ¬(fed st .unproven .full c f).backFed k) ∧
      ((fed st .unproven .full c f).greenAspect c = true ↔ c = 2) ∧ ((fed st .unproven .full c f).chan c).fault = f ∧
      (fed st .unproven .full c f).waitingSupply = false ∧ (fed st .unproven .full c f).sup.mode ≠ .dark := by
  unfold State.betweenSteps State.backFed; decide +kernel
/-- A FULL indication meets a RELEASED contactor and one RELEASING from CLOSED. -/
theorem witness_ContactorFullWhenReleased :
    (fed .released .unproven .none 0 .none).out.contactor.state = .released ∧
      (∀ c, ¬(fed .released .unproven .none 0 .none).backFed c) ∧
      (fed .releasing .closed .none 0 .none).out.contactor.state = .releasing ∧
      (fed .releasing .closed .none 0 .none).out.contactor.proof = .closed := by
  unfold State.backFed; decide +kernel
theorem witness_CurrentSample :
    let s (l : LampRec) := ({ running with now := 200 }.onChan 0 fun r =>
      { r with command := .on, proof := .closed, steadySince := some 0 }).onLamp 0 fun _ => l
    (∀ l ∈ [LampRec.reset, { LampRec.reset with learn := .learning 7, set := some ⟨11260, 1598, 1624⟩ },
        { LampRec.reset with learn := .learned, iref := some 1600, verdict := .good, healthy := some 4 },
        { LampRec.reset with
          learn := .learned, iref := some 1600, verdict := .good, healthy := some 4, run := some ⟨.partialFail, 2, 3⟩ }],
      (s l).betweenSteps ∧ ((s l).chan 0).command = .on ∧ ((s l).chan 0).proof = .closed ∧
        ((s l).chan 0).steadySince = some 0 ∧ 0 + (if ((s l).chanRec 0).lamp = .filament then 200 else 500) ≤ (s l).now ∧
        ((s l).lamp 0).maintenance = false ∧ (s l).sup.mode ≠ .dark ∧ (s l).lamp 0 = l) ∧
    ((s LampRec.reset).settings 0).confirm ≤ 2 + 1 ∧ ((s LampRec.reset).chanRec 0).heads = 4 ∧
    (running.chan 0).command ≠ .on ∧ (s LampRec.reset).redAmberSettled := by
  unfold State.betweenSteps State.redAmberSettled; decide +kernel
/-- A third DARK sample confirms the failure of the only red lamp of G1, which inhibits G2, whose green waits in a
change. -/
theorem witness_CurrentSampleInhibits :
    let lit := { running with now := 200 }.onChan 0 fun r => { r with command := .on, proof := .closed, steadySince := some 0 }
    let dying := lit.onLamp 0 fun _ =>
      { LampRec.reset with
        learn := .learned, iref := some 1600, verdict := .good, healthy := some 4, run := some ⟨.dark, 2, 0⟩ }
    let s := dying.onSeq fun q => { q with change := some ⟨1, 0, [], [(1, 120)], 0⟩ }
    s.betweenSteps ∧ s.seq.tickOpen = true ∧ s.sup.mode = .normal ∧ s.seq.gainingInstant 1 = some 120 ∧
      (s.group 1).inhibited = false ∧ ((after (.currentSample 0 0) s).group 1).inhibited = true ∧
      (s.group 1).colour ≠ .redAmber := by
  unfold State.betweenSteps; decide +kernel
theorem witness_Probes :
    let leak := quiet.onLamp 0 fun l => { l with leak := some 1000 }
    let choose (u : List PEnt) (w : Nat) (s : State) := s.onCbt fun b => { b with choice := true, period := some 1, urgent := u, walk := w }
    let probing (p : BusPhase) (n : Nat) (e : PEnt) := quiet.onCbt fun b => { b with phase := p, phaseTime := n, probe := some ⟨e, .request 5, false⟩ }
    (leak.betweenSteps ∧ (leak.lamp 0).leak = some 1000 ∧ (leak.lamp 0).leakAsked = false ∧
      (leak.probeRec 1).kind = some .insulation ∧ (leak.probeRec 1).subject = 0 ∧
      ∀ e', e' < (1 : PEnt) → ¬((leak.probeRec e').kind = some .insulation ∧ (leak.probeRec e').subject = 0)) ∧
    ((choose [5, 0] 1 quiet).cbt.urgent = [5] ++ 0 :: [] ∧ (choose [5, 0] 1 quiet).canStart 5 = false ∧
      (choose [5, 0] 1 quiet).canStart 0 = true ∧ (choose [5, 0] 1 quiet).cbt.choice = true ∧
      (choose [5, 0] 1 quiet).cbt.period ≠ none ∧ (choose [5, 0] 1 quiet).cbt.phase = .idle) ∧
    ((choose [] 3 quiet).cbt.walk = (2 : PEnt).val + 1 ∧ ((choose [] 3 quiet).result 2).done = false ∧
      (choose [] 3 quiet).canStart 2 = true) ∧
    (let last := (choose [] 65 quiet).onCbt fun b => { b with deferred := [5, 0] }
     last.cbt.walk = 65 ∧ last.cbt.deferred = [5] ++ 0 :: [] ∧ last.canStart 5 = false ∧ last.canStart 0 = true) ∧
    (∀ e, (choose [] 1 parked).canStart e = false) ∧ (choose [] 1 parked).probeUsed 0 = true ∧
    ((probing .closing 10 0).cbt.phase = .closing ∧ 10 ≤ (probing .closing 10 0).cbt.phaseTime) ∧
    (∀ x ∈ [((0 : PEnt), 120), (1, 400), (2, 250)], (probing .measuring x.2 x.1).cbt.probe = some ⟨x.1, .request 5, false⟩ ∧
      ((probing .measuring x.2 x.1).probeRec x.1).kind ≠ none ∧ x.2 ≤ (probing .measuring x.2 x.1).cbt.phaseTime) ∧
    ((probing .releasing 20 0).cbt.phase = .releasing ∧ 20 ≤ (probing .releasing 20 0).cbt.phaseTime) ∧
    (let s := running.onCbt fun b => { b with period := some 1, sweepTime := 600 }
     s.betweenSteps ∧ s.cbt.period = some 1 ∧ s.seq.tickOpen = true ∧ 1 * 600 ≤ s.cbt.sweepTime ∧ s.probeUsed 0 = true ∧
      (s.result 0).done = false ∧ s.probeUsed 63 = false ∧ s.cbt.sweepNext = false ∧ s.cbt.uncounted = false ∧
      (s.onCbt fun b => { b with sweepNext := true, uncounted := true }).betweenSteps) := by
  unfold State.betweenSteps; decide +kernel
/-- Entry 2 of the quiet junction probed between the green of G1 and a channel, with its result so far. -/
def coupling (y : Ch) (v : Standing) (x : CrossClass) : State :=
  { quiet with
    cfg := { quiet.cfg with running := { junction with
      st := { junction.st with probes := (Tab.fill 64 ProbeRec.empty).put 2 ⟨some .coupling, 2, some y, 20⟩ } } }
    cbt := { quiet.cbt with
      phase := .measuring, phaseTime := 250, probe := some ⟨2, .sweep, false⟩
      results := quiet.cbt.results.put 2 { quiet.cbt.results.get 2 with standing := v, failures := 1, cross := x } } }

/-- A COUPLING entry over two greens of conflicting groups, and one over a green and an amber: a SUSPECT measurement that
fails again, and a FAULT of either class that a passing measurement ends. -/
theorem witness_CouplingFault :
    (∀ y ∈ [(4 : Ch), 1], (coupling y .suspect .none).betweenSteps ∧
      ((coupling y .suspect .none).probeRec 2).kind = some .coupling ∧
      ((coupling y .suspect .none).probeRec 2).subject = 2 ∧ ((coupling y .suspect .none).probeRec 2).partner = some y ∧
      20 < (21#16).toNat ∧ ((coupling y .suspect .none).result 2).failures ≠ 0 ∧
      (coupling y .suspect .none).waitingSupply = false ∧ (coupling y .suspect .none).flt.entries.length < 64) ∧
    ((coupling 4 .suspect .none).conflicting 0 1 = true ∧ ((coupling 4 .suspect .none).chanRec 2).group = some 0 ∧
      ((coupling 4 .suspect .none).chanRec 4).group = some 1 ∧ ((coupling 4 .suspect .none).chanRec 2).aspect = some .green ∧
      ((coupling 4 .suspect .none).chanRec 4).aspect = some .green ∧
      ((coupling 1 .suspect .none).chanRec 1).aspect = some .amber) ∧
    ∀ x ∈ [CrossClass.dangerous, .nuisance], ((coupling 4 .fault x).result 2).cross = x ∧
      ∀ e, e ≠ (2 : PEnt) → ((coupling 4 .fault x).probeRec e).kind ≠ some .coupling := by
  unfold State.betweenSteps; decide +kernel
/-- A probe in MEASURING whose subject, on the test bus, can meet FULL or enter maintenance. -/
theorem witness_Abandonment :
    let onBus := (coupling 4 .suspect .none).onChan 2 fun r => { r with testBus := .drive }
    onBus.betweenSteps ∧ onBus.cbt.probe = some ⟨2, .sweep, false⟩ ∧ onBus.cbt.phase = .measuring ∧
      (onBus.chan 2).testBus ≠ .no ∧ (onBus.lamp 2).maintenance = false ∧
      ∀ op ∈ [0#8, 2#8], onBus.takes 1 [op, 0, 0, 0, 0, 0, 4] ∧ maskHas [op, 0, 0, 0, 0, 0, 4] 2 = true := by
  unfold State.takes State.betweenSteps; decide +kernel
theorem witness_ConflictsAndRedFailures :
    let pair : PairTime := ⟨0, 1, 50, false⟩
    let c := running.onSup fun u => { u with conflicts := [pair] }
    let red (m : Mode) (rec : Bool) (n : Nat) := inMode m ((running.onGroup 0 fun r => { r with redHealth := .deficient }).onSup fun u =>
      { u with grace := u.grace.put 0 (.running 1), recovering := rec, attempts := n })
    (c.betweenSteps ∧ c.waitingSupply = false ∧ c.sup.mode ≠ .dark ∧ pair ∈ c.sup.conflicts ∧ pair.found = false ∧
      50 ≤ pair.ms ∧ c.flt.entries.length < 64) ∧
    (∀ m ∈ [Mode.normal, .startupFlash, .startupRed, .startupCheck], ∀ rec, ∀ n ∈ [0, 1, 2],
      (red m rec n).betweenSteps ∧ (red m rec n).waitingSupply = false ∧ (red m rec n).seq.tickOpen = true ∧
      (red m rec n).cfg.pendingCommit = none ∧ (red m rec n).kind 0 = some .traffic ∧
      ((red m rec n).group 0).redHealth = .deficient ∧ ((red m rec n).gt 0).redFailAction = .flash ∧
      (red m rec n).sup.grace.get 0 = .running 1 ∧ ((red m rec n).gt 0).redFailGrace ≤ 1 ∧
      (red m rec n).sup.recovering = rec ∧ (red m rec n).sup.attempts = n ∧ (red m rec n).sup.exit = .startupFlash ∧
      (red m rec n).sup.graceNext.get 0 = false) ∧
    (let waits := (red .startupRed false 5).onSup fun u => { u with flashNext := some (some .lockout, true) }
     waits.betweenSteps ∧ waits.sup.flashNext = some (some .lockout, true) ∧
      ((waits.onSup fun u => { u with graceNext := u.graceNext.put 0 true }).sup.graceNext.get 0 = true)) ∧
    (1 + 1 < running.cabinet.attempts ∧ running.cabinet.attempts ≤ min 5 (2 + 1)) := by
  unfold State.betweenSteps; decide +kernel
/-- The start-up rows of O60 with a timing commit waiting: the exits of the check, the phases, the plan and the FLASH
selected at the entry to NORMAL, and a supply loss in each mode that runs. -/
theorem witness_StartupWithCommit :
    let waiting (tm : Timing) (s : State) : State := { s with cfg := { s.cfg with pendingCommit := some tm } }
    let check (x : CheckExit) := waiting junction.tm (proven (inMode .startupCheck (running.onSup fun u => { u with phaseTime := 500, exit := x })))
    let phase (m : Mode) (tm : Timing) := waiting tm (inMode m ((running.onSup fun u =>
      { u with phaseTime := 50, phaseLength := 50 }).onClk fun k => { k with valid := true }))
    let flash : Timing := { junction.tm with schedule := junction.tm.schedule.put 0 ⟨0xFF, 0, .flash⟩ }
    (∀ x ∈ [CheckExit.startupFlash, .flash (some .conflict) true, .flash (some .hostRequest) false],
      (check x).betweenSteps ∧ (check x).supplyProven = true ∧ 500 ≤ (check x).sup.phaseTime ∧ (check x).sup.exit = x ∧
        (check x).sch.action ≠ some .flash) ∧
    ((after .startupCheckComplete (check (.flash (some .conflict) true))).cfg.pendingCommit = none ∧
      (after .startupCheckComplete (check .startupFlash)).cfg.pendingCommit = some junction.tm) ∧
    (∀ m ∈ [Mode.startupFlash, .startupRed], (phase m junction.tm).betweenSteps ∧ (phase m junction.tm).seq.tickOpen = true ∧
      1 ≤ (phase m junction.tm).sup.phaseTime ∧ (phase m junction.tm).sup.phaseLength ≤ (phase m junction.tm).sup.phaseTime ∧
      (phase m junction.tm).sup.flashNext = none) ∧
    (((phase .startupRed junction.tm).selectionUnder junction.tm).action = .plan 0 ∧
      (after .startupRedEnd (phase .startupRed junction.tm)).seq.active = some 0) ∧
    (((phase .startupRed flash).selectionUnder flash).action = .flash ∧ (phase .startupRed flash).waitingSupply = false ∧
      (after .startupRedEnd (phase .startupRed flash)).sup.mode = .clearing) ∧
    (∀ m ∈ [Mode.startupCheck, .startupFlash, .startupRed, .normal],
      let lost := waiting junction.tm (inMode m (running.onSup fun u => { u with supplyGap := 200 }))
      lost.betweenSteps ∧ lost.sup.supplyPresent = true ∧ lost.sup.mode.runs = true) := by
  unfold State.betweenSteps; decide +kernel
theorem witness_StartupRecoveryAndSupply :
    let check := proven (inMode .startupCheck (running.onSup fun u => { u with phaseTime := 500 }))
    let phase (m : Mode) := inMode m (running.onSup fun u => { u with phaseTime := 50, phaseLength := 50 })
    let soft (m : Mode) (r : Reason) := inMode m (running.onSup fun u => { u with reason := some r, holdoff := some 3000 })
    let prob := running.onSup fun u => { u with recovering := true, probation := 9000 }
    (check.betweenSteps ∧ check.cfg.pendingCommit = none ∧ check.supplyProven = true ∧ 500 ≤ check.sup.phaseTime) ∧
    (∀ m ∈ [Mode.startupFlash, .startupRed], (phase m).betweenSteps ∧ 1 ≤ (phase m).sup.phaseTime ∧
      (phase m).sup.phaseLength ≤ (phase m).sup.phaseTime ∧ (phase m).sup.flashNext = none ∧
      (phase m).select.action = .plan 0) ∧
    (({ (phase .startupRed) with cfg := { running.cfg with running := { junction with
        tm := { junction.tm with schedule := junction.tm.schedule.put 0 ⟨0xFF, 0, .flash⟩ } } } }.onClk fun k =>
        { k with valid := true }).select.action = .flash) ∧
    ((soft .flash .redFail).betweenSteps ∧ (soft .flash .redFail).sup.holdoff = some 3000 ∧
      (soft .flash .redFail).cabinet.holdoff * 600 ≤ 3000 ∧ (soft .flash .redFail).sup.latched = false ∧
      (soft .flash .redFail).waitingSupply = false ∧ (soft .flash .redFail).closesLater ∧
      (soft .dark .contactor).sup.reason = some .contactor ∧ (soft .flash .redFail).sup.holdoffNext = false ∧
      ∀ g, ((soft .flash .redFail).group g).redHealth ≠ .deficient) ∧
    (prob.sup.recovering = true ∧ prob.sup.probationNext = false ∧ prob.cabinet.probation * 600 ≤ prob.sup.probation) ∧
    (∀ x ∈ [none, some (some Reason.redFail, false), some (some .lockout, true)],
      let lost := inMode .startupRed (running.onSup fun u => { u with supplyGap := 200, flashNext := x })
      lost.betweenSteps ∧ lost.sup.supplyPresent = true ∧ lost.sup.flashNext = x ∧ lost.sup.exit = .startupFlash) ∧
    ((running.onSup fun u => { u with holdoffNext := true, probationNext := true }).betweenSteps) ∧
    (running.onSup fun u => { u with supplyGap := 200 }).sup.supplyPresent = true ∧
    (∀ x ∈ [none, some SavedState.startup, some (.flash (some .conflict) true), some (.dark none false)],
      (inMode .dark (parked.onSup fun u => { u with supplyStable := 2000, saved := x })).sup.supplyPresent = false) := by
  unfold State.betweenSteps State.closesLater; decide +kernel

/-- The junction dark in a mode whose colours are due at this tick. -/
def coloursNext (m : Mode) (s : State) : State := (inMode m s).onSeq fun q => { q with tickOpen := true, coloursDue := true }

/-- The states of `witness_HandsOver`: each block's derived values are handed on in all of them. -/
def handed : List State :=
  let dark := parked.evalAllRedHealth
  let deficient := ((parked.onLamp 0 fun l => { l with healthy := some 0 }).evalAllRedHealth).onSup fun u => { u with supplyPresent := true }
  [coloursNext .startupFlash dark,
   coloursNext .startupRed (after .modeColoursApply (coloursNext .startupFlash dark)),
   after .modeColoursApply (coloursNext .startupRed (proven dark)),
   proven dark,
   after (.voltageIndication 2 .full) dark,
   { deficient with flt := { deficient.flt with added := false } }]

theorem witness_HandsOver : ∀ s ∈ handed, s.followsColours ∧ s.handedOn := by
  unfold State.followsColours State.handedOn; decide +kernel
/-- In those states: a command becomes FLASHING and leaves it (R127), steady-on since begins (R111), and a leak time, a
conflict time and a grace time start (R134, R158, R160). -/
theorem witness_HandsOverBegins :
    (handed.map fun s =>
      let t (c : Instr) := after c s
      (((t .modeColoursApply).chan 1).command, ((t .modeColoursApply).lamp 1).saved)).take 2
        = [(.flashing, some .unknown), (.off, none)] ∧
    (∀ s ∈ handed.drop 2 |>.take 1, (s.chan 0).command = .on ∧ (s.chan 0).proof ≠ .closed ∧
      ((after (.voltageIndication 0 .full) s).chan 0).steadySince = some s.now) ∧
    (∀ s ∈ handed.drop 3 |>.take 1, s.leakRuns 0 = false ∧ ((after (.voltageIndication 0 .low) s).lamp 0).leak = some 0) ∧
    (∀ s ∈ handed.drop 4 |>.take 1, s.sup.conflicts = [] ∧
      (after (.voltageIndication 4 .full) s).sup.conflicts = [⟨0, 1, 0, false⟩]) ∧
    (∀ s ∈ handed.drop 5, s.graceRuns 0 = false ∧ (after (.start 1 []) s).sup.grace.get 0 = .running 0) := by decide +kernel

/-- A tenth tick of the crystal at the minute boundary of 00:01 with valid time, the action that the Day Schedule held before,
and the schedule's one entry where there is one. -/
def boundary (tod : Nat) (old : Option Action) (entry : Option Action) : State :=
  { (running.onClk fun k => { k with valid := true, tod := tod }) with
    cfg := { running.cfg with running := { junction with
      tm := { junction.tm with schedule := match entry with
        | some a => junction.tm.schedule.put 0 ⟨0xFF, 0, a⟩
        | none => junction.tm.schedule } } }
    sch := { Sch.reset with action := old } }

/-- What a tick leaves of the mode, the pending plan, the selected action and PLAN_CHANGE. -/
def seenAtTick (s : State) (m : Mode) (p : Option Pln) (a : Option Action) (planChange : Bool) : Bool :=
  let t := after .crystalTick s
  t.sup.mode == m && t.seq.pendingPlan == p && t.sch.action == a && t.flt.pendingSet.planChange == planChange

/-- Ticks before, at and long after a minute boundary. -/
theorem witness_TickSchedules :
    (∀ s ∈ [boundary 598 none none, boundary 599 none none, boundary 863999 none (some .flash)],
      s.betweenSteps ∧ s.clk.source = .crystal ∧ s.sup.mode ≠ .unconfigured ∧ s.clk.pendingSet = none ∧ s.sup.flashNext = none) := by
  unfold State.betweenSteps; decide +kernel
/-- The evaluation of a tick and its deliveries: between minutes none, another plan, no change, a return to the active plan,
the start of a scheduled FLASH (R62, R71, R83, R85). -/
theorem witness_TickDeliversSelection :
    seenAtTick (boundary 598 none (some (.plan 1))) .normal none none false ∧
    seenAtTick (boundary 599 none (some (.plan 1))) .normal (some 1) (some (.plan 1)) true ∧
    seenAtTick (boundary 599 (some (.plan 1)) (some (.plan 1))) .normal none (some (.plan 1)) false ∧
    seenAtTick ((boundary 599 (some (.plan 1)) none).onSeq fun q => { q with pendingPlan := some 1 }) .normal none (some (.plan 0)) true ∧
    seenAtTick (boundary 863999 (some (.plan 0)) (some .flash)) .clearing none (some .flash) true := by
  decide +kernel
/-- A scheduled FLASH that starts with a commit pending, and one that ends (R85, R167, R191). -/
theorem witness_TickScheduledFlash :
    (let s := (boundary 599 (some (.plan 0)) (some .flash)).onCfg fun c => { c with pendingCommit := some junction.tm }
     s.betweenSteps ∧ s.waitingSupply = false ∧ s.sup.mode = .normal ∧ (after .crystalTick s).cfg.pendingCommit = none ∧ (after .crystalTick s).sch.action = some (.plan 0)) ∧
    (let s := (inMode .flash (boundary 599 (some .flash) none)).onSup fun u => { u with reason := some .hostRequest }
     s.closesLater ∧ s.betweenSteps ∧ (after .crystalTick s).sup.mode = .startupCheck ∧ (after .crystalTick s).sup.exit = .startupFlash) := by
  unfold State.betweenSteps State.closesLater; decide +kernel
/-- A tick that takes a CLOCK_SET answers its requests and evaluates (R79); the FLASH of a red failure of STARTUP_RED (R163);
an inhibited gaining group and an inhibited joiner are dropped (R31). -/
theorem witness_TickAnswersAndDrops :
    (let s := boundary 100 none none |>.onClk fun k => { k with pendingSet := some (⟨2031, 12, 25⟩, 0), setTags := [7, 9] }
     s.betweenSteps ∧ (after .crystalTick s).sch.action = some (.plan 0) ∧
      ((after .crystalTick s).lnk.output.map fun f => (f.tag, f.code, f.payload.head?)) = [(7, 0xA0#8, some 0), (9, 0xA0#8, some 0)]) ∧
    (let s := (inMode .startupRed (boundary 100 none none)).onSup fun u => { u with flashNext := some (some .redFail, false) }
     s.cfg.pendingCommit = none ∧ (after .crystalTick s).sup.mode = .flash ∧ (after .crystalTick s).sup.reason = some .redFail) ∧
    (let s := ((boundary 100 none none).onSeq fun q => { q with change := some ⟨1, 0, [], [(1, 50)], 0⟩ }).onGroup 1 fun r =>
       { r with inhibited := true }
     let j := ((boundary 100 none none).onSeq fun q => { q with joined := [(1, 44)] }).onGroup 1 fun r =>
       { r with inhibited := true, colour := .redAmber }
     s.seq.gainingInstant 1 = some 50 ∧ (after .crystalTick s).sup.mode = .normal ∧
      (after .crystalTick s).seq.dropped = [(1, 50)] ∧ j.seq.gainingInstant 1 = none ∧
      (after .crystalTick j).seq.dropped = [(1, 44)] ∧ ((after .crystalTick j).group 1).colour = .red) := by
  unfold State.betweenSteps; decide +kernel
/-- A force ends a scheduled FLASH and makes its plan pending in NORMAL; a release starts one (R84, R85). -/
theorem witness_ForceDelivers :
    (let s := (inMode .flash (boundary 100 (some .flash) (some .flash))).onSup fun u => { u with reason := some .hostRequest }
     s.takes 1 [2] ∧ s.closesLater ∧ (after (.planForce 1 [2]) s).sup.mode = .startupCheck) ∧
    (after (.planForce 1 [2]) (boundary 100 none none)).seq.pendingPlan = some 1 ∧
    (let s := boundary 100 (some (.plan 1)) (some .flash)
     s.takes 1 [] ∧ (after (.planRelease 1 []) s).sup.mode = .clearing) := by
  unfold State.takes State.betweenSteps State.closesLater; decide +kernel
/-- Each way of R82: today's entry, the look-back over one and over seven dates, no entry, an undefined plan. 2000-01-01 was
a Saturday. -/
theorem witness_Selects :
    let tm (days : BitVec 8) (a : Action) : Timing := { junction.tm with schedule := junction.tm.schedule.put 31 ⟨days, 600, a⟩ }
    (tm 0x20 .flash).governsOn 31 ⟨2000, 1, 1⟩ (some 600) ∧ (tm 0x20 .flash).noneOn ⟨2000, 1, 1⟩ (some 599) ∧
    ((tm 0x20 .flash).select none true ⟨2000, 1, 1⟩ 360000).governing = some (31, ⟨2000, 1, 1⟩) ∧
    ((tm 0x20 .flash).select none true ⟨2000, 1, 1⟩ 359999).source = .defaultNoEntry ∧
    ((tm 0x20 .flash).select none true ⟨2000, 1, 2⟩ 0).governing = some (31, ⟨2000, 1, 1⟩) ∧
    Date.before 7 ⟨2000, 1, 8⟩ = some ⟨2000, 1, 1⟩ ∧ Date.before 1 ⟨2000, 1, 1⟩ = none ∧
    ((tm 0x20 .flash).select none true ⟨2000, 1, 8⟩ 0).governing = some (31, ⟨2000, 1, 1⟩) ∧
    ((tm 0x20 (.plan 7)).select none true ⟨2000, 1, 2⟩ 0) = ⟨.plan 0, .defaultUndefined, some (31, ⟨2000, 1, 1⟩), true⟩ ∧
    ((tm 0xFF .flash).select (some 1) false ⟨2000, 1, 1⟩ 0) = ⟨.plan 1, .forced, none, false⟩ := by
  unfold Timing.governsOn Timing.noneOn
  refine ⟨?_, ?_, by decide +kernel, by decide +kernel, by decide +kernel, by decide +kernel, by decide +kernel,
    by decide +kernel, by decide +kernel, by decide +kernel⟩
  · rintro _ rfl
    simp only [Option.some.injEq, forall_eq']
    decide +kernel
  · simp only [Option.some.injEq, exists_eq_left']
    decide +kernel
/-- The wear threshold: at a completed pull-in and at a commit (R110). -/
theorem witness_Wear :
    let buf : ConfigSet := { buildable with tm := { junction.tm with settings := junction.tm.settings.put 2 { ChanSettings.empty with wear := 5 } } }
    let s := (proven { running with cfg := { running.cfg with running := buf } }).onChan 2 fun r =>
      { r with relay := .pullingIn, drive := .full, proof := .opened, opCount := 4 }
    let w := { running with cfg := { running.cfg with pendingCommit := some buf.tm } }.onChan 2 fun r => { r with opCount := 5 }
    s.betweenSteps ∧ s.supplyProven = true ∧ (s.chan 2).testBus = .no ∧ (s.settings 2).wear = 5 ∧
      ((after (.voltageIndication 2 .full) s).flt.isActive .relayWear (.channel 2)) = true ∧
      w.applyPending.flt.isActive .relayWear (.channel 2) = true := by
  unfold State.betweenSteps; decide +kernel
/-- A write in range at both ends of an index range, and one that the class refuses (R187). -/
theorem witness_WriteTakes :
    RecordClass.stage.takes [1, 16] = .ok ([1, 16], false) ∧ RecordClass.stage.takes [1, 17] = .error .outOfRange ∧
      (∀ k ∈ [1, 16], 1 ≤ k ∧ k ≤ RecordClass.stage.count) ∧
      RecordClass.schedule.takes [0xFF, 5, 160, 0] = .ok ([0xFF, 5, 159, 0], true) := by decide +kernel
/-- The contactor's open limit with FULL standing in UNCONFIGURED and while a supply loss is waited out (R115, R163). -/
theorem witness_OpenLimitAfterReset :
    let open' (s : State) := s.onContactor fun k => { k with state := .releasing, limit := some 200, indication := .full }
    (open' State.reset).betweenSteps ∧ (open' State.reset).sup.mode = .unconfigured ∧
      (after .contactorOpenLimit (open' State.reset)).out.trip = true ∧
      (let w := open' (inMode .dark (parked.onSup fun u => { u with saved := some .startup }))
       w.waitingSupply = true ∧ (after .contactorOpenLimit w).sup.saved = some (.dark (some .contactor) true)) := by
  unfold State.betweenSteps; decide +kernel
/-- A power-on that finds the backup held keeps the validity over a midnight, and loses it at the end of the range (R71,
R78). -/
theorem witness_HeldPowerOn :
    let s (d : Date) := State.reset.onClk fun k => { k with date := d, tod := 863999, valid := true, interval := 99 }
    (after (.powerOnReset true 2 false true true) (s ⟨2024, 2, 28⟩)).clk.valid = true ∧
      (after (.powerOnReset true 2 false true true) (s ⟨2024, 2, 28⟩)).clk.interval = 1 ∧
      (after (.powerOnReset true 2 false true true) (s ⟨2199, 12, 31⟩)).clk.valid = false := by decide +kernel

end Sys2Proof.Tests
end

