-- ==== Sys2Proof/Proofs/DemandPlace.lean ====
section
/-! SUPPORT. DEMAND_PLACE (R22): the numbers of things read from a byte, the cause of a demand in its cases, what the
service of the request answers in each of its cases, and the statement assembled from them. -/

namespace Sys2Proof.Machine

namespace DemandPlace

/-! ### Numbers of things -/

theorem member_of_outOfRange {n k : Nat} (h : k = 0 ∨ n < k) : member n k = none :=
  dif_neg (by omega)

@[simp] theorem member_succ {n : Nat} (i : Fin n) : member n (i.val + 1) = some i :=
  dif_pos ⟨by omega, by omega⟩

/-- A group's number fits its byte. -/
@[simp] theorem toNat_groupNumber (g : Gid) : (BitVec.ofNat 8 (g.val + 1)).toNat = g.val + 1 := by
  rw [BitVec.toNat_ofNat]; omega

/-! ### The demand of a group (R19) -/

theorem fitted_eq_false_iff {s : State} {g : Gid} : s.fitted g = false ↔ s.kind g = none :=
  Option.isSome_eq_false_iff.trans Option.isNone_iff_eq_none

theorem fitted_iff {s : State} {g : Gid} : s.fitted g = true ↔ s.kind g ≠ none := Option.isSome_iff_ne_none

theorem placeDemand_of_green {s : State} {g : Gid} (h : (s.group g).colour = .green) : s.placeDemand g = s :=
  if_pos (.inr (.inr h))

theorem placeDemand_of_waiting {s : State} {g : Gid} (hm : s.sup.mode ≠ .unconfigured) (hf : s.fitted g = true)
    (hc : (s.group g).colour ≠ .green) : s.placeDemand g = s.onGroup g fun r => { r with demand := true } :=
  if_neg (by simp [hm, hf, hc])

/-- A demand set leaves every inhibition as it is. -/
theorem inhibited_onGroup_demand (s : State) (g h : Gid) :
    ((s.onGroup g fun r => { r with demand := true }).group h).inhibited = (s.group h).inhibited := by
  by_cases hgh : g = h
  · subst hgh; rw [State.onGroup_self]
  · rw [State.onGroup_other s _ hgh]

/-! ### The service in its cases (R22, R197) -/

/-- The command is its service given directly, and it always completes. -/
theorem exec_of_direct {s t : State} {tag : Byte} {body : List Byte}
    (h : s.direct tag body (serveDemandPlace tag body) = t) : exec (.demandPlace tag body) s = .next t :=
  congrArg Host.Outcome.next h

theorem serve_of_badLength {body : List Byte} (h : body.length ≠ 1) (tag : Byte) (s : State) :
    serveDemandPlace tag body s = s.refuse tag 0x35#8 .badLength := by
  match body, h with
  | [], _ => rfl
  | [_], h => exact absurd rfl h
  | _ :: _ :: _, _ => rfl

theorem serve_of_unconfigured (s : State) (h : s.sup.mode = .unconfigured) (tag b : Byte) :
    serveDemandPlace tag [b] s = s.refuse tag 0x35#8 .wrongMode := if_pos h

theorem serve_of_noGroup (s : State) (hm : s.sup.mode ≠ .unconfigured) {b : Byte} (hb : member 16 b.toNat = none)
    (tag : Byte) : serveDemandPlace tag [b] s = s.refuse tag 0x35#8 .outOfRange := by
  simp only [serveDemandPlace, hm, hb, if_false]

theorem serve_of_group (s : State) (hm : s.sup.mode ≠ .unconfigured) (tag : Byte) (g : Gid) :
    serveDemandPlace tag [BitVec.ofNat 8 (g.val + 1)] s =
      if s.fitted g then (s.placeDemand g).reply tag 0x35#8 .ok [] else s.refuse tag 0x35#8 .outOfRange := by
  simp only [serveDemandPlace, hm, toNat_groupNumber, member_succ, if_false]

theorem serve_of_unfitted (s : State) {g : Gid} (hm : s.sup.mode ≠ .unconfigured) (hk : s.kind g = none)
    (tag : Byte) : serveDemandPlace tag [BitVec.ofNat 8 (g.val + 1)] s =
      s.refuse tag 0x35#8 .outOfRange := by
  rw [serve_of_group s hm, fitted_eq_false_iff.mpr hk]; rfl

theorem serve_of_fitted (s : State) {g : Gid} (hm : s.sup.mode ≠ .unconfigured) (hk : s.kind g ≠ none)
    (tag : Byte) : serveDemandPlace tag [BitVec.ofNat 8 (g.val + 1)] s =
      (s.placeDemand g).reply tag 0x35#8 .ok [] := by
  rw [serve_of_group s hm, if_pos (fitted_iff.mpr hk)]

/-! ### A request served at once -/

/-- A request whose service changes the state to `t` and answers: where `t` is as a state between two steps and has no
new inhibition, the step ends in `t` with the reply. -/
theorem direct_reply {s t : State} {tag code : Byte} {body b : List Byte} {st : Status} {serve : State → State}
    (h : s.takes tag body) (hc : code.toNat < 128) (hs : serve s.reserve = t.reserve.reply tag code st b)
    (ht : t.betweenSteps) (hi : ∀ g, (t.group g).inhibited = true → (s.group g).inhibited = true) :
    s.direct tag body serve = t.withReply tag code st b := by
  obtain ⟨hadded, hpending⟩ := ht
  have hdrain : (t.withReply tag code st b).drainPending = t.withReply tag code st b :=
    Laws.drainPending_of_none hpending
  have hcounted : State.closeAdditions s (t.withReply tag code st b) = t.withReply tag code st b :=
    Laws.closeAdditions_of_quiet hadded
  have hinhibit : State.takeInhibition s (t.withReply tag code st b) = t.withReply tag code st b :=
    Laws.takeInhibition_of_none hi
  rw [Laws.direct_of_takes h, hs, Laws.reserve_reply t tag st b hc, State.finish, hdrain, hinhibit,
    hcounted]

/-- A group in GREEN: the request is answered OK and changes nothing. -/
theorem direct_of_green {s : State} {tag : Byte} {g : Gid} (h : s.takes tag [BitVec.ofNat 8 (g.val + 1)])
    (hm : s.sup.mode ≠ .unconfigured) (hk : s.kind g ≠ none) (hc : (s.group g).colour = .green) :
    s.direct tag [BitVec.ofNat 8 (g.val + 1)] (serveDemandPlace tag [BitVec.ofNat 8 (g.val + 1)]) =
      s.withReply tag 0x35#8 .ok [] := by
  have hplace : s.reserve.placeDemand g = s.reserve := placeDemand_of_green hc
  exact direct_reply h (by decide) ((serve_of_fitted s.reserve hm hk tag).trans (by rw [hplace])) h.1 fun _ => id

/-- A fitted group that is not in GREEN: its demand is set, and the request is answered OK. -/
theorem direct_of_waiting {s : State} {tag : Byte} {g : Gid} (h : s.takes tag [BitVec.ofNat 8 (g.val + 1)])
    (hm : s.sup.mode ≠ .unconfigured) (hk : s.kind g ≠ none) (hc : (s.group g).colour ≠ .green) :
    s.direct tag [BitVec.ofNat 8 (g.val + 1)] (serveDemandPlace tag [BitVec.ofNat 8 (g.val + 1)]) =
      (s.onGroup g fun r => { r with demand := true }).withReply tag 0x35#8 .ok [] := by
  have hplace : s.reserve.placeDemand g = (s.onGroup g fun r => { r with demand := true }).reserve :=
    placeDemand_of_waiting hm (fitted_iff.mpr hk) hc
  exact direct_reply h (by decide) ((serve_of_fitted s.reserve hm hk tag).trans (by rw [hplace])) h.1
    fun i hi => inhibited_onGroup_demand s g i ▸ hi

end DemandPlace

open DemandPlace in
/-- Settles O43, case by case of the request's service: the refusals change nothing, and a demand set releases no commit,
makes no addition and inhibits no group, so the end of the step leaves the reply as it was formed. -/
theorem demandPlaceSetsDemand : Obligations.DemandPlaceSetsDemand := by
  unfold Obligations.DemandPlaceSetsDemand
  intro s tag body h
  have refused {st : Status} (hs : serveDemandPlace tag body s.reserve = s.reserve.refuse tag 0x35#8 st) :
      exec (.demandPlace tag body) s = .next (s.withReply tag 0x35#8 st []) :=
    exec_of_direct (Laws.direct_refuse st h (by decide) hs)
  refine ⟨fun hlen => refused (serve_of_badLength hlen tag s.reserve), ?_, ?_⟩
  · rintro b rfl
    exact ⟨fun hm => refused (serve_of_unconfigured s.reserve hm tag b),
      fun hm hb => refused (serve_of_noGroup s.reserve hm (member_of_outOfRange hb) tag)⟩
  · rintro g rfl hm
    exact ⟨fun hk => refused (serve_of_unfitted s.reserve hm hk tag),
      fun hk hc => exec_of_direct (direct_of_green h hm hk hc),
      fun hk hc => exec_of_direct (direct_of_waiting h hm hk hc)⟩

end Sys2Proof.Machine
end

/-! SUPPORT. The fault table's clear by key (R177) and purge (R181): what an entry's key is, the clear where the key's one
entry is ACTIVE and where none is, the purge as the statement spells it, and the two statements assembled from them. -/

namespace Sys2Proof.Machine

namespace FaultTable

/-! ### Keys and the pending set -/

@[simp] theorem hasKey_iff {e : FaultEntry} {k : FaultKind} {x : Subject} :
    e.hasKey k x = true ↔ e.kind = k ∧ e.subject = x := by
  simp [FaultEntry.hasKey]

theorem isActive_iff {f : Flt} {k : FaultKind} {x : Subject} :
    f.isActive k x = true ↔ ∃ e ∈ f.entries, (e.kind = k ∧ e.subject = x) ∧ e.active = true := by
  simp [Flt.isActive]

/-- The addition of FAULT_CHANGE sets that class and keeps the others (R182). -/
theorem union_ofFaultChange (p : PendingSet) : p.union PendingSet.ofFaultChange = { p with faultChange := true } := by
  simp [PendingSet.union, PendingSet.ofFaultChange, PendingSet.empty]

/-! ### A clear by key (R177) -/

/-- A change of the entries of a key changes the one entry that has the key and no other. -/
theorem map_of_only_key {k : FaultKind} {x : Subject} {a b : List FaultEntry} {e : FaultEntry} (hk : e.hasKey k x = true)
    (hne : ∀ e' ∈ a ++ b, ¬(e'.kind = k ∧ e'.subject = x)) (u : FaultEntry → FaultEntry) :
    ((a ++ e :: b).map fun e => if e.hasKey k x then u e else e) = a ++ u e :: b := by
  have kept {l : List FaultEntry} (hl : l ⊆ a ++ b) : (l.map fun e => if e.hasKey k x then u e else e) = l :=
    (List.map_congr_left fun e' he' => if_neg fun h => hne e' (hl he') (hasKey_iff.mp h)).trans (List.map_id' l)
  rw [List.map_append, List.map_cons, if_pos hk, kept (List.subset_append_left a b), kept (List.subset_append_right a b)]

theorem clear_of_active {f : Flt} {k : FaultKind} {x : Subject} {a b : List FaultEntry} {e : FaultEntry}
    (hf : f.entries = a ++ e :: b) (hk : e.kind = k ∧ e.subject = x) (hactive : e.active = true)
    (hne : ∀ e' ∈ a ++ b, ¬(e'.kind = k ∧ e'.subject = x)) :
    f.clear k x =
      { f with
        entries := a ++ { e with active := false } :: b
        pendingSet := { f.pendingSet with faultChange := true }
        added := true } := by
  have hmem : e ∈ f.entries := hf ▸ List.mem_append_right a List.mem_cons_self
  have hisActive : f.isActive k x = true := isActive_iff.mpr ⟨e, hmem, hk, hactive⟩
  rw [Flt.clear, if_pos hisActive, hf, map_of_only_key (hasKey_iff.mpr hk) hne, union_ofFaultChange]

theorem clear_of_noneActive {f : Flt} {k : FaultKind} {x : Subject}
    (h : ∀ e ∈ f.entries, e.kind = k → e.subject = x → e.active = false) : f.clear k x = f := by
  refine if_neg fun hisActive => ?_
  obtain ⟨e, he, ⟨hk, hx⟩, hactive⟩ := isActive_iff.mp hisActive
  exact Bool.false_ne_true ((h e he hk hx).symm.trans hactive)

/-! ### The purge (R181) -/

/-- The purge keeps what is not both CLEARED and acknowledged, and the overflow indication where that is every entry. -/
theorem purge_eq {f : Flt} {kept : List FaultEntry}
    (h : kept = f.entries.filter fun e => decide (¬(e.active = false ∧ e.acked = true))) :
    f.purge =
      { f with
        entries := kept
        overflow := if kept.length < f.entries.length then false else f.overflow } := by
  have hkept : (f.entries.filter fun e => e.active || !e.acked) = kept := by
    rw [h]
    exact List.filter_congr fun e _ => by cases e.active <;> cases e.acked <;> rfl
  have hle : kept.length ≤ f.entries.length := h ▸ List.length_filter_le _ _
  have hoverflow : (f.overflow && kept.length == f.entries.length) =
      if kept.length < f.entries.length then false else f.overflow := by
    split
    · next hlt => rw [beq_false_of_ne hlt.ne, Bool.and_false]
    · next hge => rw [beq_iff_eq.mpr (hle.antisymm (not_lt.mp hge)), Bool.and_true]
  rw [Flt.purge, hkept, hoverflow]

/-! ### FAULT_PURGE in its cases (R181) -/

/-- The command is its service given directly, and it always completes. -/
theorem exec_faultPurge (tag : Byte) (body : List Byte) (s : State) :
    exec (.faultPurge tag body) s = .next (s.direct tag body (serveFaultPurge tag body)) := rfl

theorem serve_of_badLength {body : List Byte} (h : body ≠ []) (tag : Byte) (s : State) :
    serveFaultPurge tag body s = s.refuse tag 0x62#8 .badLength := if_pos h

theorem serve_of_empty (tag : Byte) (s : State) :
    serveFaultPurge tag [] s =
      (s.onFlt Flt.purge).reply tag 0x62#8 .ok
        [BitVec.ofNat 8 (s.flt.entries.length - s.flt.purge.entries.length)] := rfl

/-- A purge taken between two steps: the purged table and the reply with the number removed. -/
theorem direct_of_empty {s : State} {tag : Byte} (h : s.takes tag []) :
    s.direct tag [] (serveFaultPurge tag []) =
      (s.onFlt Flt.purge).withReply tag 0x62#8 .ok
        [BitVec.ofNat 8 (s.flt.entries.length - s.flt.purge.entries.length)] :=
  DemandPlace.direct_reply h (by decide) (serve_of_empty tag s.reserve) h.1 fun _ => id

end FaultTable

open FaultTable in
/-- Settles O16: the clear by what the table holds for the key, and the two orders of a clear and a report by what each
of the two leaves behind. -/
theorem clearByKeyMakesEntryCleared : Obligations.ClearByKeyMakesEntryCleared := by
  unfold Obligations.ClearByKeyMakesEntryCleared
  intro f k x
  refine ⟨fun a b e hf hk hx hactive hne => clear_of_active hf ⟨hk, hx⟩ hactive hne, clear_of_noneActive,
    fun safety now => ⟨Laws.clear_inactive (f.report k x safety now) k x, fun hroom => ?_⟩⟩
  have hroom' : (f.clear k x).entries.length < 64 := (Laws.clear_length f k x).trans_lt hroom
  obtain ⟨e, he, hk, hx, hactive, -⟩ := Laws.report_active (f.clear k x) k x safety now hroom'
  exact ⟨e, he, hk, hx, hactive⟩

open FaultTable in
/-- Settles O18: a body is refused and changes nothing; without one the table is purged, and as a purge makes no
addition the end of the step leaves the reply as it was formed. -/
theorem faultPurgeRemovesClearedAcknowledged : Obligations.FaultPurgeRemovesClearedAcknowledged := by
  unfold Obligations.FaultPurgeRemovesClearedAcknowledged
  intro s tag body h
  refine ⟨fun hbody => ?_, ?_⟩
  · rw [exec_faultPurge, Laws.direct_refuse .badLength h (by decide) (serve_of_badLength hbody tag s.reserve)]
  · rintro rfl kept hkept
    rw [exec_faultPurge, direct_of_empty h, State.onFlt, purge_eq hkept]

end Sys2Proof.Machine

section
/-! SUPPORT. What the shared operations can do, in two layers. An `Edit` is one write below the colour states (a finding, a
lamp record, a channel, the tester, what a group derives); an `Act` is one action above them (colours with the commands that
follow, modes, the sequencer, the schedule, the clock, the inputs, the configuration). Both carry the list of the parts of
the state that may be written, so that one induction over the layers says of every operation what it keeps. -/

namespace Sys2Proof.Machine

set_option Elab.async false

namespace Acts

/-! ### The parts of the state and the local laws -/

/-- The parts of the state that an operation may write. `healthy` stands for what a lamp record learns and estimates,
`command` for the command of a channel; `slots` stands for a change of the balance of reserved reply slots. Of the fault
table, `flt` stands for any write, `table` for one that is no report, clear or addition, `alarm` for a SAFETY report, and the
parts that end in `Fault`, `starved`, `crossing`, `stuck`, `alert` and `lockout` for the entries of some kinds, `wear` for those of
RELAY_WEAR and the operation counts; of the clock, the sequencer and the supervisor, `time`, `tick` and `supply` stand for the time, the tick and the supply. -/
inductive Part where
  | flt | demand | health | grace | shown | lamp | healthy | chan | command | cbt | answer | slots | flash | contactor
  | colour | mode | sup | seq | sch | clk | det | cfg | link | table | alarm | closeFault | relayFault | wear | starved
  | supplyFault | planFault | lampFault | redFault | crossing | stuck | alert | lockout | time | tick | supply
  deriving DecidableEq

end Acts

/-- The part of the entries of a kind. -/
def FaultKind.part : FaultKind → Acts.Part
  | .relayFailToClose => .closeFault
  | .relayFailToOpen | .foreignVoltage => .relayFault
  | .relayWear => .wear
  | .testStarved => .starved
  | .supplyContactor => .supplyFault
  | .planUndefined => .planFault
  | .lampPartial | .lampFailed | .lampOvercurrent | .circuitOpen => .lampFault
  | .redDeficient => .redFault
  | .conflict | .crossDangerous | .crossNuisance | .earthLeak => .crossing
  | .detectorStuckOn | .detectorStuckOff | .priorityOverstay => .stuck
  | .timeInvalid | .supplyLoss | .linkBreak => .alert
  | .recoveryLockout => .lockout

/-- The time that the clock keeps, with what waits for its tick; not its source and the mains' counts. -/
def Clk.timed (k : Clk) : Clk :=
  { k with preference := .crystal, freq := .hz50, source := .crystal, mainsCount := 0, stability := 0 }

/-- The tick that the sequencer counts. -/
def Seq.ticked (q : Seq) : Nat × Bool := (q.tick, q.tickOpen)

/-- The supply as the supervisor sees it. -/
def Sup.supplied (u : Sup) : Bool × Nat × Nat × Bool := (u.supplyPresent, u.supplyGap, u.supplyStable, u.crossingSeen)

/-- One channel's share of `State.coilSafe`. -/
def ChanRun.coilOk (r : ChanRun) : Prop :=
  (r.drive ≠ .off ↔ r.relay = .pullingIn ∨ r.relay = .held) ∧ (r.testBus ≠ .no → r.drive = .off)

/-- One channel's share of `State.handedOn`, but for steady-on since and the leak time (R120, R127, R132). -/
def LampRec.follows (l : LampRec) (r : ChanRun) : Prop :=
  (l.verdict = .held ↔ r.command = .flashing) ∧ (l.saved ≠ none ↔ l.verdict = .held) ∧
    (r.command ≠ .on ∨ r.proof ≠ .closed ∨ l.maintenance = true →
      l.set = none ∧ l.run = none ∧ (l.learn = .unlearned ∨ l.learn = .learning 0 ∨ l.learn = .learned))

/-- A lamp record after changes of its channel's fields and of the leak's conditions: reference, estimate and maintenance
stand; a partial set, a run and learning under way may have been discarded (R120, R127, R134). -/
def LampRec.trails (l l' : LampRec) : Prop :=
  l'.maintenance = l.maintenance ∧ l'.healthy = l.healthy ∧ l'.iref = l.iref ∧ (l'.set = l.set ∨ l'.set = none) ∧
    (l'.run = l.run ∨ l'.run = none) ∧ (l'.learn = l.learn ∨ l'.learn = l.leaveSteady.learn)

/-- The urgent queue's share of `State.listsSound` (R139). -/
def Cbt.urgentOk (b : Cbt) : Prop := b.urgent.length ≤ Config.urgentCapacity ∧ b.urgent.Nodup

/-- The priority list's share of `State.listsSound` (R38). -/
def Seq.priorityOk (q : Seq) : Prop :=
  q.priority.length ≤ Config.priorityCapacity ∧ (q.priority.map (·.input)).Nodup

/-- A group's record with another demand and latch, and nothing else changed. -/
def GroupRun.demandOnly (r r' : GroupRun) : Prop := r' = { r with demand := r'.demand, latch := r'.latch }

namespace Acts

/-! ### Edits -/

/-- One write below the colour states, of a part in `K`. -/
inductive Edit (K : List Part) : State → State → Prop where
  | report {s : State} (k : FaultKind) (x : Subject) (safety : Bool) (h : Part.flt ∈ K) (hk : k.part ∈ K)
      (ha : safety = true → Part.alarm ∈ K) : Edit K s (s.reportAs k x safety)
  | clear {s : State} (k : FaultKind) (x : Subject) (h : Part.flt ∈ K) (hk : k.part ∈ K) : Edit K s (s.clearFault k x)
  | add {s : State} (p : PendingSet) (h : Part.flt ∈ K) : Edit K s (s.addEvents p)
  | table {s : State} (f : Flt → Flt) (h : Part.flt ∈ K) (hs : s.flt.sound → (f s.flt).sound)
      (ha : (f s.flt).added = s.flt.added)
      (ht : (f s.flt = { s.flt with pulse := (f s.flt).pulse }) ∨ Part.table ∈ K) : Edit K s (s.onFlt f)
  | demand {s : State} (gs : Tab 16 GroupRun) (h : Part.demand ∈ K)
      (hg : ∀ g, (s.group g).demandOnly (gs.get g)) : Edit K s (s.onSeq fun q => { q with groups := gs })
  | inhibit {s : State} (h : Part.health ∈ K) : Edit K s s.refreshInhibited
  | health {s : State} (g : Gid) (h : Part.health ∈ K) (hg : Part.grace ∈ K) (hf : Part.flt ∈ K)
      (hr : Part.redFault ∈ K) (ha : Part.alarm ∈ K) : Edit K s (s.evalRedHealth g)
  | grace {s : State} (h : Part.grace ∈ K) : Edit K s s.refreshGrace
  | conflicts {s : State} (h : Part.shown ∈ K) : Edit K s s.refreshConflicts
  | green {s : State} (g : Gid) (h : Part.shown ∈ K) : Edit K s (s.refreshGreen g)
  | leak {s : State} (c : Ch) (h : Part.lamp ∈ K) : Edit K s (s.refreshLeak c)
  | lamp {s : State} (c : Ch) (f : LampRec → LampRec) (h : Part.lamp ∈ K)
      (hm : (f (s.lamp c)).maintenance = (s.lamp c).maintenance) (hl : (f (s.lamp c)).leak = (s.lamp c).leak)
      (hh : (s.lamp c).trails (f (s.lamp c)) ∨ Part.healthy ∈ K)
      (hf : (s.lamp c).follows (s.chan c) → (f (s.lamp c)).follows (s.chan c)) : Edit K s (s.onLamp c f)
  | maintain {s : State} (c : Ch) (f : LampRec → LampRec) (h : Part.lamp ∈ K) (hh : Part.healthy ∈ K)
      (hl : (f (s.lamp c)).leak = (s.lamp c).leak ∨ (f (s.lamp c)).leak = none)
      (hf : (s.lamp c).follows (s.chan c) → (f (s.lamp c)).follows (s.chan c)) :
      Edit K s ((s.onLamp c f).refreshLeak c)
  | chan {s : State} (c : Ch) (f : ChanRun → ChanRun) (h : Part.chan ∈ K)
      (hc : (s.chan c).coilOk → (f (s.chan c)).coilOk) (hcmd : (f (s.chan c)).command = (s.chan c).command)
      (hp : (f (s.chan c)).proof = (s.chan c).proof) (hi : (f (s.chan c)).indication = (s.chan c).indication)
      (hs : (f (s.chan c)).steadySince = (s.chan c).steadySince)
      (ho : (f (s.chan c)).opCount = (s.chan c).opCount := by rfl) : Edit K s (s.onChan c f)
  | count {s : State} (c : Ch) (h : Part.chan ∈ K) (hf : Part.flt ∈ K) (hw : Part.wear ∈ K) : Edit K s (s.countOperation c)
  | put {s : State} (c : Ch) (r new : ChanRun) (h : Part.chan ∈ K) (hl : Part.lamp ∈ K) (hg : Part.shown ∈ K)
      (hc : (s.chan c).coilOk → new.coilOk) (hcmd : r.command = (s.chan c).command) (hp : r.proof = (s.chan c).proof)
      (hs : r.steadySince = (s.chan c).steadySince)
      (hn : new.command = (s.chan c).command ∨ Part.command ∈ K)
      (ho : new.opCount = (s.chan c).opCount := by rfl) :
      Edit K s ((s.onChan c fun _ => r).putChan c new)
  | cbt {s : State} (f : Cbt → Cbt) (h : Part.cbt ∈ K) (hu : s.cbt.urgentOk → (f s.cbt).urgentOk)
      (ho : (f s.cbt).owesReply = s.cbt.owesReply ∨ Part.slots ∈ K) : Edit K s (s.onCbt f)
  | abandon {s : State} (h : Part.answer ∈ K) (hb : Part.cbt ∈ K) (hf : Part.flt ∈ K) (hst : Part.starved ∈ K) :
      Edit K s s.abandonProbe
  | reply {s : State} (tag code : Byte) (st : Status) (b : List Byte) (h : Part.slots ∈ K) :
      Edit K s (s.reply tag code st b)
  | flash {s : State} (f : FlashGen) (h : Part.flash ∈ K) : Edit K s (s.onOut fun o => { o with flash := f })
  | contactor {s : State} (k : Contactor) (trip : Bool) (h : Part.contactor ∈ K) :
      Edit K s (s.onOut fun o => { o with contactor := k, trip := trip })

/-- Edits one after another. -/
def Edits (K : List Part) : State → State → Prop := Relation.ReflTransGen (Edit K)

theorem Edit.up {K L : List Part} {s t : State} (h : Edit K s t) (hKL : K ⊆ L := by decide) : Edit L s t := by
  cases h with
  | report k x b h hk ha => exact .report k x b (hKL h) (hKL hk) fun hb => hKL (ha hb)
  | clear k x h hk => exact .clear k x (hKL h) (hKL hk)
  | add p h => exact .add p (hKL h)
  | table f h hs ha ht => exact .table f (hKL h) hs ha (ht.imp id (hKL ·))
  | demand gs h hg => exact .demand gs (hKL h) hg
  | inhibit h => exact .inhibit (hKL h)
  | health g h hg hf hr ha => exact .health g (hKL h) (hKL hg) (hKL hf) (hKL hr) (hKL ha)
  | grace h => exact .grace (hKL h)
  | conflicts h => exact .conflicts (hKL h)
  | green g h => exact .green g (hKL h)
  | leak c h => exact .leak c (hKL h)
  | lamp c f h hm hl hh hf => exact .lamp c f (hKL h) hm hl (hh.imp id (hKL ·)) hf
  | maintain c f h hh hl hf => exact .maintain c f (hKL h) (hKL hh) hl hf
  | chan c f h hc hcmd hp hi hs ho => exact .chan c f (hKL h) hc hcmd hp hi hs ho
  | count c h hf hw => exact .count c (hKL h) (hKL hf) (hKL hw)
  | put c r new h hl hg hc hcmd hp hs hn ho =>
    exact .put c r new (hKL h) (hKL hl) (hKL hg) hc hcmd hp hs (hn.imp id (hKL ·)) ho
  | cbt f h hu ho => exact .cbt f (hKL h) hu (ho.imp id (hKL ·))
  | abandon h hb hf hst => exact .abandon (hKL h) (hKL hb) (hKL hf) (hKL hst)
  | reply tag code st b h => exact .reply tag code st b (hKL h)
  | flash f h => exact .flash f (hKL h)
  | contactor k trip h => exact .contactor k trip (hKL h)

namespace Edits

variable {K L : List Part} {s t u : State}

theorem refl (s : State) : Edits K s s := Relation.ReflTransGen.refl
theorem one (h : Edit K s t) : Edits K s t := Relation.ReflTransGen.single h
theorem trans (h : Edits K s t) (h' : Edits K t u) : Edits K s u := Relation.ReflTransGen.trans h h'
theorem up (h : Edits K s t) (hKL : K ⊆ L := by decide) : Edits L s t := 
  Relation.ReflTransGen.mono (fun _ _ e => e.up hKL) _ _ h
theorem of_eq (h : t = s) : Edits K s t := h ▸ refl _

/-- What every edit keeps, edits one after another keep. -/
theorem keeps {P : State → Prop} (h : Edits K s t) (hs : P s) (hP : ∀ s t, Edit K s t → P s → P t) : P t := by
  induction h with
  | refl => exact hs
  | tail _ e ih => exact hP _ _ e ih

theorem keeps_eq {β : Type} {p : State → β} (h : Edits K s t) (hp : ∀ s t, Edit K s t → p t = p s) : p t = p s :=
  h.keeps (P := fun u => p u = p s) rfl fun _ _ e hs => (hp _ _ e).trans hs

theorem foldl {α : Type} {f : State → α → State} (l : List α) (s : State) (h : ∀ s a, a ∈ l → Edits K s (f s a)) :
    Edits K s (l.foldl f s) := by
  induction l generalizing s with
  | nil => exact refl s
  | cons a l ih => exact (h s a List.mem_cons_self).trans (ih _ fun s b hb => h s b (List.mem_cons_of_mem _ hb))

theorem forAll {n : Nat} {f : State → Fin n → State} (s : State) (h : ∀ s i, Edits K s (f s i)) : Edits K s (s.forAll f) :=
  foldl _ s fun s i _ => h s i

theorem either {c : Prop} [Decidable c] (ht : c → Edits K s t) (hu : ¬c → Edits K s u) : Edits K s (if c then t else u) := by
  split
  · next h => exact ht h
  · next h => exact hu h

end Edits

end Acts
end Sys2Proof.Machine
end

section
/-! SUPPORT. The operations below the colour states as edits. -/

namespace Sys2Proof

theorem Tab.put_get {n : Nat} {α : Type} (t : Tab n α) (i : Fin n) : t.put i (t.get i) = t := by
  cases t; simp [Tab.put, Tab.get]

end Sys2Proof

namespace Sys2Proof.Machine

set_option Elab.async false

theorem State.onChan_chan (s : State) (c : Ch) : (s.onChan c fun _ => s.chan c) = s := by
  have h : s.out.chans.modify c (fun _ => s.chan c) = s.out.chans := Tab.put_get _ _
  simp only [State.onChan, State.onOut, h]

namespace Acts

open Edits

variable {K L : List Part} {s t u : State}

/-! ### Findings -/

theorem edits_report (k : FaultKind) (x : Subject) (hf : Part.flt ∈ K := by decide) (hk : k.part ∈ K := by decide)
    (ha : k.listedSafety = true → Part.alarm ∈ K := by decide) : Edits K s (s.report k x) := .one (.report k x _ hf hk ha)
theorem edits_reportAs (k : FaultKind) (x : Subject) (b : Bool) (hk : k.part ∈ K)
    (hf : Part.flt ∈ K := by decide) (ha : Part.alarm ∈ K := by decide) : Edits K s (s.reportAs k x b) :=
  .one (.report k x b hf hk fun _ => ha)
theorem edits_clearFault (k : FaultKind) (x : Subject) (hf : Part.flt ∈ K := by decide) (hk : k.part ∈ K := by decide) :
    Edits K s (s.clearFault k x) := .one (.clear k x hf hk)
theorem edits_addEvents (p : PendingSet) : Edits [.flt] s (s.addEvents p) := .one (.add p (by decide))

theorem edits_clearLampFaults (c : Ch) : Edits [.flt, .lampFault] s (s.clearLampFaults c) := by
  unfold State.clearLampFaults
  exact (((edits_clearFault _ _).trans (edits_clearFault _ _)).trans (edits_clearFault _ _)).trans (edits_clearFault _ _)

/-- The part of the entry that a relay fault makes. -/
theorem part_of_relayKind {f : RelayFault} {k : FaultKind} (h : f.kind = some k) :
    k.part = .closeFault ∨ k.part = .relayFault := by
  cases f <;> simp [RelayFault.kind] at h <;> subst h <;> simp [FaultKind.part]

theorem edits_clearRelayEntry (c : Ch) (f : RelayFault) : Edits [.flt, .closeFault, .relayFault] s (s.clearRelayEntry c f) := by
  unfold State.clearRelayEntry
  split
  · next k hk =>
    have hp := part_of_relayKind hk
    exact edits_clearFault k _ (hk := by rcases hp with e | e <;> rw [e] <;> decide)
  · exact refl _

/-- The entries of the verdicts are those of the lamps. -/
theorem part_of_verdictKind {v : Verdict} {k : FaultKind} (h : v.faultKind = some k) :
    k.part = .lampFault ∧ k.listedSafety = false := by
  cases v <;> simp [Verdict.faultKind] at h <;> subst h <;> exact ⟨rfl, rfl⟩

theorem edits_reportVerdict (c : Ch) (v w : Verdict) : Edits [.flt, .lampFault] s (s.reportVerdict c v w) := by
  have hclear : Edits [.flt, .lampFault] s (match v.faultKind with
      | some k => if w.faultKind = some k then s else s.clearFault k (.channel c)
      | none => s) := by
    split
    · next k hk =>
      obtain ⟨hp, -⟩ := part_of_verdictKind hk
      exact either (fun _ => refl _) fun _ => edits_clearFault k _ (hk := by rw [hp]; decide)
    · exact refl _
  unfold State.reportVerdict
  dsimp only
  split
  · next k hk =>
    obtain ⟨hp, hl⟩ := part_of_verdictKind hk
    exact hclear.trans (edits_report k _ (hk := by rw [hp]; decide) (ha := by rw [hl]; nofun))
  · exact hclear

/-! ### What groups derive -/

theorem edits_refreshShowing (c : Ch) : Edits [.shown] s (s.refreshShowing c) := by
  unfold State.refreshShowing
  split
  · exact .one (.green _ (by decide))
  · exact refl _

/-- What red health may write. -/
abbrev redParts : List Part := [.health, .grace, .flt, .redFault, .alarm]

theorem edits_evalAllRedHealth : Edits redParts s s.evalAllRedHealth :=
  forAll s fun _ g => .one (.health g (by decide) (by decide) (by decide) (by decide) (by decide))

theorem demandOnly_setDemand (r : GroupRun) (b : Bool) : r.demandOnly { r with demand := b } := rfl

theorem edits_onGroup_demandOnly (g : Gid) (f : GroupRun → GroupRun) (hf : (s.group g).demandOnly (f (s.group g))) :
    Edits [.demand] s (s.onGroup g f) := by
  refine .one (.demand (s.seq.groups.modify g f) (by decide) fun j => ?_)
  rw [Tab.get_modify]
  split
  · next h => subst h; exact hf
  · rfl

theorem edits_placeDemand (g : Gid) : Edits [.demand] s (s.placeDemand g) :=
  either (fun _ => refl _) fun _ => edits_onGroup_demandOnly g _ rfl

theorem edits_pressButton (g : Gid) : Edits [.demand] s (s.pressButton g) :=
  either (fun _ => refl _) fun _ => (edits_onGroup_demandOnly g (fun r => { r with latch := true }) rfl).trans
    (edits_placeDemand g)

theorem edits_refreshStanding (before : State) : Edits [.demand] s (State.refreshStanding before s) :=
  .one (.demand _ (by decide) fun g => by rw [Tab.get_ofFn]; rfl)

theorem edits_recomputeDemand : Edits [.demand] s s.recomputeDemand :=
  .one (.demand _ (by decide) fun g => by rw [Tab.get_ofFn]; rfl)

/-! ### Lamp records -/

theorem follows_withVerdict {l : LampRec} {r : ChanRun} {v : Verdict} (h : Option Nat) (hv : v ≠ .held)
    (hl : l.follows r) : (l.withVerdict v h).follows r := by
  obtain ⟨hheld, hsaved, hsteady⟩ := hl
  unfold LampRec.withVerdict
  split
  · next e => exact ⟨hheld, ⟨fun _ => e, fun _ => nofun⟩, fun hr => ⟨(hsteady hr).1, rfl, (hsteady hr).2.2⟩⟩
  · next e =>
    have hs : l.saved = none := by_contra fun hs => e (hsaved.mp hs)
    exact ⟨⟨fun h' => absurd h' hv, fun h' => absurd (hheld.mpr h') e⟩,
      ⟨fun h' => absurd hs h', fun h' => absurd h' hv⟩, fun hr => ⟨(hsteady hr).1, rfl, (hsteady hr).2.2⟩⟩

theorem learn_leaveSteady (l : LampRec) :
    l.leaveSteady.learn = .unlearned ∨ l.leaveSteady.learn = .learning 0 ∨ l.leaveSteady.learn = .learned := by
  unfold LampRec.leaveSteady
  cases l.learn <;> simp

theorem follows_leaveSteady {l : LampRec} {r r' : ChanRun} (hc : r'.command = r.command) (hl : l.follows r) :
    l.leaveSteady.follows r' := by
  obtain ⟨hheld, hsaved, hsteady⟩ := hl
  exact ⟨hc ▸ hheld, hsaved, fun _ => ⟨rfl, rfl, learn_leaveSteady _⟩⟩

theorem follows_restartReference {l : LampRec} {r : ChanRun} (st : ChanSettings) (hl : l.follows r) :
    (l.restartReference st).follows r := by
  obtain ⟨hheld, hsaved, -⟩ := hl
  unfold LampRec.restartReference
  split
  · exact ⟨hheld, hsaved, fun _ => ⟨rfl, rfl, .inl rfl⟩⟩
  · exact ⟨hheld, hsaved, fun _ => ⟨rfl, rfl, .inr (.inr rfl)⟩⟩

@[simp] theorem withVerdict_maintenance (l : LampRec) (v : Verdict) (h : Option Nat) :
    (l.withVerdict v h).maintenance = l.maintenance := by unfold LampRec.withVerdict; split <;> rfl
@[simp] theorem withVerdict_leak (l : LampRec) (v : Verdict) (h : Option Nat) : (l.withVerdict v h).leak = l.leak := by
  unfold LampRec.withVerdict; split <;> rfl
@[simp] theorem restartReference_maintenance (l : LampRec) (st : ChanSettings) :
    (l.restartReference st).maintenance = l.maintenance := by unfold LampRec.restartReference; split <;> rfl
@[simp] theorem restartReference_leak (l : LampRec) (st : ChanSettings) : (l.restartReference st).leak = l.leak := by
  unfold LampRec.restartReference; split <;> rfl

/-- A lamp record with another reference, estimate or mark of the leak request follows its channel as before. -/
theorem follows_of_same {l l' : LampRec} {r : ChanRun} (hv : l'.verdict = l.verdict) (hs : l'.saved = l.saved)
    (hset : l'.set = l.set) (hrun : l'.run = l.run) (hlearn : l'.learn = l.learn) (hm : l'.maintenance = l.maintenance)
    (hl : l.follows r) : l'.follows r := by
  unfold LampRec.follows; rw [hv, hs, hset, hrun, hlearn, hm]; exact hl

/-- In steady-on and outside the maintenance set learning is free. -/
theorem follows_of_steady {l l' : LampRec} {r : ChanRun} (hv : l'.verdict = l.verdict) (hs : l'.saved = l.saved)
    (hm : l'.maintenance = false) (hon : r.command = .on) (hp : r.proof = .closed) (hl : l.follows r) : l'.follows r := by
  obtain ⟨hheld, hsaved, -⟩ := hl
  refine ⟨hv ▸ hheld, by rw [hs, hv]; exact hsaved, fun h => ?_⟩
  rw [hon, hp, hm] at h
  simp at h

abbrev verdictParts : List Part := .lamp :: .healthy :: .lampFault :: redParts

theorem edits_setVerdict (c : Ch) {v : Verdict} (hv : v ≠ .held) (h : Option Nat) :
    Edits verdictParts s (s.setVerdict c v h) := by
  unfold State.setVerdict
  dsimp only
  refine Edits.trans (Edits.trans (.one (.lamp c _ (by decide) (by simp) (by simp) (.inr (by decide)) ?_))
    (edits_reportVerdict _ _ _).up) edits_evalAllRedHealth.up
  exact follows_withVerdict h hv

theorem edits_relearn (c : Ch) : Edits [.lamp, .healthy, .flt, .lampFault] s (s.relearn c) := by
  unfold State.relearn
  refine Edits.trans (.one (.lamp c _ (by decide) (by simp) (by simp) (.inr (by decide)) fun hl => ?_))
    (edits_clearLampFaults _).up
  exact follows_withVerdict none (by decide) (follows_restartReference _ hl)

theorem refreshLeak_clearFault (c : Ch) (k : FaultKind) (x : Subject) :
    (s.clearFault k x).refreshLeak c = (s.refreshLeak c).clearFault k x := by
  have hruns : (s.clearFault k x).leakRuns c = s.leakRuns c := rfl
  have hlamp : (s.clearFault k x).lamp c = s.lamp c := rfl
  unfold State.refreshLeak
  rw [hruns, hlamp]
  split
  · split <;> rfl
  · rfl

theorem refreshLeak_clearLampFaults (c : Ch) : (s.clearLampFaults c).refreshLeak c = (s.refreshLeak c).clearLampFaults c := by
  unfold State.clearLampFaults
  simp only [refreshLeak_clearFault]

theorem edits_enterMaintenance (c : Ch) : Edits [.lamp, .healthy, .flt, .lampFault] s (s.enterMaintenance c) := by
  unfold State.enterMaintenance
  rw [refreshLeak_clearLampFaults]
  refine Edits.trans (.one (.maintain c _ (by decide) (by decide) (.inl (by simp [LampRec.leaveSteady])) fun hl => ?_)) (edits_clearLampFaults _).up
  obtain ⟨hheld, hsaved, hsteady⟩ := follows_withVerdict (v := .unknown) none (by decide) (follows_leaveSteady rfl hl)
  refine ⟨hheld, hsaved, fun _ => ⟨?_, ?_, ?_⟩⟩
  · simp only [LampRec.withVerdict]; split <;> rfl
  · simp only [LampRec.withVerdict]; split <;> rfl
  · have := learn_leaveSteady (s.lamp c)
    simp only [LampRec.withVerdict]; split <;> exact this

theorem edits_leaveMaintenance (c : Ch) : Edits [.lamp, .healthy] s (s.leaveMaintenance c) := by
  unfold State.leaveMaintenance
  refine .one (.maintain c _ (by decide) (by decide) (.inl (by simp)) fun hl => ?_)
  obtain ⟨hheld, hsaved, -⟩ := hl
  unfold LampRec.restartReference
  split
  · exact ⟨hheld, hsaved, fun _ => ⟨rfl, rfl, .inl rfl⟩⟩
  · exact ⟨hheld, hsaved, fun _ => ⟨rfl, rfl, .inr (.inr rfl)⟩⟩

theorem edits_loopOpen (c : Ch) : Edits verdictParts s (s.loopOpen c) :=
  either (fun _ => refl _) fun _ => Edits.trans
    (.one (.lamp c _ (by decide) rfl rfl (.inr (by decide)) (follows_leaveSteady rfl))) (edits_setVerdict c (by decide) _)

theorem edits_loopPass (c : Ch) : Edits verdictParts s (s.loopPass c) :=
  either (fun _ => edits_setVerdict c (by decide) _) fun _ => refl _

theorem gives_ne_held (r : ConfirmRun) (n : Nat) : (r.gives n).1 ≠ .held := by
  unfold ConfirmRun.gives; split <;> nofun

theorem edits_estimateSample (c : Ch) (i iref : Nat) (hon : (s.chan c).command = .on) (hp : (s.chan c).proof = .closed)
    (hm : (s.lamp c).maintenance = false) : Edits verdictParts s (s.estimateSample c i iref) := by
  unfold State.estimateSample
  dsimp only
  refine Edits.trans (either (fun _ => ?_) fun _ => either (fun _ => edits_setVerdict c (gives_ne_held _ _) _) fun _ => ?_)
    (.one (.lamp c _ (by decide) rfl rfl (.inr (by decide)) (follows_of_same rfl rfl rfl rfl rfl rfl)))
  · exact .one (.lamp c _ (by decide) rfl rfl (.inr (by decide)) (follows_of_steady rfl rfl hm hon hp))
  · exact .one (.lamp c _ (by decide) rfl rfl (.inr (by decide)) (follows_of_steady rfl rfl hm hon hp))

/-- What an on-sample says of its channel (R119). -/
theorem onSample_iff {c : Ch} : s.onSample c = true ↔
    (s.chan c).command = .on ∧ (s.chan c).proof = .closed ∧
      (∃ since, (s.chan c).steadySince = some since ∧ since + (s.chanRec c).lamp.settle ≤ s.now) ∧
      (s.lamp c).maintenance = false ∧ s.sup.mode ≠ .dark := by
  unfold State.onSample
  cases (s.chan c).steadySince <;> simp [and_assoc]

theorem learnSample_frame (l : LampRec) (i : Nat) :
    (l.learnSample i).verdict = l.verdict ∧ (l.learnSample i).saved = l.saved ∧
      (l.learnSample i).maintenance = l.maintenance ∧ (l.learnSample i).leak = l.leak ∧
      (l.learnSample i).healthy = l.healthy := by
  unfold LampRec.learnSample
  dsimp only
  split_ifs <;> exact ⟨rfl, rfl, rfl, rfl, rfl⟩

theorem edits_takeSample (c : Ch) (i : Nat) : Edits verdictParts s (s.takeSample c i) := by
  unfold State.takeSample
  refine either (fun h => ?_) fun _ => refl _
  obtain ⟨hon, hp, -, hm, -⟩ := onSample_iff.mp h
  split
  · exact edits_estimateSample c i _ hon hp hm
  · exact refl _
  · obtain ⟨h1, h2, h3, h4, h5⟩ := learnSample_frame (s.lamp c) i
    exact .one (.lamp c _ (by decide) h3 h4 (.inr (by decide)) (follows_of_steady h1 h2 (h3.trans hm) hon hp))

end Acts
end Sys2Proof.Machine
end

section
/-! SUPPORT. The operations of the tester and of the channel relays as edits. -/

namespace Sys2Proof.Machine

set_option Elab.async false
namespace Acts
open Edits

variable {K L : List Part} {s t u : State}

/-! ### The tester -/

theorem edits_onResult (e : PEnt) (f : ResultRec → ResultRec) : Edits [.cbt] s (s.onResult e f) :=
  .one (.cbt _ (by decide) id (.inl rfl))

theorem edits_countStarved (e : PEnt) : Edits [.cbt, .flt, .starved] s (s.countStarved e) := by
  unfold State.countStarved
  dsimp only
  exact either (fun _ => (edits_onResult _ _).up.trans (edits_report _ _)) fun _ => (edits_onResult _ _).up

theorem edits_deferAgain (e : PEnt) : Edits [.cbt] s (s.deferAgain e) :=
  either (fun _ => .one (.cbt _ (by decide) id (.inl rfl))) fun _ => refl _

theorem edits_reply (tag code : Byte) (st : Status) (b : List Byte) : Edits [.slots] s (s.reply tag code st b) :=
  .one (.reply tag code st b (by decide))

theorem edits_answerProbe (o : Origin) (r : ProbeResult) (m : Option Nat) : Edits [.flt, .slots] s (s.answerProbe o r m) := by
  unfold State.answerProbe
  split
  · exact (edits_addEvents _).up.trans (edits_reply _ _ _ _).up
  · exact refl _

theorem edits_recordAbandoned (p : ProbeRun) : Edits [.cbt, .flt, .starved, .slots] s (s.recordAbandoned p) := by
  unfold State.recordAbandoned
  dsimp only
  have h := (edits_onResult (s := s) p.entry fun r => { r with last := some .abandoned, measurement := none }).trans
    (edits_deferAgain p.entry)
  refine Edits.trans (either (fun _ => h.up.trans (edits_countStarved _).up) fun _ => h.up) (edits_answerProbe _ _ _).up

theorem edits_abandonProbe : Edits [.answer, .cbt, .flt, .starved] s s.abandonProbe :=
  .one (.abandon (by decide) (by decide) (by decide) (by decide))

theorem edits_claimChannel (c : Ch) : Edits [.answer, .cbt, .flt, .starved] s (s.claimChannel c) :=
  either (fun _ => refl _) fun _ => edits_abandonProbe

theorem owesReply_of_notWorking {b : Cbt} (h : b.phase.working = false) : b.owesReply = 0 := by
  unfold Cbt.owesReply; split <;> simp_all

theorem coilOk_connect {r : ChanRun} (bus : TestBus) (hd : r.driven = false) (h : r.coilOk) :
    ({ r with testBus := bus } : ChanRun).coilOk := by
  have : r.drive = .off := by simpa [ChanRun.driven] using hd
  exact ⟨h.1, fun _ => this⟩

theorem driven_eq_false_iff {r : ChanRun} : r.driven = false ↔ r.drive = .off := by simp [ChanRun.driven]
theorem driven_iff {r : ChanRun} : r.driven = true ↔ r.drive ≠ .off := by simp [ChanRun.driven]

/-- What a probe that can start needs (R141, R113). -/
theorem canStart_iff {e : PEnt} : s.canStart e = true ↔
    s.cbt.phase = .idle ∧ s.entryTestable e = true ∧ ∀ c ∈ (s.probeRec e).channels, (s.chan c).driven = false := by
  simp [State.canStart, State.busFree, and_assoc]

theorem edits_connectBus (e : PEnt) (h : ∀ c ∈ (s.probeRec e).channels, (s.chan c).driven = false) :
    Edits [.chan] s (s.connectBus e) := by
  unfold State.connectBus
  dsimp only
  unfold ProbeRec.channels at h
  split
  · next q hk hq =>
    rw [hk, hq] at h
    refine Edits.trans (.one (.chan q _ (by decide) (coilOk_connect _ (h q (by simp))) rfl rfl rfl rfl))
      (.one (.chan _ _ (by decide) (coilOk_connect _ ?_) rfl rfl rfl rfl))
    have hsub := h (s.probeRec e).subject (by simp)
    by_cases hc : q = (s.probeRec e).subject
    · subst hc; rw [State.onChan_self]; exact hsub
    · rw [State.onChan_other s _ hc]; exact hsub
  · refine .one (.chan _ _ (by decide) (coilOk_connect _ (h _ ?_)) rfl rfl rfl rfl)
    split <;> simp

theorem urgentOk_erase {b : Cbt} (e : PEnt) (h : b.urgentOk) : ({ b with urgent := b.urgent.erase e } : Cbt).urgentOk :=
  ⟨(List.erase_sublist.length_le).trans h.1, h.2.erase e⟩

theorem edits_startProbe_slots {e : PEnt} (o : Origin) (h : s.canStart e = true) :
    Edits [.chan, .cbt, .slots] s (s.startProbe e o) := by
  obtain ⟨-, -, hd⟩ := canStart_iff.mp h
  exact Edits.trans (edits_connectBus e hd).up (.one (.cbt _ (by decide) (urgentOk_erase e) (.inr (by decide))))

/-- The connection of the channels leaves the tester's record alone. -/
theorem connectBus_cbt (e : PEnt) : (s.connectBus e).cbt = s.cbt := by
  unfold State.connectBus
  dsimp only
  split <;> rfl

theorem edits_startProbe {e : PEnt} {o : Origin} (ho : ∀ tag, o ≠ .request tag) (h : s.canStart e = true) :
    Edits [.chan, .cbt] s (s.startProbe e o) := by
  obtain ⟨hphase, -, hd⟩ := canStart_iff.mp h
  refine Edits.trans (edits_connectBus e hd).up (.one (.cbt _ (by decide) (urgentOk_erase e) (.inl ?_)))
  rw [connectBus_cbt, owesReply_of_notWorking (b := s.cbt) (by rw [hphase]; rfl)]
  cases o with
  | request tag => exact absurd rfl (ho tag)
  | sweep => rfl
  | urgent => rfl

/-! ### Channels written with their hand-offs -/

abbrev putParts : List Part := [.chan, .lamp, .shown]
abbrev relayParts : List Part := [.chan, .lamp, .shown, .flt, .closeFault, .wear]
abbrev coilParts : List Part := .answer :: .cbt :: .starved :: relayParts
/-- What the channels' commands and coils may write. -/
abbrev electric : List Part := .flash :: .command :: coilParts

theorem edits_putChan (c : Ch) {new : ChanRun} (hc : (s.chan c).coilOk → new.coilOk)
    (hn : new.command = (s.chan c).command) (ho : new.opCount = (s.chan c).opCount := by rfl) : Edits putParts s (s.putChan c new) := by
  have h := Edit.put (K := putParts) (s := s) c (s.chan c) new (by decide) (by decide) (by decide) hc rfl rfl rfl (.inl hn) ho
  rw [State.onChan_chan] at h
  exact .one h

theorem edits_putChan_command (c : Ch) {new : ChanRun} (hc : (s.chan c).coilOk → new.coilOk)
    (ho : new.opCount = (s.chan c).opCount := by rfl) :
    Edits [.chan, .lamp, .shown, .command] s (s.putChan c new) := by
  have h := Edit.put (K := [.chan, .lamp, .shown, .command]) (s := s) c (s.chan c) new (by decide) (by decide) (by decide) hc
    rfl rfl rfl (.inr (by decide)) ho
  rw [State.onChan_chan] at h
  exact .one h

theorem edits_onChan_fault (c : Ch) (f : RelayFault) : Edits [.chan] s (s.onChan c fun r => { r with fault := f }) :=
  .one (.chan c _ (by decide) id rfl rfl rfl rfl)

theorem edits_endRelayFault (c : Ch) (f : RelayFault) :
    Edits [.chan, .flt, .closeFault, .relayFault] s (s.endRelayFault c f) :=
  either (fun _ => (edits_onChan_fault c _).up.trans (edits_clearRelayEntry _ _).up) fun _ => refl _

/-- The failure to close alone ends. -/
theorem edits_endFailToClose (c : Ch) : Edits [.chan, .flt, .closeFault] s (s.endRelayFault c .failToClose) :=
  either (fun _ => (edits_onChan_fault c _).up.trans (edits_clearFault .relayFailToClose _)) fun _ => refl _

theorem edits_clearRelayFault (c : Ch) : Edits [.chan, .flt, .closeFault, .relayFault] s (s.clearRelayFault c) :=
  edits_endRelayFault c _

theorem edits_countOperation (c : Ch) : Edits [.chan, .flt, .wear] s (s.countOperation c) :=
  .one (.count c (by decide) (by decide) (by decide))

/-- A pull-in completes, from fields written just before it. -/
theorem edits_completePullIn_from (c : Ch) {r : ChanRun} (hb : (s.chan c).coilOk → r.testBus = .no)
    (hcmd : r.command = (s.chan c).command) (hp : r.proof = (s.chan c).proof)
    (hs : r.steadySince = (s.chan c).steadySince) (ho : r.opCount = (s.chan c).opCount) :
    Edits relayParts s ((s.onChan c fun _ => r).completePullIn c) := by
  unfold State.completePullIn
  dsimp only
  rw [State.onChan_self]
  have hput : Edits relayParts s ((s.onChan c fun _ => r).putChan c
      { r with relay := .held, proof := .closed, limit := none, drive := if r.fullTime.isSome then .full else .hold }) := by
    refine .one (.put c r _ (by decide) (by decide) (by decide) (fun h => ⟨?_, fun h' => absurd (hb h) h'⟩) hcmd hp hs (.inl hcmd) ho)
    constructor
    · exact fun _ => .inr rfl
    · intro _; dsimp only; split <;> decide
  exact Edits.trans (either (fun _ => hput.trans (edits_countOperation c).up) fun _ => hput) (edits_endFailToClose c).up

theorem coilOk_started {r : ChanRun} {relay : RelayState} (hb : r.testBus = .no) (hr : relay = .pullingIn ∨ relay = .held)
    {drive : Drive} (hd : drive ≠ .off) (p : Proof) (l : Option Limit) (f : Option Nat) :
    ({ r with relay := relay, drive := drive, fullTime := f, limit := l, proof := p } : ChanRun).coilOk :=
  ⟨⟨fun _ => hr, fun _ => hd⟩, fun h => absurd hb h⟩

theorem coilOk_stopped {r : ChanRun} {relay : RelayState} (hr : relay = .releasing ∨ relay = .released) (p : Proof)
    (l : Option Limit) (f : Option Nat) :
    ({ r with relay := relay, drive := .off, fullTime := f, limit := l, proof := p } : ChanRun).coilOk := by
  refine ⟨⟨fun h => absurd rfl h, fun h => ?_⟩, fun _ => rfl⟩
  rcases hr with rfl | rfl <;> rcases h with h | h <;> cases h

theorem edits_coilStart (c : Ch) (hb : (s.chan c).testBus = .no) : Edits relayParts s (s.coilStart c) := by
  unfold State.coilStart
  dsimp only
  refine either (fun _ => either (fun _ => ?_) fun _ => ?_) fun _ => ?_
  · exact edits_completePullIn_from c (fun _ => hb) rfl rfl rfl rfl
  · exact (edits_putChan c (fun _ => coilOk_started hb (.inl rfl) (by decide) _ _ _) rfl).up
  · exact (edits_putChan c (fun _ => coilOk_started hb (.inl rfl) (by decide) _ _ _) rfl).up

theorem edits_coilStop (c : Ch) : Edits putParts s (s.coilStop c) := by
  unfold State.coilStop
  dsimp only
  exact either (fun _ => edits_putChan c (fun _ => coilOk_stopped (.inl rfl) _ _ _) rfl)
    fun _ => edits_putChan c (fun _ => coilOk_stopped (.inr rfl) _ _ _) rfl

theorem edits_updateCoil (c : Ch) : Edits coilParts s (s.updateCoil c) := by
  unfold State.updateCoil
  dsimp only
  refine either (fun _ => either (fun _ => (edits_claimChannel c).up) fun hb => either (fun _ => refl _) fun _ => ?_)
    fun _ => either (fun _ => (edits_coilStop c).up) fun _ => refl _
  exact (edits_coilStart c (not_not.mp hb)).up

/-- With no probe in the tester a claimed channel changes nothing, and a coil is brought to its state without it. -/
theorem edits_updateCoil_of_noProbe (c : Ch) (h : s.cbt.probe = none) : Edits relayParts s (s.updateCoil c) := by
  have hclaim : s.claimChannel c = s := by
    unfold State.claimChannel State.abandonProbe; rw [h]; exact ite_self s
  unfold State.updateCoil
  dsimp only
  rw [hclaim]
  exact either (fun _ => either (fun _ => refl _) fun hb => either (fun _ => refl _) fun _ => edits_coilStart c (not_not.mp hb))
    fun _ => either (fun _ => (edits_coilStop c).up) fun _ => refl _

theorem edits_unproveChan (c : Ch) : Edits putParts s (s.unproveChan c) := by
  unfold State.unproveChan
  dsimp only
  refine edits_putChan c (fun h => ?_) rfl
  by_cases hd : (s.chan c).driven = true
  · simp only [hd, if_true]
    exact ⟨⟨fun _ => .inl rfl, fun _ => nofun⟩, fun hb => absurd (h.2 hb) (driven_iff.mp hd)⟩
  · simp only [hd]
    exact coilOk_stopped (r := s.chan c) (.inr rfl) _ _ _

theorem edits_unproveAll : Edits putParts s s.unproveAll := forAll s fun _ c => edits_unproveChan c

/-! ### The colours while a channel is written -/

/-- The colours of the groups. -/
def colours (s : State) (g : Gid) : Colour := (s.group g).colour

theorem colours_onFlt (f : Flt → Flt) : colours (s.onFlt f) = colours s := rfl
theorem colours_onLmp (f : Tab 48 LampRec → Tab 48 LampRec) : colours (s.onLmp f) = colours s := rfl
theorem colours_report (k : FaultKind) (x : Subject) : colours (s.report k x) = colours s := by
  unfold State.report State.reportAs; exact colours_onFlt _
theorem colours_clearFault (k : FaultKind) (x : Subject) : colours (s.clearFault k x) = colours s := by
  unfold State.clearFault; exact colours_onFlt _

theorem colours_onGroup (g : Gid) (f : GroupRun → GroupRun) (hf : (f (s.group g)).colour = (s.group g).colour) :
    colours (s.onGroup g f) = colours s := by
  funext k
  show ((s.seq.groups.modify g f).get k).colour = _
  rw [Tab.get_modify]
  split
  · next hk => subst hk; exact hf
  · rfl

theorem colours_refreshInhibited : colours s.refreshInhibited = colours s := by
  funext k
  show ((Tab.ofFn 16 fun g => { s.seq.groups.get g with inhibited := s.inhibitedBy g }).get k).colour = _
  rw [Tab.get_ofFn]
  rfl

theorem colours_refreshGrace : colours s.refreshGrace = colours s := rfl
theorem colours_refreshConflicts : colours s.refreshConflicts = colours s := rfl

theorem colours_refreshGreen (g : Gid) : colours (s.refreshGreen g) = colours s := by
  unfold State.refreshGreen
  split
  · rfl
  · exact colours_onGroup _ _ rfl

theorem colours_refreshShowing (c : Ch) : colours (s.refreshShowing c) = colours s := by
  unfold State.refreshShowing
  split
  · exact colours_refreshGreen _
  · rfl

theorem colours_refreshLeak (c : Ch) : colours (s.refreshLeak c) = colours s := by
  unfold State.refreshLeak; split_ifs <;> rfl

theorem colours_putChan (c : Ch) (new : ChanRun) : colours (s.putChan c new) = colours s := by
  unfold State.putChan
  rw [colours_refreshLeak, colours_refreshShowing]
  rfl

/-! ### Commands that turn OFF -/

theorem edits_settleFlashGen : Edits [.flash] s s.settleFlashGen :=
  either (fun _ => refl _) fun _ => .one (.flash _ (by decide))

/-- What channels that turn OFF may write: no relay starts, and none is counted. -/
abbrev restingParts : List Part := [.flash, .command, .chan, .lamp, .shown]

/-- A command is given by the configuration and the colours. -/
theorem commandFor_of_same (hc : t.cfg = s.cfg) (hk : colours t = colours s) (c : Ch) : t.commandFor c = s.commandFor c := by
  have hg (g : Gid) : (t.group g).colour = (s.group g).colour := congrFun hk g
  unfold State.commandFor State.kind State.groupRec State.chanRec
  simp only [hc, hg]

theorem chan_putChan_command (c : Ch) (new : ChanRun) : ((s.putChan c new).chan c).command = new.command := by
  have hleak (t : State) : (t.refreshLeak c).chan = t.chan := by unfold State.refreshLeak; split_ifs <;> rfl
  have hshow (t : State) : (t.refreshShowing c).chan = t.chan := by
    
    unfold State.refreshShowing State.refreshGreen
    split
    · split <;> rfl
    · rfl
  unfold State.putChan
  rw [hleak, hshow]
  show ((s.onChan c fun _ => (s.chan c).settled new s.now).chan c).command = _
  rw [State.onChan_self]
  rfl

/-- A channel whose command turns OFF: its fields are written, and its coil stops where it was driven. -/
theorem syncCommand_off (c : Ch) (h : s.commandFor c = .off) : s.syncCommand c =
    if (s.chan c).command = .off then s
    else
      if ((s.putChan c { s.chan c with command := .off }).chan c).driven then (s.putChan c { s.chan c with command := .off }).coilStop c
      else s.putChan c { s.chan c with command := .off } := by
  have hdue : (s.putChan c { s.chan c with command := .off }).coilDue c = false := by
    unfold State.coilDue; rw [chan_putChan_command]
  unfold State.syncCommand
  rw [h]
  dsimp only
  refine if_congr Iff.rfl rfl ?_
  show (s.putChan c { s.chan c with command := .off }).updateCoil c = _
  unfold State.updateCoil
  dsimp only
  rw [if_neg (by rw [hdue]; nofun)]

theorem edits_syncCommand_off (c : Ch) (h : s.commandFor c = .off) : Edits restingParts s (s.syncCommand c) := by
  rw [syncCommand_off c h]
  refine either (fun _ => refl _) fun _ => ?_
  have hput : Edits restingParts s (s.putChan c { s.chan c with command := .off }) :=
    Edits.up (edits_putChan_command c fun h => h)
  exact either (fun _ => hput.trans (edits_coilStop c).up) fun _ => hput

theorem colours_syncCommand_off (c : Ch) (h : s.commandFor c = .off) : colours (s.syncCommand c) = colours s := by
  have hstop (t : State) : colours (t.coilStop c) = colours t := by
    unfold State.coilStop; dsimp only; split <;> exact colours_putChan _ _
  rw [syncCommand_off c h]
  split_ifs
  · rfl
  · rw [hstop, colours_putChan]
  · rw [colours_putChan]

/-- Where every command turns OFF, no relay starts. -/
theorem edits_syncCommands_off (h : ∀ c, s.commandFor c = .off) : Edits restingParts s s.syncCommands := by
  have hfold (l : List Ch) (t : State) (ht : ∀ c, t.commandFor c = .off) : Edits restingParts t (l.foldl State.syncCommand t) := by
    induction l generalizing t with
    | nil => exact refl t
    | cons c l ih =>
      refine (edits_syncCommand_off c (ht c)).trans (ih _ fun k => ?_)
      rw [commandFor_of_same (Frames.cfg_of_base (Frames.base_syncCommand t c)) (colours_syncCommand_off c (ht c)) k]
      exact ht k
  exact (hfold _ s h).trans (Edits.up edits_settleFlashGen)

/-! ### The flash generator, commands and the test bus -/

theorem edits_startFlashGen : Edits [.flash] s s.startFlashGen := .one (.flash _ (by decide))

theorem edits_setCommand (c : Ch) (k : Command) :
    Edits electric s ((s.putChan c { s.chan c with command := k }).updateCoil c) := by
  have hput : Edits [.chan, .lamp, .shown, .command] s (s.putChan c { s.chan c with command := k }) :=
    edits_putChan_command c fun h => h
  exact Edits.trans (hput.up (L := electric)) ((edits_updateCoil c).up (L := electric))

theorem edits_syncCommand (c : Ch) : Edits electric s (s.syncCommand c) :=
  either (fun _ => refl _) fun _ => Edits.trans (t := if s.commandFor c = .flashing && !s.out.flash.running then s.startFlashGen else s)
    (either (fun _ => edits_startFlashGen.up) fun _ => refl _) (edits_setCommand c _)

theorem edits_syncCommands : Edits electric s s.syncCommands :=
  (forAll s fun _ c => edits_syncCommand c).trans edits_settleFlashGen.up

theorem edits_openSwitches (l : List Ch) :
    Edits [.chan] s (l.foldl (fun t c => t.onChan c fun r => { r with testBus := .no }) s) :=
  foldl l s fun _ c _ => .one (.chan c _ (by decide) (fun h => ⟨h.1, fun h' => absurd rfl h'⟩) rfl rfl rfl rfl)

theorem edits_openBus_slots : Edits (.slots :: coilParts) s s.openBus := by
  unfold State.openBus
  dsimp only
  refine Edits.trans (Edits.trans (edits_openSwitches _).up (.one (.cbt _ (by decide) id (.inr (by decide)))))
    (foldl _ _ fun _ c _ => (edits_updateCoil c).up)

/-- The switches of a bus that owes no reply open. -/
theorem edits_openBus (h : s.cbt.owesReply = 0) : Edits coilParts s s.openBus := by
  unfold State.openBus
  dsimp only
  refine Edits.trans (Edits.trans (edits_openSwitches _).up (.one (.cbt _ (by decide) id (.inl ?_))))
    (foldl _ _ fun _ c _ => edits_updateCoil c)
  have hcbt : (((allFin 48).filter fun c => (s.chan c).testBus != TestBus.no).foldl
      (fun t c => t.onChan c fun r => { r with testBus := .no }) s).cbt = s.cbt :=
    Frames.foldl_keeps State.cbt (f := fun (t : State) c => t.onChan c fun r => { r with testBus := .no })
      (fun _ _ => rfl) _ s
  rw [hcbt, h]; rfl

theorem edits_onContactor (f : Contactor → Contactor) : Edits [.contactor] s (s.onContactor f) :=
  .one (.contactor (f s.out.contactor) s.out.trip (by decide))

theorem edits_openContactor : Edits [.contactor] s s.openContactor := edits_onContactor _

end Acts
end Sys2Proof.Machine
end

section
/-! SUPPORT. The actions above the colour states: the second layer, its closure, and the operations of the colours, the
cabinet modes and their causes as actions. -/

namespace Sys2Proof.Machine

set_option Elab.async false

/-- The runtime fields of every group and channel after a structural commit (R14), before the standing relay faults are
reported again. -/
def State.rebuilt (s before : State) : State :=
  let s1 := (s.forAll fun (t : State) (g : Gid) => t.reinitGroup before g).syncCommands
  let s2 := s1.forAll fun (t : State) (c : Ch) => ((t.reinitLamp c).clearChannelEntries c).refreshLeak c
  let s3 := s2.evalAllRedHealth.refreshInhibited
  (s3.forAll State.refreshGreen).refreshConflicts

theorem State.reinitRecords_eq (s before : State) :
    s.reinitRecords before = (s.rebuilt before).forAll fun (t : State) (c : Ch) => t.reclassRelayFault before c := rfl

namespace Acts

/-! ### Actions -/

/-- One group enters a colour state, its channels not yet following. `G` holds the groups that may gain RED_AMBER or GREEN;
a colour other than DARK_ALL is given to a lit group, or to a fitted one in a mode that is lit (R1, R43). -/
inductive Paint (G : Gid → Prop) : State → State → Prop where
  | put {s : State} (g : Gid) (col : Colour) (hg : col = .green ∨ col = .redAmber → G g)
      (hd : col = .darkAll ∨ (s.group g).colour ≠ .darkAll ∨ (s.fitted g = true ∧ s.sup.mode.unlit = false)) :
      Paint G s (s.putColour g col)

/-- Groups enter colour states one after another. -/
def Paints (G : Gid → Prop) : State → State → Prop := Relation.ReflTransGen (Paint G)

/-- A change of the sequencer record that leaves its groups and its tick alone and keeps the priority list within its law. -/
def Gentle (f : Seq → Seq) : Prop :=
  ∀ q : Seq, (f q).groups = q.groups ∧ (q.priorityOk → (f q).priorityOk) ∧ (f q).ticked = q.ticked

/-- One action: an edit, colours with the commands that follow them, a mode entered, or a block's own record written. -/
inductive Act (G : Gid → Prop) (K : List Part) : State → State → Prop where
  | edit {s t : State} (h : Edit K s t) : Act G K s t
  | paint {s u : State} (h : Paints G s u) (hc : Part.colour ∈ K) (he : electric ⊆ K) : Act G K s u.syncCommands
  | dim {s : State} (f : Sup → Sup) (k : Contactor → Contactor) (q : Seq → Seq) (hm : Part.mode ∈ K)
      (hk : Part.contactor ∈ K) (hc : Part.colour ∈ K) (he : .flt :: restingParts ⊆ K) (hq : Part.seq ∈ K) (hg : Part.grace ∈ K)
      (hu : (f s.sup).mode.unlit = true) (hgr : (f s.sup).grace = s.sup.grace) (hcf : (f s.sup).conflicts = s.sup.conflicts)
      (hsp : (f s.sup).supplied = s.sup.supplied) (hgentle : Gentle q) :
      Act G K s (((((s.onMode f).onContactor k).setAllColours fun _ => .darkAll).onSeq q).refreshGrace)
  | enter {s : State} (f : Sup → Sup) (q : Seq → Seq) (hm : Part.mode ∈ K) (hf : Part.flt ∈ K) (hq : Part.seq ∈ K)
      (hg : Part.grace ∈ K)
      (hu : (f s.sup).mode.unlit = false) (hgr : (f s.sup).grace = s.sup.grace) (hcf : (f s.sup).conflicts = s.sup.conflicts)
      (hsp : (f s.sup).supplied = s.sup.supplied) (hgentle : Gentle q) : Act G K s (((s.onMode f).onSeq q).refreshGrace)
  | sup {s : State} (f : Sup → Sup) (h : Part.sup ∈ K) (hm : (f s.sup).mode = s.sup.mode)
      (hg : (f s.sup).grace = s.sup.grace ∨
        (Part.grace ∈ K ∧ ∀ g, (f s.sup).grace.get g = .idle ↔ s.sup.grace.get g = .idle))
      (hc : (f s.sup).conflicts = s.sup.conflicts ∨ (Part.shown ∈ K ∧
        (f s.sup).conflicts.map (fun t => (t.low, t.high)) = s.sup.conflicts.map fun t => (t.low, t.high)))
      (hsp : (f s.sup).supplied = s.sup.supplied ∨ Part.supply ∈ K := by exact .inl rfl) : Act G K s (s.onSup f)
  | seq {s : State} (f : Seq → Seq) (h : Part.seq ∈ K) (hg : (f s.seq).groups = s.seq.groups)
      (hp : s.seq.priorityOk → (f s.seq).priorityOk) (ht : (f s.seq).ticked = s.seq.ticked ∨ Part.tick ∈ K := by exact .inl rfl) :
      Act G K s (s.onSeq f)
  | timers {s : State} (h : Part.seq ∈ K) : Act G K s (s.onSeq Seq.tickTimers)
  | sch {s : State} (f : Sch → Sch) (h : Part.sch ∈ K) : Act G K s (s.onSch f)
  | clk {s : State} (f : Clk → Clk) (h : Part.clk ∈ K) (hs : (f s.clk).setTags = s.clk.setTags ∨ Part.slots ∈ K)
      (ht : (f s.clk).timed = s.clk.timed ∨ Part.time ∈ K := by exact .inl rfl) : Act G K s (s.onClk f)
  | det {s : State} (f : Tab 32 DetRun → Tab 32 DetRun) (h : Part.det ∈ K) : Act G K s (s.onDet f)
  | install {s : State} (new : ConfigSet) (h : Part.cfg ∈ K) (hf : Part.flt ∈ K) (hst : new.st = s.cfg.running.st) :
      Act G K s (s.install new)
  | rebuild {s : State} (new : ConfigSet) (h : Part.cfg ∈ K) (he : electric ⊆ K) (hc : Part.colour ∈ K)
      (hd : Part.demand ∈ K) (hh : Part.health ∈ K) (hg : Part.grace ∈ K) (hl : Part.healthy ∈ K)
      (hlf : Part.lampFault ∈ K) (hrf : Part.redFault ∈ K) (hcr : Part.crossing ∈ K) (hal : Part.alarm ∈ K) :
      Act G K s (((s.install new).resetTester).rebuilt s)
  | cfg {s : State} (f : Cfg → Cfg) (h : Part.cfg ∈ K) (hr : (f s.cfg).running = s.cfg.running) : Act G K s (s.onCfg f)
  | link {s : State} (f : Lnk → Lnk) (h : Part.link ∈ K)
      (hs : ((f s.lnk).output.length ≤ s.lnk.output.length ∧ (f s.lnk).reserved = s.lnk.reserved ∧
        (s.lnk.input.length ≤ Config.inputFrames → (f s.lnk).input.length ≤ Config.inputFrames)) ∨ Part.slots ∈ K) :
      Act G K s (s.onLnk f)

end Acts

/-- Actions one after another. -/
def Acts (G : Gid → Prop) (K : List Acts.Part) : State → State → Prop := Relation.ReflTransGen (Acts.Act G K)

namespace Acts

variable {G : Gid → Prop} {K L : List Part} {s t u : State}

theorem Act.up (h : Act G K s t) (hKL : K ⊆ L := by decide) : Act G L s t := by
  cases h with
  | edit h => exact .edit (h.up hKL)
  | paint h hc he => exact .paint h (hKL hc) (List.Subset.trans he hKL)
  | dim f k q hm hk hc he hq hg hu hgr hcf hsp hgentle =>
    exact .dim f k q (hKL hm) (hKL hk) (hKL hc) (List.Subset.trans he hKL) (hKL hq) (hKL hg) hu hgr hcf hsp hgentle
  | enter f q hm hf hq hg hu hgr hcf hsp hgentle =>
    exact .enter f q (hKL hm) (hKL hf) (hKL hq) (hKL hg) hu hgr hcf hsp hgentle
  | sup f h hm hg hc hsp =>
    exact .sup f (hKL h) hm (hg.imp id fun h => ⟨hKL h.1, h.2⟩) (hc.imp id fun h => ⟨hKL h.1, h.2⟩) (hsp.imp id (hKL ·))
  | seq f h hg hp ht => exact .seq f (hKL h) hg hp (ht.imp id (hKL ·))
  | timers h => exact .timers (hKL h)
  | sch f h => exact .sch f (hKL h)
  | clk f h hs ht => exact .clk f (hKL h) (hs.imp id (hKL ·)) (ht.imp id (hKL ·))
  | det f h => exact .det f (hKL h)
  | install new h hf hst => exact .install new (hKL h) (hKL hf) hst
  | rebuild new h he hc hd hh hg hl hlf hrf hcr hal =>
    exact .rebuild new (hKL h) (List.Subset.trans he hKL) (hKL hc) (hKL hd) (hKL hh) (hKL hg) (hKL hl) (hKL hlf) (hKL hrf)
      (hKL hcr) (hKL hal)
  | cfg f h hr => exact .cfg f (hKL h) hr
  | link f h hs => exact .link f (hKL h) (hs.imp id (hKL ·))

theorem refl (s : State) : Acts G K s s := Relation.ReflTransGen.refl
theorem one (h : Act G K s t) : Acts G K s t := Relation.ReflTransGen.single h
theorem trans (h : Acts G K s t) (h' : Acts G K t u) : Acts G K s u := Relation.ReflTransGen.trans h h'
theorem up (h : Acts G K s t) (hKL : K ⊆ L := by decide) : Acts G L s t :=
  Relation.ReflTransGen.mono (fun _ _ e => e.up hKL) _ _ h
theorem of_edits (h : Edits K s t) : Acts G K s t := Relation.ReflTransGen.mono (fun _ _ e => .edit e) _ _ h

theorem of_eq (h : t = s) : Acts G K s t := h ▸ refl _

/-- What every action keeps, actions one after another keep. -/
theorem keeps {P : State → Prop} (h : Acts G K s t) (hs : P s) (hP : ∀ s t, Act G K s t → P s → P t) : P t := by
  induction h with
  | refl => exact hs
  | tail _ e ih => exact hP _ _ e ih

theorem keeps_eq {β : Type} {p : State → β} (h : Acts G K s t) (hp : ∀ s t, Act G K s t → p t = p s) : p t = p s :=
  h.keeps (P := fun u => p u = p s) rfl fun _ _ e hs => (hp _ _ e).trans hs

theorem foldl {α : Type} {f : State → α → State} (l : List α) (s : State) (h : ∀ s a, a ∈ l → Acts G K s (f s a)) :
    Acts G K s (l.foldl f s) := by
  induction l generalizing s with
  | nil => exact refl s
  | cons a l ih => exact (h s a List.mem_cons_self).trans (ih _ fun s b hb => h s b (List.mem_cons_of_mem _ hb))

theorem forAll {n : Nat} {f : State → Fin n → State} (s : State) (h : ∀ s i, Acts G K s (f s i)) : Acts G K s (s.forAll f) :=
  foldl _ s fun s i _ => h s i

theorem either {c : Prop} [Decidable c] (ht : c → Acts G K s t) (hu : ¬c → Acts G K s u) :
    Acts G K s (if c then t else u) := by
  split
  · next h => exact ht h
  · next h => exact hu h

/-! ### All groups dark -/

theorem commandOf_dark (k : GroupKind) (a : Aspect) : commandOf k .darkAll a = .off := by cases k <;> cases a <;> rfl

/-- With every fitted group in DARK_ALL every command is OFF (R3). -/
theorem commandFor_of_dark (h : ∀ g k, s.kind g = some k → (s.group g).colour = .darkAll) (c : Ch) : s.commandFor c = .off := by
  unfold State.commandFor
  split
  · next g a _ _ =>
    split
    · next k hk => rw [h g k hk]; exact commandOf_dark k a
    · rfl
  · rfl

/-- A fitted group given DARK_ALL, its channels not yet following. -/
def darkened (t : State) (g : Gid) : State :=
  match t.kind g with | some _ => t.putColour g .darkAll | none => t

theorem darkened_of_fitted {g : Gid} {k : GroupKind} (h : s.kind g = some k) : darkened s g = s.putColour g .darkAll := by
  unfold darkened; rw [h]

theorem colour_putColour (g : Gid) (col : Colour) (k : Gid) :
    ((s.putColour g col).group k).colour = if g = k then col else (s.group k).colour := by
  unfold State.putColour
  split
  · next h =>
    split
    · next hk => subst hk; exact h
    · rfl
  · show ((s.seq.groups.modify g _).get k).colour = _
    rw [Tab.get_modify]
    split
    · next hk => unfold GroupRun.enter; cases col <;> rfl
    · rfl

theorem darkened_frame (g : Gid) : (∀ k, (darkened s g).kind k = s.kind k) ∧
    (∀ k, (s.group k).colour = .darkAll → ((darkened s g).group k).colour = .darkAll) := by
  unfold darkened
  split
  · refine ⟨fun k => ?_, fun k hk => ?_⟩
    · unfold State.kind State.groupRec; rw [Frames.cfg_of_base (Frames.base_putColour s g _)]
    · rw [colour_putColour]; split
      · rfl
      · exact hk
  · exact ⟨fun _ => rfl, fun _ h => h⟩

theorem foldl_darkened (l : List Gid) (t : State) :
    (∀ k, (l.foldl darkened t).kind k = t.kind k) ∧
      ∀ g, (t.group g).colour = .darkAll ∨ (g ∈ l ∧ t.kind g ≠ none) → ((l.foldl darkened t).group g).colour = .darkAll := by
  induction l generalizing t with
  | nil => exact ⟨fun _ => rfl, fun g h => h.resolve_right fun h => absurd h.1 List.not_mem_nil⟩
  | cons a l ih =>
    obtain ⟨hk, hc⟩ := ih (darkened t a)
    obtain ⟨hk', hc'⟩ := darkened_frame (s := t) a
    refine ⟨fun k => (hk k).trans (hk' k), fun g hg => hc g ?_⟩
    rcases hg with h | ⟨h, hn⟩
    · exact .inl (hc' g h)
    · rcases List.mem_cons.mp h with rfl | h
      · obtain ⟨k, hkg⟩ := Option.ne_none_iff_exists'.mp hn
        left; rw [darkened_of_fitted hkg, colour_putColour, if_pos rfl]
      · exact .inr ⟨h, by rw [hk']; exact hn⟩

/-- With every fitted group in DARK_ALL the channels turn OFF and no relay starts. -/
theorem edits_syncCommands_dark : Edits restingParts (s.forAll darkened) (s.forAll darkened).syncCommands := by
  obtain ⟨hk, hc⟩ := foldl_darkened (allFin 16) s
  refine edits_syncCommands_off (commandFor_of_dark fun g k hg => hc g (.inr ⟨List.mem_finRange g, ?_⟩))
  rw [← hk g]
  exact fun h => nomatch h.symm.trans hg

theorem setAllColours_dark : (s.setAllColours fun _ => .darkAll) = (s.forAll darkened).syncCommands := rfl

/-! ### The sequencer record -/

theorem acts_seq (f : Seq → Seq) (hg : (f s.seq).groups = s.seq.groups) (hp : (f s.seq).priority = s.seq.priority)
    (ht : (f s.seq).ticked = s.seq.ticked := by rfl) : Acts G [.seq] s (s.onSeq f) :=
  one (.seq f (by decide) hg (fun h => by unfold Seq.priorityOk; rw [hp]; exact h) (.inl ht))

theorem acts_holdGap : Acts G [.seq] s s.holdGap := by
  unfold State.holdGap
  split
  · exact acts_seq _ rfl rfl
  · exact refl _

theorem acts_holdGapFor (g : Gid) : Acts G [.seq] s (s.holdGapFor g) := either (fun _ => acts_holdGap) fun _ => refl _

theorem priorityOk_nil {q : Seq} (h : q.priority = []) : q.priorityOk := by
  unfold Seq.priorityOk; rw [h]; exact ⟨Nat.zero_le _, List.nodup_nil⟩

theorem gentle_clear : Gentle fun q => q.clearRecord.clearRunner := fun _ => ⟨rfl, fun _ => priorityOk_nil rfl, rfl⟩

theorem gentle_clear_then {f : Seq → Seq}
    (hf : ∀ q, (f q).groups = q.groups ∧ (f q).priority = q.priority ∧ (f q).ticked = q.ticked) :
    Gentle fun q => f q.clearRecord.clearRunner := by
  intro q
  obtain ⟨hg, hp, ht⟩ := hf q.clearRecord.clearRunner
  exact ⟨hg, fun _ => priorityOk_nil hp, ht⟩

theorem acts_clearSequencer : Acts G [.seq] s s.clearSequencer :=
  one (.seq _ (by decide) (gentle_clear _).1 (gentle_clear _).2.1 (.inl rfl))

/-! ### Colours -/

abbrev colourParts : List Part := .colour :: electric
abbrev greenParts : List Part := .seq :: .colour :: electric

theorem acts_setColour {g : Gid} {col : Colour} (hg : col = .green ∨ col = .redAmber → G g)
    (hd : col = .darkAll ∨ (s.group g).colour ≠ .darkAll ∨ (s.fitted g = true ∧ s.sup.mode.unlit = false)) :
    Acts G greenParts s (s.setColour g col) := by
  have hsync : Acts G greenParts s (s.putColour g col).syncCommands :=
    one (.paint (.single (.put g col hg hd)) (by decide) (by decide))
  exact either (fun _ => hsync.trans (acts_holdGapFor g).up) fun _ => hsync

/-- A group leaves its colour for one that it may always take. -/
theorem acts_setColour_rest {g : Gid} {col : Colour} (hc : col ≠ .green ∧ col ≠ .redAmber)
    (hd : (s.group g).colour ≠ .darkAll ∨ (s.fitted g = true ∧ s.sup.mode.unlit = false)) :
    Acts G colourParts s (s.setColour g col) := by
  unfold State.setColour
  dsimp only
  rw [if_neg hc.1]
  exact one (.paint (.single (.put g col (fun h => absurd h (by simp [hc])) (.inr hd))) (by decide) (by decide))

@[simp] theorem putColour_sup (g : Gid) (col : Colour) : (s.putColour g col).sup = s.sup := by
  unfold State.putColour; split <;> rfl

theorem putColour_fitted (g h : Gid) (col : Colour) : (s.putColour g col).fitted h = s.fitted h := by
  unfold State.fitted State.kind State.groupRec
  rw [Frames.cfg_of_base (Frames.base_putColour s g col)]

theorem paints_setAll {f : GroupKind → Colour} (hg : ∀ k, f k ≠ .green ∧ f k ≠ .redAmber)
    (hd : (∀ k, f k = .darkAll) ∨ s.sup.mode.unlit = false) :
    Paints G s (s.forAll fun (t : State) (g : Gid) => match t.kind g with | some k => t.putColour g (f k) | none => t) := by
  unfold State.forAll
  generalize allFin 16 = l
  induction l generalizing s with
  | nil => exact .refl
  | cons a l ih =>
    have hsup : (match s.kind a with | some k => s.putColour a (f k) | none => s).sup = s.sup := by
      split
      · exact putColour_sup _ _
      · rfl
    refine Relation.ReflTransGen.trans ?_ (ih (hd.imp id fun h => by rw [hsup]; exact h))
    beta_reduce
    split
    · next k hk =>
      refine .single (.put a _ (fun h => ?_) (hd.imp (fun h => h k) fun h => .inr ⟨?_, h⟩))
      · exact absurd h (by simp [hg k])
      · unfold State.fitted; rw [hk]; rfl
    · exact .refl

theorem acts_setAllColours {f : GroupKind → Colour} (hg : ∀ k, f k ≠ .green ∧ f k ≠ .redAmber)
    (hd : (∀ k, f k = .darkAll) ∨ s.sup.mode.unlit = false) : Acts G colourParts s (s.setAllColours f) :=
  one (.paint (paints_setAll hg hd) (by decide) (by decide))

/-! ### The supervisor record and the entries to the modes -/

theorem acts_sup (f : Sup → Sup) (hm : (f s.sup).mode = s.sup.mode) (hg : (f s.sup).grace = s.sup.grace)
    (hc : (f s.sup).conflicts = s.sup.conflicts) (hsp : (f s.sup).supplied = s.sup.supplied := by rfl) :
    Acts G [.sup] s (s.onSup f) :=
  one (.sup f (by decide) hm (.inl hg) (.inl hc) (.inl hsp))

/-- The supervisor record changed within its mode. -/
theorem acts_onMode (f : Sup → Sup) (hm : (f s.sup).mode = s.sup.mode) (hg : (f s.sup).grace = s.sup.grace)
    (hc : (f s.sup).conflicts = s.sup.conflicts) (hsp : (f s.sup).supplied = s.sup.supplied := by rfl) :
    Acts G [.sup, .flt] s (s.onMode f) :=
  either (fun _ => (acts_sup f hm hg hc hsp).up) fun _ =>
    (acts_sup f hm hg hc hsp).up.trans (of_edits (edits_addEvents _)).up

abbrev enterParts : List Part := [.mode, .flt, .seq, .grace]
/-- What the cabinet modes and their causes may write. -/
abbrev cabinet : List Part :=
  [.mode, .seq, .grace, .sup, .contactor, .colour, .relayFault, .supplyFault, .closeFault, .alarm, .flt] ++ restingParts

/-- The supervisor record as the cabinet enters DARK. -/
def toDark (r : Option Reason) (l : Bool) (u : Sup) : Sup :=
  { u with mode := .dark, reason := r, latched := l, phaseTime := 0, flashNext := none }

/-- The supervisor record as the cabinet enters STARTUP_CHECK. -/
def toCheck (e : CheckExit) (u : Sup) : Sup :=
  { u with mode := .startupCheck, reason := none, latched := false, phaseTime := 0, exit := e, flashNext := none }

/-- The contactor's record as its command becomes OPEN. -/
def released (k : Contactor) : Contactor :=
  if k.driven then { k with closeCommand := false, driven := false, state := .releasing, limit := some 0 }
  else { k with closeCommand := false }

/-- The sequencer record of an unlit mode. -/
def unlitRecord (q : Seq) : Seq := { q.clearRecord.clearRunner with coloursDue := false, clearingDue := false }

theorem gentle_unlitRecord : Gentle unlitRecord := gentle_clear_then fun _ => ⟨rfl, rfl, rfl⟩

theorem onSeq_onSeq (s : State) (f g : Seq → Seq) : (s.onSeq f).onSeq g = s.onSeq fun q => g (f q) := rfl

theorem enterDark_eq (s : State) (r : Option Reason) (l : Bool) : s.enterDark r l =
    (((((s.onMode (toDark r l)).onContactor released).setAllColours fun _ => .darkAll).onSeq unlitRecord).refreshGrace) := by
  unfold State.enterDark State.darken State.clearSequencer
  rw [onSeq_onSeq]
  rfl

theorem enterStartupCheck_eq (s : State) (e : CheckExit) : s.enterStartupCheck e =
    (((((s.onMode (toCheck e)).onContactor id).setAllColours fun _ => .darkAll).onSeq unlitRecord).refreshGrace).closeContactor := by
  unfold State.enterStartupCheck State.clearSequencer
  dsimp only
  rw [onSeq_onSeq]
  rfl

theorem acts_enterDark (r : Option Reason) (l : Bool) : Acts G cabinet s (s.enterDark r l) := by
  rw [enterDark_eq]
  exact one (.dim _ _ _ (by decide) (by decide) (by decide) (by decide) (by decide) (by decide) rfl rfl rfl rfl
    gentle_unlitRecord)

theorem acts_enterClearing (r : Reason) (l : Bool) : Acts G enterParts s (s.enterClearing r l) :=
  one (.enter _ (fun q => { q.clearRecord.clearRunner with clearingDue := true }) (by decide) (by decide) (by decide)
    (by decide) rfl rfl rfl rfl (gentle_clear_then fun _ => ⟨rfl, rfl, rfl⟩))

theorem acts_enterFlash (r : Option Reason) (l : Bool) : Acts G enterParts s (s.enterFlash r l) := by
  unfold State.enterFlash
  dsimp only
  refine one (.enter _ (fun q => { q.clearRecord.clearRunner with coloursDue := true, clearingDue := false }) (by decide)
    (by decide) (by decide) (by decide) ?_ ?_ ?_ ?_ (gentle_clear_then fun _ => ⟨rfl, rfl, rfl⟩))
  · split <;> rfl
  · split <;> rfl
  · split <;> rfl
  · split <;> rfl

theorem acts_enterPhase {m : Mode} (hm : m.unlit = false) (n : Nat) : Acts G enterParts s (s.enterPhase m n) :=
  one (.enter _ (fun q => { q with coloursDue := true }) (by decide) (by decide) (by decide) (by decide) hm rfl rfl rfl
    fun _ => ⟨rfl, fun h => h, rfl⟩)

/-- Entry to NORMAL before its evaluation (R67). -/
theorem acts_toNormal : Acts G enterParts s
    (((s.onMode fun u => { u with mode := .normal, phaseTime := 0 }).clearSequencer).refreshGrace) :=
  one (.enter _ _ (by decide) (by decide) (by decide) (by decide) rfl rfl rfl rfl gentle_clear)

/-! ### Causes -/

theorem acts_takeWhileWaiting (k : Cause) (r : Reason) : Acts G [.sup, .flt] s (s.takeWhileWaiting k r) := by
  unfold State.takeWhileWaiting
  split
  · exact acts_onMode _ rfl rfl rfl
  · exact (acts_sup _ rfl rfl rfl).up
  · exact refl _

theorem acts_latchWith (r : Reason) : Acts G [.sup, .flt] s (s.latchWith r) := acts_onMode _ rfl rfl rfl

theorem acts_takeLatchedDark (hard : Bool) (r : Reason) : Acts G cabinet s (s.takeLatchedDark hard r) := by
  have hsup : Acts G cabinet s (s.onSup fun u => { u.endRecovery with probation := 0 }) := (acts_sup _ rfl rfl rfl).up
  unfold State.takeLatchedDark
  dsimp only
  split
  · exact either (fun _ => hsup.trans (acts_enterDark _ _)) fun _ => refl _
  · exact either (fun _ => hsup) fun _ => hsup.trans (acts_latchWith r).up
  · exact hsup.trans (acts_enterDark _ _)

theorem acts_startHoldoff (n : Nat) : Acts G [.sup] s (s.onSup fun u => u.startHoldoff n) := acts_sup _ rfl rfl rfl
theorem acts_endRecovery : Acts G [.sup] s (s.onSup Sup.endRecovery) := acts_sup _ rfl rfl rfl

theorem acts_takeCloseFailure : Acts G cabinet s s.takeCloseFailure := by
  have hlatched : Acts G cabinet s ((s.onSup Sup.endRecovery).enterDark (some .contactor) true) :=
    acts_endRecovery.up.trans (acts_enterDark _ _)
  have hsoft : Acts G cabinet s ((s.enterDark (some .contactor) false).onSup fun u => u.startHoldoff s.cabinet.attempts) :=
    (acts_enterDark _ _).trans (acts_startHoldoff _).up
  unfold State.takeCloseFailure
  dsimp only
  split
  · exact refl _
  · exact refl _
  · exact either (fun _ => hlatched) fun _ => hsoft
  · exact either (fun _ => hlatched) fun _ => hsoft
  · exact either (fun _ => hlatched) fun _ => hsoft

abbrev flashParts : List Part := [.mode, .flt, .seq, .grace, .sup]

theorem acts_takeLatchedFlash (r : Reason) : Acts G flashParts s (s.takeLatchedFlash r) := by
  have hend : Acts G flashParts s (s.onSup Sup.endRecovery) := acts_endRecovery.up
  have hlatch : Acts G flashParts s
      (if s.sup.latched = true then s.onSup Sup.endRecovery else (s.onSup Sup.endRecovery).latchWith r) :=
    either (fun _ => hend) fun _ => hend.trans (acts_latchWith r).up
  unfold State.takeLatchedFlash
  dsimp only
  split
  · exact refl _
  · exact hend.trans (acts_sup _ rfl rfl rfl).up
  · exact hend.trans (acts_enterFlash _ _).up
  · exact either (fun _ => hend.trans (acts_sup _ rfl rfl rfl).up) fun _ => hend.trans (acts_enterFlash _ _).up
  · exact hend.trans (acts_enterClearing _ _).up
  · exact hlatch
  · exact hlatch
  · exact hlatch

theorem acts_takeUnlatchedFlash (r : Reason) : Acts G flashParts s (s.takeUnlatchedFlash r) := by
  unfold State.takeUnlatchedFlash
  dsimp only
  have hsoft : Acts G flashParts s (if r = .redFail then s.onSup fun u => { u with holdoffPending := true } else s) :=
    either (fun _ => (acts_sup _ rfl rfl rfl).up) fun _ => refl _
  split
  · split
    · exact hsoft.trans (acts_sup _ rfl rfl rfl).up
    · exact refl _
  · exact hsoft.trans (acts_enterFlash _ _).up
  · exact either (fun _ => refl _) fun _ => either (fun _ => hsoft.trans (acts_sup _ rfl rfl rfl).up)
      fun _ => hsoft.trans (acts_enterFlash _ _).up
  · exact hsoft.trans (acts_enterClearing _ _).up
  · exact refl _

theorem acts_takeCause (k : Cause) (r : Reason) : Acts G cabinet s (s.takeCause k r) := by
  refine either (fun _ => (acts_takeWhileWaiting _ _).up) fun _ => ?_
  split
  · exact acts_takeLatchedDark _ _
  · exact acts_takeCloseFailure
  · exact (acts_takeLatchedFlash _).up
  · exact (acts_takeUnlatchedFlash _).up

theorem acts_hardFault (r : Reason) : Acts G cabinet s (s.hardFault r) := acts_takeCause _ _

theorem acts_softFault (red : Bool) : Acts G (.lockout :: cabinet) s (s.softFault red) := by
  have go (t : State) : Acts G (.lockout :: cabinet) t
      (if red = true then t.takeCause .unlatchedFlash .redFail else t.takeCause .closeFailure .contactor) :=
    either (fun _ => (acts_takeCause _ _).up) fun _ => (acts_takeCause _ _).up
  unfold State.softFault
  dsimp only
  refine either (fun _ => Acts.trans (t := s.onSup fun u => { u with attempts := min 5 (s.sup.attempts + 1) })
    (acts_sup _ rfl rfl rfl).up (either (fun _ => go _) fun _ => ?_)) fun _ => go s
  refine ((of_edits (edits_report .recoveryLockout .nothing)).trans
    (acts_sup (fun u => { u with recovering := false, probation := 0 }) rfl rfl rfl).up).trans ?_
  exact either (fun _ => (acts_takeCause _ _).up) fun _ => (acts_takeCause _ _).up

/-! ### Relay findings, the re-proof and the contactor -/

theorem acts_reportRelayFault (c : Ch) (f : RelayFault) : Acts G cabinet s (s.reportRelayFault c f) := by
  have hreport : Acts G cabinet s (match f.kind with
      | some k => s.reportAs k (.channel c) (s.hardReason c f).isSome
      | none => s) := by
    split
    · next k hk =>
      have hp := part_of_relayKind hk
      exact of_edits (edits_reportAs k _ _ (by rcases hp with e | e <;> rw [e] <;> decide))
    · exact refl _
  unfold State.reportRelayFault
  dsimp only
  split
  · exact hreport.trans (acts_hardFault _)
  · exact hreport

theorem acts_findRelayFault (c : Ch) (f : RelayFault) : Acts G cabinet s (s.findRelayFault c f) := by
  have hchan : Acts G cabinet s (s.onChan c fun r => { r with fault := f }) := (of_edits (edits_onChan_fault c f)).up
  unfold State.findRelayFault
  dsimp only
  exact Acts.trans (either (fun _ => hchan) fun _ => hchan.trans (of_edits (edits_clearRelayEntry c _)).up)
    (acts_reportRelayFault c f)

theorem coilOk_reproved {r : ChanRun} (n : Nat) (h : r.coilOk) : (r.reproved n).coilOk := by
  unfold ChanRun.reproved
  by_cases hd : r.driven = true
  · have hb : r.testBus = .no := by_contra fun hb => driven_iff.mp hd (h.2 hb)
    rw [if_pos hd]
    split
    · exact ⟨⟨fun _ => .inr rfl, fun _ => nofun⟩, fun h' => absurd hb h'⟩
    · exact ⟨⟨fun _ => .inl rfl, fun _ => nofun⟩, fun h' => absurd hb h'⟩
  · have hoff : r.drive = .off := driven_eq_false_iff.mp (by simpa using hd)
    rw [if_neg hd]
    split
    · split
      · exact ⟨⟨fun h' => absurd hoff h', by rintro (h' | h') <;> cases h'⟩, fun _ => hoff⟩
      · exact ⟨⟨fun h' => absurd hoff h', by rintro (h' | h') <;> cases h'⟩, fun _ => hoff⟩
    · exact ⟨⟨fun h' => absurd hoff h', by rintro (h' | h') <;> cases h'⟩, fun _ => hoff⟩

theorem reproved_command (r : ChanRun) (n : Nat) : (r.reproved n).command = r.command := by
  unfold ChanRun.reproved; split_ifs <;> rfl

theorem reproved_opCount (r : ChanRun) (n : Nat) : (r.reproved n).opCount = r.opCount := by
  unfold ChanRun.reproved; split_ifs <;> rfl

theorem acts_reproofFinding (c : Ch) (was : ChanRun) : Acts G cabinet s (s.reproofFinding c was) := by
  unfold State.reproofFinding
  refine either (fun _ => either (fun _ => (of_edits (edits_clearRelayFault c)).up) fun _ => acts_findRelayFault c _)
    fun _ => either (fun _ => ?_) fun _ => (of_edits (edits_clearRelayFault c)).up
  exact (of_edits ((edits_endRelayFault c _).trans (edits_endRelayFault c _))).up

theorem acts_reproveAll : Acts G cabinet s s.reproveAll := by
  unfold State.reproveAll
  dsimp only
  refine Acts.trans (forAll s fun t c =>
    (of_edits (edits_putChan c (coilOk_reproved (t.settings c).pullIn) (reproved_command _ _) (reproved_opCount _ _))).up) ?_
  exact forAll _ fun t c => acts_reproofFinding c _

theorem acts_onContactor (f : Contactor → Contactor) : Acts G [.contactor] s (s.onContactor f) :=
  of_edits (edits_onContactor f)

theorem acts_completeClose : Acts G cabinet s s.completeClose := by
  have hclose : Acts G cabinet s
      (s.onContactor fun k => { k with state := .held, proof := .closed, limit := none, fault := .none }) :=
    (acts_onContactor _).up
  have hclear : Acts G cabinet s (if s.out.contactor.fault = .none then
      (s.onContactor fun k => { k with state := .held, proof := .closed, limit := none, fault := .none }) else
      (s.onContactor fun k => { k with state := .held, proof := .closed, limit := none, fault := .none }).clearFault
        .supplyContactor .nothing) :=
    either (fun _ => hclose) fun _ => hclose.trans (of_edits (edits_clearFault _ _))
  unfold State.completeClose
  dsimp only
  exact either (fun _ => hclear) fun _ => hclear.trans acts_reproveAll

theorem acts_closeContactor : Acts G cabinet s s.closeContactor := by
  have hdrive : Acts G cabinet s
      (s.onContactor fun k => { k with closeCommand := true, driven := true, state := .pullingIn, limit := some 0 }) :=
    (acts_onContactor _).up
  unfold State.closeContactor
  dsimp only
  exact either (fun _ => (acts_onContactor _).up) fun _ => either (fun _ => hdrive.trans acts_completeClose) fun _ => hdrive

theorem acts_contactorFailsToOpen : Acts G cabinet s s.contactorFailsToOpen := by
  unfold State.contactorFailsToOpen
  dsimp only
  refine Acts.trans (Acts.trans (Acts.trans ?_ (of_edits (edits_report _ _))) (of_edits edits_unproveAll).up)
    (acts_takeCause _ _)
  exact (of_edits (.one (.contactor { s.out.contactor with
    fault := .failToOpen, proof := .unproven, limit := none, driven := false } true (K := [.contactor]) (by decide)))).up

/-! ### STARTUP_CHECK, the scheduled flash and the end of CLEARING -/

theorem acts_enterStartupCheck (e : CheckExit) : Acts G cabinet s (s.enterStartupCheck e) := by
  rw [enterStartupCheck_eq]
  exact Acts.trans (one (.dim _ _ _ (by decide) (by decide) (by decide) (by decide) (by decide) (by decide) rfl rfl rfl rfl
    gentle_unlitRecord)) acts_closeContactor

theorem acts_scheduledFlashStart : Acts G cabinet s s.scheduledFlashStart := acts_takeCause _ _

theorem acts_scheduledFlashEnd : Acts G cabinet s s.scheduledFlashEnd := by
  unfold State.scheduledFlashEnd
  refine either (fun _ => either (fun _ => (acts_sup _ rfl rfl rfl).up) fun _ => refl _) fun _ => ?_
  split
  · exact either (fun _ => acts_enterStartupCheck _) fun _ => refl _
  · exact either (fun _ => acts_enterStartupCheck _) fun _ => refl _
  · exact either (fun _ => (acts_sup _ rfl rfl rfl).up) fun _ => refl _
  · exact refl _

theorem acts_clearingCheck : Acts G enterParts s s.clearingCheck := either (fun _ => acts_enterFlash _ _) fun _ => refl _

end Acts
end Sys2Proof.Machine
end

section
/-! SUPPORT. The sequencer's, the schedule's, the commit's and the tick's operations as actions. -/

namespace Sys2Proof.Machine

set_option Elab.async false
namespace Acts

variable {G : Gid → Prop} {K L : List Part} {s t u : State}

/-! ### The Plan Runner and priority service -/

theorem acts_startMaxTimer : Acts G [.seq] s s.startMaxTimer := either (fun _ => acts_seq _ rfl rfl) fun _ => refl _
theorem acts_refreshAllowance : Acts G [.seq] s s.refreshAllowance := acts_seq _ rfl rfl
theorem acts_correct : Acts G [.seq] s s.correct := Acts.trans (acts_seq _ rfl rfl) acts_refreshAllowance

theorem acts_takeDecision (jump : Option Nat) : Acts G [.seq] s (s.takeDecision jump) := by
  unfold State.takeDecision
  split
  · exact acts_seq _ rfl rfl
  · split
    · exact Acts.trans (acts_seq _ rfl rfl) acts_refreshAllowance
    · exact Acts.trans (acts_seq _ rfl rfl) acts_refreshAllowance
    · exact acts_seq _ rfl rfl

theorem acts_towardFirst : Acts G [.seq] s s.towardFirst := by
  unfold State.towardFirst
  refine either (fun _ => ?_) fun _ => acts_seq _ rfl rfl
  split
  · exact acts_seq _ rfl rfl
  · exact either (fun _ => acts_seq _ rfl rfl) fun _ => acts_seq _ rfl rfl

theorem acts_takePlan (p : Pln) : Acts G [.seq, .flt] s (s.takePlan p) := by
  unfold State.takePlan
  dsimp only
  refine Acts.trans (Acts.trans (either (fun _ => ?_) fun _ => ?_) acts_towardFirst.up) (of_edits (edits_addEvents _)).up
  · exact Acts.trans (acts_seq _ rfl rfl).up acts_correct.up
  · exact (acts_seq _ rfl rfl).up

theorem acts_serveHead : Acts G [.seq] s s.serveHead := by
  unfold State.serveHead
  split
  · exact refl _
  · exact either (fun _ => refl _) fun _ => either (fun _ => acts_seq _ rfl rfl) fun _ => acts_seq _ rfl rfl

theorem acts_beginService : Acts G [.seq] s s.beginService :=
  acts_seq _ (by dsimp only; split <;> rfl) (by dsimp only; split <;> rfl) (by dsimp only; split <;> rfl)

theorem priority_beginService : s.beginService.seq.priority = s.seq.priority := by
  unfold State.beginService
  simp only [State.onSeq_seq]
  split <;> rfl

theorem acts_takeRequest (d : Det) (b : Stg) : Acts G [.seq] s (s.takeRequest d b) := by
  refine either (fun ⟨_, _, hany, hlen⟩ => either (fun _ => ?_) fun _ => ?_) fun _ => refl _
  · refine Acts.trans (Acts.trans acts_beginService (one (.seq _ (by decide) rfl fun _ => ?_))) acts_serveHead
    exact ⟨Nat.succ_le_succ (Nat.zero_le _), List.nodup_singleton _⟩
  · refine one (.seq _ (by decide) rfl fun ⟨_, hnd⟩ => ⟨?_, ?_⟩)
    · simpa using hlen
    · rw [List.map_append, List.nodup_append]
      refine ⟨hnd, List.nodup_singleton _, ?_⟩
      simp only [List.any_eq_false, beq_iff_eq] at hany
      simp only [List.map_cons, List.map_nil, List.mem_singleton, List.mem_map]
      rintro x ⟨r, hr, rfl⟩ y rfl
      exact hany r hr

theorem acts_returnToPlan (b : Stg) : Acts G [.seq] s (s.returnToPlan b) := by
  unfold State.returnToPlan
  dsimp only
  refine either (fun _ => ?_) fun _ => acts_seq _ rfl rfl
  split
  · exact either (fun _ => Acts.trans (acts_seq _ rfl rfl) acts_refreshAllowance) fun _ => acts_seq _ rfl rfl
  · exact acts_seq _ rfl rfl

theorem priorityOk_sublist {q : Seq} {l : List PriorityReq} (hl : l.Sublist q.priority) (h : q.priorityOk) :
    ({ q with priority := l } : Seq).priorityOk :=
  ⟨hl.length_le.trans h.1, h.2.sublist (hl.map _)⟩

theorem acts_removeRequest (d : Det) : Acts G [.seq] s (s.removeRequest d) := by
  unfold State.removeRequest
  split
  · exact refl _
  · next h rest hs =>
    refine either (fun _ => ?_) fun _ => ?_
    · have hrest : Acts G [.seq] s (s.onSeq fun q => { q with priority := rest }) :=
        one (.seq _ (by decide) rfl (priorityOk_sublist (by rw [hs]; exact List.sublist_cons_self _ _)))
      exact either (fun _ => hrest.trans (acts_returnToPlan _)) fun _ => hrest.trans acts_serveHead
    · exact one (.seq _ (by decide) rfl (priorityOk_sublist (by rw [hs]; exact List.filter_sublist.cons_cons _)))

theorem acts_releaseInput (d : Det) : Acts G [.seq, .flt, .stuck] s (s.releaseInput d) := by
  unfold State.releaseInput
  dsimp only
  exact either (fun _ => Acts.trans (Acts.trans (acts_removeRequest d).up (acts_seq _ rfl rfl).up)
    (of_edits (edits_clearFault _ _))) fun _ => (acts_removeRequest d).up

/-! ### Inhibited gaining groups and the stage change -/

theorem acts_dropGroup (g : Gid) (i : Nat) : Acts G greenParts s (s.dropGroup g i) := by
  unfold State.dropGroup
  dsimp only
  refine Acts.trans (either (fun h => ?_) fun _ => refl _) (acts_seq _ rfl rfl).up
  exact (acts_setColour_rest (by decide) (.inl (by rw [h]; decide))).up

theorem acts_dropIfInhibited (g : Gid) : Acts G greenParts s (s.dropIfInhibited g) := by
  refine either (fun _ => ?_) fun _ => refl _
  split
  · exact acts_dropGroup g _
  · exact either (fun _ => acts_dropGroup g _) fun _ => refl _

theorem acts_dropInhibited : Acts G greenParts s s.dropInhibited := forAll s fun _ g => acts_dropIfInhibited g

/-! ### What every edit keeps -/

/-- An abandoned probe's record writes the tester, the fault table and the reply alone. -/
theorem Edit.keeps_of_tester {β : Type} {p : State → β} (h : Edit [.cbt, .flt, .starved, .slots] s t)
    (hf : ∀ s f, p (State.onFlt s f) = p s) (hc : ∀ s f, p (State.onCbt s f) = p s)
    (hr : ∀ (s : State) tag code st b, p (s.reply tag code st b) = p s) : p t = p s := by
  cases h with
  | report k x b => exact hf _ _
  | clear k x => exact hf _ _
  | add q => exact hf _ _
  | table f => exact hf _ _
  | cbt f => exact hc _ _
  | reply tag code st b => exact hr _ _ _ _ _
  | demand gs h => exact absurd h (by decide)
  | inhibit h => exact absurd h (by decide)
  | health g h => exact absurd h (by decide)
  | grace h => exact absurd h (by decide)
  | conflicts h => exact absurd h (by decide)
  | green g h => exact absurd h (by decide)
  | leak c h => exact absurd h (by decide)
  | lamp c f h => exact absurd h (by decide)
  | maintain c f h => exact absurd h (by decide)
  | chan c f h => exact absurd h (by decide)
  | count c h => exact absurd h (by decide)
  | put c r new h => exact absurd h (by decide)
  | abandon h => exact absurd h (by decide)
  | flash f h => exact absurd h (by decide)
  | contactor k b h => exact absurd h (by decide)

theorem abandonProbe_keeps {β : Type} {p : State → β} (s : State)
    (hf : ∀ s f, p (State.onFlt s f) = p s) (hc : ∀ s f, p (State.onCbt s f) = p s)
    (hr : ∀ (s : State) tag code st b, p (s.reply tag code st b) = p s) : p s.abandonProbe = p s := by
  unfold State.abandonProbe
  split
  · split_ifs
    · exact ((edits_recordAbandoned _).keeps_eq fun _ _ e => e.keeps_of_tester hf hc hr).trans (hc _ _)
    · rfl
  · rfl

theorem countOperation_keeps {β : Type} {p : State → β} (s : State) (c : Ch) (hf : ∀ s f, p (State.onFlt s f) = p s)
    (hc : ∀ s c f, p (State.onChan s c f) = p s) : p (s.countOperation c) = p s := by
  unfold State.countOperation
  dsimp only
  split
  · unfold State.report State.reportAs
    exact (hf _ _).trans (hc _ _ _)
  · exact hc _ _ _

theorem mode_refreshGreen (g : Gid) : (s.refreshGreen g).sup.mode = s.sup.mode := by
  unfold State.refreshGreen; split <;> rfl

theorem mode_refreshShowing (c : Ch) : (s.refreshShowing c).sup.mode = s.sup.mode := by
  unfold State.refreshShowing
  split
  · exact mode_refreshGreen _
  · rfl

theorem sup_refreshLeak (c : Ch) : (s.refreshLeak c).sup = s.sup := by unfold State.refreshLeak; split_ifs <;> rfl

theorem mode_putChan (c : Ch) (new : ChanRun) : (s.putChan c new).sup.mode = s.sup.mode := by
  unfold State.putChan
  rw [sup_refreshLeak, mode_refreshShowing]
  rfl

theorem mode_evalRedHealth (g : Gid) : (s.evalRedHealth g).sup.mode = s.sup.mode := by
  unfold State.evalRedHealth; dsimp only; split_ifs <;> rfl

/-- No edit enters a mode. -/
theorem Edit.mode_eq (h : Edit K s t) : t.sup.mode = s.sup.mode := by
  cases h with
  | green g h => exact mode_refreshGreen g
  | leak c h => rw [sup_refreshLeak]
  | put c r new => exact mode_putChan _ _
  | abandon => exact abandonProbe_keeps (p := fun s => s.sup.mode) s (fun _ _ => rfl) (fun _ _ => rfl) fun _ _ _ _ _ => rfl
  | health g h => exact mode_evalRedHealth g
  | maintain c f h hh => rw [sup_refreshLeak]; rfl
  | count c => exact countOperation_keeps (p := fun s => s.sup.mode) s c (fun _ _ => rfl) fun _ _ _ => rfl
  | _ => rfl

theorem Edits.mode_eq (h : Edits K s t) : t.sup.mode = s.sup.mode := h.keeps_eq (p := fun s => s.sup.mode) fun _ _ e => e.mode_eq

theorem mode_syncCommands : s.syncCommands.sup.mode = s.sup.mode := edits_syncCommands.mode_eq

theorem sup_holdGapFor (g : Gid) : (s.holdGapFor g).sup = s.sup := by
  unfold State.holdGapFor State.holdGap
  split_ifs
  · split <;> rfl
  · rfl

theorem mode_setColour (g : Gid) (col : Colour) : (s.setColour g col).sup.mode = s.sup.mode := by
  have hsync : (s.putColour g col).syncCommands.sup.mode = s.sup.mode := by rw [mode_syncCommands, putColour_sup]
  unfold State.setColour
  dsimp only
  split_ifs
  · rw [sup_holdGapFor, hsync]
  · exact hsync

/-! ### The stage change -/

theorem lit_of_normal (h : s.sup.mode = .normal) : s.sup.mode.unlit = false := by rw [h]; rfl

theorem endColour_rest (k : GroupKind) : endColour k ≠ .green ∧ endColour k ≠ .redAmber := by cases k <;> decide

theorem fitted_of_kind {g : Gid} {k : GroupKind} (h : s.kind g = some k) : s.fitted g = true := by
  unfold State.fitted; rw [h]; rfl

/-- A fitted group of a lit mode ends its green. -/
theorem acts_endLit (h : s.sup.mode.unlit = false) (g : Gid) :
    Acts G colourParts s (match s.kind g with | some k => s.setColour g (endColour k) | none => s) := by
  split
  · next k hk => exact acts_setColour_rest (endColour_rest k) (.inr ⟨fitted_of_kind hk, h⟩)
  · exact refl _

theorem acts_endLitGreens (l : List Gid) (h : s.sup.mode.unlit = false) :
    Acts G colourParts s (l.foldl (fun t g => match t.kind g with | some k => t.setColour g (endColour k) | none => t) s) := by
  induction l generalizing s with
  | nil => exact refl s
  | cons g l ih =>
    refine (acts_endLit h g).trans (ih ?_)
    split
    · rw [mode_setColour]; exact h
    · exact h

theorem priority_jumped (q : Seq) (cycle : Nat) (e : EndDue) : (q.jumped cycle e).priority = q.priority ∧
    (q.jumped cycle e).groups = q.groups ∧ (q.jumped cycle e).ticked = q.ticked := by
  unfold Seq.jumped
  split
  · dsimp only; split_ifs <;> exact ⟨rfl, rfl, rfl⟩
  · exact ⟨rfl, rfl, rfl⟩

theorem acts_startChange (e : EndDue) (h : s.sup.mode.unlit = false) : Acts G greenParts s (s.startChange e) := by
  unfold State.startChange
  dsimp only
  refine either (fun _ => (acts_seq _ rfl rfl).up) fun _ => ?_
  refine Acts.trans (Acts.trans (acts_endLitGreens _ h).up (acts_seq _ ?_ ?_ ?_).up) acts_dropInhibited
  · exact (priority_jumped _ _ _).2.1
  · exact (priority_jumped _ _ _).1
  · exact (priority_jumped _ _ _).2.2

theorem acts_enterGreen {g : Gid} (hg : G g) (hd : (s.group g).colour ≠ .darkAll ∨ (s.fitted g = true ∧ s.sup.mode.unlit = false)) :
    Acts G greenParts s (s.enterGreen g) := by
  have hseq (t : State) (n : Nat) : Acts G greenParts t (t.onSeq fun q =>
      { q with
        joined := q.joined.filter fun p => p.1 != g
        change := q.change.map fun ch =>
          { ch with gaining := ch.gaining.filter fun p => p.1 != g, minMax := max ch.minMax n } }) := (acts_seq _ rfl rfl).up
  exact Acts.trans (acts_setColour (fun _ => hg) (.inr hd)) (hseq _ _)

/-! ### The Day Schedule -/

abbrev scheduleParts : List Part := .sch :: .planFault :: cabinet

theorem acts_deliverPlan (p : Pln) : Acts G [.seq] s (s.deliverPlan p) := either (fun _ => acts_seq _ rfl rfl) fun _ => refl _

theorem acts_deliver (old : Option Action) (new : Action) : Acts G scheduleParts s (s.deliver old new) := by
  unfold State.deliver
  dsimp only
  refine Acts.trans (t := s.addEvents PendingSet.ofPlanChange) (of_edits (edits_addEvents _)).up ?_
  split
  · exact acts_scheduledFlashStart.up
  · exact Acts.trans (either (fun _ => acts_scheduledFlashEnd.up) fun _ => refl _) (acts_deliverPlan _).up

theorem acts_judgePlan (r d : Bool) : Acts G [.flt, .planFault] s (s.judgePlan r d) := by
  unfold State.judgePlan
  exact either (fun _ => of_edits (edits_report _ _)) fun _ =>
    either (fun _ => of_edits (edits_clearFault _ _)) fun _ => refl _

theorem acts_evaluate : Acts G scheduleParts s s.evaluate := by
  unfold State.evaluate
  dsimp only
  have hjudge : Acts G scheduleParts s ((s.onSch fun h => { h with
      action := some s.select.action, source := some s.select.source, governing := s.select.governing }).judgePlan
        s.select.replaced (s.sch.action != some s.select.action)) :=
    (one (.sch _ (by decide))).trans (acts_judgePlan _ _).up
  exact either (fun _ => hjudge) fun _ => hjudge.trans (acts_deliver _ _)

theorem acts_reevaluate : Acts G scheduleParts s s.reevaluate := either (fun _ => refl _) fun _ => acts_evaluate

end Acts
end Sys2Proof.Machine
end

section
/-! SUPPORT. The commit's and the tenth tick's operations as actions. -/

namespace Sys2Proof.Machine

set_option Elab.async false
namespace Acts

variable {G : Gid → Prop} {K L : List Part} {s t u : State}

/-- What a commit and the end of a step may write: every part but the balance of the reply slots and the link's own record,
the time, the tick and the supply, and the entries that neither finds nor ends. -/
abbrev inner : List Part :=
  [.demand, .health, .healthy, .clk, .det, .cfg, .lampFault, .redFault, .crossing, .stuck, .wear, .answer, .cbt, .starved] ++ scheduleParts

/-- Every part but the reply slots and the link. -/
abbrev whole : List Part := [.table, .alert, .lockout, .time, .tick, .supply] ++ inner

/-- Every part. -/
abbrev every : List Part := .slots :: .link :: whole

/-! ### What each block does at a commit -/

abbrev retakeParts : List Part :=
  [.clk, .det, .seq, .demand, .sup, .stuck, .wear] ++ verdictParts

/-- A change of the clock's source or settings. -/
theorem acts_onClk (f : Clk → Clk) (h : (f s.clk).timed = s.clk.timed := by rfl) : Acts G [.clk] s (s.onClk f) :=
  one (.clk f (by decide) (.inl (by have := congrArg Clk.setTags h; exact this)) (.inl h))

/-- A change of the time. -/
theorem acts_onTime (f : Clk → Clk) (h : (f s.clk).setTags = s.clk.setTags) : Acts G [.clk, .time] s (s.onClk f) :=
  one (.clk f (by decide) (.inl h) (.inr (by decide)))

theorem acts_onInput (d : Det) (f : DetRun → DetRun) : Acts G [.det] s (s.onInput d f) := one (.det _ (by decide))

theorem acts_copyClockSettings : Acts G [.clk, .flt] s s.copyClockSettings := by
  unfold State.copyClockSettings
  dsimp only
  refine either (fun _ => refl _) fun _ => ?_
  have hcopy : Acts G [.clk, .flt] s (s.onClk fun k =>
      { k with
        preference := s.cabinet.preference
        freq := s.cabinet.freq
        stability := if k.source = .mains ∧ k.freq ≠ s.cabinet.freq then 0 else k.stability }) := (acts_onClk _ rfl).up
  exact either (fun _ => Acts.trans (hcopy.trans (acts_onClk _ rfl).up) (of_edits (edits_addEvents _)).up) fun _ => hcopy

/-- The part of the entry that a stuck input makes. -/
theorem part_of_stuckKind {f : DetFault} {k : FaultKind} (h : f.kind = some k) : k.part = .stuck := by
  cases f <;> simp [DetFault.kind] at h <;> subst h <;> rfl

theorem acts_endStuck (d : Det) : Acts G [.det, .flt, .stuck] s (s.endStuck d) := by
  unfold State.endStuck
  split
  · next k hk =>
    have hp := part_of_stuckKind hk
    exact (acts_onInput _ _).up.trans
      (of_edits (edits_clearFault k _ (hk := by rw [hp]; decide)))
  · exact refl _

theorem acts_restartInput (d : Det) (old : DetectorRec) : Acts G [.det, .flt, .stuck, .seq] s (s.restartInput d old) := by
  unfold State.restartInput
  dsimp only
  refine Acts.trans (Acts.trans ?_ (acts_endStuck d).up) (acts_onInput _ _).up
  exact either (fun _ => (acts_releaseInput d).up) fun _ => refl _

theorem acts_compareInput (before : State) (d : Det) : Acts G [.det, .flt, .stuck, .seq] s (s.compareInput before d) :=
  either (fun _ => (acts_onInput _ _).up) fun _ => acts_restartInput _ _

theorem acts_compareSettings (before : State) (c : Ch) : Acts G [.lamp, .healthy, .flt, .lampFault] s (s.compareSettings before c) :=
  either (fun _ => refl _) fun _ => of_edits (edits_relearn c)

theorem acts_judgeWear (c : Ch) : Acts G [.flt, .wear] s (s.judgeWear c) :=
  either (fun _ => either (fun _ => refl _) fun _ => of_edits (edits_report _ _)) fun _ => of_edits (edits_clearFault _ _)

theorem acts_dropUndefinedTargets : Acts G [.seq] s s.dropUndefinedTargets :=
  foldl _ _ fun _ _ _ => either (fun _ => acts_removeRequest _) fun _ => refl _

theorem acts_retakeActive (before : State) : Acts G [.seq] s (s.retakeActive before) :=
  either (fun _ => acts_seq _ rfl rfl) fun _ => refl _

theorem acts_retakeAttention (before : State) : Acts G [.flt] s (s.retakeAttention before) :=
  either (fun _ => refl _) fun _ => of_edits (.one (.table _ (by decide) id rfl (.inl rfl)))

theorem acts_retakeTiming (before : State) : Acts G retakeParts s (s.retakeTiming before) := by
  unfold State.retakeTiming
  dsimp only
  have hsup {t : State} : Acts G retakeParts t ((t.retakeRecovery before).retakeGraces before) :=
    (acts_sup _ rfl rfl rfl).up.trans (acts_sup _ rfl rfl rfl).up
  refine Acts.trans (Acts.trans (Acts.trans (Acts.trans (Acts.trans ?_ acts_dropUndefinedTargets.up) hsup)
    (acts_retakeAttention _).up) (of_edits (.one (.grace (K := [.grace]) (by decide)))).up) acts_holdGap.up
  have hinputs {t : State} : Acts G retakeParts t (t.forAll fun (u : State) (d : Det) => u.compareInput before d) :=
    forAll _ fun _ _ => (acts_compareInput _ _).up
  have hsettings {t : State} : Acts G retakeParts t
      (t.forAll fun (u : State) (c : Ch) => (u.compareSettings before c).judgeWear c) :=
    forAll _ fun _ _ => (acts_compareSettings _ _).up.trans (acts_judgeWear _).up
  exact Acts.trans (Acts.trans (Acts.trans (Acts.trans acts_copyClockSettings.up hinputs) hsettings)
    (of_edits (edits_refreshStanding _)).up) (of_edits edits_evalAllRedHealth).up

/-! ### The application of a commit -/

theorem acts_scheduleAtCommit : Acts G scheduleParts s s.scheduleAtCommit :=
  either (fun _ => Acts.trans (Acts.trans (one (.sch _ (by decide))) acts_reevaluate) (of_edits (edits_report _ _)))
    fun _ => acts_reevaluate

theorem acts_reclassRelayFault (before : State) (c : Ch) : Acts G cabinet s (s.reclassRelayFault before c) :=
  either (fun _ => acts_reportRelayFault _ _) fun _ => refl _

theorem acts_reinitialised (new : ConfigSet) : Acts G inner s ((((s.install new).resetTester).reinitRecords s)) := by
  rw [State.reinitRecords_eq]
  exact Acts.trans (one (.rebuild new (by decide) (by decide) (by decide) (by decide) (by decide) (by decide) (by decide) (by decide) (by decide)
    (by decide) (by decide)))
    (forAll _ fun _ _ => (acts_reclassRelayFault _ _).up)

theorem acts_applyCommit (new : ConfigSet) : Acts G inner s (s.applyCommit new) := by
  unfold State.applyCommit
  dsimp only
  refine Acts.trans (Acts.trans (either (fun h => ?_) fun _ => ?_) acts_scheduleAtCommit.up) (acts_retakeActive _).up
  · exact (one (.install new (by decide) (by decide) h)).trans (acts_retakeTiming s).up
  · exact Acts.trans (Acts.trans (acts_reinitialised new) (acts_retakeTiming s).up) (of_edits edits_recomputeDemand).up

theorem acts_applyPending : Acts G inner s s.applyPending := by
  unfold State.applyPending
  split
  · exact (one (.cfg _ (by decide) rfl)).trans (acts_applyCommit _)
  · exact refl _

theorem acts_drainPending : Acts G inner s s.drainPending := either (fun _ => acts_applyPending) fun _ => refl _

theorem acts_takeInhibition (before : State) : Acts G inner s (State.takeInhibition before s) :=
  either (fun _ => forAll s fun _ _ => either (fun _ => (acts_dropIfInhibited _).up) fun _ => refl _) fun _ => refl _

/-! ### The tenth tick -/

/-- What the advance of the clock may write. -/
abbrev timeParts : List Part := .clk :: .time :: .alert :: scheduleParts

theorem acts_endOfRange : Acts G timeParts s s.endOfRange :=
  Acts.trans (Acts.trans (Acts.trans (acts_onTime _ rfl).up (of_edits (edits_report _ _))) (of_edits (edits_addEvents _)).up)
    acts_reevaluate.up

theorem acts_advanceClock : Acts G timeParts s s.advanceClock := by
  unfold State.advanceClock
  dsimp only
  have hclk : Acts G timeParts s (s.onClk fun k =>
      { k with date := (advanceTenth s.clk.date s.clk.tod).1, tod := (advanceTenth s.clk.date s.clk.tod).2.1,
               secs := secondsAfter k.secs (advanceTenth s.clk.date s.clk.tod).2.1 }) := (acts_onTime _ rfl).up
  exact either (fun _ => hclk.trans acts_endOfRange) fun _ => either (fun _ => hclk.trans acts_reevaluate.up) fun _ => hclk

/-- The clock set taken, before its requests are answered (R79). -/
def setTaken (s : State) (d : Date) (tod : Nat) : State :=
  (((s.onClk fun k => { k with date := d, tod := tod, valid := true, pendingSet := none, setTags := [] }).clearFault
    .timeInvalid .nothing).addEvents PendingSet.ofClock).reevaluate

theorem takeClockSet_eq (d : Date) (tod : Nat) :
    s.takeClockSet d tod = s.clk.setTags.foldl (fun t tag => t.reply tag 0x20#8 .ok []) (setTaken s d tod) := rfl

theorem acts_afterSet {d : Date} {tod : Nat} :
    Acts G (.alert :: scheduleParts) (s.onClk fun k => { k with date := d, tod := tod, valid := true, pendingSet := none, setTags := [] })
      (setTaken s d tod) :=
  Acts.trans (Acts.trans (of_edits (edits_clearFault _ _)) (of_edits (edits_addEvents _)).up) acts_reevaluate.up

theorem acts_takeClockSet (d : Date) (tod : Nat) : Acts G (.slots :: timeParts) s (s.takeClockSet d tod) := by
  rw [takeClockSet_eq]
  have hset : Acts G (.slots :: timeParts) s (setTaken s d tod) :=
    (one (.clk _ (by decide) (.inr (by decide)) (.inr (by decide)))).trans acts_afterSet.up
  exact hset.trans (foldl _ _ fun _ _ _ => (of_edits (edits_reply _ _ _ _)).up)

theorem acts_tickClock : Acts G (.slots :: timeParts) s s.tickClock := by
  unfold State.tickClock
  split
  · exact acts_takeClockSet _ _
  · exact acts_advanceClock.up

theorem acts_tickGap : Acts G [.seq] s s.tickGap := by
  unfold State.tickGap
  refine either (fun _ => ?_) fun _ => refl _
  split
  · exact acts_seq _ rfl rfl
  · exact acts_seq _ rfl rfl

theorem acts_checkInhibited : Acts G greenParts s s.checkInhibited := either (fun _ => acts_dropInhibited) fun _ => refl _

theorem advance_frame (q : Seq) (p : PlanRec) :
    (q.advance p).groups = q.groups ∧ (q.advance p).priority = q.priority ∧ (q.advance p).ticked = q.ticked := by
  unfold Seq.advance
  split
  · exact ⟨rfl, rfl, rfl⟩
  · split
    · exact ⟨rfl, rfl, rfl⟩
    · dsimp only
      split_ifs <;> exact ⟨rfl, rfl, rfl⟩

theorem acts_tickRunner : Acts G [.seq] s s.tickRunner :=
  either (fun _ => acts_seq _ (advance_frame _ _).1 (advance_frame _ _).2.1 (advance_frame _ _).2.2) fun _ => refl _

theorem acts_tickInputs : Acts G [.det] s s.tickInputs := one (.det _ (by decide))

theorem urgentOk_tick {b : Cbt} (h : b.urgentOk) : b.tick.urgentOk := by
  unfold Cbt.tick; split <;> exact h

theorem owesReply_tick (b : Cbt) : b.tick.owesReply = b.owesReply := by unfold Cbt.tick; split <;> rfl

theorem acts_tickTester : Acts G [.cbt] s (s.onCbt Cbt.tick) :=
  of_edits (.one (.cbt _ (by decide) urgentOk_tick (.inl (owesReply_tick _))))

theorem grace_tick_idle (u : Sup) (w : Bool) (g : Gid) :
    (u.tick w).grace.get g = Grace.idle ↔ u.grace.get g = .idle := by
  show (u.grace.map _).get g = Grace.idle ↔ _
  rw [Tab.get_map]
  cases u.grace.get g <;> simp

theorem acts_tickSup (w : Bool) : Acts G [.sup, .grace] s (s.onSup fun u => u.tick w) :=
  one (.sup _ (by decide) rfl (.inr ⟨by decide, grace_tick_idle _ _⟩) (.inl rfl))

theorem acts_takeFlashNext : Acts G flashParts s s.takeFlashNext := by
  unfold State.takeFlashNext
  split
  · exact either (fun _ => (acts_enterFlash _ _).up) fun _ => (acts_sup _ rfl rfl rfl).up
  · exact refl _

/-- The tick counted, and open until the next millisecond. -/
def tickOpened (s : State) : State := s.onSeq fun q => { q with tick := q.tick + 1, tickOpen := true, decided := false }

/-- The tenth tick before the clock's own advance. -/
def tickBegun (s : State) : State :=
  let s2 := (((tickOpened s).onSeq Seq.tickTimers).tickGap).checkInhibited
  let s3 := ((s2.tickRunner).tickInputs).onCbt Cbt.tick
  s3.onSup fun u => u.tick s3.waitingSupply

theorem tenthTick_eq : s.tenthTick = (((tickBegun s).tickClock).takeFlashNext).startMaxTimer := rfl

theorem acts_tickOpened : Acts G [.seq, .tick] s (tickOpened s) := one (.seq _ (by decide) rfl id (.inr (by decide)))

theorem acts_afterOpened : Acts G inner (tickOpened s) (tickBegun s) := by
  unfold tickBegun
  dsimp only
  refine Acts.trans (Acts.trans (Acts.trans (Acts.trans ?_ acts_tickRunner.up) acts_tickInputs.up) acts_tickTester.up)
    (acts_tickSup _).up
  exact Acts.trans (Acts.trans (one (.timers (by decide))) acts_tickGap.up) acts_checkInhibited.up

theorem acts_tickBegun : Acts G (.tick :: inner) s (tickBegun s) := acts_tickOpened.up.trans acts_afterOpened.up

theorem acts_tenthTick : Acts G (.slots :: whole) s s.tenthTick := by
  rw [tenthTick_eq]
  exact Acts.trans (Acts.trans (Acts.trans acts_tickBegun.up acts_tickClock.up) acts_takeFlashNext.up) acts_startMaxTimer.up

end Acts
end Sys2Proof.Machine
end

section
/-! SUPPORT. The reply slots: how many reservations beyond the deferred replies a state holds, through every action. -/

namespace Sys2Proof.Machine

set_option Elab.async false

/-- The reply slots with `n` reservations beyond the deferred replies owed (R194). -/
def State.owing (n : Nat) (s : State) : Prop :=
  s.lnk.reserved = s.clk.setTags.length + s.cbt.owesReply + n ∧
    s.lnk.output.length + s.lnk.reserved ≤ Config.outputSlots ∧ s.lnk.input.length ≤ Config.inputFrames

theorem slotsSound_iff (s : State) : s.slotsSound ↔ s.owing 0 := Iff.rfl

namespace Acts

/-- A reading of the state that the blocks SEQ, SUP, FLT, OUT and LMP have no part in. -/
structure Blind {β : Type} (p : State → β) : Prop where
  seq : ∀ (s : State) f, p (s.onSeq f) = p s
  sup : ∀ (s : State) f, p (s.onSup f) = p s
  flt : ∀ (s : State) f, p (s.onFlt f) = p s
  out : ∀ (s : State) f, p (s.onOut f) = p s
  lmp : ∀ (s : State) f, p (s.onLmp f) = p s

section blind
variable {β : Type} {p : State → β} {G : Gid → Prop} {K : List Part} {s t : State}

theorem Blind.refreshGreen (h : Blind p) (g : Gid) : p (s.refreshGreen g) = p s := by
  unfold State.refreshGreen
  split
  · rfl
  · exact (h.sup _ _).trans (h.seq _ _)

theorem Blind.refreshInhibited (h : Blind p) (s : State) : p s.refreshInhibited = p s := h.seq _ _

theorem Blind.refreshShowing (h : Blind p) (c : Ch) : p (s.refreshShowing c) = p s := by
  unfold State.refreshShowing
  split
  · exact h.refreshGreen _
  · rfl

theorem Blind.refreshLeak (h : Blind p) (c : Ch) : p (s.refreshLeak c) = p s := by
  unfold State.refreshLeak
  split_ifs
  · rfl
  · exact h.lmp _ _
  · exact h.lmp _ _

theorem Blind.putChan (h : Blind p) (c : Ch) (new : ChanRun) : p (s.putChan c new) = p s := by
  unfold State.putChan
  rw [h.refreshLeak, h.refreshShowing]
  exact (h.lmp _ _).trans (h.out _ _)

theorem Blind.report (h : Blind p) (k : FaultKind) (x : Subject) : p (s.report k x) = p s := by
  unfold State.report State.reportAs
  exact h.flt _ _
theorem Blind.clearFault (h : Blind p) (k : FaultKind) (x : Subject) : p (s.clearFault k x) = p s := h.flt _ _

theorem Blind.evalRedHealth (h : Blind p) (g : Gid) : p (s.evalRedHealth g) = p s := by
  have hown (r : RedHealth) : p (((s.onGroup g fun o => { o with redHealth := r }).refreshInhibited).refreshGrace) = p s :=
    ((h.sup _ _).trans (h.seq _ _)).trans (h.seq _ _)
  unfold State.evalRedHealth
  dsimp only
  split_ifs
  · rfl
  · exact (h.report _ _).trans (hown _)
  · exact (h.clearFault _ _).trans (hown _)
  · exact hown _

/-- An edit of the tester, a reply, or an edit that only the blocks SEQ, SUP, FLT, OUT and LMP see. -/
theorem Edit.blind_or (h : Edit K s t) :
    (∃ f, t = s.onCbt f ∧ (s.cbt.urgentOk → (f s.cbt).urgentOk) ∧ ((f s.cbt).owesReply = s.cbt.owesReply ∨ Part.slots ∈ K)) ∨
      t = s.abandonProbe ∨ (∃ tag code st b, t = s.reply tag code st b ∧ Part.slots ∈ K) ∨
      ∀ {β : Type} {p : State → β}, Blind p → p t = p s := by
  cases h with
  | cbt f h hu ho => exact .inl ⟨f, rfl, hu, ho⟩
  | abandon h => exact .inr (.inl rfl)
  | reply tag code st b h => exact .inr (.inr (.inl ⟨tag, code, st, b, rfl, h⟩))
  | report k x b h => exact .inr (.inr (.inr fun hp => hp.flt _ _))
  | clear k x h => exact .inr (.inr (.inr fun hp => hp.flt _ _))
  | add q h => exact .inr (.inr (.inr fun hp => hp.flt _ _))
  | table f h => exact .inr (.inr (.inr fun hp => hp.flt _ _))
  | demand gs h => exact .inr (.inr (.inr fun hp => hp.seq _ _))
  | inhibit h => exact .inr (.inr (.inr fun hp => hp.seq _ _))
  | health g h => exact .inr (.inr (.inr fun hp => hp.evalRedHealth g))
  | grace h => exact .inr (.inr (.inr fun hp => hp.sup _ _))
  | conflicts h => exact .inr (.inr (.inr fun hp => hp.sup _ _))
  | green g h => exact .inr (.inr (.inr fun hp => hp.refreshGreen g))
  | leak c h => exact .inr (.inr (.inr fun hp => hp.refreshLeak c))
  | lamp c f h => exact .inr (.inr (.inr fun hp => hp.lmp _ _))
  | maintain c f h => exact .inr (.inr (.inr fun hp => (hp.refreshLeak c).trans (hp.lmp _ _)))
  | chan c f h => exact .inr (.inr (.inr fun hp => hp.out _ _))
  | count c h => exact .inr (.inr (.inr fun hp => countOperation_keeps s c hp.flt fun _ _ _ => hp.out _ _))
  | put c r new h => exact .inr (.inr (.inr fun hp => (hp.putChan c new).trans (hp.out _ _)))
  | flash f h => exact .inr (.inr (.inr fun hp => hp.out _ _))
  | contactor k b h => exact .inr (.inr (.inr fun hp => hp.out _ _))

end blind

section rim
variable {G : Gid → Prop} {K : List Part} {s t : State} {n : Nat}

/-- The blocks that hold the reply slots and what they are owed to. -/
def rim (s : State) : Lnk × Clk × Cbt := (s.lnk, s.clk, s.cbt)

theorem blind_rim : Blind rim := ⟨fun _ _ => rfl, fun _ _ => rfl, fun _ _ => rfl, fun _ _ => rfl, fun _ _ => rfl⟩

theorem owing_of_rim (h : rim t = rim s) (hs : s.owing n) : t.owing n := by
  simp only [rim, Prod.mk.injEq] at h
  obtain ⟨hlnk, hclk, hcbt⟩ := h
  unfold State.owing at hs ⊢
  rw [hlnk, hclk, hcbt]
  exact hs

theorem owing_forAll {m : Nat} {f : State → Fin m → State} (h : ∀ t i, rim (f t i) = rim t) (hs : s.owing n) :
    (s.forAll f).owing n := owing_of_rim (Frames.forAll_keeps rim h s) hs

theorem owing_onCbt {f : Cbt → Cbt} (ho : (f s.cbt).owesReply = s.cbt.owesReply) (hs : s.owing n) : (s.onCbt f).owing n := by
  unfold State.owing at hs ⊢
  simpa [ho] using hs

/-- The tester's reply is no longer owed: its slot is left over. -/
theorem owing_onCbt_quiet {f : Cbt → Cbt} (ho : (f s.cbt).owesReply = 0) (hs : s.owing n) :
    (s.onCbt f).owing (s.cbt.owesReply + n) := by
  obtain ⟨hr, hout, hin⟩ := hs
  exact ⟨by simp only [State.onCbt_lnk, State.onCbt_clk, State.onCbt_cbt, ho, hr]; omega, hout, hin⟩

theorem owing_reply (tag code : Byte) (st : Status) (b : List Byte) (hs : s.owing (n + 1)) : (s.reply tag code st b).owing n := by
  obtain ⟨hr, hout, hin⟩ := hs
  unfold State.reply
  refine ⟨?_, ?_, hin⟩
  · simp only [State.onLnk_lnk, State.onLnk_clk, State.onLnk_cbt, hr]; omega
  · simp only [State.onLnk_lnk, List.length_append, List.length_cons, List.length_nil]; omega

/-- The reply that a probe's origin is owed. -/
def replies : Origin → Nat
  | .request _ => 1
  | _ => 0

theorem owing_of_surplus_zero (hs : s.owing (0 + n)) : s.owing n := by rwa [Nat.zero_add] at hs

theorem owing_answerProbe {o : Origin} (r : ProbeResult) (m : Option Nat) (hs : s.owing (replies o + n)) :
    (s.answerProbe o r m).owing n := by
  cases o with
  | request tag => exact owing_reply _ _ _ _ (owing_of_rim (blind_rim.flt _ _) (by rw [Nat.add_comm]; exact hs))
  | sweep => exact owing_of_surplus_zero hs
  | urgent => exact owing_of_surplus_zero hs

theorem owing_recordAbandoned {p : ProbeRun} (hs : s.owing (replies p.origin + n)) : (s.recordAbandoned p).owing n := by
  unfold State.recordAbandoned
  dsimp only
  have hrec : ((s.onResult p.entry fun r => { r with last := some .abandoned, measurement := none }).deferAgain p.entry).owing
      (replies p.origin + n) := by
    unfold State.deferAgain
    split_ifs
    · exact owing_onCbt rfl (owing_onCbt (s := s) rfl hs)
    · exact owing_onCbt (s := s) rfl hs
  refine owing_answerProbe _ _ ?_
  split_ifs
  · unfold State.countStarved
    dsimp only
    split_ifs
    · exact owing_of_rim (blind_rim.flt _ _) (owing_onCbt rfl hrec)
    · exact owing_onCbt rfl hrec
  · exact hrec

theorem owesReply_working {b : Cbt} {p : ProbeRun} (hp : b.probe = some p) (hw : b.phase.working = true) :
    b.owesReply = replies p.origin := by
  obtain ⟨e, o, w⟩ := p
  unfold Cbt.owesReply
  rw [hp]
  cases o <;> simp [hw, replies]

theorem owing_abandonProbe (hs : s.owing n) : s.abandonProbe.owing n := by
  unfold State.abandonProbe
  split
  · next p hp =>
    split
    · next hw =>
      have := owing_onCbt_quiet (f := fun b => { b with phase := .releasing, phaseTime := 0 })
        (owesReply_of_notWorking rfl) hs
      rw [owesReply_working hp hw] at this
      exact owing_recordAbandoned this
    · exact hs
  · exact hs

/-- The slots stay in balance through every edit that does not move the balance itself. -/
theorem Edit.owing (h : Edit K s t) (hK : Part.slots ∉ K) (hs : s.owing n) : t.owing n := by
  rcases h.blind_or with ⟨f, rfl, -, ho⟩ | rfl | ⟨tag, code, st, b, -, hm⟩ | hp
  · exact owing_onCbt (ho.resolve_right hK) hs
  · exact owing_abandonProbe hs
  · exact absurd hm hK
  · exact owing_of_rim (hp blind_rim) hs

theorem Edits.owing (h : Edits K s t) (hK : Part.slots ∉ K) (hs : s.owing n) : t.owing n :=
  h.keeps hs fun _ _ e => e.owing hK

/-! ### Actions -/

theorem Blind.putColour {β : Type} {p : State → β} (hp : Blind p) (g : Gid) (col : Colour) : p (s.putColour g col) = p s := by
  unfold State.putColour
  split
  · rfl
  · exact hp.seq _ _

theorem Blind.paints {β : Type} {p : State → β} (hp : Blind p) (h : Paints G s t) : p t = p s := by
  induction h with
  | refl => rfl
  | tail _ e ih =>
    cases e with
    | put g col => exact (hp.putColour g col).trans ih

theorem Blind.onMode {β : Type} {p : State → β} (hp : Blind p) (f : Sup → Sup) : p (s.onMode f) = p s := by
  unfold State.onMode
  dsimp only
  split_ifs
  · exact hp.sup _ _
  · exact (hp.flt _ _).trans (hp.sup _ _)

theorem owing_syncCommands (hs : s.owing n) : s.syncCommands.owing n := edits_syncCommands.owing (by decide) hs

theorem owing_resetTester (hs : s.owing n) : s.resetTester.owing n := by
  unfold State.resetTester
  dsimp only
  refine owing_forAll (fun t e => blind_rim.clearFault _ _) (owing_onCbt ?_ (owing_abandonProbe hs))
  unfold Cbt.owesReply
  dsimp only
  cases s.abandonProbe.cbt.probe with
  | none => rfl
  | some p => obtain ⟨e, o, w⟩ := p; cases o <;> rfl

theorem Blind.clearChannelEntries {β : Type} {p : State → β} (hp : Blind p) (c : Ch) :
    p (s.clearChannelEntries c) = p s := by
  unfold State.clearChannelEntries State.clearLampFaults
  simp only [hp.clearFault]

theorem Blind.relamped {β : Type} {p : State → β} (hp : Blind p) (c : Ch) :
    p (((s.reinitLamp c).clearChannelEntries c).refreshLeak c) = p s := by
  rw [hp.refreshLeak, hp.clearChannelEntries]
  unfold State.reinitLamp
  exact hp.lmp _ _

theorem owing_rebuilt (before : State) (hs : s.owing n) : (s.rebuilt before).owing n := by
  unfold State.rebuilt
  dsimp only
  have hgroups : (s.forAll fun (t : State) (g : Gid) => t.reinitGroup before g).owing n :=
    owing_forAll (fun t g => blind_rim.seq _ _) hs
  have hlamps := owing_forAll (f := fun (t : State) (c : Ch) => ((t.reinitLamp c).clearChannelEntries c).refreshLeak c)
    (fun t c => blind_rim.relamped c) (owing_syncCommands hgroups)
  have hhealth := owing_forAll (f := State.evalRedHealth) (fun t g => blind_rim.evalRedHealth g) hlamps
  have hinhibited := owing_of_rim (blind_rim.refreshInhibited _) hhealth
  have hgreens := owing_forAll (f := State.refreshGreen) (fun t g => blind_rim.refreshGreen g) hinhibited
  exact owing_of_rim (blind_rim.sup _ _) hgreens

/-- The slots stay in balance through every action that does not move the balance itself. -/
theorem Act.owing (h : Act G K s t) (hK : Part.slots ∉ K) (hs : s.owing n) : t.owing n := by
  cases h with
  | edit h => exact h.owing hK hs
  | paint h => exact owing_syncCommands (owing_of_rim (blind_rim.paints h) hs)
  | dim f k q =>
    have hmode : ((s.onMode f).onContactor k).owing n :=
      owing_of_rim (blind_rim.out _ _) (owing_of_rim (blind_rim.onMode _) hs)
    have hcolours : (((s.onMode f).onContactor k).setAllColours fun _ => .darkAll).owing n := by
      refine owing_syncCommands (owing_forAll (fun t g => ?_) hmode)
      split
      · exact blind_rim.putColour _ _
      · rfl
    exact owing_of_rim (blind_rim.sup _ _) (owing_of_rim (blind_rim.seq _ _) hcolours)
  | enter f q => exact owing_of_rim (blind_rim.sup _ _) (owing_of_rim (blind_rim.seq _ _) (owing_of_rim (blind_rim.onMode _) hs))
  | sup f h => exact owing_of_rim (blind_rim.sup _ _) hs
  | seq f h => exact owing_of_rim (blind_rim.seq _ _) hs
  | timers h => exact owing_of_rim (blind_rim.seq _ _) hs
  | sch f h => exact hs
  | clk f h ht =>
    unfold State.owing at hs ⊢
    simp only [State.onClk_lnk, State.onClk_clk, State.onClk_cbt, ht.resolve_right hK]
    exact hs
  | det f h => exact hs
  | install new h => exact hs
  | rebuild new h => exact owing_rebuilt _ (owing_resetTester hs)
  | cfg f h => exact hs
  | link f h hl =>
    obtain ⟨hr, hout, hin⟩ := hs
    obtain ⟨ho, hres, hi⟩ := hl.resolve_right hK
    exact ⟨hres.trans hr, by simp only [State.onLnk_lnk, hres]; omega, hi hin⟩

theorem owing (h : Acts G K s t) (hs : s.owing n) (hK : Part.slots ∉ K := by decide) : t.owing n :=
  h.keeps hs fun _ _ e => e.owing hK

end rim
end Acts
end Sys2Proof.Machine
end

section
/-! SUPPORT. The owners' answers to the requests, as actions that fill one reserved slot or leave it to a deferred reply. -/

namespace Sys2Proof.Machine

set_option Elab.async false
namespace Acts

variable {G : Gid → Prop} {K L : List Part} {s t u : State}

/-- Every part but the balance of the reply slots. -/
abbrev unslotted : List Part := .link :: whole

/-- A request served: actions that use up one reservation, by a reply or by a deferred one. -/
structure Serves (G : Gid → Prop) (s t : State) : Prop where
  acts : Acts G every s t
  owing : ∀ n, s.owing (n + 1) → t.owing n

theorem serves_reply (tag code : Byte) (st : Status) (b : List Byte) (h : Acts G unslotted s u) :
    Serves G s (u.reply tag code st b) :=
  ⟨h.up.trans (of_edits (edits_reply _ _ _ _)).up, fun _ hs => owing_reply _ _ _ _ (h.owing hs)⟩

theorem serves_refuse (tag code : Byte) (st : Status) : Serves G s (s.refuse tag code st) := serves_reply _ _ _ _ (refl s)

theorem serves_either {c : Prop} [Decidable c] (ht : c → Serves G s t) (hu : ¬c → Serves G s u) :
    Serves G s (if c then t else u) := by
  split
  · next h => exact ht h
  · next h => exact hu h

/-! ### Reads -/

theorem serves_answerEmpty (tag code : Byte) (body r : List Byte) : Serves G s (s.answerEmpty tag code body r) :=
  serves_either (fun _ => serves_reply _ _ _ _ (refl s)) fun _ => serves_refuse _ _ _

theorem serves_answerNumber (tag code : Byte) (body : List Byte) (n : Nat) (f : Fin n → List Byte) :
    Serves G s (s.answerNumber tag code body n f) := by
  unfold State.answerNumber
  split
  · split
    · exact serves_reply _ _ _ _ (refl s)
    · exact serves_refuse _ _ _
  · exact serves_refuse _ _ _

/-! ### The edit session -/

theorem acts_onCfg (f : Cfg → Cfg) (h : (f s.cfg).running = s.cfg.running) : Acts G [.cfg] s (s.onCfg f) :=
  one (.cfg f (by decide) h)

theorem serves_editRead (tag : Byte) (body : List Byte) : Serves G s (serveEditRead tag body s) := by
  unfold serveEditRead
  split
  · exact serves_refuse _ _ _
  · exact serves_reply _ _ _ _ (refl s)

theorem serves_configRead (tag : Byte) (body : List Byte) : Serves G s (serveConfigRead tag body s) :=
  serves_reply _ _ _ _ (refl s)

theorem serves_editOpen (tag : Byte) (body : List Byte) : Serves G s (serveEditOpen tag body s) :=
  serves_either (fun _ => serves_refuse _ _ _) fun _ => serves_either (fun _ => serves_refuse _ _ _) fun _ =>
    serves_either (fun _ => serves_refuse _ _ _) fun _ => serves_reply _ _ _ _ (acts_onCfg _ rfl).up

theorem serves_editDiscard (tag : Byte) (body : List Byte) : Serves G s (serveEditDiscard tag body s) :=
  serves_either (fun _ => serves_refuse _ _ _) fun _ => serves_either (fun _ => serves_refuse _ _ _) fun _ =>
    serves_reply _ _ _ _ (acts_onCfg _ rfl).up

theorem serves_writeRecord (tag : Byte) (buf : ConfigSet) (cls : RecordClass) (k : Nat) (rec : List Byte) :
    Serves G s (s.writeRecord tag buf cls k rec) := by
  refine serves_either (fun _ => serves_refuse _ _ _) fun _ => ?_
  split
  · exact serves_refuse _ _ _
  · exact serves_reply _ _ _ _ (acts_onCfg _ rfl).up

theorem serves_editWrite (tag : Byte) (body : List Byte) : Serves G s (serveEditWrite tag body s) := by
  unfold serveEditWrite
  split
  · exact serves_refuse _ _ _
  · split
    · exact serves_refuse _ _ _
    · split
      · exact serves_refuse _ _ _
      · exact serves_refuse _ _ _
      · exact serves_writeRecord _ _ _ _ _

theorem serves_takeCommit (tag : Byte) (buf : ConfigSet) : Serves G s (s.takeCommit tag buf) := by
  unfold State.takeCommit
  dsimp only
  have hclose : Acts G unslotted s (s.onCfg fun c => { c with buffer := none }) := (acts_onCfg _ rfl).up
  exact serves_either (fun _ => serves_reply _ _ _ _ (hclose.trans (acts_onCfg _ rfl).up)) fun _ =>
    serves_reply _ _ _ _ (hclose.trans (acts_applyCommit _).up)

theorem serves_editCommit (tag : Byte) (body : List Byte) : Serves G s (serveEditCommit tag body s) := by
  refine serves_either (fun _ => serves_refuse _ _ _) fun _ => serves_either (fun _ => serves_refuse _ _ _) fun _ => ?_
  split
  · exact serves_refuse _ _ _
  · split
    · exact serves_reply _ _ _ _ (refl s)
    · exact serves_either (fun _ => serves_refuse _ _ _) fun _ => serves_takeCommit _ _

/-! ### The clock, the schedule and the sequencer -/

theorem serves_clockSet (tag : Byte) (body : List Byte) : Serves G s (serveClockSet tag body s) := by
  refine serves_either (fun _ => serves_refuse _ _ _) fun _ => ?_
  split
  · exact serves_refuse _ _ _
  · refine ⟨one (.clk _ (by decide) (.inr (by decide)) (.inr (by decide))), fun n hs => ?_⟩
    obtain ⟨hr, hout, hin⟩ := hs
    refine ⟨?_, hout, hin⟩
    simp only [State.onClk_lnk, State.onClk_clk, State.onClk_cbt, List.length_append, List.length_cons, List.length_nil, hr]
    omega

theorem serves_clockTrim (tag : Byte) (body : List Byte) : Serves G s (serveClockTrim tag body s) := by
  unfold serveClockTrim
  split
  · exact serves_reply _ _ _ _ (acts_onTime _ rfl).up
  · exact serves_refuse _ _ _

theorem acts_evaluateWith (f : Sch → Sch) : Acts G unslotted s ((s.onSch f).evaluate) :=
  (one (.sch f (by decide))).trans acts_evaluate.up

theorem serves_planForce (tag : Byte) (body : List Byte) : Serves G s (servePlanForce tag body s) := by
  unfold servePlanForce
  split
  · refine serves_either (fun _ => serves_refuse _ _ _) fun _ => ?_
    split
    · exact serves_refuse _ _ _
    · exact serves_either (fun _ => serves_reply _ _ _ _ (acts_evaluateWith _)) fun _ => serves_refuse _ _ _
  · exact serves_refuse _ _ _

theorem serves_planRelease (tag : Byte) (body : List Byte) : Serves G s (servePlanRelease tag body s) :=
  serves_either (fun _ => serves_refuse _ _ _) fun _ => serves_either (fun _ => serves_refuse _ _ _) fun _ =>
    serves_reply _ _ _ _ (acts_evaluateWith _)

theorem serves_demandPlace (tag : Byte) (body : List Byte) : Serves G s (serveDemandPlace tag body s) := by
  unfold serveDemandPlace
  split
  · refine serves_either (fun _ => serves_refuse _ _ _) fun _ => ?_
    split
    · exact serves_refuse _ _ _
    · exact serves_either (fun _ => serves_reply _ _ _ _ (of_edits (edits_placeDemand _)).up) fun _ => serves_refuse _ _ _
  · exact serves_refuse _ _ _

/-! ### The lamp records -/

theorem acts_maintChannel (op : Nat) (b : List Byte) (c : Ch) :
    Acts G [.lamp, .healthy, .flt, .lampFault, .answer, .cbt, .starved] s (s.maintChannel op b c) := by
  refine either (fun _ => ?_) fun _ => refl _
  split
  · exact of_edits ((edits_enterMaintenance c).up.trans (edits_claimChannel c).up)
  · exact of_edits (edits_leaveMaintenance c).up
  · exact refl _

theorem serves_maintUpdate (tag : Byte) (body : List Byte) : Serves G s (serveMaintUpdate tag body s) := by
  refine serves_either (fun _ => serves_refuse _ _ _) fun _ => serves_either (fun _ => serves_refuse _ _ _) fun _ => ?_
  exact serves_reply _ _ _ _ (Acts.trans (forAll s fun _ c => (acts_maintChannel _ _ c).up) (of_edits edits_evalAllRedHealth).up)

theorem serves_lampRelearn (tag : Byte) (body : List Byte) : Serves G s (serveLampRelearn tag body s) := by
  unfold serveLampRelearn
  split
  · split
    · exact serves_refuse _ _ _
    · exact serves_reply _ _ _ _ (of_edits ((edits_relearn _).up.trans edits_evalAllRedHealth.up))
  · exact serves_refuse _ _ _

/-! ### The cabinet mode -/

theorem serves_start (tag : Byte) (body : List Byte) : Serves G s (serveStart tag body s) :=
  serves_either (fun _ => serves_refuse _ _ _) fun _ => serves_either (fun _ => serves_refuse _ _ _) fun _ =>
    serves_either (fun _ => serves_refuse _ _ _) fun _ =>
      serves_reply _ _ _ _ (acts_evaluate.up.trans (acts_enterStartupCheck _).up)

theorem serves_modeSet (tag : Byte) (body : List Byte) : Serves G s (serveModeSet tag body s) := by
  unfold serveModeSet
  split
  · exact serves_either (fun _ => serves_refuse _ _ _) fun _ => serves_either (fun _ => serves_refuse _ _ _) fun _ =>
      serves_reply _ _ _ _ (acts_takeCause _ _).up
  · exact serves_refuse _ _ _

/-- The entries of every kind. -/
abbrev entryParts : List Part :=
  [.flt, .closeFault, .relayFault, .wear, .starved, .supplyFault, .planFault, .lampFault, .redFault, .crossing, .stuck,
    .alert, .lockout]

theorem part_mem_entryParts (k : FaultKind) : k.part ∈ entryParts := by cases k <;> decide

theorem acts_clearAbsent : Acts G entryParts s s.clearAbsent :=
  foldl _ _ fun _ _ _ => either (fun _ => of_edits (edits_clearFault _ _ (hk := part_mem_entryParts _))) fun _ => refl _

theorem acts_restartCabinet : Acts G (entryParts ++ cabinet) s s.restartCabinet := by
  unfold State.restartCabinet
  dsimp only
  exact Acts.trans (Acts.trans (Acts.trans (acts_sup _ rfl rfl rfl).up (of_edits (edits_clearFault _ _)))
    acts_clearAbsent.up) (acts_enterStartupCheck _).up

theorem serves_restart (tag : Byte) (body : List Byte) : Serves G s (serveRestart tag body s) :=
  serves_either (fun _ => serves_refuse _ _ _) fun _ => serves_either (fun _ => serves_refuse _ _ _) fun _ =>
    serves_either (fun _ => serves_refuse _ _ _) fun _ => serves_reply _ _ _ _ acts_restartCabinet.up

/-! ### The fault table and the notices -/

/-- A rewriting of the table that keeps its keys, in order, keeps it sound. -/
theorem sound_of_keys {f f' : Flt}
    (h : (f'.entries.map fun e => (e.kind, e.subject)).Sublist (f.entries.map fun e => (e.kind, e.subject)))
    (hs : f.sound) : f'.sound := by
  have hpair (l : List FaultEntry) : (l.Pairwise fun a b => ¬(a.kind = b.kind ∧ a.subject = b.subject)) ↔
      (l.map fun e => (e.kind, e.subject)).Pairwise (· ≠ ·) := by
    rw [List.pairwise_map]; simp
  refine ⟨?_, (hpair _).mpr (((hpair _).mp hs.2).sublist h)⟩
  have := h.length_le
  simp only [List.length_map] at this
  exact this.trans hs.1

theorem sound_acknowledge {f : Flt} (p : FaultEntry → Bool) (hs : f.sound) : (f.acknowledge p).sound := by
  have hkeys : ((f.acknowledge p).entries.map fun e => (e.kind, e.subject)) = f.entries.map fun e => (e.kind, e.subject) := by
    simp only [Flt.acknowledge, List.map_map]
    refine List.map_congr_left fun e _ => ?_
    simp only [Function.comp_apply]
    split <;> rfl
  exact sound_of_keys (hkeys ▸ List.Sublist.refl _) hs

theorem sound_purge {f : Flt} (hs : f.sound) : f.purge.sound :=
  sound_of_keys (List.filter_sublist.map _) hs

theorem acts_table (f : Flt → Flt) (hs : s.flt.sound → (f s.flt).sound) (ha : (f s.flt).added = s.flt.added) :
    Acts G [.flt, .table] s (s.onFlt f) := of_edits (.one (.table f (by decide) hs ha (.inr (by decide))))

theorem serves_faultAck (tag : Byte) (body : List Byte) : Serves G s (serveFaultAck tag body s) := by
  refine serves_either (fun _ => serves_reply _ _ _ _ (acts_table _ (sound_acknowledge _) rfl).up) fun _ =>
    serves_either (fun _ => serves_refuse _ _ _) fun _ => ?_
  split
  · exact serves_refuse _ _ _
  · exact serves_either (fun _ => serves_reply _ _ _ _ (acts_table _ (sound_acknowledge _) rfl).up) fun _ => serves_refuse _ _ _

theorem serves_faultPurge (tag : Byte) (body : List Byte) : Serves G s (serveFaultPurge tag body s) :=
  serves_either (fun _ => serves_refuse _ _ _) fun _ => serves_reply _ _ _ _ (acts_table _ sound_purge rfl).up

theorem serves_attentionRead (tag : Byte) (body : List Byte) : Serves G s (serveAttentionRead tag body s) :=
  serves_either (fun _ => serves_refuse _ _ _) fun _ => serves_reply _ _ _ _ (acts_table _ id rfl).up

theorem acts_onLnk (f : Lnk → Lnk) (ho : (f s.lnk).output.length ≤ s.lnk.output.length)
    (hr : (f s.lnk).reserved = s.lnk.reserved)
    (hi : s.lnk.input.length ≤ Config.inputFrames → (f s.lnk).input.length ≤ Config.inputFrames) :
    Acts G [.link] s (s.onLnk f) := one (.link f (by decide) (.inl ⟨ho, hr, hi⟩))

theorem serves_noticeEnable (tag : Byte) (body : List Byte) : Serves G s (serveNoticeEnable tag body s) := by
  unfold serveNoticeEnable
  split
  · exact serves_either (fun _ => serves_reply _ _ _ _ (acts_onLnk _ le_rfl rfl id).up) fun _ => serves_refuse _ _ _
  · exact serves_refuse _ _ _

/-! ### The tester -/

theorem acts_onCbt (f : Cbt → Cbt) (hu : s.cbt.urgentOk → (f s.cbt).urgentOk)
    (ho : (f s.cbt).owesReply = s.cbt.owesReply) : Acts G [.cbt] s (s.onCbt f) :=
  of_edits (.one (.cbt f (by decide) hu (.inl ho)))

theorem serves_sweepStart (tag : Byte) (body : List Byte) : Serves G s (serveSweepStart tag body s) := by
  refine serves_either (fun _ => serves_refuse _ _ _) fun _ => serves_reply _ _ _ _ (acts_onCbt _ (fun h => ?_) ?_).up
  · unfold Cbt.startSweeping; split <;> exact h
  · unfold Cbt.startSweeping; split <;> rfl

theorem urgentOk_nil {b : Cbt} (h : b.urgent = []) : b.urgentOk := by
  unfold Cbt.urgentOk; rw [h]; exact ⟨Nat.zero_le _, List.nodup_nil⟩

theorem serves_sweepStop (tag : Byte) (body : List Byte) : Serves G s (serveSweepStop tag body s) := by
  refine serves_either (fun _ => serves_refuse _ _ _) fun _ => serves_reply _ _ _ _ (acts_onCbt _ (fun h => ?_) ?_).up
  · unfold Cbt.stopSweeping
    split
    · exact urgentOk_nil rfl
    · exact h
  · unfold Cbt.stopSweeping; split <;> rfl

theorem rim_connectBus (e : PEnt) : rim (s.connectBus e) = rim s := by
  unfold State.connectBus
  dsimp only
  split <;> rfl

theorem serves_probeRun (tag : Byte) (body : List Byte) : Serves G s (serveProbeRun tag body s) := by
  unfold serveProbeRun
  split
  · split
    · exact serves_refuse _ _ _
    · next e _ =>
      refine serves_either (fun _ => serves_refuse _ _ _) fun _ => serves_either (fun _ => serves_refuse _ _ _) fun _ =>
        serves_either (fun hc => ⟨(of_edits (edits_startProbe_slots _ hc)).up, fun n hs => ?_⟩) fun _ => serves_refuse _ _ _
      obtain ⟨hphase, -, -⟩ := canStart_iff.mp hc
      obtain ⟨hr, hout, hin⟩ := owing_of_rim (rim_connectBus e) hs
      have hquiet : (s.connectBus e).cbt.owesReply = 0 := by
        rw [connectBus_cbt]; exact owesReply_of_notWorking (by rw [hphase]; rfl)
      refine ⟨?_, hout, hin⟩
      show (s.connectBus e).lnk.reserved = (s.connectBus e).clk.setTags.length + 1 + n
      omega
  · exact serves_refuse _ _ _

/-! ### The catalogue -/

theorem serves_request (tag code : Byte) (body : List Byte) : Serves G s (serveRequest tag code body s) := by
  unfold serveRequest
  split
  · exact serves_answerEmpty _ _ _ _
  · exact serves_answerEmpty _ _ _ _
  · exact serves_editOpen _ _
  · exact serves_editWrite _ _
  · exact serves_editRead _ _
  · exact serves_editCommit _ _
  · exact serves_editDiscard _ _
  · exact serves_configRead _ _
  · exact serves_clockSet _ _
  · exact serves_answerEmpty _ _ _ _
  · exact serves_clockTrim _ _
  · exact serves_start _ _
  · exact serves_restart _ _
  · exact serves_modeSet _ _
  · exact serves_planForce _ _
  · exact serves_planRelease _ _
  · exact serves_demandPlace _ _
  · exact serves_maintUpdate _ _
  · exact serves_lampRelearn _ _
  · exact serves_sweepStart _ _
  · exact serves_sweepStop _ _
  · exact serves_probeRun _ _
  · exact serves_answerNumber _ _ _ _ _
  · exact serves_answerNumber _ _ _ _ _
  · exact serves_answerNumber _ _ _ _ _
  · exact serves_answerNumber _ _ _ _ _
  · exact serves_answerNumber _ _ _ _ _
  · exact serves_faultAck _ _
  · exact serves_faultPurge _ _
  · exact serves_attentionRead _ _
  · exact serves_noticeEnable _ _
  · exact serves_refuse _ _ _

end Acts
end Sys2Proof.Machine
end

section
/-! SUPPORT. The events of the blocks as actions: sequencer, clock, inputs, outputs, tester, supervisor and link. -/

namespace Sys2Proof.Machine

set_option Elab.async false
namespace Acts

variable {G : Gid → Prop} {K L : List Part} {s t u : State}

/-! ### The sequencer at an open tick -/

theorem normal_of_normalTick (h : s.normalTick = true) : s.sup.mode = .normal := by
  simp only [State.normalTick, Bool.and_eq_true, beq_iff_eq] at h
  exact h.2

theorem acts_startDueChange (h : s.changeStartDue = true) : Acts G greenParts s s.startDueChange := by
  simp only [State.changeStartDue, Bool.and_eq_true] at h
  unfold State.startDueChange
  split
  · exact acts_startChange _ (lit_of_normal (normal_of_normalTick h.1))
  · exact refl _

theorem acts_startRedAmber {g : Gid} (hg : (s.group g).inhibited = false → G g) (h : s.redAmberDue g = true) :
    Acts G greenParts s (s.startRedAmber g) := by
  simp only [State.redAmberDue, Bool.and_eq_true, beq_iff_eq] at h
  obtain ⟨⟨⟨⟨htick, hkind⟩, -⟩, -⟩, -⟩ := h
  refine either (fun _ => acts_dropIfInhibited g) fun hi => ?_
  exact acts_setColour (fun _ => hg (by simpa using hi))
    (.inr (.inr ⟨fitted_of_kind hkind, lit_of_normal (normal_of_normalTick htick)⟩))

theorem lit_of_waiting {c : Colour} (h : c.waiting = true) : c ≠ .darkAll := by rintro rfl; exact absurd h (by decide)

theorem lit_of_beforeGreen {g : Gid} (h : s.beforeGreen g = true) : (s.group g).colour ≠ .darkAll := by
  intro hd
  unfold State.beforeGreen at h
  rw [hd] at h
  split at h <;> exact absurd h (by decide)

theorem lit_of_greenDue {g : Gid} (h : s.greenDue g = true) : (s.group g).colour ≠ .darkAll := by
  unfold State.greenDue at h
  split at h
  · simp only [Bool.and_eq_true] at h
    exact lit_of_beforeGreen h.2.2
  · simp only [Bool.and_eq_true, beq_iff_eq] at h
    rw [h.2.1]; decide

theorem acts_takeGreen {g : Gid} (hg : (s.group g).inhibited = false → G g) (h : s.greenDue g = true) :
    Acts G greenParts s (s.takeGreen g) :=
  either (fun _ => acts_dropIfInhibited g) fun hi => acts_enterGreen (hg (by simpa using hi)) (.inl (lit_of_greenDue h))

abbrev endParts : List Part := [.mode, .seq, .grace, .colour] ++ electric

/-- A group whose amber or clearance has run enters RED, and CLEARING may end. -/
theorem acts_enterRed {g : Gid} (h : (s.group g).colour ≠ .darkAll) : Acts G endParts s ((s.setColour g .red).clearingCheck) :=
  (acts_setColour_rest (by decide) (.inl h)).up.trans acts_clearingCheck.up

theorem lit_of_amberDue {g : Gid} (h : s.amberDue g = true) : (s.group g).colour ≠ .darkAll := by
  simp only [State.amberDue, Bool.and_eq_true, beq_iff_eq] at h
  rw [h.1.2]; decide

theorem lit_of_clearanceDue {g : Gid} (h : s.clearanceDue g = true) : (s.group g).colour ≠ .darkAll := by
  simp only [State.clearanceDue, Bool.and_eq_true, beq_iff_eq] at h
  rw [h.1.2]; decide

theorem acts_completeChange : Acts G [.seq] s s.completeChange := by
  unfold State.completeChange
  split
  · dsimp only
    refine Acts.trans (Acts.trans ?_ acts_serveHead) acts_startMaxTimer
    exact either (fun _ => (acts_seq _ rfl rfl).trans acts_refreshAllowance) fun _ => acts_seq _ rfl rfl
  · exact refl _

theorem acts_joinLate {g : Gid} (hg : (s.group g).inhibited = false → G g) (h : s.joinDue g = true) :
    Acts G greenParts s (s.joinLate g) := by
  simp only [State.joinDue, Bool.and_eq_true, Bool.not_eq_true'] at h
  obtain ⟨⟨⟨⟨-, hi⟩, hw⟩, -⟩, -⟩ := h
  unfold State.joinLate
  dsimp only
  have hdrop : Acts G greenParts s (s.onSeq fun q => { q with dropped := q.dropped.filter fun p => p.1 != g }) :=
    (acts_seq _ rfl rfl).up
  have hjoin (t : State) (i : Nat) : Acts G greenParts t (t.onSeq fun q =>
      { q with
        change := q.change.map fun ch => { ch with gaining := ch.gaining ++ [(g, q.tick + i)] }
        joined := q.joined ++ [(g, (s.seq.droppedInstant g).getD q.tick)] }) := (acts_seq _ rfl rfl).up
  refine either (fun _ => ?_) fun _ => ?_
  · exact Acts.trans (hdrop.trans (acts_setColour (fun _ => hg hi) (.inr (.inl (lit_of_waiting hw))))) (hjoin _ _)
  · exact hdrop.trans (acts_enterGreen (hg hi) (.inl (lit_of_waiting hw)))

theorem acts_endToSelection : Acts G [.seq] s s.endToSelection := by
  unfold State.endToSelection
  split
  · exact acts_seq _ rfl rfl
  · exact acts_seq _ rfl rfl

theorem flashColour_rest (k : GroupKind) : flashColour k ≠ .green ∧ flashColour k ≠ .redAmber := by cases k <;> decide
theorem restColour_rest (k : GroupKind) : restColour k ≠ .green ∧ restColour k ≠ .redAmber := by cases k <;> decide

theorem acts_applyColours : Acts G greenParts s s.applyColours := by
  have hdue : Acts G greenParts s (s.onSeq fun q => { q with coloursDue := false }) := (acts_seq _ rfl rfl).up
  unfold State.applyColours
  dsimp only
  split
  · next hm => exact hdue.trans (acts_setAllColours flashColour_rest (.inr (by simp [hm, Mode.unlit]))).up
  · next hm => exact hdue.trans (acts_setAllColours flashColour_rest (.inr (by simp [hm, Mode.unlit]))).up
  · next hm => exact hdue.trans (acts_setAllColours restColour_rest (.inr (by simp [hm, Mode.unlit]))).up
  · exact hdue

theorem paints_endGreens : Paints G s (s.forAll State.endGreen) := by
  unfold State.forAll
  generalize allFin 16 = l
  induction l generalizing s with
  | nil => exact .refl
  | cons g l ih =>
    refine Relation.ReflTransGen.trans ?_ ih
    unfold State.endGreen
    split
    · next k hk hc =>
      exact .single (.put g _ (fun h => absurd h (by simp [endColour_rest k])) (.inr (.inl (by rw [hc]; decide))))
    · next k hk hc => exact .single (.put g _ (fun h => absurd h (by decide)) (.inr (.inl (by rw [hc]; decide))))
    · exact .refl

theorem acts_endGreens : Acts G endParts s s.endGreens :=
  Acts.trans (Acts.trans (acts_seq _ rfl rfl).up (one (.paint paints_endGreens (by decide) (by decide)))) acts_clearingCheck.up

/-! ### The Plan Runner at an open tick -/

theorem acts_endOfEntry : Acts G [.seq] s s.endOfEntry := either (fun _ => acts_seq _ rfl rfl) fun _ => acts_takeDecision _

theorem acts_endHold : Acts G [.seq] s s.endHold := Acts.trans (acts_seq _ rfl rfl) (acts_takeDecision _)

theorem acts_takePending : Acts G [.seq, .flt] s s.takePending := by
  unfold State.takePending
  split
  · exact either (fun _ => acts_takePlan _) fun _ => refl _
  · exact refl _

theorem acts_passChangePoint : Acts G inner s s.passChangePoint :=
  Acts.trans (Acts.trans (acts_seq _ rfl rfl).up acts_applyPending) acts_takePending.up

/-! ### The sources of the tenth tick -/

/-- Actions that leave the slots in balance, though a part of them may use reservations that another freed. -/
structure Balanced (G : Gid → Prop) (s t : State) : Prop where
  acts : Acts G every s t
  owing : ∀ n, s.owing n → t.owing n

theorem balanced_of_acts (h : Acts G unslotted s t) : Balanced G s t := ⟨h.up, fun _ hs => h.owing hs⟩

theorem Balanced.trans (h : Balanced G s t) (h' : Balanced G t u) : Balanced G s u :=
  ⟨h.acts.trans h'.acts, fun n hs => h'.owing n (h.owing n hs)⟩

theorem balanced_either {c : Prop} [Decidable c] (ht : c → Balanced G s t) (hu : ¬c → Balanced G s u) :
    Balanced G s (if c then t else u) := by
  split
  · next h => exact ht h
  · next h => exact hu h

theorem owing_replies {n : Nat} (l : List Byte) (code : Byte) (h : s.owing (l.length + n)) :
    (l.foldl (fun t tag => t.reply tag code .ok []) s).owing n := by
  induction l generalizing s with
  | nil => simpa using h
  | cons a l ih => exact ih (owing_reply _ _ _ _ (by rw [List.length_cons] at h; rwa [Nat.add_right_comm] at h))

theorem balanced_takeClockSet (d : Date) (tod : Nat) : Balanced G s (s.takeClockSet d tod) := by
  refine ⟨(acts_takeClockSet d tod).up, fun n hs => ?_⟩
  rw [takeClockSet_eq]
  refine owing_replies _ _ (acts_afterSet (G := G).owing ?_)
  obtain ⟨hr, hout, hin⟩ := hs
  exact ⟨by simp only [State.onClk_lnk, State.onClk_clk, State.onClk_cbt, List.length_nil, hr]; omega, hout, hin⟩

theorem balanced_tenthTick : Balanced G s s.tenthTick := by
  rw [tenthTick_eq]
  refine Balanced.trans (Balanced.trans (Balanced.trans (balanced_of_acts acts_tickBegun.up) ?_) (balanced_of_acts acts_takeFlashNext.up))
    (balanced_of_acts acts_startMaxTimer.up)
  unfold State.tickClock
  split
  · exact balanced_takeClockSet _ _
  · exact balanced_of_acts acts_advanceClock.up

theorem acts_seeCrossing : Acts G [.sup, .supply] s (s.onSup Sup.seeCrossing) :=
  one (.sup _ (by decide) rfl (.inl rfl) (.inl rfl) (.inr (by decide)))

theorem balanced_takeCrossing : Balanced G s s.takeCrossing := by
  unfold State.takeCrossing
  dsimp only
  have hsee : Balanced G s (s.onSup Sup.seeCrossing) := balanced_of_acts acts_seeCrossing.up
  have hcount : Balanced G s ((s.onSup Sup.seeCrossing).onClk Clk.countCrossing) := hsee.trans (balanced_of_acts (acts_onTime _ rfl).up)
  refine balanced_either (fun _ => balanced_either (fun _ => ?_) fun _ => hcount) fun _ => hsee
  exact (hcount.trans (balanced_of_acts (acts_onTime _ rfl).up)).trans balanced_tenthTick

theorem acts_returnToMains : Acts G [.clk, .flt] s s.returnToMains :=
  either (fun _ => Acts.trans (acts_onClk _).up (of_edits (edits_addEvents _)).up) fun _ => refl _

theorem balanced_takeCrystalTick : Balanced G s s.takeCrystalTick :=
  Balanced.trans (Balanced.trans (balanced_of_acts (acts_onTime _ rfl).up) balanced_tenthTick) (balanced_of_acts acts_returnToMains.up)

theorem balanced_loseMains : Balanced G s s.loseMains := by
  unfold State.loseMains
  dsimp only
  have hlose : Balanced G s ((s.onClk fun k => { k with source := .crystal, stability := 0 }).addEvents PendingSet.ofClock) :=
    balanced_of_acts (Acts.trans (acts_onClk _).up (of_edits (edits_addEvents _)).up)
  exact balanced_either (fun _ => hlose.trans balanced_takeCrystalTick) fun _ => hlose

theorem acts_crossingGap : Acts G [.clk, .sup, .supply] s ((s.onClk Clk.afterGap).onSup Sup.afterGap) := by
  refine Acts.trans (acts_onClk _ ?_).up (one (.sup _ (by decide) ?_ (.inl ?_) (.inl ?_) (.inr (by decide))))
  · unfold Clk.afterGap; split <;> rfl
  · unfold Sup.afterGap; split <;> rfl
  · unfold Sup.afterGap; split <;> rfl
  · unfold Sup.afterGap; split <;> rfl

/-! ### The inputs -/

abbrev inputParts : List Part := [.det, .seq, .flt, .stuck, .demand]

theorem acts_placeDemands (l : List Gid) : Acts G [.demand] s (l.foldl State.placeDemand s) :=
  foldl l s fun _ _ _ => of_edits (edits_placeDemand _)

theorem acts_presence (d : Det) : Acts G inputParts s (s.presence d) := by
  unfold State.presence
  dsimp only
  exact either (fun _ => (acts_placeDemands _).up.trans acts_holdGap.up) fun _ => (acts_placeDemands _).up

theorem acts_handActivation (d : Det) : Acts G inputParts s (s.handActivation d) := by
  unfold State.handActivation
  split
  · exact acts_presence d
  · exact foldl _ _ fun _ _ _ => (of_edits (edits_pressButton _)).up
  · exact (acts_takeRequest _ _).up
  · exact refl _

theorem acts_handDeactivation (d : Det) : Acts G inputParts s (s.handDeactivation d) := by
  unfold State.handDeactivation
  split
  · exact (acts_releaseInput _).up
  · exact acts_holdGap.up
  · exact refl _

theorem acts_acceptChange (d : Det) : Acts G inputParts s (s.acceptChange d) := by
  unfold State.acceptChange
  dsimp only
  have haccept : Acts G inputParts s ((State.refreshStanding s (s.endStuck d)).onInput d DetRun.accept) :=
    Acts.trans (Acts.trans (acts_endStuck d).up (of_edits (edits_refreshStanding _)).up) (acts_onInput _ _).up
  exact either (fun _ => haccept) fun _ => either (fun _ => haccept.trans (acts_handActivation d)) fun _ =>
    haccept.trans (acts_handDeactivation d)

theorem acts_declareStuck (d : Det) (f : DetFault) {k : FaultKind} (hk : k.part = .stuck) :
    Acts G inputParts s (s.declareStuck d f k) := by
  have hreport : Acts G inputParts (s.onInput d fun r => { r with fault := f })
      ((s.onInput d fun r => { r with fault := f }).report k (.input d)) :=
    of_edits (edits_report k _ (hk := by rw [hk]; decide) (ha := by cases k <;> simp_all [FaultKind.part, FaultKind.listedSafety]))
  exact Acts.trans ((acts_onInput _ _).up.trans hreport) (of_edits (edits_refreshStanding _)).up

theorem acts_declareStuckOn (d : Det) : Acts G inputParts s (s.declareStuckOn d) := by
  unfold State.declareStuckOn
  dsimp only
  split
  · exact (acts_declareStuck _ _ rfl).trans (acts_removeRequest _).up
  · exact (acts_declareStuck _ _ rfl).trans acts_holdGap.up
  · exact acts_declareStuck _ _ rfl

theorem acts_overstay : Acts G inputParts s s.overstay := by
  unfold State.overstay
  split
  · exact Acts.trans (Acts.trans (acts_removeRequest _).up (acts_seq _ rfl rfl).up) (of_edits (edits_report _ _))
  · exact refl _

end Acts
end Sys2Proof.Machine
end

section
/-! SUPPORT. The events of the outputs, the lamps, the tester, the supervisor and the link as actions. -/

namespace Sys2Proof.Machine

set_option Elab.async false
namespace Acts

variable {G : Gid → Prop} {K L : List Part} {s t u : State}

/-! ### Indications and limits of the channels -/

theorem undriven_bus {r : ChanRun} (h : r.coilOk) (hr : r.relay = .pullingIn ∨ r.relay = .held) : r.testBus = .no :=
  by_contra fun hb => h.1.mpr hr (h.2 hb)

theorem off_of_open {r : ChanRun} (h : r.coilOk) (hr : r.relay = .releasing ∨ r.relay = .released) : r.drive = .off := by
  by_contra hd
  rcases h.1.mp hd with hp | hp <;> rcases hr with hr | hr <;> rw [hp] at hr <;> cases hr

theorem coilOk_released {r : ChanRun} (hd : r.drive = .off) (p : Proof) (l : Option Limit) :
    ({ r with relay := .released, proof := p, limit := l } : ChanRun).coilOk :=
  ⟨⟨fun h => absurd hd h, by rintro (h | h) <;> cases h⟩, fun _ => hd⟩

theorem edits_takeNoVoltage (c : Ch) {r : ChanRun} (hr : (s.chan c).coilOk → r.coilOk)
    (hcmd : r.command = (s.chan c).command) (ho : r.opCount = (s.chan c).opCount) :
    Edits (.relayFault :: relayParts) s (s.takeNoVoltage c r) := by
  unfold State.takeNoVoltage
  split
  · next hh =>
    have hput : Edits (.relayFault :: relayParts) s (s.putChan c
        { r with
          proof := .opened, relay := .pullingIn, drive := .full, fullTime := some 0
          limit := some ⟨0, max (s.settings c).pullIn Config.dropoutFloor⟩ }) :=
      (edits_putChan c (fun h => coilOk_started (undriven_bus (hr h) (.inr hh)) (.inl rfl) (by decide) _ _ _) hcmd ho).up
    exact hput.trans (edits_endRelayFault c _).up
  · exact (edits_putChan c hr hcmd ho).up.trans (edits_endRelayFault c _).up
  · next hh =>
    have hput : Edits (.relayFault :: relayParts) s (s.putChan c { r with relay := .released, proof := .opened, limit := none }) :=
      (edits_putChan c (fun h => coilOk_released (off_of_open (hr h) (.inl hh)) _ _) hcmd ho).up
    exact (hput.trans (edits_endRelayFault c _).up).trans (edits_endRelayFault c _).up
  · next hh =>
    have hput : Edits (.relayFault :: relayParts) s (s.putChan c { r with relay := .released, proof := .opened, limit := none }) :=
      (edits_putChan c (fun h => coilOk_released (off_of_open (hr h) (.inr hh)) _ _) hcmd ho).up
    exact (hput.trans (edits_endRelayFault c _).up).trans (edits_endRelayFault c _).up

/-- What an indication at a relay may write: what a fault brings, and the count of a pull-in. -/
abbrev indicationParts : List Part := .wear :: cabinet

theorem acts_takeFullVoltage (c : Ch) {r : ChanRun} (hr : (s.chan c).coilOk → r.coilOk)
    (hcmd : r.command = (s.chan c).command) (hp : r.proof = (s.chan c).proof)
    (hs : r.steadySince = (s.chan c).steadySince) (ho : r.opCount = (s.chan c).opCount) : Acts G indicationParts s (s.takeFullVoltage c r) := by
  have hput : Acts G indicationParts s (s.putChan c r) := (of_edits (edits_putChan c hr hcmd ho)).up
  unfold State.takeFullVoltage
  split
  · exact hput
  · next hh => exact (of_edits (edits_completePullIn_from c (fun h => undriven_bus (hr h) (.inl hh)) hcmd hp hs ho)).up
  · exact (of_edits (edits_putChan (new := { r with proof := .closed }) c hr hcmd ho)).up
  · exact hput.trans (acts_findRelayFault c _).up

/-- The switches of the test bus open: a reply that was owed is left over. -/
theorem owing_openBus {n : Nat} (hs : s.owing n) : s.openBus.owing (s.cbt.owesReply + n) := by
  have hcbt (l : List Ch) : (l.foldl (fun t c => t.onChan c fun r => { r with testBus := .no }) s).cbt = s.cbt :=
    Frames.foldl_keeps State.cbt (f := fun (t : State) c => t.onChan c fun r => { r with testBus := .no })
      (fun _ _ => rfl) l s
  unfold State.openBus
  dsimp only
  have hopen := (edits_openSwitches (s := s) ((allFin 48).filter fun c => (s.chan c).testBus != TestBus.no)).owing (by decide) hs
  have hfree := owing_onCbt_quiet (f := fun b => { b with phase := .idle, probe := none, phaseTime := 0, choice := true }) rfl hopen
  rw [hcbt] at hfree
  exact (Edits.foldl (K := coilParts) _ _ fun _ c _ => edits_updateCoil c).owing (by decide) hfree

theorem balanced_fullOnBus : Balanced G s s.fullOnBus := by
  have hopen : Acts G every s s.openBus := (of_edits edits_openBus_slots).up
  have hquiet (h : s.cbt.owesReply = 0) : Balanced G s s.openBus :=
    ⟨hopen, fun n hs => by have := owing_openBus hs; rwa [h, Nat.zero_add] at this⟩
  unfold State.fullOnBus
  split
  · next p hp =>
    refine balanced_either (fun hw => ⟨hopen.trans (of_edits (edits_recordAbandoned p)).up, fun n hs => ?_⟩)
      fun hw => hquiet (owesReply_of_notWorking (by simpa using hw))
    exact owing_recordAbandoned (by rw [← owesReply_working hp hw]; exact owing_openBus hs)
  · next hp => exact hquiet (by unfold Cbt.owesReply; rw [hp])

/-- The relay of a channel takes a level, with the supply proven or not. -/
theorem acts_relayTakes (c : Ch) (l : Level) (proven : Bool) {r : ChanRun} (hr : r = { s.chan c with indication := l }) :
    Acts G indicationParts s (if proven then (if l = .full then s.takeFullVoltage c r else s.takeNoVoltage c r) else s.putChan c r) := by
  have hcoil : (s.chan c).coilOk → r.coilOk := by rw [hr]; exact id
  have hcmd : r.command = (s.chan c).command := by rw [hr]
  have hproof : r.proof = (s.chan c).proof := by rw [hr]
  have hcount : r.opCount = (s.chan c).opCount := by rw [hr]
  have hsteady : r.steadySince = (s.chan c).steadySince := by rw [hr]
  refine either (fun _ => either (fun _ => acts_takeFullVoltage c hcoil hcmd hproof hsteady hcount) fun _ => ?_) fun _ => ?_
  · exact (of_edits (edits_takeNoVoltage c hcoil hcmd hcount)).up
  · exact (of_edits (edits_putChan c hcoil hcmd hcount)).up

theorem chan_markQuiet (c : Ch) (l : Level) : (s.markQuiet c l).chan = s.chan := rfl

theorem balanced_takeIndication (c : Ch) (l : Level) : Balanced G s (s.takeIndication c l) := by
  have hmark : Acts G unslotted s (s.markQuiet c l) := (acts_onCbt _ id rfl).up
  have hind := hmark.trans (acts_relayTakes (G := G) (s := s.markQuiet c l) c l s.supplyProven
    (r := { s.chan c with indication := l }) (by rw [chan_markQuiet])).up
  exact balanced_either (fun _ => (balanced_of_acts hind).trans balanced_fullOnBus) fun _ => balanced_of_acts hind

theorem coilOk_endFullDrive {r : ChanRun} (h : r.coilOk) : r.endFullDrive.coilOk := by
  have hrelay : r.endFullDrive.relay = r.relay := rfl
  have hbus : r.endFullDrive.testBus = r.testBus := rfl
  have hdrive : r.endFullDrive.drive = if r.relay = .held then .hold else r.drive := rfl
  unfold ChanRun.coilOk
  rw [hrelay, hbus, hdrive]
  split
  · next hh =>
    have hb : r.testBus = .no := undriven_bus h (.inr hh)
    exact ⟨⟨fun _ => .inr hh, fun _ => by decide⟩, fun h' => absurd hb h'⟩
  · exact h

theorem acts_endFullDrive (c : Ch) : Acts G [.chan] s (s.onChan c ChanRun.endFullDrive) :=
  of_edits (.one (.chan c _ (by decide) coilOk_endFullDrive rfl rfl rfl rfl))

theorem acts_failToClose (c : Ch) : Acts G cabinet s (s.failToClose c) :=
  (of_edits (.one (.chan c _ (K := [.chan]) (by decide) id rfl rfl rfl rfl))).up.trans (acts_findRelayFault c _)

theorem acts_endRelease {c : Ch} (h : s.releaseDue c = true) : Acts G cabinet s (s.endRelease c) := by
  simp only [State.releaseDue, Bool.and_eq_true, beq_iff_eq] at h
  unfold State.endRelease
  dsimp only
  refine either (fun _ => ?_) fun _ => ?_
  · have hput : Acts G cabinet s (s.putChan c { s.chan c with limit := none, proof := .closed }) :=
      (of_edits (edits_putChan (new := { s.chan c with limit := none, proof := .closed }) c id rfl)).up
    exact hput.trans (acts_findRelayFault c _)
  · have hput : Acts G cabinet s (s.putChan c { s.chan c with limit := none, relay := .released, proof := .opened }) :=
      (of_edits (edits_putChan c (fun hc => coilOk_released (off_of_open hc (.inl h.1)) _ _) rfl)).up
    exact hput

/-! ### The contactor and the flash generator -/

theorem acts_loseSupplyProof (was : Proof) : Acts G putParts s (s.loseSupplyProof was) :=
  either (fun _ => of_edits edits_unproveAll) fun _ => refl _

theorem acts_contactorFalls : Acts G cabinet s s.contactorFalls := by
  unfold State.contactorFalls
  dsimp only
  split
  · exact (acts_onContactor _).up.trans (acts_loseSupplyProof _).up
  · exact (acts_onContactor _).up.trans (acts_loseSupplyProof _).up
  · exact refl _

theorem acts_contactorRises : Acts G cabinet s s.contactorRises := by
  unfold State.contactorRises
  dsimp only
  split
  · exact refl _
  · exact acts_completeClose
  · exact either (fun _ => (acts_onContactor _).up) fun _ => (acts_onContactor _).up.trans acts_reproveAll
  · exact ((acts_onContactor _).up.trans acts_reproveAll).trans acts_contactorFailsToOpen

theorem acts_takeSupplyOutput (l : Level) : Acts G cabinet s (s.takeSupplyOutput l) := by
  have hind : Acts G cabinet s (s.onContactor fun k => { k with indication := l }) := (acts_onContactor _).up
  exact either (fun _ => hind) fun _ => either (fun _ => hind.trans acts_contactorRises) fun _ => hind.trans acts_contactorFalls

theorem acts_contactorFailsToClose : Acts G (.lockout :: cabinet) s s.contactorFailsToClose :=
  ((acts_onContactor _).up.trans (of_edits (edits_report .supplyContactor .nothing))).trans (acts_softFault _)

theorem acts_endContactorRelease : Acts G cabinet s s.endContactorRelease :=
  either (fun _ => acts_contactorFailsToOpen) fun _ => (acts_onContactor _).up.trans (acts_loseSupplyProof _).up

theorem acts_changePhase : Acts G electric s s.changePhase := by
  have hphase : Acts G electric s (s.onOut fun o =>
      { o with flash := ⟨true, !o.flash.onPhase, 0, phaseLengthOf s.cabinet.flashRate⟩ }) :=
    (of_edits (.one (.flash _ (K := [.flash]) (by decide)))).up
  exact hphase.trans (forAll _ fun _ c => either (fun _ => (of_edits (edits_updateCoil c)).up) fun _ => refl _)

/-! ### The tester -/

theorem urgentOk_takeUrgent {b : Cbt} (e : PEnt) (h : b.urgentOk) : (b.takeUrgent e).urgentOk := by
  unfold Cbt.takeUrgent
  split
  · next hc =>
    simp only [Bool.and_eq_true, decide_eq_true_eq, Bool.not_eq_true', List.contains_eq_mem, decide_eq_false_iff_not] at hc
    obtain ⟨⟨⟨-, hlen⟩, hmem⟩, -⟩ := hc
    refine ⟨by simpa using hlen, ?_⟩
    rw [List.nodup_append]
    refine ⟨h.2, List.nodup_singleton _, fun x hx y hy => ?_⟩
    rw [List.mem_singleton.mp hy]
    rintro rfl
    exact hmem hx
  · exact h

theorem owesReply_takeUrgent (b : Cbt) (e : PEnt) : (b.takeUrgent e).owesReply = b.owesReply := by
  unfold Cbt.takeUrgent; split <;> rfl

theorem acts_askLeak (c : Ch) : Acts G [.lamp, .cbt] s (s.askLeak c) := by
  unfold State.askLeak
  dsimp only
  have hasked : Acts G [.lamp, .cbt] s (s.onLamp c fun l => { l with leakAsked := true }) :=
    of_edits (.one (.lamp c _ (by decide) rfl rfl (.inl ⟨rfl, rfl, rfl, .inl rfl, .inl rfl, .inl rfl⟩) id))
  split
  · exact hasked.trans (acts_onCbt _ (urgentOk_takeUrgent _) (owesReply_takeUrgent _ _)).up
  · exact hasked

theorem find_canStart {l : List PEnt} {e : PEnt} (h : l.find? s.canStart = some e) : s.canStart e = true :=
  List.find?_some h

/-- The entry that the walk starts can start (R149). -/
theorem canStart_walkFrom {fuel pos : Nat} {d : List PEnt} {e : PEnt} (h : (s.walkFrom fuel pos d).2.2 = some e) :
    s.canStart e = true := by
  induction fuel generalizing pos d with
  | zero => exact absurd h nofun
  | succ fuel ih =>
    unfold State.walkFrom at h
    split at h
    · exact absurd h nofun
    · split_ifs at h with hskip hcan
      · exact ih h
      · exact Option.some.inj h ▸ hcan
      · exact ih h

/-- The lists of the walk have no part in whether a probe can start. -/
theorem canStart_onCbt (e : PEnt) (d : List PEnt) (w : Nat) :
    (s.onCbt fun b => { b with deferred := d, walk := w }).canStart e = s.canStart e := rfl

theorem acts_walkOn : Acts G [.chan, .cbt] s s.walkOn := by
  unfold State.walkOn
  dsimp only
  have hlists (d : List PEnt) (w : Nat) : Acts G [.chan, .cbt] s (s.onCbt fun b => { b with deferred := d, walk := w }) :=
    (acts_onCbt _ id rfl).up
  split
  · next e he =>
    refine (hlists _ _).trans (of_edits (edits_startProbe nofun ?_))
    rw [canStart_onCbt]
    exact canStart_walkFrom he
  · split
    · next e he => exact (hlists _ _).trans (of_edits (edits_startProbe nofun (find_canStart he)))
    · exact hlists _ _

theorem acts_chooseProbe : Acts G [.chan, .cbt] s s.chooseProbe := by
  unfold State.chooseProbe
  dsimp only
  have hchoice : Acts G [.chan, .cbt] s (s.onCbt fun b => { b with choice := false }) := (acts_onCbt _ id rfl).up
  split
  · next e he => exact hchoice.trans (of_edits (edits_startProbe nofun (find_canStart he)))
  · exact hchoice.trans acts_walkOn

theorem acts_refreshCable (c : Ch) : Acts G [.cbt] s (s.refreshCable c) := acts_onCbt _ id rfl

theorem part_of_crossKind {x : CrossClass} {k : FaultKind} (h : x.kind = some k) : k.part = .crossing := by
  cases x <;> simp [CrossClass.kind] at h <;> subst h <;> rfl

theorem acts_actOnResult (p : ProbeRec) (res : ProbeResult) (old new : CrossClass) :
    Acts G inner s (s.actOnResult p res old new) := by
  unfold State.actOnResult
  split
  · unfold State.loopResult
    split
    · exact (of_edits (edits_loopOpen _)).up
    · exact (of_edits (edits_loopPass _)).up
    · exact (of_edits (edits_loopPass _)).up
    · exact refl _
  · exact either (fun _ => (of_edits (edits_report _ _))) fun _ => either (fun _ => refl _) fun _ =>
      (of_edits (edits_clearFault _ _))
  · refine either (fun _ => ?_) fun _ => ?_
    · split
      · next k hk =>
        have hreport : Acts G inner s (s.report k (.channel p.subject)) :=
          of_edits (edits_report k _ (hk := by rw [part_of_crossKind hk]; decide) (ha := fun _ => by decide))
        exact either (fun _ => hreport.trans (acts_hardFault _).up) fun _ => hreport
      · exact refl _
    · split
      · next k hk =>
        exact either (fun _ => refl _) fun _ => of_edits (edits_clearFault k _ (hk := by rw [part_of_crossKind hk]; decide))
      · exact refl _
  · exact refl _

/-- A measurement classified, up to the reply (R142). -/
theorem balanced_classifyProbe {run : ProbeRun} (k : ProbeKind) (m : Nat) (hp : s.cbt.probe = some run)
    (hd : s.measuringDue = true) : Balanced G s (s.classifyProbe run k m) := by
  have hw : s.cbt.phase.working = true := by
    simp only [State.measuringDue, Bool.and_eq_true, beq_iff_eq] at hd
    rw [hd.1]; rfl
  unfold State.classifyProbe
  dsimp only
  generalize classify k m (s.probeRec run.entry).limit (s.result run.entry).failures = res
  have htail {t : State} : Acts G unslotted t
      ((((s.probeRec run.entry).channels.foldl State.refreshCable (t.clearFault .testStarved (.entry run.entry))).actOnResult
        (s.probeRec run.entry) res (s.result run.entry).cross (s.crossAfter (s.probeRec run.entry) res))) :=
    Acts.trans (Acts.trans (of_edits (edits_clearFault _ _)) (foldl _ _ fun _ c _ => (acts_refreshCable c).up))
      (acts_actOnResult _ _ _ _).up
  have hrec (f : ResultRec → ResultRec) : Acts G unslotted s (s.onResult run.entry f) :=
    (of_edits (edits_onResult run.entry f)).up
  constructor
  · have hfree {t : State} : Acts G every t (t.onCbt fun b =>
        { b with phase := .releasing, phaseTime := 0, probe := some { run with sweepEnded := false } }) :=
      (of_edits (.one (.cbt _ (K := [.cbt, .slots]) (by decide) id (.inr (by decide))))).up
    exact Acts.trans (Acts.trans (Acts.trans (hrec _).up hfree) htail.up) (of_edits (edits_answerProbe _ _ _)).up
  · intro n hs
    refine owing_answerProbe _ _ (htail.owing ?_)
    rw [← owesReply_working hp hw]
    exact owing_onCbt_quiet (owesReply_of_notWorking rfl) ((hrec _).owing hs)

theorem owesReply_sweepEnded (b : Cbt) :
    ({ b with probe := b.probe.map fun p => { p with sweepEnded := true } } : Cbt).owesReply = b.owesReply := by
  unfold Cbt.owesReply
  dsimp only
  cases b.probe with
  | none => rfl
  | some p => obtain ⟨e, o, w⟩ := p; cases o <;> rfl

theorem acts_countEntry (e : PEnt) : Acts G [.cbt, .flt, .starved] s (s.countEntry e) :=
  either (fun _ => refl _) fun _ => either (fun _ => (acts_onCbt _ id (owesReply_sweepEnded _)).up) fun _ =>
    of_edits (edits_countStarved e)

theorem acts_endSweep : Acts G [.cbt, .flt, .starved] s s.endSweep :=
  Acts.trans (either (fun _ => refl _) fun _ => forAll _ fun _ e => acts_countEntry e) (acts_onCbt _ id rfl).up

/-! ### The supervisor -/

theorem acts_findConflict (i j : Gid) : Acts G (.crossing :: cabinet) s (s.findConflict i j) := by
  unfold State.findConflict
  dsimp only
  refine Acts.trans (Acts.trans (t := s.onSup _) (Acts.up (K := [.sup, .shown]) (one (.sup _ (by decide) rfl (.inl rfl)
    (.inr ⟨by decide, ?_⟩)))) (of_edits (edits_report .conflict _))) (acts_hardFault _).up
  dsimp only
  rw [List.map_map]
  refine List.map_congr_left fun t _ => ?_
  simp only [Function.comp_apply]
  split <;> rfl

theorem acts_takeRedFailure {g : Gid} (h : s.redFailureDue g = true) : Acts G (.lockout :: cabinet) s (s.takeRedFailure g) := by
  simp only [State.redFailureDue, Bool.and_eq_true] at h
  have hrun : s.sup.grace.get g ≠ .idle := by
    intro hi
    rw [hi] at h
    exact absurd h.2 nofun
  have hstop : Acts G [.sup, .grace] s (s.onSup fun u => { u with grace := u.grace.put g .stopped }) := by
    refine one (.sup _ (by decide) rfl (.inr ⟨by decide, fun k => ?_⟩) (.inl rfl))
    show (s.sup.grace.put g .stopped).get k = _ ↔ _
    rw [Tab.get_put]
    split
    · next hk => rw [← hk]; exact ⟨nofun, fun h => absurd h hrun⟩
    · exact Iff.rfl
  exact hstop.up.trans (acts_softFault _)

theorem acts_takeExit : Acts G enterParts s s.takeExit := by
  unfold State.takeExit
  split
  · exact acts_enterPhase rfl _
  · exact acts_enterFlash _ _

theorem acts_takeSelection : Acts G [.seq, .flt] s s.takeSelection := by
  unfold State.takeSelection
  split
  · exact acts_takePlan _
  · exact refl _

theorem acts_enterNormal : Acts G inner s s.enterNormal := by
  unfold State.enterNormal
  dsimp only
  exact Acts.trans (Acts.trans acts_toNormal.up (either (fun _ => acts_applyPending) fun _ => acts_evaluate.up))
    acts_takeSelection.up

theorem acts_expireHoldoff : Acts G cabinet s s.expireHoldoff := by
  unfold State.expireHoldoff
  dsimp only
  exact either (fun _ => Acts.trans (acts_sup _ rfl rfl rfl).up (acts_enterStartupCheck _)) fun _ => (acts_sup _ rfl rfl rfl).up

theorem acts_darkForSupply : Acts G cabinet s s.darkForSupply := by
  unfold State.darkForSupply
  split
  · exact refl _
  · exact (acts_sup _ rfl rfl rfl).up
  · exact Acts.trans (acts_sup _ rfl rfl rfl).up (acts_enterDark _ _)
  · exact Acts.trans (acts_sup _ rfl rfl rfl).up (acts_enterDark _ _)
  · exact Acts.trans (acts_sup _ rfl rfl rfl).up (acts_enterDark _ _)

/-- What the loss and the return of the supply may write. -/
abbrev supplyParts : List Part := .supply :: .alert :: cabinet

/-- The supply seen lost or present. -/
theorem acts_supplySeen (b : Bool) : Acts G supplyParts s (s.onSup fun u => { u with supplyPresent := b }) :=
  one (.sup _ (by decide) rfl (.inl rfl) (.inl rfl) (.inr (by decide)))

theorem acts_loseSupply : Acts G supplyParts s s.loseSupply :=
  Acts.trans (Acts.trans (acts_supplySeen false) (of_edits (edits_report .supplyLoss _))) acts_darkForSupply.up

theorem acts_resumeSaved : Acts G cabinet s s.resumeSaved := by
  have hsaved : Acts G cabinet s (s.onSup fun u => { u with saved := none }) := (acts_sup _ rfl rfl rfl).up
  unfold State.resumeSaved
  dsimp only
  split
  · exact hsaved
  · exact hsaved.trans (acts_enterStartupCheck _)
  · exact hsaved.trans (acts_enterStartupCheck _)
  · exact hsaved.trans (acts_onMode _ rfl rfl rfl).up

theorem acts_regainSupply : Acts G supplyParts s s.regainSupply :=
  Acts.trans (Acts.trans (acts_supplySeen true) (of_edits (edits_clearFault .supplyLoss _))) acts_resumeSaved.up

/-! ### The link -/

theorem acts_abandonFrame : Acts G [.link] s s.abandonFrame := acts_onLnk _ le_rfl rfl id

theorem acts_completeFrame (tag code : Byte) (body : List Byte) : Acts G [.link, .flt, .alert] s (s.completeFrame tag code body) := by
  refine either (fun _ => acts_abandonFrame.up) fun _ =>
    Acts.trans (acts_onLnk _ ?_ ?_ fun h => ?_).up (of_edits (edits_clearFault _ _))
  · dsimp only; split <;> exact le_rfl
  · dsimp only; split <;> rfl
  · dsimp only
    split
    · next hlt => simpa using hlt
    · exact h

theorem acts_receiveFrame (tag code : Byte) (body : List Byte) (crc : BitVec 16) :
    Acts G [.link, .flt, .alert] s (s.receiveFrame tag code body crc) :=
  either (fun _ => acts_abandonFrame.up) fun _ => either (fun _ => acts_completeFrame _ _ _) fun _ => acts_abandonFrame.up

theorem acts_sawStop (b : Bool) : Acts G [.link] s (s.sawStop b) := acts_onLnk _ le_rfl rfl id

theorem acts_receiveByte (b : Byte) (e : Bool) : Acts G [.link, .flt, .alert] s (s.receiveByte b e) := by
  unfold State.receiveByte
  split
  · exact either (fun _ => (acts_onLnk _ le_rfl rfl id).up) fun _ => refl _
  · refine either (fun _ => acts_abandonFrame.up) fun _ => ?_
    exact either (fun _ => acts_abandonFrame.up) fun _ => either (fun _ => acts_receiveFrame _ _ _ _) fun _ =>
      (acts_onLnk _ le_rfl rfl id).up

theorem acts_declareBreak : Acts G (.link :: .alert :: cabinet) s s.declareBreak := by
  have hline : Acts G (.link :: .alert :: cabinet) s (s.onLnk fun l =>
      { l with
        line := .space Config.breakTime true
        linkError := l.linkError || l.assembler != .hunt
        assembler := .hunt, interbyte := 0, input := [] }) := (acts_onLnk _ le_rfl rfl fun _ => Nat.zero_le _).up
  exact Acts.trans (Acts.trans hline (of_edits (edits_report _ _)))
    (either (fun _ => (acts_takeCause _ _).up) fun _ => refl _)

theorem acts_sendFirst : Acts G [.link] s (s.onLnk Lnk.sendFirst) := by
  refine acts_onLnk _ ?_ ?_ ?_
  · unfold Lnk.sendFirst
    split
    · next h => rw [h]; exact Nat.le_succ _
    · exact le_rfl
  · unfold Lnk.sendFirst; split <;> rfl
  · unfold Lnk.sendFirst; split <;> exact id

end Acts
end Sys2Proof.Machine
end

section
/-! SUPPORT. What every command does, as one of five shapes: quiet actions, the end of the attention pulse, balanced actions
closed by the end of a step, and the two resets. -/

namespace Sys2Proof.Machine

set_option Elab.async false
namespace Acts

variable {G : Gid → Prop} {s t u : State}

/-- The parts that a command without an end of step may write. -/
abbrev quietParts : List Part := [.link, .seq, .sup, .supply, .clk, .det, .chan, .cbt]

/-- The shapes of a command's effect on `s`. -/
inductive Ran (G : Gid → Prop) (s : State) : State → Prop where
  | quiet {t : State} (h : Acts G quietParts s t) : Ran G s t
  | pulse : Ran G s (s.onFlt fun f => { f with pulse := none })
  | finished {v : State} (h : Balanced G s v) : Ran G s (State.finish s v)
  | inputReset (fast : Bool) : Ran G s (s.inputReset fast)
  | powerOn (held : Bool) (tenths : Nat) (vbakLow fast : Bool) : Ran G s (s.powerOn held tenths vbakLow fast)

theorem ran_refl : Ran G s s := .quiet (refl s)

theorem ran_finished (h : Acts G unslotted s u) : Ran G s (State.finish s u) := .finished (balanced_of_acts h)

theorem ran_if {c : Prop} [Decidable c] (h : c → Ran G s t) : Ran G s (if c then t else s) := by
  split
  · next hc => exact h hc
  · exact ran_refl

/-! ### Requests -/

theorem owing_reserve {n : Nat} (hfree : s.lnk.freeSlots ≠ 0) (hs : s.owing n) : s.reserve.owing (n + 1) := by
  obtain ⟨hr, hout, hin⟩ := hs
  unfold Lnk.freeSlots at hfree
  unfold State.reserve
  refine ⟨?_, ?_, hin⟩
  · simp only [State.onLnk_lnk, State.onLnk_clk, State.onLnk_cbt]; omega
  · simp only [State.onLnk_lnk]; omega

theorem acts_reserve : Acts G every s s.reserve := one (.link _ (by decide) (.inr (by decide)))

theorem ran_direct (tag : Byte) (body : List Byte) {serve : State → State} (h : ∀ s, Serves G s (serve s)) :
    Ran G s (s.direct tag body serve) := by
  unfold State.direct
  split
  · exact .quiet acts_abandonFrame.up
  · split
    · exact ran_refl
    · next hfree =>
      exact .finished ⟨acts_reserve.trans (h _).acts, fun n hs => (h _).owing n (owing_reserve hfree hs)⟩

theorem ran_takeOldest : Ran G s s.takeOldest := by
  unfold State.takeOldest
  split
  · next f rest hin =>
    split
    · exact ran_refl
    · next hfree =>
      have htake : Acts G [.link] s (s.onLnk fun l => { l with input := rest }) :=
        acts_onLnk _ le_rfl rfl fun h => by rw [hin] at h; exact (Nat.le_succ _).trans h
      refine .finished ⟨(htake.up.trans acts_reserve).trans (serves_request _ _ _).acts, fun n hs => ?_⟩
      exact (serves_request _ _ _ (G := G)).owing n (owing_reserve hfree (htake.owing hs))
  · exact ran_refl

/-! ### Every command -/

/-- The groups that are not inhibited: those that may gain RED_AMBER or GREEN (R26, R31). -/
abbrev free (s : State) (g : Gid) : Prop := (s.group g).inhibited = false

theorem acts_measure (h : s.closingDue = true) :
    Acts G [.cbt] s (s.onCbt fun b => { b with phase := .measuring, phaseTime := 0 }) := by
  simp only [State.closingDue, Bool.and_eq_true, beq_iff_eq] at h
  refine acts_onCbt _ id ?_
  unfold Cbt.owesReply
  rw [h.1]
  rfl

theorem owesReply_of_releasing (h : s.releasingDue = true) : s.cbt.owesReply = 0 := by
  simp only [State.releasingDue, Bool.and_eq_true, beq_iff_eq] at h
  exact owesReply_of_notWorking (by rw [h.1]; rfl)

/-- Every command answers a next state, by one of the five shapes. -/
theorem exec_ran (i : Instr) (s : State) : ∃ t, exec i s = .next t ∧ Ran (free s) s t := by
  cases i with
  | powerOnReset held tenths vbakLow spd1 spd0 => exact ⟨_, rfl, .powerOn held tenths vbakLow _⟩
  | resetInput spd1 spd0 => exact ⟨_, rfl, .inputReset _⟩
  | rxFrame tag code body crc => exact ⟨_, rfl, ran_finished ((acts_sawStop _).up.trans (acts_receiveFrame _ _ _ _).up)⟩
  | interbyteTimeout => exact ⟨_, rfl, ran_if fun _ => .quiet acts_abandonFrame.up⟩
  | linkBreak => exact ⟨_, rfl, ran_if fun _ => ran_finished acts_declareBreak.up⟩
  | requestTaken => exact ⟨_, rfl, ran_takeOldest⟩
  | frameSent => exact ⟨_, rfl, .quiet acts_sendFirst.up⟩
  | identify tag body => exact ⟨_, rfl, ran_direct tag body fun _ => serves_answerEmpty _ _ _ _⟩
  | status tag body => exact ⟨_, rfl, ran_direct tag body fun _ => serves_answerEmpty _ _ _ _⟩
  | editOpen tag body => exact ⟨_, rfl, ran_direct tag body fun _ => serves_editOpen _ _⟩
  | editWrite tag body => exact ⟨_, rfl, ran_direct tag body fun _ => serves_editWrite _ _⟩
  | editRead tag body => exact ⟨_, rfl, ran_direct tag body fun _ => serves_editRead _ _⟩
  | editCommit tag body => exact ⟨_, rfl, ran_direct tag body fun _ => serves_editCommit _ _⟩
  | editDiscard tag body => exact ⟨_, rfl, ran_direct tag body fun _ => serves_editDiscard _ _⟩
  | configRead tag body => exact ⟨_, rfl, ran_direct tag body fun _ => serves_configRead _ _⟩
  | clockSet tag body => exact ⟨_, rfl, ran_direct tag body fun _ => serves_clockSet _ _⟩
  | clockRead tag body => exact ⟨_, rfl, ran_direct tag body fun _ => serves_answerEmpty _ _ _ _⟩
  | clockTrim tag body => exact ⟨_, rfl, ran_direct tag body fun _ => serves_clockTrim _ _⟩
  | start tag body => exact ⟨_, rfl, ran_direct tag body fun _ => serves_start _ _⟩
  | restart tag body => exact ⟨_, rfl, ran_direct tag body fun _ => serves_restart _ _⟩
  | modeSet tag body => exact ⟨_, rfl, ran_direct tag body fun _ => serves_modeSet _ _⟩
  | planForce tag body => exact ⟨_, rfl, ran_direct tag body fun _ => serves_planForce _ _⟩
  | planRelease tag body => exact ⟨_, rfl, ran_direct tag body fun _ => serves_planRelease _ _⟩
  | demandPlace tag body => exact ⟨_, rfl, ran_direct tag body fun _ => serves_demandPlace _ _⟩
  | maintUpdate tag body => exact ⟨_, rfl, ran_direct tag body fun _ => serves_maintUpdate _ _⟩
  | lampRelearn tag body => exact ⟨_, rfl, ran_direct tag body fun _ => serves_lampRelearn _ _⟩
  | sweepStart tag body => exact ⟨_, rfl, ran_direct tag body fun _ => serves_sweepStart _ _⟩
  | sweepStop tag body => exact ⟨_, rfl, ran_direct tag body fun _ => serves_sweepStop _ _⟩
  | probeRun tag body => exact ⟨_, rfl, ran_direct tag body fun _ => serves_probeRun _ _⟩
  | groupRead tag body => exact ⟨_, rfl, ran_direct tag body fun _ => serves_answerNumber _ _ _ _ _⟩
  | channelRead tag body => exact ⟨_, rfl, ran_direct tag body fun _ => serves_answerNumber _ _ _ _ _⟩
  | detectorRead tag body => exact ⟨_, rfl, ran_direct tag body fun _ => serves_answerNumber _ _ _ _ _⟩
  | cableRead tag body => exact ⟨_, rfl, ran_direct tag body fun _ => serves_answerNumber _ _ _ _ _⟩
  | faultRead tag body => exact ⟨_, rfl, ran_direct tag body fun _ => serves_answerNumber _ _ _ _ _⟩
  | faultAck tag body => exact ⟨_, rfl, ran_direct tag body fun _ => serves_faultAck _ _⟩
  | faultPurge tag body => exact ⟨_, rfl, ran_direct tag body fun _ => serves_faultPurge _ _⟩
  | attentionRead tag body => exact ⟨_, rfl, ran_direct tag body fun _ => serves_attentionRead _ _⟩
  | noticeEnable tag body => exact ⟨_, rfl, ran_direct tag body fun _ => serves_noticeEnable _ _⟩
  | attentionPulseEnd => exact ⟨_, rfl, ran_if fun _ => .pulse⟩
  | zeroCrossing => exact ⟨_, rfl, .finished balanced_takeCrossing⟩
  | crystalTick => exact ⟨_, rfl, ran_if fun _ => .finished balanced_takeCrystalTick⟩
  | mainsTimingLoss => exact ⟨_, rfl, ran_if fun _ => .finished balanced_loseMains⟩
  | detectorPinChange d high => exact ⟨_, rfl, .quiet (acts_onInput d _).up⟩
  | detectorAcceptedChange d => exact ⟨_, rfl, ran_if fun _ => ran_finished (acts_acceptChange d).up⟩
  | stuckOn d => exact ⟨_, rfl, ran_if fun _ => ran_finished (acts_declareStuckOn d).up⟩
  | stuckOff d => exact ⟨_, rfl, ran_if fun _ => ran_finished (acts_declareStuck d _ rfl).up⟩
  | priorityOverstay => exact ⟨_, rfl, ran_if fun _ => ran_finished acts_overstay.up⟩
  | stageChangeStart => exact ⟨_, rfl, ran_if fun h => ran_finished (acts_startDueChange h).up⟩
  | redAmberStart g => exact ⟨_, rfl, ran_if fun h => ran_finished (acts_startRedAmber id h).up⟩
  | greenInstant g => exact ⟨_, rfl, ran_if fun h => ran_finished (acts_takeGreen id h).up⟩
  | amberEnd g => exact ⟨_, rfl, ran_if fun h => ran_finished (acts_enterRed (lit_of_amberDue h)).up⟩
  | clearanceEnd g => exact ⟨_, rfl, ran_if fun h => ran_finished (acts_enterRed (lit_of_clearanceDue h)).up⟩
  | stageChangeComplete => exact ⟨_, rfl, ran_if fun _ => ran_finished acts_completeChange.up⟩
  | lateJoin g => exact ⟨_, rfl, ran_if fun h => ran_finished (acts_joinLate id h).up⟩
  | gapOut => exact ⟨_, rfl, ran_if fun _ => .quiet acts_endToSelection.up⟩
  | maxOut => exact ⟨_, rfl, ran_if fun _ => .quiet acts_endToSelection.up⟩
  | coordinatedGapOut => exact ⟨_, rfl, ran_if fun _ => .quiet (acts_takeDecision _).up⟩
  | endOfEntryDecision => exact ⟨_, rfl, ran_if fun _ => .quiet acts_endOfEntry.up⟩
  | skipPoint => exact ⟨_, rfl, ran_if fun _ => .quiet (acts_takeDecision _).up⟩
  | holdEnd => exact ⟨_, rfl, ran_if fun _ => .quiet acts_endHold.up⟩
  | cycleStart => exact ⟨_, rfl, ran_if fun _ => .quiet acts_correct.up⟩
  | changePoint => exact ⟨_, rfl, ran_if fun _ => ran_finished acts_passChangePoint.up⟩
  | modeColoursApply => exact ⟨_, rfl, ran_if fun _ => ran_finished acts_applyColours.up⟩
  | clearingGreensEnd => exact ⟨_, rfl, ran_if fun _ => ran_finished acts_endGreens.up⟩
  | voltageIndication c level => exact ⟨_, rfl, .finished (balanced_takeIndication c level)⟩
  | supplyOutputIndication level => exact ⟨_, rfl, ran_finished (acts_takeSupplyOutput level).up⟩
  | fullDriveEnd c => exact ⟨_, rfl, ran_if fun _ => .quiet (acts_endFullDrive c).up⟩
  | pullInLimit c => exact ⟨_, rfl, ran_if fun _ => ran_finished (acts_failToClose c).up⟩
  | releaseLimit c => exact ⟨_, rfl, ran_if fun h => ran_finished (acts_endRelease h).up⟩
  | contactorCloseLimit => exact ⟨_, rfl, ran_if fun _ => ran_finished acts_contactorFailsToClose.up⟩
  | contactorOpenLimit => exact ⟨_, rfl, ran_if fun _ => ran_finished acts_endContactorRelease.up⟩
  | flashPhaseChange => exact ⟨_, rfl, ran_if fun _ => ran_finished acts_changePhase.up⟩
  | currentSample c mA => exact ⟨_, rfl, ran_finished (of_edits (edits_takeSample c _)).up⟩
  | leakRequest c => exact ⟨_, rfl, ran_if fun _ => ran_finished (acts_askLeak c).up⟩
  | probeStart => exact ⟨_, rfl, ran_if fun _ => ran_finished acts_chooseProbe.up⟩
  | probeClosingEnd => exact ⟨_, rfl, ran_if fun h => .quiet (acts_measure h).up⟩
  | probeClassify measurement =>
    refine ⟨_, rfl, ?_⟩
    split
    · next run hp =>
      split
      · exact ran_if fun h => .finished (balanced_classifyProbe _ _ hp h)
      · exact ran_refl
    · exact ran_refl
  | probeReleaseEnd => exact ⟨_, rfl, ran_if fun h => ran_finished (of_edits (edits_openBus (owesReply_of_releasing h))).up⟩
  | sweepEnd => exact ⟨_, rfl, ran_if fun _ => ran_finished acts_endSweep.up⟩
  | conflictFound a b => exact ⟨_, rfl, ran_if fun _ => ran_finished (acts_findConflict a b).up⟩
  | redFailure g => exact ⟨_, rfl, ran_if fun h => ran_finished (acts_takeRedFailure h).up⟩
  | startupCheckComplete => exact ⟨_, rfl, ran_if fun _ => ran_finished acts_takeExit.up⟩
  | startupFlashEnd => exact ⟨_, rfl, ran_if fun _ => ran_finished (acts_enterPhase rfl _).up⟩
  | startupRedEnd => exact ⟨_, rfl, ran_if fun _ => ran_finished acts_enterNormal.up⟩
  | holdoffExpiry => exact ⟨_, rfl, ran_if fun _ => ran_finished acts_expireHoldoff.up⟩
  | probationExpiry => exact ⟨_, rfl, ran_if fun _ => .quiet (acts_sup _ rfl rfl rfl).up⟩
  | supplyLoss => exact ⟨_, rfl, ran_if fun _ => ran_finished acts_loseSupply.up⟩
  | supplyReturn => exact ⟨_, rfl, ran_if fun _ => ran_finished acts_regainSupply.up⟩
  | byteReceived b framingError => exact ⟨_, rfl, ran_finished ((acts_sawStop _).up.trans (acts_receiveByte _ _).up)⟩
  | crossingGap50Ms => exact ⟨_, rfl, .quiet acts_crossingGap.up⟩

end Acts
end Sys2Proof.Machine
end

section
/-! SUPPORT. Laws that every write keeps: a law is proved of the writes of single blocks once, and holds through every edit,
every action and every step. -/

namespace Sys2Proof.Machine

set_option Elab.async false

theorem State.onChan_const (s : State) (c : Ch) (f : ChanRun → ChanRun) : (s.onChan c f) = s.onChan c fun _ => f (s.chan c) := by
  unfold State.onChan State.onOut State.chan Tab.modify
  rfl

theorem State.onChan_onChan (s : State) (c : Ch) (r : ChanRun) (f : ChanRun → ChanRun) :
    (s.onChan c fun _ => r).onChan c f = s.onChan c fun _ => f r := by
  have hput (t : Tab 48 ChanRun) (a b : ChanRun) : (t.put c a).put c b = t.put c b := by
    unfold Tab.put; simp
  unfold State.onChan State.onOut Tab.modify
  simp only [Tab.get_put_self, hput]

/-- A group's record rewritten in the parts of `K` alone. -/
def GroupRun.within (K : List Acts.Part) (r r' : GroupRun) : Prop :=
  (Acts.Part.colour ∉ K → r'.colour = r.colour ∧ r'.timeIn = r.timeIn ∧ r'.greenEnd = r.greenEnd ∧
    r'.minInForce = r.minInForce ∧ r'.amberInForce = r.amberInForce ∧ r'.clearanceInForce = r.clearanceInForce ∧
    r'.redAmberInForce = r.redAmberInForce) ∧
  (Acts.Part.colour ∉ K → Acts.Part.demand ∉ K → r'.demand = r.demand ∧ r'.latch = r.latch) ∧
  (Acts.Part.health ∉ K → r'.redHealth = r.redHealth ∧ r'.inhibited = r.inhibited) ∧
  (Acts.Part.shown ∉ K → r'.observedGreen = r.observedGreen)

/-- The supervisor record rewritten in the parts of `K` alone. -/
def Sup.within (K : List Acts.Part) (u u' : Sup) : Prop :=
  (Acts.Part.mode ∉ K → u'.mode = u.mode) ∧ (Acts.Part.grace ∉ K → u'.grace = u.grace) ∧
    (Acts.Part.shown ∉ K → u'.conflicts = u.conflicts) ∧
    (Acts.Part.mode ∉ K → Acts.Part.sup ∉ K → u' = { u with grace := u'.grace, conflicts := u'.conflicts }) ∧
    (Acts.Part.supply ∉ K → u'.supplied = u.supplied)

/-- The outputs but for their channels rewritten in the parts of `K` alone. -/
def Out.within (K : List Acts.Part) (o o' : Out) : Prop :=
  o'.chans = o.chans ∧ (Acts.Part.flash ∉ K → o'.flash = o.flash) ∧
    (Acts.Part.contactor ∉ K → o'.contactor = o.contactor ∧ o'.trip = o.trip)

/-- A fault table after reports, clears and additions of the parts of `K` alone: the pending set, the overflow and the number
of entries grow; of every other kind the entries stay in a table that is not full, and in a full one the ACTIVE ones do, but
for an ADVISORY one that a SAFETY report evicts (R178); none of them is new; and without a SAFETY report no ACTIVE SAFETY
entry is new. -/
def Flt.within (K : List Acts.Part) (f f' : Flt) : Prop :=
  Acts.Part.table ∉ K →
    f.pendingSet.union f'.pendingSet = f'.pendingSet ∧ (f.overflow = true → f'.overflow = true) ∧
    f.entries.length ≤ f'.entries.length ∧
    (∀ e, e.kind.part ∉ K →
      (e ∈ f.entries → f'.entries.length < 64 ∨ e.active = true ∧ (e.safety = true ∨ Acts.Part.alarm ∉ K) → e ∈ f'.entries) ∧
      (e ∈ f'.entries → e ∈ f.entries)) ∧
    (Acts.Part.alarm ∉ K → ∀ e ∈ f'.entries, e.active = true → e.safety = true → e ∈ f.entries)

/-- The link after replies: frames joined the tail of the output queue, with their slots and the flags that a reply carries
away (R196). -/
def Lnk.replied (l l' : Lnk) : Prop :=
  l' = { l with output := l'.output, reserved := l'.reserved, overrun := l'.overrun, linkError := l'.linkError } ∧
    ∃ x, l'.output = l.output ++ x

namespace Acts

variable {G : Gid → Prop} {K L : List Part} {s t u : State} {P : State → Prop}

/-- A property kept by every write of the parts in `K`. -/
structure Law (K : List Part) (P : State → Prop) : Prop where
  groups : ∀ (s : State) f, (∃ gs, f s.seq = { s.seq with groups := gs } ∧ ∀ g, (s.group g).within K (gs.get g)) →
    P s → P (s.onSeq f)
  seq : Part.seq ∈ K → ∀ (s : State) f, (f s.seq).groups = s.seq.groups → (s.seq.priorityOk → (f s.seq).priorityOk) →
    (Part.tick ∉ K → (f s.seq).ticked = s.seq.ticked) → P s → P (s.onSeq f)
  timers : Part.seq ∈ K → ∀ s : State, P s → P (s.onSeq Seq.tickTimers)
  sup : ∀ (s : State) f, s.sup.within K (f s.sup) → P s → P (s.onSup f)
  lmp : Part.lamp ∈ K → ∀ (s : State) f, (Part.healthy ∉ K → ∀ c, (s.lamp c).trails ((f s.lmp).get c)) → P s → P (s.onLmp f)
  out : ∀ (s : State) f, s.out.within K (f s.out) → P s → P (s.onOut f)
  chan : Part.chan ∈ K → ∀ (s : State) c r, ((s.chan c).coilOk → r.coilOk) →
    (Part.command ∉ K → r.command = (s.chan c).command) → (Part.wear ∉ K → r.opCount = (s.chan c).opCount) → P s →
    P (s.onChan c fun _ => r)
  flt : Part.flt ∈ K → ∀ (s : State) f, (s.flt.sound → (f s.flt).sound) → s.flt.within K (f s.flt) →
    P s → P (s.onFlt f)
  cbt : Part.cbt ∈ K → ∀ (s : State) f, (s.cbt.urgentOk → (f s.cbt).urgentOk) → P s → P (s.onCbt f)
  sch : Part.sch ∈ K → ∀ (s : State) f, P s → P (s.onSch f)
  clk : Part.clk ∈ K → ∀ (s : State) f, (Part.time ∉ K → (f s.clk).timed = s.clk.timed) → P s → P (s.onClk f)
  det : Part.det ∈ K → ∀ (s : State) f, P s → P (s.onDet f)
  cfg : Part.cfg ∈ K → ∀ (s : State) f, P s → P (s.onCfg f)
  link : Part.link ∈ K ∨ Part.slots ∈ K ∨ Part.answer ∈ K → ∀ (s : State) f, (Part.link ∉ K → s.lnk.replied (f s.lnk)) →
    P s → P (s.onLnk f)

/-! ### Writes of one group -/

theorem within_refl (K : List Part) (r : GroupRun) : r.within K r :=
  ⟨fun _ => ⟨rfl, rfl, rfl, rfl, rfl, rfl, rfl⟩, fun _ _ => ⟨rfl, rfl⟩, fun _ => ⟨rfl, rfl⟩, fun _ => rfl⟩

/-- Another demand and latch is a write of the demand. -/
theorem within_of_demandOnly {r r' : GroupRun} (hK : Part.demand ∈ K) (h : r.demandOnly r') : r.within K r' := by
  rw [h]
  exact ⟨fun _ => ⟨rfl, rfl, rfl, rfl, rfl, rfl, rfl⟩, fun _ hd => absurd hK hd, fun _ => ⟨rfl, rfl⟩, fun _ => rfl⟩

/-- Another red health and inhibition is a write of the health. -/
theorem within_health (hK : Part.health ∈ K) (r : GroupRun) (x : RedHealth) (b : Bool) :
    r.within K { r with redHealth := x, inhibited := b } :=
  ⟨fun _ => ⟨rfl, rfl, rfl, rfl, rfl, rfl, rfl⟩, fun _ _ => ⟨rfl, rfl⟩, fun h => absurd hK h, fun _ => rfl⟩

theorem within_shown (hK : Part.shown ∈ K) (r : GroupRun) (b : Bool) : r.within K { r with observedGreen := b } :=
  ⟨fun _ => ⟨rfl, rfl, rfl, rfl, rfl, rfl, rfl⟩, fun _ _ => ⟨rfl, rfl⟩, fun _ => ⟨rfl, rfl⟩, fun h => absurd hK h⟩

/-- Entering a colour state is a write of the colour. -/
theorem within_enter (hK : Part.colour ∈ K) (r : GroupRun) (col : Colour) (t : GroupTiming) (b : Bool) (n : Nat) :
    r.within K (r.enter col t b n) := by
  refine ⟨fun h => absurd hK h, fun h => absurd hK h, fun _ => ?_, fun _ => ?_⟩ <;> cases col <;> simp [GroupRun.enter]

/-- One group's write is a write of the table of groups. -/
theorem groups_modify {g : Gid} {f : GroupRun → GroupRun} (h : (s.group g).within K (f (s.group g))) :
    ∃ gs, { s.seq with groups := s.seq.groups.modify g f } = { s.seq with groups := gs } ∧
      ∀ k, (s.group k).within K (gs.get k) := by
  refine ⟨_, rfl, fun k => ?_⟩
  rw [Tab.get_modify]
  split
  · next hk => subst hk; exact h
  · exact within_refl K _

theorem sup_within_grace (hK : Part.grace ∈ K) (u : Sup) (x : Tab 16 Grace) : u.within K { u with grace := x } :=
  ⟨fun _ => rfl, fun h => absurd hK h, fun _ => rfl, fun _ _ => rfl, fun _ => rfl⟩

theorem sup_within_shown (hK : Part.shown ∈ K) (u : Sup) (x : List PairTime) : u.within K { u with conflicts := x } :=
  ⟨fun _ => rfl, fun _ => rfl, fun h => absurd hK h, fun _ _ => rfl, fun _ => rfl⟩

theorem sup_within_mode (hK : Part.mode ∈ K) {u u' : Sup} (hg : u'.grace = u.grace) (hc : u'.conflicts = u.conflicts)
    (hs : u'.supplied = u.supplied) : u.within K u' :=
  ⟨fun h => absurd hK h, fun _ => hg, fun _ => hc, fun h => absurd hK h, fun _ => hs⟩

/-! ### Writes of one lamp record -/

theorem trails_refl (l : LampRec) : l.trails l := ⟨rfl, rfl, rfl, .inl rfl, .inl rfl, .inl rfl⟩

theorem leaveSteady_learn_twice (l l' : LampRec) (h : l'.learn = l.leaveSteady.learn) :
    l'.leaveSteady.learn = l.leaveSteady.learn := by
  unfold LampRec.leaveSteady at *
  cases hl : l.learn <;> simp_all

theorem trails_trans {a b c : LampRec} (h : a.trails b) (h' : b.trails c) : a.trails c := by
  obtain ⟨hm, hh, hi, hs, hr, hl⟩ := h
  obtain ⟨hm', hh', hi', hs', hr', hl'⟩ := h'
  refine ⟨hm'.trans hm, hh'.trans hh, hi'.trans hi, ?_, ?_, ?_⟩
  · exact hs'.elim (fun e => by rw [e]; exact hs) .inr
  · exact hr'.elim (fun e => by rw [e]; exact hr) .inr
  · rcases hl' with e | e
    · rw [e]; exact hl
    · rcases hl with e' | e'
      · right; rw [e]; unfold LampRec.leaveSteady; rw [e']
      · right; rw [e, leaveSteady_learn_twice a b e']

theorem trails_leaveSteady (l : LampRec) : l.trails l.leaveSteady := ⟨rfl, rfl, rfl, .inr rfl, .inr rfl, .inr rfl⟩

theorem trails_flashBegins (l : LampRec) : l.trails l.flashBegins := by
  unfold LampRec.flashBegins
  split
  · exact trails_refl l
  · exact ⟨rfl, rfl, rfl, .inr rfl, .inr rfl, .inr rfl⟩

theorem trails_flashEnds (l : LampRec) : l.trails l.flashEnds := by
  unfold LampRec.flashEnds
  split
  · exact ⟨rfl, rfl, rfl, .inl rfl, .inl rfl, .inl rfl⟩
  · exact trails_refl l

theorem trails_follow (l : LampRec) (old new : ChanRun) : l.trails (l.follow old new) := by
  unfold LampRec.follow
  dsimp only
  generalize hl1 : (if old.steadyOn && !new.steadyOn then l.leaveSteady else l) = l1
  have hleft : l.trails l1 := by
    subst hl1
    split
    · exact trails_leaveSteady l
    · exact trails_refl l
  split_ifs
  · exact trails_trans hleft (trails_flashBegins _)
  · exact trails_trans hleft (trails_flashEnds _)
  · exact hleft

/-- One record's write is a write of the table of lamp records. -/
theorem trails_modify {c : Ch} {f : LampRec → LampRec} (h : (s.lamp c).trails (f (s.lamp c))) (k : Ch) :
    (s.lamp k).trails ((s.lmp.modify c f).get k) := by
  rw [Tab.get_modify]
  split
  · next hk => subst hk; exact h
  · exact trails_refl _

/-! ### Replies -/

theorem replied_reply (s : State) (tag code : Byte) (st : Status) (b : List Byte) :
    s.lnk.replied (s.reply tag code st b).lnk := ⟨rfl, _, rfl⟩

theorem replied_refl (l : Lnk) : l.replied l := ⟨rfl, [], (List.append_nil _).symm⟩

theorem replied_trans {a b c : Lnk} (h : a.replied b) (h' : b.replied c) : a.replied c := by
  obtain ⟨h, x, hx⟩ := h
  obtain ⟨h', y, hy⟩ := h'
  refine ⟨?_, x ++ y, by rw [hy, hx, List.append_assoc]⟩
  rw [h', h]

/-! ### The fault table's own operations keep it sound -/

theorem sound_iff (f : Flt) : f.sound ↔ f.entries.length ≤ 64 ∧ (f.entries.map fun e => (e.kind, e.subject)).Nodup := by
  unfold Flt.sound List.Nodup
  rw [List.pairwise_map]
  simp [Config.faultCapacity]

theorem evictee_lt {l : List FaultEntry} {b : Bool} {i : Nat} (h : evictee l b = some i) : i < l.length := by
  unfold evictee at h
  split at h
  · next hi => exact Option.some.inj h ▸ (List.findIdx?_eq_some_iff_findIdx_eq.mp hi).1
  · split at h
    · next hi => exact Option.some.inj h ▸ (List.findIdx?_eq_some_iff_findIdx_eq.mp hi).1
    · split at h
      · exact (List.findIdx?_eq_some_iff_findIdx_eq.mp h).1
      · exact absurd h nofun

theorem nodup_append_new {l : List FaultEntry} {k : FaultKind} {x : Subject} (b : Bool) (now : Stamp)
    (hl : (l.map fun e => (e.kind, e.subject)).Nodup) (hk : ∀ e ∈ l, ¬(e.kind = k ∧ e.subject = x)) :
    ((l ++ [FaultEntry.fresh k x b now]).map fun e => (e.kind, e.subject)).Nodup := by
  rw [List.map_append, List.nodup_append]
  refine ⟨hl, List.nodup_singleton _, fun a ha c hc hac => ?_⟩
  obtain ⟨e, he, rfl⟩ := List.mem_map.mp ha
  rw [List.map_cons, List.map_nil, List.mem_singleton] at hc
  rw [hc] at hac
  exact hk e he (Prod.mk.inj hac)

/-- A table rewritten entry by entry with the same keys. -/
theorem sound_map {f f' : Flt} {g : FaultEntry → FaultEntry} (he : f'.entries = f.entries.map g)
    (hg : ∀ e, (g e).kind = e.kind ∧ (g e).subject = e.subject) (h : f.sound) : f'.sound := by
  have hkeys : (f'.entries.map fun e => (e.kind, e.subject)) = f.entries.map fun e => (e.kind, e.subject) := by
    rw [he, List.map_map]
    exact List.map_congr_left fun e _ => by simp [hg e]
  exact sound_of_keys (f := f) (hkeys ▸ List.Sublist.refl _) h

theorem sound_report {f : Flt} (k : FaultKind) (x : Subject) (b : Bool) (now : Stamp) (h : f.sound) :
    (f.report k x b now).sound := by
  unfold Flt.report
  split
  · exact sound_map rfl (fun e => by split <;> exact ⟨rfl, rfl⟩) h
  · next hnew =>
    have hkey : ∀ e ∈ f.entries, ¬(e.kind = k ∧ e.subject = x) := by
      simpa [FaultEntry.hasKey] using hnew
    rw [sound_iff] at h
    obtain ⟨hlen, hnd⟩ := h
    split
    · next hroom => exact (sound_iff _).mpr ⟨by simpa [Config.faultCapacity] using hroom, nodup_append_new _ _ hnd hkey⟩
    · split
      · next i hi =>
        have hlt := evictee_lt hi
        refine (sound_iff _).mpr ⟨?_, nodup_append_new _ _ (hnd.sublist ((List.eraseIdx_sublist _ _).map _)) fun e he =>
          hkey e (List.mem_of_mem_eraseIdx he)⟩
        simp only [List.length_append, List.length_eraseIdx_of_lt hlt, List.length_cons, List.length_nil]
        omega
      · exact (sound_iff _).mpr ⟨hlen, hnd⟩

theorem sound_clear {f : Flt} (k : FaultKind) (x : Subject) (h : f.sound) : (f.clear k x).sound := by
  unfold Flt.clear
  split
  · exact sound_map rfl (fun e => by split <;> exact ⟨rfl, rfl⟩) h
  · exact h

/-! ### What the fault table's own operations keep -/

theorem union_self_left (p q : PendingSet) : p.union (p.union q) = p.union q := by
  simp [PendingSet.union]

theorem union_self (p : PendingSet) : p.union p = p := by simp [PendingSet.union]

theorem union_assoc (p q r : PendingSet) : (p.union q).union r = p.union (q.union r) := by
  simp [PendingSet.union, Bool.or_assoc]

theorem flt_within_refl (K : List Part) (f : Flt) : f.within K f :=
  fun _ => ⟨union_self _, id, le_rfl, fun _ _ => ⟨fun h _ => h, id⟩, fun _ _ h _ _ => h⟩

theorem flt_within_trans {f f' f'' : Flt} (h : f.within K f') (h' : f'.within K f'') : f.within K f'' := by
  intro ht
  obtain ⟨hp, ho, hl, he, hn⟩ := h ht
  obtain ⟨hp', ho', hl', he', hn'⟩ := h' ht
  refine ⟨?_, fun x => ho' (ho x), hl.trans hl', fun e hk => ⟨fun hm hs => ?_, fun hm => ?_⟩,
    fun hK e hm ha hs => hn hK e (hn' hK e hm ha hs) ha hs⟩
  · rw [← hp', ← union_assoc, hp]
  · exact (he' e hk).1 ((he e hk).1 hm (hs.imp (fun h => hl'.trans_lt h) id)) hs
  · exact (he e hk).2 ((he' e hk).2 hm)

theorem flt_within_add (K : List Part) (f : Flt) (p : PendingSet) :
    f.within K { f with pendingSet := f.pendingSet.union p, added := true } :=
  fun _ => ⟨union_self_left _ _, id, le_rfl, fun _ _ => ⟨fun h _ => h, id⟩, fun _ _ h _ _ => h⟩

/-- A table rewritten entry by entry, the entries of the kinds outside `K` left as they are. -/
theorem flt_within_map {f : Flt} (g : FaultEntry → FaultEntry) (p : PendingSet) (b : Bool)
    (hg : ∀ e, (e.kind.part ∉ K ∨ (g e).kind.part ∉ K) → g e = e)
    (hs : Part.alarm ∉ K → ∀ e, (g e).active = true → (g e).safety = true → g e = e) :
    f.within K { f with entries := f.entries.map g, pendingSet := f.pendingSet.union p, added := b } := by
  refine fun _ => ⟨union_self_left _ _, id, by simp, fun e hk => ⟨fun hm _ => ?_, fun hm => ?_⟩, fun hK e hm ha hsf => ?_⟩
  · exact List.mem_map.mpr ⟨e, hm, hg e (.inl hk)⟩
  · obtain ⟨a, ha, rfl⟩ := List.mem_map.mp hm
    rw [hg a (.inr hk)]; exact ha
  · obtain ⟨a, hmem, rfl⟩ := List.mem_map.mp hm
    rw [hs hK a ha hsf]; exact hmem

/-- What R178 evicts is CLEARED, or ADVISORY for a SAFETY report. -/
theorem evicted {l : List FaultEntry} {b : Bool} {i : Nat} (h : evictee l b = some i) {hlt : i < l.length} :
    l[i].active = false ∨ b = true ∧ l[i].safety = false := by
  have hfind {p : FaultEntry → Bool} (hp : l.findIdx? p = some i) : p l[i] = true := by
    obtain ⟨_, hi, -⟩ := List.findIdx?_eq_some_iff_getElem.mp hp; exact hi
  unfold evictee at h
  split at h
  · next j hj => obtain rfl := Option.some.inj h; have := hfind hj; simp_all
  · split at h
    · next j hj => obtain rfl := Option.some.inj h; have := hfind hj; simp_all
    · split at h
      · next hb => have := hfind h; simp_all
      · exact absurd h nofun

theorem flt_within_report {f : Flt} {k : FaultKind} (x : Subject) (b : Bool) (now : Stamp) (hk : k.part ∈ K)
    (ha : b = true → Part.alarm ∈ K) : f.within K (f.report k x b now) := by
  have hfresh {e : FaultEntry} (he : e.kind.part ∉ K) : e ≠ FaultEntry.fresh k x b now := by
    rintro rfl; exact he hk
  have hquiet (hK : Part.alarm ∉ K) : b = false := by
    by_contra hb; exact hK (ha (by simpa using hb))
  have hcalm {e : FaultEntry} (hK : Part.alarm ∉ K) (hs : e.safety = true) : e ≠ FaultEntry.fresh k x b now := by
    rintro rfl
    rw [hquiet hK] at hs; exact absurd hs nofun
  unfold Flt.report
  split
  · refine flt_within_map _ _ _ (fun e he => if_neg fun h => ?_) fun hK e _ hs => ?_
    swap
    · split at hs
      · have hb : b = true := hs
        rw [hquiet hK] at hb; exact absurd hb nofun
      · next hne => exact if_neg hne
    have hkind : e.kind = k := by simp [FaultEntry.hasKey] at h; exact h.1
    have hagain : (if e.hasKey k x = true then e.again b now else e).kind = e.kind := by split <;> rfl
    rw [hagain, hkind, or_self] at he
    exact he hk
  · split
    · refine fun _ => ⟨union_self_left _ _, id, by simp, fun e he => ⟨fun hm _ => List.mem_append_left _ hm, fun hm => ?_⟩,
        fun hK e hm _ hs => ?_⟩
      · simpa [hfresh he] using hm
      · simpa [hcalm hK hs] using hm
    · next hroom =>
      split
      · next i hi =>
        have hlt := evictee_lt hi
        refine fun _ => ⟨by rw [union_assoc]; exact union_self_left _ _, id, ?_, fun e he => ⟨fun hm hs => ?_, fun hm => ?_⟩,
          fun hK e hm _ hs => ?_⟩
        · simp only [List.length_append, List.length_eraseIdx_of_lt hlt, List.length_cons, List.length_nil]; omega
        · have hfull : ¬(f.entries.eraseIdx i ++ [FaultEntry.fresh k x b now]).length < 64 := by
            simp only [List.length_append, List.length_eraseIdx_of_lt hlt, List.length_cons, List.length_nil]
            simp only [Config.faultCapacity] at hroom
            omega
          obtain ⟨hact, hsaf⟩ := hs.resolve_left hfull
          refine List.mem_append_left _ (List.mem_eraseIdx_iff_getElem.mpr ?_)
          obtain ⟨j, hj, rfl⟩ := List.mem_iff_getElem.mp hm
          refine ⟨j, hj, fun hji => ?_, rfl⟩
          subst hji
          rcases evicted hi (hlt := hlt) with h | ⟨hb, h⟩
          · rw [h] at hact; exact absurd hact nofun
          · rcases hsaf with hs | hs
            · rw [h] at hs; exact absurd hs nofun
            · exact hs (ha hb)
        · rcases List.mem_append.mp hm with h | h
          · exact List.mem_of_mem_eraseIdx h
          · exact absurd (List.mem_singleton.mp h) (hfresh he)
        · rcases List.mem_append.mp hm with h | h
          · exact List.mem_of_mem_eraseIdx h
          · exact absurd (List.mem_singleton.mp h) (hcalm hK hs)
      · exact fun _ => ⟨union_self_left _ _, fun _ => rfl, le_rfl, fun _ _ => ⟨fun h _ => h, id⟩, fun _ _ h _ _ => h⟩

theorem flt_within_clear {f : Flt} {k : FaultKind} (x : Subject) (hk : k.part ∈ K) : f.within K (f.clear k x) := by
  unfold Flt.clear
  split
  · refine flt_within_map _ _ _ (fun e he => if_neg fun h => ?_) fun _ e ha _ => ?_
    swap
    · split at ha
      · exact absurd ha nofun
      · next hne => exact if_neg hne
    have hkind : e.kind = k := by simp [FaultEntry.hasKey] at h; exact h.1
    have hsame : (if e.hasKey k x = true then { e with active := false } else e).kind = e.kind := by split <;> rfl
    rw [hsame, hkind, or_self] at he
    exact he hk
  · exact flt_within_refl K f

/-! ### Laws through edits -/

variable (h : Law K P)
include h

theorem Law.report (hf : Part.flt ∈ K) (k : FaultKind) (hk : k.part ∈ K) (x : Subject) {b : Bool}
    (ha : b = true → Part.alarm ∈ K) (hs : P s) : P (s.reportAs k x b) :=
  h.flt hf _ _ (sound_report _ _ _ _) (flt_within_report x b _ hk ha) hs

theorem Law.clear (hf : Part.flt ∈ K) (k : FaultKind) (hk : k.part ∈ K) (x : Subject) (hs : P s) : P (s.clearFault k x) :=
  h.flt hf _ _ (sound_clear _ _) (flt_within_clear x hk) hs

theorem Law.add (hf : Part.flt ∈ K) (p : PendingSet) (hs : P s) : P (s.addEvents p) :=
  h.flt hf _ _ id (flt_within_add K _ p) hs

theorem Law.refreshGrace (hg : Part.grace ∈ K) (hs : P s) : P s.refreshGrace := h.sup _ _ (sup_within_grace hg _ _) hs

theorem Law.refreshConflicts (hg : Part.shown ∈ K) (hs : P s) : P s.refreshConflicts :=
  h.sup _ _ (sup_within_shown hg _ _) hs

theorem Law.refreshInhibited (hh : Part.health ∈ K) (hs : P s) : P s.refreshInhibited :=
  h.groups _ _ ⟨_, rfl, fun g => by rw [Tab.get_ofFn]; exact within_health hh _ _ _⟩ hs

theorem Law.refreshGreen (hg : Part.shown ∈ K) (g : Gid) (hs : P s) : P (s.refreshGreen g) := by
  unfold State.refreshGreen
  split
  · exact hs
  · exact h.refreshConflicts hg (h.groups _ _ (groups_modify (within_shown hg _ _)) hs)

theorem Law.refreshShowing (hg : Part.shown ∈ K) (c : Ch) (hs : P s) : P (s.refreshShowing c) := by
  unfold State.refreshShowing
  split
  · exact h.refreshGreen hg _ hs
  · exact hs

theorem Law.refreshLeak (hl : Part.lamp ∈ K) (c : Ch) (hs : P s) : P (s.refreshLeak c) := by
  unfold State.refreshLeak
  split_ifs
  · exact hs
  · exact h.lmp hl _ _ (fun _ => trails_modify ⟨rfl, rfl, rfl, .inl rfl, .inl rfl, .inl rfl⟩) hs
  · exact h.lmp hl _ _ (fun _ => trails_modify ⟨rfl, rfl, rfl, .inl rfl, .inl rfl, .inl rfl⟩) hs

theorem Law.evalRedHealth (hh : Part.health ∈ K) (hg : Part.grace ∈ K) (hf : Part.flt ∈ K) (hr : Part.redFault ∈ K)
    (ha : Part.alarm ∈ K) (g : Gid) (hs : P s) : P (s.evalRedHealth g) := by
  unfold State.evalRedHealth
  dsimp only
  have hown (r : RedHealth) : P (((s.onGroup g fun o => { o with redHealth := r }).refreshInhibited).refreshGrace) :=
    h.refreshGrace hg (h.refreshInhibited hh (h.groups _ _ (groups_modify (within_health hh _ _ _)) hs))
  split_ifs
  · exact hs
  · exact h.report hf .redDeficient hr _ (fun _ => ha) (hown _)
  · exact h.clear hf .redDeficient hr _ (hown _)
  · exact hown _

theorem Law.putFrom (hch : Part.chan ∈ K) (hl : Part.lamp ∈ K) (hg : Part.shown ∈ K) (c : Ch) (r new : ChanRun)
    (hc : (s.chan c).coilOk → new.coilOk) (hn : new.command = (s.chan c).command ∨ Part.command ∈ K)
    (ho : new.opCount = (s.chan c).opCount) (hs : P s) : P ((s.onChan c fun _ => r).putChan c new) := by
  have hchan : P ((s.onChan c fun _ => r).onChan c fun _ => ((s.onChan c fun _ => r).chan c).settled new s.now) := by
    rw [State.onChan_onChan]
    exact h.chan hch _ _ _ (fun hr => hc hr) (fun hk => hn.resolve_right hk) (fun _ => ho) hs
  exact h.refreshLeak hl _ (h.refreshShowing hg _ (h.lmp hl _ _ (fun _ => trails_modify (trails_follow _ _ _)) hchan))

theorem Law.countOperation (hch : Part.chan ∈ K) (hf : Part.flt ∈ K) (hw : Part.wear ∈ K) (c : Ch) (hs : P s) :
    P (s.countOperation c) := by
  unfold State.countOperation
  dsimp only
  have hcount : P (s.onChan c fun r => { r with opCount := min 4294967295 ((s.chan c).opCount + 1) }) := by
    rw [State.onChan_const]
    exact h.chan hch _ _ _ id (fun _ => rfl) (fun hn => absurd hw hn) hs
  split
  · exact h.report hf .relayWear hw _ nofun hcount
  · exact hcount

theorem Law.answerProbe (hf : Part.flt ∈ K) (hl : Part.link ∈ K ∨ Part.slots ∈ K ∨ Part.answer ∈ K) (o : Origin) (r : ProbeResult) (m : Option Nat) (hs : P s) :
    P (s.answerProbe o r m) := by
  unfold State.answerProbe
  split
  · exact h.link hl _ _ (fun _ => replied_reply _ _ _ _ _) (h.add hf _ hs)
  · exact hs

theorem Law.onResult (hb : Part.cbt ∈ K) (e : PEnt) (f : ResultRec → ResultRec) (hs : P s) : P (s.onResult e f) :=
  h.cbt hb _ _ id hs

theorem Law.deferAgain (hb : Part.cbt ∈ K) (e : PEnt) (hs : P s) : P (s.deferAgain e) := by
  unfold State.deferAgain
  split
  · exact h.cbt hb _ _ id hs
  · exact hs

theorem Law.countStarved (hb : Part.cbt ∈ K) (hf : Part.flt ∈ K) (hst : Part.starved ∈ K) (e : PEnt) (hs : P s) : P (s.countStarved e) := by
  unfold State.countStarved
  dsimp only
  split
  · exact h.report hf .testStarved hst _ nofun (h.onResult hb _ _ hs)
  · exact h.onResult hb _ _ hs

theorem Law.abandonProbe (hm : Part.answer ∈ K) (hb : Part.cbt ∈ K) (hf : Part.flt ∈ K) (hst : Part.starved ∈ K) (hs : P s) : P s.abandonProbe := by
  unfold State.abandonProbe State.recordAbandoned
  split
  · next p _ =>
    split
    · have hrec := h.deferAgain hb p.entry (h.onResult hb p.entry (fun r => { r with last := some .abandoned, measurement := none })
        (h.cbt hb _ (fun b => { b with phase := .releasing, phaseTime := 0 }) id hs))
      refine h.answerProbe hf (.inr (.inr hm)) _ _ _ ?_
      split
      · exact h.countStarved hb hf hst _ hrec
      · exact hrec
    · exact hs
  · exact hs

theorem Law.edit (e : Edit K s t) (hs : P s) : P t := by
  cases e with
  | report k x b hm hk ha => exact h.report hm k hk _ ha hs
  | clear k x hm hk => exact h.clear hm k hk _ hs
  | add p hm => exact h.add hm _ hs
  | table f hm hf ha ht =>
    refine h.flt hm _ _ hf (fun hn => ?_) hs
    have he := ht.resolve_right hn
    rw [he]
    exact ⟨union_self _, id, le_rfl, fun _ _ => ⟨fun h _ => h, id⟩, fun _ _ h _ _ => h⟩
  | demand gs hm hg => exact h.groups _ _ ⟨_, rfl, fun g => within_of_demandOnly hm (hg g)⟩ hs
  | inhibit hm => exact h.refreshInhibited hm hs
  | health g hm hg hf hr ha => exact h.evalRedHealth hm hg hf hr ha g hs
  | grace hm => exact h.refreshGrace hm hs
  | conflicts hm => exact h.refreshConflicts hm hs
  | green g hm => exact h.refreshGreen hm g hs
  | leak c hm => exact h.refreshLeak hm c hs
  | lamp c f hm _ _ hh => exact h.lmp hm _ _ (fun hn => trails_modify (hh.resolve_right hn)) hs
  | maintain c f hm hh => exact h.refreshLeak hm c (h.lmp hm _ _ (fun hn => absurd hh hn) hs)
  | chan c f hm hc hcmd hp hi hs' ho =>
    rw [State.onChan_const]
    exact h.chan hm _ _ _ hc (fun _ => hcmd) (fun _ => ho) hs
  | count c hm hf hw => exact h.countOperation hm hf hw c hs
  | put c r new hm hl hg hc hcmd hp hs' hn ho => exact h.putFrom hm hl hg c r new hc hn ho hs
  | cbt f hm hu ho => exact h.cbt hm _ _ hu hs
  | abandon hm hb hf hst => exact h.abandonProbe hm hb hf hst hs
  | reply tag code st b hm => exact h.link (.inr (.inl hm)) _ _ (fun _ => replied_reply _ _ _ _ _) hs
  | flash f hm => exact h.out _ _ ⟨rfl, fun hk => absurd hm hk, fun _ => ⟨rfl, rfl⟩⟩ hs
  | contactor k b hm => exact h.out _ _ ⟨rfl, fun _ => rfl, fun hk => absurd hm hk⟩ hs

theorem Law.edits (e : Edits K s t) (hs : P s) : P t :=
  e.keeps hs fun _ _ e => h.edit e

/-! ### Laws through actions -/

theorem Law.putColour (hc : Part.colour ∈ K) (g : Gid) (col : Colour) (hs : P s) : P (s.putColour g col) := by
  unfold State.putColour
  split
  · exact hs
  · exact h.groups _ _ (groups_modify (within_enter hc _ _ _ _ _)) hs

theorem Law.paints (hc : Part.colour ∈ K) (e : Paints G s t) (hs : P s) : P t := by
  induction e with
  | refl => exact hs
  | tail _ e ih =>
    cases e with
    | put g col => exact h.putColour hc _ _ ih

theorem Law.syncCommands (he : electric ⊆ K) (hs : P s) : P s.syncCommands := h.edits (edits_syncCommands.up he) hs

theorem Law.onMode (hm : Part.mode ∈ K) (hf : Part.flt ∈ K) (f : Sup → Sup) (hg : (f s.sup).grace = s.sup.grace)
    (hc : (f s.sup).conflicts = s.sup.conflicts) (hsp : (f s.sup).supplied = s.sup.supplied) (hs : P s) :
    P (s.onMode f) := by
  unfold State.onMode
  dsimp only
  have hsup := h.sup _ f (sup_within_mode hm hg hc hsp) hs
  split
  · exact hsup
  · exact h.add hf _ hsup

theorem Law.resetTester (hm : Part.answer ∈ K) (hb : Part.cbt ∈ K) (hf : Part.flt ∈ K) (hst : Part.starved ∈ K) (hs : P s) :
    P s.resetTester :=
  Frames.forAll_invariant (fun _ _ ht => h.clear hf .testStarved hst _ ht)
    (h.cbt hb _ _ (fun _ => urgentOk_nil rfl) (h.abandonProbe hm hb hf hst hs))

theorem Law.reinitGroup (hc : Part.colour ∈ K) (hh : Part.health ∈ K) (before : State) (g : Gid)
    (hs : P s) : P (s.reinitGroup before g) := by
  unfold State.reinitGroup
  exact h.groups _ _ (groups_modify
    ⟨fun hk => absurd hc hk, fun hk => absurd hc hk, fun hk => absurd hh hk, fun _ => rfl⟩) hs

theorem Law.reinitLamp (hl : Part.lamp ∈ K) (ht : Part.healthy ∈ K) (c : Ch) (hs : P s) : P (s.reinitLamp c) := by
  unfold State.reinitLamp
  exact h.lmp hl _ _ (fun hn => absurd ht hn) hs

theorem Law.rebuilt (he : electric ⊆ K) (hc : Part.colour ∈ K) (hh : Part.health ∈ K) (hg : Part.grace ∈ K)
    (hlearn : Part.healthy ∈ K) (hlf : Part.lampFault ∈ K) (hrf : Part.redFault ∈ K) (hcr : Part.crossing ∈ K)
    (hal : Part.alarm ∈ K) (before : State) (hs : P s) : P (s.rebuilt before) := by
  have hf : Part.flt ∈ K := he (by decide)
  have hl : Part.lamp ∈ K := he (by decide)
  have hw : Part.shown ∈ K := he (by decide)
  unfold State.rebuilt
  dsimp only
  have hgroups : P (s.forAll fun (t : State) (g : Gid) => t.reinitGroup before g) :=
    Frames.forAll_invariant (fun _ _ ht => h.reinitGroup hc hh _ _ ht) hs
  have hlamp (t : State) (c : Ch) (ht : P t) : P (((t.reinitLamp c).clearChannelEntries c).refreshLeak c) := by
    refine h.refreshLeak hl _ (h.clear hf .crossNuisance hcr _ (h.clear hf .earthLeak hcr _ ?_))
    exact h.clear hf .circuitOpen hlf _ (h.clear hf .lampOvercurrent hlf _ (h.clear hf .lampFailed hlf _
      (h.clear hf .lampPartial hlf _ (h.reinitLamp hl hlearn c ht))))
  have hhealth := Frames.forAll_invariant (f := State.evalRedHealth) (fun _ g ht => h.evalRedHealth hh hg hf hrf hal g ht)
    (Frames.forAll_invariant hlamp (h.syncCommands he hgroups))
  exact h.refreshConflicts hw (Frames.forAll_invariant (f := State.refreshGreen) (fun _ g ht => h.refreshGreen hw g ht)
    (h.refreshInhibited hh hhealth))

theorem Law.act (e : Act G K s t) (hs : P s) : P t := by
  cases e with
  | edit e => exact h.edit e hs
  | paint e hc he => exact h.syncCommands he (h.paints hc e hs)
  | dim f k q hm hk hc he hq hg hu hgr hcf hsp hgentle =>
    have hf : Part.flt ∈ K := he List.mem_cons_self
    have hmode : P ((s.onMode f).onContactor k) :=
      h.out _ _ ⟨rfl, fun _ => rfl, fun hn => absurd hk hn⟩ (h.onMode hm hf _ hgr hcf hsp hs)
    have hcolours : P (((s.onMode f).onContactor k).setAllColours fun _ => .darkAll) := by
      have hdark : P (((s.onMode f).onContactor k).forAll darkened) := Frames.forAll_invariant (fun t g ht => by
        unfold darkened
        split
        · exact h.putColour hc _ _ ht
        · exact ht) hmode
      exact h.edits (edits_syncCommands_dark.up fun p hp => he (List.mem_cons_of_mem _ hp)) hdark
    exact h.refreshGrace hg (h.seq hq _ _ (hgentle _).1 (hgentle _).2.1 (fun _ => (hgentle _).2.2) hcolours)
  | enter f q hm hf hq hg hu hgr hcf hsp hgentle =>
    exact h.refreshGrace hg (h.seq hq _ _ (hgentle _).1 (hgentle _).2.1 (fun _ => (hgentle _).2.2)
      (h.onMode hm hf _ hgr hcf hsp hs))
  | sup f hm hmode hg hc hsp =>
    exact h.sup _ _ ⟨fun _ => hmode, fun hn => hg.resolve_right fun hk => hn hk.1,
      fun hn => hc.resolve_right fun hk => hn hk.1, fun _ hn => absurd hm hn, fun hn => hsp.resolve_right hn⟩ hs
  | seq f hm hg hp ht => exact h.seq hm _ _ hg hp (fun hn => ht.resolve_right hn) hs
  | timers hm => exact h.timers hm _ hs
  | sch f hm => exact h.sch hm _ _ hs
  | clk f hm _ ht => exact h.clk hm _ _ (fun hn => ht.resolve_right hn) hs
  | det f hm => exact h.det hm _ _ hs
  | install new hm hf => exact h.add hf _ (h.cfg hm _ _ hs)
  | rebuild new hm he hc hd hh hg hl hlf hrf hcr hal =>
    have hf : Part.flt ∈ K := he (by decide)
    exact h.rebuilt he hc hh hg hl hlf hrf hcr hal _
      (h.resetTester (he (by decide)) (he (by decide)) hf (he (by decide)) (h.add hf _ (h.cfg hm _ _ hs)))
  | cfg f hm => exact h.cfg hm _ _ hs
  | link f hm => exact h.link (.inl hm) _ _ (fun hn => absurd hm hn) hs

theorem Law.acts (e : Acts G K s t) (hs : P s) : P t := e.keeps hs fun _ _ e => h.act e

end Acts
end Sys2Proof.Machine
end

section
/-! SUPPORT. Laws through the end of a step, through every command and through every step. -/

namespace Sys2Proof.Machine

set_option Elab.async false
namespace Acts

variable {G : Gid → Prop} {K L : List Part} {s t u v : State} {P : State → Prop}

/-- All that a step's end does but the counting of the additions. -/
theorem acts_finished (h : Acts G every s v) : Acts G every s (State.takeInhibition s v.drainPending) :=
  (h.trans acts_drainPending.up).trans (acts_takeInhibition s).up

/-- The records of a power-on reset, before the finding of an invalid time (R78). -/
def poweredOn (s : State) (held : Bool) (tenths : Nat) (vbakLow fast : Bool) : State :=
  { State.reset with
    pending := s.pending
    now := s.now
    lnk := Lnk.reset fast s.lnk.line
    clk := s.clk.powerOn held tenths vbakLow
    det := s.det.map fun r => { DetRun.reset with pin := r.pin }
    cbt := Cbt.reset s.now
    flt := Flt.reset }

theorem powerOn_eq (s : State) (held : Bool) (tenths : Nat) (vbakLow fast : Bool) :
    s.powerOn held tenths vbakLow fast =
      if (poweredOn s held tenths vbakLow fast).clk.valid then poweredOn s held tenths vbakLow fast
      else State.closeAdditions (poweredOn s held tenths vbakLow fast)
        ((poweredOn s held tenths vbakLow fast).report .timeInvalid .nothing) := rfl

/-- A law with the end of an event and the two resets. -/
structure StepLaw (P : State → Prop) : Prop extends Law every P where
  close : ∀ before s, P s → P (State.closeAdditions before s)
  inputReset : ∀ (s : State) fast, P s → P (s.inputReset fast)
  poweredOn : ∀ (s : State) held tenths vbakLow fast, P s → P (poweredOn s held tenths vbakLow fast)

theorem StepLaw.ran (h : StepLaw P) (r : Ran G s t) (hs : P s) : P t := by
  cases r with
  | quiet e => exact h.toLaw.acts e.up hs
  | pulse => exact h.flt (by decide) _ _ id (fun hn => absurd (by decide) hn) hs
  | finished e => exact h.close _ _ (h.toLaw.acts (acts_finished e.acts) hs)
  | inputReset fast => exact h.inputReset _ _ hs
  | powerOn held tenths vbakLow fast =>
    have hon := h.poweredOn _ held tenths vbakLow fast hs
    rw [powerOn_eq]
    split
    · exact hon
    · exact h.close _ _ (h.toLaw.report (by decide) .timeInvalid (by decide) _ nofun hon)

theorem exec_next (i : Instr) (h : exec i s = .next t) : Ran (free s) s t := by
  obtain ⟨u, hu, hran⟩ := exec_ran i s
  rw [h] at hu
  injection hu with hu
  exact hu ▸ hran

/-- A step is a command's effect, with or without the command taken off the queue, or one millisecond. -/
theorem step_ran (h : step s = .next t) :
    t = s.msTick ∨ ∃ s' : State, (s' = s ∨ ∃ rest, s' = { s with pending := rest }) ∧ Ran (free s') s' t := by
  unfold step at h
  split at h
  · exact .inr ⟨_, .inr ⟨_, rfl⟩, exec_next _ h⟩
  · unfold idle at h
    split at h
    · exact .inr ⟨s, .inl rfl, exec_next _ h⟩
    · injection h with h; exact .inl h.symm

/-- A property that every command keeps, that one millisecond keeps and that the queue has no part in, every step keeps. -/
theorem step_holds (hran : ∀ s t, Ran (free s) s t → P s → P t) (hms : ∀ s, P s → P (State.msTick s))
    (hq : ∀ (s : State) l, P s → P { s with pending := l }) (h : step s = .next t) (hs : P s) : P t := by
  rcases step_ran h with rfl | ⟨s', rfl | ⟨rest, rfl⟩, hr⟩
  · exact hms _ hs
  · exact hran _ _ hr hs
  · exact hran _ _ hr (hq _ _ hs)

/-! ### The laws -/

theorem closeAdditions_pending (before s : State) : (State.closeAdditions before s).pending = s.pending := by
  unfold State.closeAdditions; dsimp only; split_ifs <;> rfl

theorem pending_law (l : List Instr) : StepLaw fun s => s.pending = l where
  groups _ _ _ h := h
  seq _ _ _ _ _ _ h := h
  timers _ _ h := h
  sup _ _ _ h := h
  lmp _ _ _ _ h := h
  out _ _ _ h := h
  chan _ _ _ _ _ _ _ h := h
  flt _ _ _ _ _ h := h
  cbt _ _ _ _ h := h
  sch _ _ _ h := h
  clk _ _ _ _ h := h
  det _ _ _ h := h
  cfg _ _ _ h := h
  link _ _ _ _ h := h
  close _ _ h := (closeAdditions_pending _ _).trans h
  inputReset _ _ h := h
  poweredOn _ _ _ _ _ h := h

theorem sound_reset : Flt.reset.sound := ⟨Nat.zero_le _, List.Pairwise.nil⟩

theorem sound_law : StepLaw fun s => s.flt.sound where
  groups _ _ _ h := h
  seq _ _ _ _ _ _ h := h
  timers _ _ h := h
  sup _ _ _ h := h
  lmp _ _ _ _ h := h
  out _ _ _ h := h
  chan _ _ _ _ _ _ _ h := h
  flt _ _ _ hf _ h := hf h
  cbt _ _ _ _ h := h
  sch _ _ _ h := h
  clk _ _ _ _ h := h
  det _ _ _ h := h
  cfg _ _ _ h := h
  link _ _ _ _ h := h
  close before s h := by
    obtain ⟨-, he, -⟩ := Laws.closeAdditions_spec before s
    exact sound_map (g := id) (by rw [he, List.map_id]) (fun _ => ⟨rfl, rfl⟩) h
  inputReset _ _ _ := sound_reset
  poweredOn _ _ _ _ _ _ := sound_reset

theorem coilSafe_iff (s : State) : s.coilSafe ↔ ∀ c, (s.chan c).coilOk := Iff.rfl

theorem coilOk_reset : ChanRun.reset.coilOk := by
  refine ⟨⟨fun h => absurd rfl h, ?_⟩, fun _ => rfl⟩
  rintro (h | h) <;> cases h

theorem coilSafe_reset (c : Ch) : (Out.reset.chans.get c).coilOk := by
  rw [show Out.reset.chans.get c = ChanRun.reset from Tab.get_fill _ _]; exact coilOk_reset

theorem coil_law : StepLaw State.coilSafe where
  groups _ _ _ h := h
  seq _ _ _ _ _ _ h := h
  timers _ _ h := h
  sup _ _ _ h := h
  lmp _ _ _ _ h := h
  out s f hf h c := by
    have : (s.onOut f).chan c = s.chan c := by unfold State.chan; simp [hf.1]
    rw [this]; exact h c
  chan _ s c r hr _ _ h k := by
    show ((s.onChan c fun _ => r).chan k).coilOk
    by_cases hk : c = k
    · rw [← hk, State.onChan_self]; exact hr (h c)
    · rw [State.onChan_other _ _ hk]; exact h k
  flt _ _ _ _ _ h := h
  cbt _ _ _ _ h := h
  sch _ _ _ h := h
  clk _ _ _ _ h := h
  det _ _ _ h := h
  cfg _ _ _ h := h
  link _ _ _ _ h := h
  close before s h := by
    obtain ⟨-, -, -, -, -, -, -, hout, -⟩ := Laws.closeAdditions_spec before s
    intro c
    unfold State.chan
    rw [hout]; exact h c
  inputReset _ _ _ := coilSafe_reset
  poweredOn _ _ _ _ _ _ := coilSafe_reset

theorem urgent_law : StepLaw fun s => s.cbt.urgentOk where
  groups _ _ _ h := h
  seq _ _ _ _ _ _ h := h
  timers _ _ h := h
  sup _ _ _ h := h
  lmp _ _ _ _ h := h
  out _ _ _ h := h
  chan _ _ _ _ _ _ _ h := h
  flt _ _ _ _ _ h := h
  cbt _ _ _ hu h := hu h
  sch _ _ _ h := h
  clk _ _ _ _ h := h
  det _ _ _ h := h
  cfg _ _ _ h := h
  link _ _ _ _ h := h
  close before s h := by
    obtain ⟨-, -, -, -, -, -, -, -, -, hcbt, -⟩ := Laws.closeAdditions_spec before s
    rw [hcbt]; exact h
  inputReset _ _ _ := urgentOk_nil rfl
  poweredOn _ _ _ _ _ _ := urgentOk_nil rfl

theorem priorityOk_tickTimers {q : Seq} (h : q.priorityOk) : q.tickTimers.priorityOk := by
  have hhead (l : List PriorityReq) : (tickHead l).map (·.input) = l.map (·.input) := by cases l <;> rfl
  have hlen : (tickHead q.priority).length = q.priority.length := by simpa using congrArg List.length (hhead q.priority)
  exact ⟨hlen.le.trans h.1, (hhead q.priority).symm ▸ h.2⟩

theorem priority_law : StepLaw fun s => s.seq.priorityOk where
  groups s f hf h := by
    obtain ⟨gs, hgs, -⟩ := hf
    unfold Seq.priorityOk
    rw [State.onSeq_seq, hgs]
    exact h
  seq _ _ _ _ hp _ h := hp h
  timers _ _ h := priorityOk_tickTimers h
  sup _ _ _ h := h
  lmp _ _ _ _ h := h
  out _ _ _ h := h
  chan _ _ _ _ _ _ _ h := h
  flt _ _ _ _ _ h := h
  cbt _ _ _ _ h := h
  sch _ _ _ h := h
  clk _ _ _ _ h := h
  det _ _ _ h := h
  cfg _ _ _ h := h
  link _ _ _ _ h := h
  close before s h := by
    obtain ⟨-, -, -, -, -, -, hseq, -⟩ := Laws.closeAdditions_spec before s
    rw [hseq]; exact h
  inputReset _ _ _ := priorityOk_nil rfl
  poweredOn _ _ _ _ _ _ := priorityOk_nil rfl

end Acts
end Sys2Proof.Machine
end

section
/-! SUPPORT. The laws of the fault table, the coils and the lists, and the completion of every command. -/

namespace Sys2Proof.Machine

set_option Elab.async false
namespace Acts

variable {s t : State}

theorem StepLaw.step {P : State → Prop} (h : StepLaw P) (hms : ∀ s, P s → P (State.msTick s))
    (hq : ∀ (s : State) l, P s → P { s with pending := l }) (hstep : step s = .next t) (hs : P s) : P t :=
  step_holds (fun _ _ r hs => h.ran r hs) hms hq hstep hs

theorem coilOk_ms {r : ChanRun} (h : r.coilOk) : r.ms.coilOk := h

theorem coilSafe_msTick (h : s.coilSafe) : s.msTick.coilSafe := by
  intro c
  have : s.msTick.chan c = (s.chan c).ms := Tab.get_map _ _ _
  rw [this]
  exact coilOk_ms (h c)

theorem urgentOk_msTick (h : s.cbt.urgentOk) : s.msTick.cbt.urgentOk := by
  show s.cbt.ms.urgentOk
  unfold Cbt.ms
  split <;> exact h

end Acts
end Sys2Proof.Machine
end

section
/-! PROOFS. The statements O3, O4, O5 and O9. -/

open Sys2Proof
open Sys2Proof.Machine

/-- Settles O4, as a law of every write of the fault table. -/
theorem faultTableStaysSound : Obligations.FaultTableStaysSound := by
  unfold Obligations.FaultTableStaysSound
  exact fun _ _ hs hstep => Acts.sound_law.step (fun _ h => h) (fun _ _ h => h) hstep hs

/-- Settles O5, as a law of every write of a channel's fields. -/
theorem coilNeverDrivenOnTestBus : Obligations.CoilNeverDrivenOnTestBus := by
  unfold Obligations.CoilNeverDrivenOnTestBus
  exact fun _ _ hs hstep => Acts.coil_law.step (fun _ h => Acts.coilSafe_msTick h) (fun _ _ h => h) hstep hs

/-- Settles O9, as two laws: of every write of the sequencer's list, and of the tester's queue. -/
theorem listsKeepSizesWithoutRepeats : Obligations.ListsKeepSizesWithoutRepeats := by
  unfold Obligations.ListsKeepSizesWithoutRepeats
  rintro s t ⟨hlen, hnd, hurgent⟩ hstep
  obtain ⟨hlen', hnd'⟩ := Acts.priority_law.step (fun _ h => h) (fun _ _ h => h) hstep ⟨hlen, hnd⟩
  exact ⟨hlen', hnd', Acts.urgent_law.step (fun _ h => Acts.urgentOk_msTick h) (fun _ _ h => h) hstep hurgent⟩

/-- Settles O3: every command answers by one of the five shapes, and none of them writes the queue of waiting commands. -/
theorem commandsCompleteAndLeaveQueue : Obligations.CommandsCompleteAndLeaveQueue := by
  unfold Obligations.CommandsCompleteAndLeaveQueue
  intro c s
  obtain ⟨t, ht, hran⟩ := Acts.exec_ran c s
  exact ⟨t, ht, (Acts.pending_law s.pending).ran hran rfl⟩

end

section
/-! SUPPORT. What actions do to the colours of the groups and to the cabinet mode: the laws of the dark modes and of the groups
that gain a green. -/

namespace Sys2Proof.Machine

set_option Elab.async false

namespace Acts

variable {G : Gid → Prop} {K L : List Part} {s t u v : State}

/-! ### Colours through edits -/

theorem colours_evalRedHealth (g : Gid) : colours (s.evalRedHealth g) = colours s := by
  have hown (r : RedHealth) :
      colours (((s.onGroup g fun o => { o with redHealth := r }).refreshInhibited).refreshGrace) = colours s := by
    rw [colours_refreshGrace, colours_refreshInhibited]
    exact colours_onGroup _ _ rfl
  unfold State.evalRedHealth
  dsimp only
  split_ifs
  · rfl
  · rw [colours_report, hown]
  · rw [colours_clearFault, hown]
  · rw [hown]

theorem colours_abandonProbe : colours s.abandonProbe = colours s :=
  abandonProbe_keeps (p := colours) s (fun _ _ => rfl) (fun _ _ => rfl) fun _ _ _ _ _ => rfl

theorem Edit.colours_eq (h : Edit K s t) : colours t = colours s := by
  cases h with
  | demand gs h hg =>
    funext g
    show (gs.get g).colour = _
    rw [hg g]
    rfl
  | inhibit h => exact colours_refreshInhibited
  | health g h => exact colours_evalRedHealth g
  | green g h => exact colours_refreshGreen g
  | leak c h => exact colours_refreshLeak c
  | maintain c f h => exact colours_refreshLeak c
  | put c r new h => exact colours_putChan c new
  | abandon h => exact colours_abandonProbe
  | count c => exact countOperation_keeps (p := colours) s c (fun _ _ => rfl) fun _ _ _ => rfl
  | _ => rfl

theorem Edits.colours_eq (h : Edits K s t) : colours t = colours s := h.keeps_eq fun _ _ e => e.colours_eq

theorem colours_syncCommands : colours s.syncCommands = colours s := edits_syncCommands.colours_eq

/-! ### Colours painted -/

theorem colours_putColour (g : Gid) (col : Colour) (k : Gid) :
    colours (s.putColour g col) k = if g = k then col else colours s k := colour_putColour g col k

/-- A colour that is no gain. -/
abbrev Rest (c : Colour) : Prop := c ≠ .green ∧ c ≠ .redAmber

/-- What a group's colour can become without the group being among those that may gain. -/
def Settles (G : Gid → Prop) (s t : State) (g : Gid) : Prop := colours t g = colours s g ∨ Rest (colours t g) ∨ G g

theorem Settles.trans {g : Gid} (h : Settles G s t g) (h' : Settles G t u g) : Settles G s u g := by
  rcases h' with h' | h' | h'
  · rcases h with h | h | h
    · exact .inl (h'.trans h)
    · exact .inr (.inl (h' ▸ h))
    · exact .inr (.inr h)
  · exact .inr (.inl h')
  · exact .inr (.inr h')

theorem settles_of_eq {g : Gid} (h : colours t = colours s) : Settles G s t g := .inl (congrFun h g)

theorem settles_paint {g : Gid} (h : Paint G s t) : Settles G s t g := by
  cases h with
  | put k col hk hd =>
    unfold Settles
    rw [colours_putColour]
    by_cases hkg : k = g
    · subst hkg
      rw [if_pos rfl]
      by_cases hr : col = .green ∨ col = .redAmber
      · exact .inr (.inr (hk hr))
      · exact .inr (.inl (not_or.mp hr))
    · rw [if_neg hkg]; exact .inl rfl

theorem settles_paints {g : Gid} (h : Paints G s t) : Settles G s t g := by
  induction h with
  | refl => exact .inl rfl
  | tail _ e ih => exact ih.trans (settles_paint e)

theorem colours_relamped (c : Ch) : colours (((s.reinitLamp c).clearChannelEntries c).refreshLeak c) = colours s := by
  unfold State.clearChannelEntries State.clearLampFaults State.reinitLamp State.onLamp
  simp only [colours_refreshLeak, colours_clearFault, colours_onLmp]

theorem colours_resetTester : colours s.resetTester = colours s := by
  unfold State.resetTester
  dsimp only
  rw [Frames.forAll_keeps colours fun _ _ => colours_clearFault _ _]
  exact colours_abandonProbe

/-- The colour of a group after a structural commit (R14). -/
def rebuiltColour (s : State) (g : Gid) : Colour :=
  match s.kind g with
  | some k => if s.sup.mode = .flash then flashColour k else .darkAll
  | none => .darkAll

theorem rest_rebuiltColour (g : Gid) : Rest (rebuiltColour s g) := by
  unfold rebuiltColour
  split
  · split
    · exact flashColour_rest _
    · decide
  · decide

theorem colours_reinitGroup (before : State) (g k : Gid) :
    colours (s.reinitGroup before g) k = if g = k then rebuiltColour s g else colours s k := by
  unfold State.reinitGroup
  show ((s.seq.groups.modify g _).get k).colour = _
  rw [Tab.get_modify]
  split
  · rfl
  · rfl

/-- What a change at each index brings about stands after the changes at all of them. -/
theorem forAll_reaches {n : Nat} {Q : Fin n → State → Prop} {f : State → Fin n → State}
    (hset : ∀ t i, Q i (f t i)) (hkeep : ∀ t i j, Q j t → Q j (f t i)) (s : State) (j : Fin n) : Q j (s.forAll f) := by
  have go (l : List (Fin n)) (t : State) (h : j ∈ l ∨ Q j t) : Q j (l.foldl f t) := by
    induction l generalizing t with
    | nil => exact h.resolve_left List.not_mem_nil
    | cons a l ih =>
      refine ih _ ?_
      rcases h with h | h
      · rcases List.mem_cons.mp h with rfl | h
        · exact .inr (hset _ _)
        · exact .inl h
      · exact .inr (hkeep _ _ _ h)
  exact go _ s (.inl (List.mem_finRange j))

theorem colours_reinitGroups (before : State) (k : Gid) :
    colours (s.forAll fun (t : State) (g : Gid) => t.reinitGroup before g) k = rebuiltColour s k := by
  have hcolour {t : State} {g : Gid} (hcfg : t.cfg = s.cfg) (hsup : t.sup = s.sup) : rebuiltColour t g = rebuiltColour s g := by
    unfold rebuiltColour State.kind State.groupRec
    rw [hcfg, hsup]
  have hreach := forAll_reaches (Q := fun k t => t.cfg = s.cfg → t.sup = s.sup → colours t k = rebuiltColour s k)
    (f := fun (t : State) (g : Gid) => t.reinitGroup before g)
    (fun t i hc hs => by rw [colours_reinitGroup, if_pos rfl]; exact hcolour hc hs)
    (fun t i j h hc hs => by
      rw [colours_reinitGroup]
      split
      · next hij => subst hij; exact hcolour hc hs
      · exact h hc hs) s k
  exact hreach (Frames.forAll_keeps State.cfg (fun _ _ => State.onGroup_cfg _ _ _) s)
    (Frames.forAll_keeps State.sup (fun _ _ => State.onGroup_sup _ _ _) s)

theorem colours_rebuilt (before : State) (k : Gid) : colours (s.rebuilt before) k = rebuiltColour s k := by
  unfold State.rebuilt
  dsimp only
  rw [← colours_reinitGroups before k]
  refine congrFun ?_ k
  rw [colours_refreshConflicts]
  rw [Frames.forAll_keeps colours fun _ g => colours_refreshGreen g, colours_refreshInhibited]
  unfold State.evalAllRedHealth
  rw [Frames.forAll_keeps colours fun _ g => colours_evalRedHealth g, Frames.forAll_keeps colours fun _ c => colours_relamped c,
    colours_syncCommands]

theorem paints_dark : Paints G s (s.forAll fun (t : State) (g : Gid) =>
    match t.kind g with | some _ => t.putColour g .darkAll | none => t) :=
  paints_setAll (f := fun _ => .darkAll) (fun _ => by decide) (.inl fun _ => rfl)

/-- Every action keeps a group's colour, or gives it one that is no gain, but for the groups that may gain. -/
theorem Act.settles (h : Act G K s t) (g : Gid) : Settles G s t g := by
  cases h with
  | edit h => exact settles_of_eq h.colours_eq
  | paint h => exact (settles_paints h).trans (settles_of_eq colours_syncCommands)
  | dim f k q hm hk hc he hq hg hu hgr hcf hsp hgentle =>
    have hmode : colours ((s.onMode f).onContactor k) = colours s := by
      unfold State.onMode; dsimp only; split <;> rfl
    have hdark : Settles G s (((s.onMode f).onContactor k).setAllColours fun _ => .darkAll) g :=
      (settles_of_eq hmode).trans ((settles_paints paints_dark).trans (settles_of_eq colours_syncCommands))
    refine hdark.trans (settles_of_eq ?_)
    funext j
    show ((q _).groups.get j).colour = _
    rw [(hgentle _).1]
    rfl
  | enter f q hm hf hq hg hu hgr hcf hsp hgentle =>
    refine settles_of_eq ?_
    funext j
    show ((q (s.onMode f).seq).groups.get j).colour = _
    rw [(hgentle _).1]
    unfold State.onMode; dsimp only; split <;> rfl
  | seq f hm hg hp =>
    refine settles_of_eq ?_
    funext j
    show ((f s.seq).groups.get j).colour = _
    rw [hg]; rfl
  | timers hm =>
    refine settles_of_eq ?_
    funext j
    show GroupRun.colour ((s.seq.groups.map _).get j) = _
    rw [Tab.get_map]; rfl
  | rebuild new hm =>
    refine .inr (.inl ?_)
    rw [colours_rebuilt]
    exact rest_rebuiltColour g
  | sup f hm => exact .inl rfl
  | sch f hm => exact .inl rfl
  | clk f hm => exact .inl rfl
  | det f hm => exact .inl rfl
  | install new hm => exact .inl rfl
  | cfg f hm => exact .inl rfl
  | link f hm => exact .inl rfl

theorem settles (h : Acts G K s t) (g : Gid) : Settles G s t g := by
  induction h with
  | refl => exact .inl rfl
  | tail _ e ih => exact ih.trans (e.settles g)

end Acts
end Sys2Proof.Machine
end

section
/-! SUPPORT. The end of an event, the reply slots at it, and the records an action leaves alone. -/

namespace Sys2Proof.Machine

set_option Elab.async false

namespace Acts

variable {G : Gid → Prop} {K L : List Part} {s t u v : State}

theorem colours_closeAdditions (before : State) : colours (State.closeAdditions before s) = colours s := by
  obtain ⟨-, -, -, -, -, -, hseq, -⟩ := Laws.closeAdditions_spec before s
  unfold colours State.group
  rw [hseq]

theorem colours_powerOn (held : Bool) (tenths : Nat) (vbakLow fast : Bool) (g : Gid) :
    colours (s.powerOn held tenths vbakLow fast) g = .darkAll := by
  have hon : colours (poweredOn s held tenths vbakLow fast) g = .darkAll := congrArg GroupRun.colour (Tab.get_fill _ _)
  rw [powerOn_eq]
  split
  · exact hon
  · rw [colours_closeAdditions, colours_report]; exact hon

theorem colours_inputReset (fast : Bool) (g : Gid) : colours (s.inputReset fast) g = .darkAll :=
  congrArg GroupRun.colour (Tab.get_fill _ _)

/-- A command lets no group gain a green or a red-amber but those that may. -/
theorem Ran.settles (h : Ran G s t) (g : Gid) : Settles G s t g := by
  cases h with
  | quiet h => exact Acts.settles h g
  | pulse => exact .inl rfl
  | finished h => exact (Acts.settles (acts_finished h.acts) g).trans (settles_of_eq (colours_closeAdditions _))
  | inputReset fast => exact .inr (.inl (by rw [colours_inputReset]; decide))
  | powerOn held tenths vbakLow fast => exact .inr (.inl (by rw [colours_powerOn]; decide))

/-! ### The modes and the kinds -/

theorem mode_paints (h : Paints G s t) : t.sup.mode = s.sup.mode := by
  induction h with
  | refl => rfl
  | tail _ e ih => cases e with | put g col => rw [putColour_sup]; exact ih

/-- No action but those of the cabinet modes enters a mode. -/
theorem Act.mode_eq (h : Act G K s t) (hK : Part.mode ∉ K) (hR : Part.cfg ∉ K) : t.sup.mode = s.sup.mode := by
  cases h with
  | edit h => exact h.mode_eq
  | paint h => rw [mode_syncCommands, mode_paints h]
  | dim f k q hm => exact absurd hm hK
  | enter f q hm => exact absurd hm hK
  | sup f hm hmode => exact hmode
  | rebuild new hc => exact absurd hc hR
  | _ => rfl

theorem mode_eq (h : Acts G K s t) (hK : Part.mode ∉ K := by decide) (hR : Part.cfg ∉ K := by decide) :
    t.sup.mode = s.sup.mode := h.keeps_eq (p := fun s => s.sup.mode) fun _ _ e => e.mode_eq hK hR

theorem cfg_edit (h : Edit K s t) : t.cfg = s.cfg := by
  rcases h.blind_or with ⟨f, rfl, -, -⟩ | rfl | ⟨tag, code, st, b, rfl, -⟩ | hp
  · rfl
  · exact Frames.cfg_of_base (Frames.base_abandonProbe s)
  · rfl
  · exact hp ⟨fun _ _ => rfl, fun _ _ => rfl, fun _ _ => rfl, fun _ _ => rfl, fun _ _ => rfl⟩

/-- A law of the configuration, for the actions that leave it alone. -/
theorem cfg_law (c : Cfg) (hK : Part.cfg ∉ K) : Law K fun s => s.cfg = c where
  groups _ _ _ h := h
  seq _ _ _ _ _ _ h := h
  timers _ _ h := h
  sup _ _ _ h := h
  lmp _ _ _ _ h := h
  out _ _ _ h := h
  chan _ _ _ _ _ _ _ h := h
  flt _ _ _ _ _ h := h
  cbt _ _ _ _ h := h
  sch _ _ _ h := h
  clk _ _ _ _ h := h
  det _ _ _ h := h
  cfg hm := absurd hm hK
  link _ _ _ _ h := h

theorem cfg_eq (h : Acts G K s t) (hK : Part.cfg ∉ K := by decide) : t.cfg = s.cfg := (cfg_law s.cfg hK).acts h rfl

/-! ### The pending commit -/

theorem cfg_resetTester : s.resetTester.cfg = s.cfg :=
  (cfg_law (K := [.answer, .cbt, .flt, .starved]) s.cfg (by decide)).resetTester (by decide) (by decide) (by decide)
    (by decide) rfl

theorem cfg_rebuilt (before : State) : (s.rebuilt before).cfg = s.cfg :=
  (cfg_law (K := inner.erase .cfg) s.cfg (by decide)).rebuilt (by decide) (by decide) (by decide) (by decide) (by decide)
    (by decide) (by decide) (by decide) (by decide) before rfl

theorem pendingCommit_applyCommit (new : ConfigSet) : (s.applyCommit new).cfg.pendingCommit = s.cfg.pendingCommit := by
  unfold State.applyCommit
  dsimp only
  have htail {t : State} : ((t.scheduleAtCommit).retakeActive s).cfg = t.cfg :=
    cfg_eq (G := fun _ => True) ((acts_scheduleAtCommit).up.trans (acts_retakeActive s).up (K := scheduleParts))
  have hretake {t : State} : (t.retakeTiming s).cfg = t.cfg := cfg_eq (G := fun _ => True) (acts_retakeTiming s)
  have hreclass {t : State} : (t.reinitRecords s).cfg = t.cfg := by
    rw [State.reinitRecords_eq, ← cfg_rebuilt (s := t) s]
    exact cfg_eq (G := fun _ => True) (Acts.forAll _ fun _ _ => acts_reclassRelayFault s _)
  rw [htail]
  split
  · rw [hretake]; rfl
  · show ((((s.install new).resetTester).reinitRecords s).retakeTiming s).cfg.pendingCommit = _
    rw [hretake, hreclass, cfg_resetTester]
    rfl

theorem pendingCommit_drainPending (h : s.drainPending.sup.mode.drains = true) : s.drainPending.cfg.pendingCommit = none := by
  unfold State.drainPending at h ⊢
  split at h
  · next hd =>
    rw [if_pos hd]
    unfold State.applyPending
    split
    · exact pendingCommit_applyCommit _
    · assumption
  · next hd => exact absurd h hd

/-- The end of a step leaves no addition uncounted and no commit pending where its mode releases it. -/
theorem betweenSteps_finish : (State.finish s v).betweenSteps := by
  obtain ⟨hadded, -, -, -, -, -, -, -, -, -, hsup, -⟩ := Laws.closeAdditions_spec s (State.takeInhibition s v.drainPending)
  refine ⟨hadded, fun hd => ?_⟩
  have hcfg : (State.finish s v).cfg = v.drainPending.cfg := by
    have hclose (b t : State) : (State.closeAdditions b t).cfg = t.cfg := by
      unfold State.closeAdditions; dsimp only; split_ifs <;> rfl
    unfold State.finish
    rw [hclose]
    exact Frames.cfg_of_base (Frames.base_takeInhibition _ _)
  have hmode : (State.finish s v).sup.mode = v.drainPending.sup.mode := by
    unfold State.finish
    rw [hsup]
    exact mode_eq (G := fun _ => True) (K := greenParts) (either (fun _ => Acts.forAll _ fun _ _ =>
      either (fun _ => acts_dropIfInhibited _) fun _ => refl _) fun _ => refl _)
  rw [hcfg]
  rw [hmode] at hd
  exact pendingCommit_drainPending hd

/-- The fault table stands where no action writes it. -/
theorem flt_law (f : Flt) (hK : Part.flt ∉ K) : Law K fun s => s.flt = f where
  groups _ _ _ h := h
  seq _ _ _ _ _ _ h := h
  timers _ _ h := h
  sup _ _ _ h := h
  lmp _ _ _ _ h := h
  out _ _ _ h := h
  chan _ _ _ _ _ _ _ h := h
  flt hm := absurd hm hK
  cbt _ _ _ _ h := h
  sch _ _ _ h := h
  clk _ _ _ _ h := h
  det _ _ _ h := h
  cfg _ _ _ h := h
  link _ _ _ _ h := h

/-- Quiet actions count no addition, enter no mode and leave the configuration alone. -/
theorem betweenSteps_quiet (h : Acts G quietParts s t) (hs : s.betweenSteps) : t.betweenSteps := by
  have hflt : t.flt.added = s.flt.added := congrArg Flt.added ((flt_law s.flt (by decide)).acts h rfl)
  unfold State.betweenSteps
  rw [hflt, mode_eq h, cfg_eq h]
  exact hs

theorem betweenSteps_ran (h : Ran G s t) (hs : s.betweenSteps) : t.betweenSteps := by
  cases h with
  | quiet h => exact betweenSteps_quiet h hs
  | pulse => exact hs
  | finished h => exact betweenSteps_finish
  | inputReset fast => exact ⟨rfl, fun h => absurd h nofun⟩
  | powerOn held tenths vbakLow fast =>
    rw [powerOn_eq]
    split
    · exact ⟨rfl, fun h => absurd h nofun⟩
    · obtain ⟨hadded, -, -, -, -, -, -, -, -, -, hsup, -⟩ := Laws.closeAdditions_spec (poweredOn s held tenths vbakLow fast)
        ((poweredOn s held tenths vbakLow fast).report .timeInvalid .nothing)
      refine ⟨hadded, fun hd => ?_⟩
      rw [hsup] at hd
      exact absurd hd nofun

/-! ### The dark modes -/

theorem kind_of_cfg (h : t.cfg.running.st = s.cfg.running.st) (g : Gid) : t.kind g = s.kind g := by
  unfold State.kind State.groupRec
  rw [h]

theorem darkWhereDue_iff : s.darkWhereDue ↔
    ∀ g, (s.kind g = none ∨ s.sup.mode.unlit = true) → colours s g = .darkAll :=
  ⟨fun h g hg => hg.elim (h.1 g) fun hu => h.2 hu g, fun h => ⟨fun g hg => h g (.inl hg), fun hu g => h g (.inr hu)⟩⟩

theorem dark_of_same (hk : t.cfg.running.st = s.cfg.running.st) (hm : t.sup.mode = s.sup.mode) (hc : colours t = colours s)
    (hs : s.darkWhereDue) : t.darkWhereDue := by
  rw [darkWhereDue_iff] at hs ⊢
  intro g hg
  rw [hc]
  exact hs g (by rwa [kind_of_cfg hk, hm] at hg)

theorem dark_paint (h : Paint G s t) (hs : s.darkWhereDue) : t.darkWhereDue := by
  cases h with
  | put g col hg hd =>
    rw [darkWhereDue_iff] at hs ⊢
    intro k hk
    have hkind : (s.putColour g col).kind k = s.kind k :=
      kind_of_cfg (by rw [Frames.cfg_of_base (Frames.base_putColour s g col)]) k
    have hk' : s.kind k = none ∨ s.sup.mode.unlit = true := by
      rwa [putColour_sup, hkind] at hk
    rw [colours_putColour]
    split
    · next hgk =>
      subst hgk
      rcases hd with hd | hd | ⟨hf, hl⟩
      · exact hd
      · exact absurd (hs g hk') hd
      · rcases hk' with hn | hu
        · unfold State.fitted at hf
          rw [hn] at hf
          exact absurd hf nofun
        · rw [hl] at hu
          exact absurd hu nofun
    · exact hs k hk'

theorem dark_paints (h : Paints G s t) (hs : s.darkWhereDue) : t.darkWhereDue := by
  induction h with
  | refl => exact hs
  | tail _ e ih => exact dark_paint e ih

theorem cfg_syncCommands : s.syncCommands.cfg = s.cfg := Frames.cfg_of_base (Frames.base_syncCommands s)

theorem dark_syncCommands (hs : s.darkWhereDue) : s.syncCommands.darkWhereDue :=
  dark_of_same (by rw [cfg_syncCommands]) mode_syncCommands colours_syncCommands hs

/-- Every group is in DARK_ALL once every fitted group has entered it. -/
theorem allDark_set (hs : ∀ g, s.kind g = none → colours s g = .darkAll) (g : Gid) :
    colours (s.setAllColours fun _ => .darkAll) g = .darkAll := by
  unfold State.setAllColours
  rw [colours_syncCommands]
  have hcfg {t : State} (i : Gid) :
      (match t.kind i with | some _ => t.putColour i .darkAll | none => t).cfg = t.cfg := by
    split
    · exact Frames.cfg_of_base (Frames.base_putColour _ _ _)
    · rfl
  have hdark {t : State} (i k : Gid) (h : colours t k = .darkAll) :
      colours (match t.kind i with | some _ => t.putColour i .darkAll | none => t) k = .darkAll := by
    split
    · rw [colours_putColour]; split_ifs; exacts [rfl, h]
    · exact h
  by_cases hg : s.kind g = none
  · exact Frames.forAll_invariant (P := fun t => colours t g = .darkAll) (fun t i ht => hdark i g ht) (hs g hg)
  · have hreach := forAll_reaches (Q := fun g t => t.cfg = s.cfg → s.kind g ≠ none → colours t g = .darkAll)
      (f := fun (t : State) (g : Gid) => match t.kind g with | some _ => t.putColour g .darkAll | none => t)
      (fun t i hc hk => by
        rw [hcfg] at hc
        rw [← kind_of_cfg (t := t) (by rw [hc])] at hk
        split
        · rw [colours_putColour, if_pos rfl]
        · next hn => exact absurd hn hk)
      (fun t i j h hc hk => hdark i j (h ((hcfg i).symm.trans hc) hk)) s g
    exact hreach (Frames.forAll_keeps State.cfg (fun _ i => hcfg i) s) hg

theorem sup_clearFault (k : FaultKind) (x : Subject) : (s.clearFault k x).sup = s.sup := by
  unfold State.clearFault; exact State.onFlt_sup _ _

theorem sup_clearChannelEntries (c : Ch) : (s.clearChannelEntries c).sup = s.sup := by
  unfold State.clearChannelEntries State.clearLampFaults
  rw [sup_clearFault, sup_clearFault, sup_clearFault, sup_clearFault, sup_clearFault, sup_clearFault]

theorem sup_reinitLamp (c : Ch) : (s.reinitLamp c).sup = s.sup := by
  unfold State.reinitLamp; exact State.onLamp_sup _ _ _

/-- The cabinet mode, as a projection under a name of its own. -/
def modeOf (s : State) : Mode := s.sup.mode

theorem modeOf_refreshConflicts : modeOf s.refreshConflicts = modeOf s := rfl
theorem modeOf_refreshInhibited : modeOf s.refreshInhibited = modeOf s := rfl
theorem modeOf_evalRedHealth (g : Gid) : modeOf (s.evalRedHealth g) = modeOf s := mode_evalRedHealth g
theorem modeOf_refreshGreen (g : Gid) : modeOf (s.refreshGreen g) = modeOf s := mode_refreshGreen g

theorem modeOf_reinitLamp (c : Ch) :
    modeOf (((s.reinitLamp c).clearChannelEntries c).refreshLeak c) = modeOf s := by
  unfold modeOf; rw [sup_refreshLeak, sup_clearChannelEntries, sup_reinitLamp]

theorem modeOf_reinitGroup (before : State) (g : Gid) : modeOf (s.reinitGroup before g) = modeOf s := by
  unfold modeOf State.reinitGroup; rw [State.onGroup_sup]

theorem modeOf_evalAllRedHealth : modeOf s.evalAllRedHealth = modeOf s := by
  unfold State.evalAllRedHealth
  exact Frames.forAll_keeps modeOf (fun _ g => modeOf_evalRedHealth g) s

theorem modeOf_syncCommands : modeOf s.syncCommands = modeOf s := mode_syncCommands

theorem mode_rebuilt (before : State) : (s.rebuilt before).sup.mode = s.sup.mode := by
  change modeOf (s.rebuilt before) = modeOf s
  unfold State.rebuilt
  dsimp only
  rw [modeOf_refreshConflicts, Frames.forAll_keeps modeOf fun _ g => modeOf_refreshGreen g,
    modeOf_refreshInhibited, modeOf_evalAllRedHealth,
    Frames.forAll_keeps modeOf fun _ c => modeOf_reinitLamp c, modeOf_syncCommands,
    Frames.forAll_keeps modeOf fun _ g => modeOf_reinitGroup before g]

theorem dark_rebuiltColour {g : Gid} (h : s.kind g = none ∨ s.sup.mode.unlit = true) : rebuiltColour s g = .darkAll := by
  unfold rebuiltColour
  rcases h with h | h
  · rw [h]
  · split
    · rw [if_neg fun hm => by rw [hm] at h; exact absurd h nofun]
    · rfl

/-- Every action keeps the dark modes dark and the unfitted groups too. -/
theorem Act.dark (h : Act G K s t) (hs : s.darkWhereDue) : t.darkWhereDue := by
  cases h with
  | edit h => exact dark_of_same (by rw [cfg_edit h]) h.mode_eq h.colours_eq hs
  | paint h => exact dark_syncCommands (dark_paints h hs)
  | dim f k q hm hk hc he hq hg hu hgr hcf hsp hgentle =>
    have hcfg : ((s.onMode f).onContactor k).cfg = s.cfg := Frames.cfg_of_base (Frames.base_onMode s f)
    have hseq : colours ((s.onMode f).onContactor k) = colours s := by
      unfold State.onMode; dsimp only; split <;> rfl
    have hdark := allDark_set (s := (s.onMode f).onContactor k) fun g hn => by
      rw [hseq]
      exact hs.1 g ((kind_of_cfg (by rw [hcfg]) g).symm.trans hn)
    rw [darkWhereDue_iff]
    intro g _
    have hq : colours (((((s.onMode f).onContactor k).setAllColours fun _ => .darkAll).onSeq q).refreshGrace) =
        colours (((s.onMode f).onContactor k).setAllColours fun _ => .darkAll) := by
      rw [colours_refreshGrace]
      funext j
      show ((q _).groups.get j).colour = _
      rw [(hgentle _).1]
      rfl
    rw [hq]
    exact hdark g
  | enter f q hm hf hq hg hu hgr hcf hsp hgentle =>
    have hcfg : (((s.onMode f).onSeq q).refreshGrace).cfg = s.cfg := Frames.cfg_of_base (Frames.base_onMode s f)
    have hmode : (((s.onMode f).onSeq q).refreshGrace).sup.mode = (f s.sup).mode := by
      show (s.onMode f).sup.mode = _
      unfold State.onMode; dsimp only; split <;> rfl
    have hcol : colours (((s.onMode f).onSeq q).refreshGrace) = colours s := by
      funext j
      show ((q (s.onMode f).seq).groups.get j).colour = _
      rw [(hgentle _).1]
      unfold State.onMode; dsimp only; split <;> rfl
    rw [darkWhereDue_iff]
    intro g hg
    rw [hcol]
    rw [hmode, hu] at hg
    exact hs.1 g ((kind_of_cfg (by rw [hcfg]) g).symm.trans (hg.resolve_right nofun))
  | seq f hm hg hp =>
    refine dark_of_same (s := s) rfl rfl ?_ hs
    funext j
    show ((f s.seq).groups.get j).colour = _
    rw [hg]; rfl
  | timers hm =>
    refine dark_of_same (s := s) rfl rfl ?_ hs
    funext j
    show GroupRun.colour ((s.seq.groups.map _).get j) = _
    rw [Tab.get_map]; rfl
  | rebuild new hm =>
    rw [darkWhereDue_iff]
    intro g hg
    rw [colours_rebuilt]
    rw [kind_of_cfg (s := (s.install new).resetTester) (by rw [cfg_rebuilt]), mode_rebuilt] at hg
    exact dark_rebuiltColour hg
  | sup f hm hmode => exact dark_of_same (s := s) (t := s.onSup f) rfl hmode rfl hs
  | sch f hm => exact hs
  | clk f hm => exact hs
  | det f hm => exact hs
  | install new hm hf hst => exact dark_of_same (s := s) (t := s.install new) hst rfl rfl hs
  | cfg f hm hr => exact dark_of_same (s := s) (t := s.onCfg f) (by rw [State.onCfg_cfg, hr]) rfl rfl hs
  | link f hm => exact hs

theorem dark_closeAdditions (before : State) (hs : s.darkWhereDue) : (State.closeAdditions before s).darkWhereDue := by
  refine dark_of_same (s := s) ?_ ?_ (colours_closeAdditions before) hs
  · unfold State.closeAdditions; dsimp only; split_ifs <;> rfl
  · rw [(Laws.closeAdditions_spec before s).2.2.2.2.2.2.2.2.2.2.1]

theorem Ran.dark (h : Ran G s t) (hs : s.darkWhereDue) : t.darkWhereDue := by
  cases h with
  | quiet h => exact h.keeps hs fun _ _ e => e.dark
  | pulse => exact hs
  | finished h => exact dark_closeAdditions _ ((acts_finished h.acts).keeps hs fun _ _ e => e.dark)
  | inputReset fast => exact darkWhereDue_iff.mpr fun g _ => colours_inputReset fast g
  | powerOn held tenths vbakLow fast => exact darkWhereDue_iff.mpr fun g _ => colours_powerOn held tenths vbakLow fast g

theorem colours_msTick : colours s.msTick = colours s := rfl

theorem dark_msTick (hs : s.darkWhereDue) : s.msTick.darkWhereDue := dark_of_same (s := s) rfl rfl rfl hs

/-! ### The reply slots at the end of a step -/

/-- A notice takes a free slot (R184). -/
theorem owing_notice {n : Nat} (f : OutFrame) (hroom : Config.noticeSlots ≤ s.lnk.freeSlots) (hs : s.owing n) :
    (s.onLnk fun l => { l with output := l.output ++ [f] }).owing n := by
  obtain ⟨hr, hout, hin⟩ := hs
  refine ⟨hr, ?_, hin⟩
  unfold Lnk.freeSlots Config.noticeSlots at hroom
  simp only [State.onLnk_lnk, List.length_append, List.length_cons, List.length_nil]
  omega

theorem owing_closeAdditions {n : Nat} (before : State) (hs : s.owing n) : (State.closeAdditions before s).owing n := by
  unfold State.closeAdditions
  split
  · dsimp only
    generalize hu : s.onFlt _ = u
    have hown : u.owing n := hu ▸ owing_of_rim (blind_rim.flt _ _) hs
    split
    · next h =>
      rw [Bool.and_eq_true, decide_eq_true_eq] at h
      exact owing_notice _ h.2 hown
    · exact hown
  · exact hs

theorem owing_poweredOn (held : Bool) (tenths : Nat) (vbakLow fast : Bool) :
    (poweredOn s held tenths vbakLow fast).owing 0 := by
  refine ⟨?_, Nat.zero_le _, Nat.zero_le _⟩
  show 0 = (s.clk.powerOn held tenths vbakLow).setTags.length + 0 + 0
  unfold Clk.powerOn
  split <;> rfl

theorem Ran.owing (h : Ran G s t) (hs : s.owing 0) : t.owing 0 := by
  cases h with
  | quiet h => exact Acts.owing h hs
  | pulse => exact hs
  | finished h =>
    exact owing_closeAdditions _ ((acts_takeInhibition (G := G) s).owing (acts_drainPending (G := G).owing (h.owing 0 hs)))
  | inputReset fast => exact ⟨rfl, Nat.zero_le _, Nat.zero_le _⟩
  | powerOn held tenths vbakLow fast =>
    rw [powerOn_eq]
    split
    · exact owing_poweredOn _ _ _ _
    · exact owing_closeAdditions _ (owing_of_rim (blind_rim.report _ _) (owing_poweredOn (s := s) held tenths vbakLow fast))

theorem owesReply_ms (b : Cbt) : b.ms.owesReply = b.owesReply := by
  unfold Cbt.ms; split <;> rfl

theorem owing_msTick (hs : s.owing 0) : s.msTick.owing 0 := by
  obtain ⟨hr, hout, hin⟩ := hs
  refine ⟨?_, hout, hin⟩
  show s.lnk.reserved = s.clk.setTags.length + s.cbt.ms.owesReply + 0
  rw [owesReply_ms]
  exact hr

end Acts
end Sys2Proof.Machine
end

section
/-! PROOFS. The statements O7, O8, O10 and O12. -/

open Sys2Proof
open Sys2Proof.Machine

/-- Settles O7, by the conditions under which an action gives a group a colour other than DARK_ALL. -/
theorem darkModesKeepGroupsDark : Obligations.DarkModesKeepGroupsDark := by
  unfold Obligations.DarkModesKeepGroupsDark
  exact fun _ _ hs hstep => Acts.step_holds (fun _ _ r h => r.dark h) (fun _ h => Acts.dark_msTick h) (fun _ _ h => h) hstep hs

/-- Settles O8, by the balance of reservations and deferred replies through every action. -/
theorem replySlotsStaySound : Obligations.ReplySlotsStaySound := by
  unfold Obligations.ReplySlotsStaySound
  exact fun _ _ hs hstep => Acts.step_holds (P := State.owing 0) (fun _ _ r h => r.owing h) (fun _ h => Acts.owing_msTick h)
    (fun _ _ h => h) hstep hs

/-- Settles O10: the end of a step counts the additions and drains the commit, and a command without one makes neither. -/
theorem everyStepCountsAdditionsAndDrainsCommit : Obligations.EveryStepCountsAdditionsAndDrainsCommit := by
  unfold Obligations.EveryStepCountsAdditionsAndDrainsCommit
  exact fun _ _ hs hstep => Acts.step_holds (fun _ _ r h => Acts.betweenSteps_ran r h) (fun _ h => h) (fun _ _ h => h) hstep hs

/-- Settles O12: a command lets no group gain a green or a red-amber but one that is not inhibited. -/
theorem inhibitedGroupNeverGainsGreen : Obligations.InhibitedGroupNeverGainsGreen := by
  unfold Obligations.InhibitedGroupNeverGainsGreen
  intro c s t g hexec hi
  rcases (Acts.exec_next c hexec).settles g with h | h | h
  · have h' : (t.group g).colour = (s.group g).colour := h
    rw [h']
    exact ⟨id, id⟩
  · exact ⟨fun hg => absurd hg h.1, fun hr => absurd hr h.2⟩
  · exact absurd (h.symm.trans hi) nofun

end

section
/-! SUPPORT. A report into the fault table (R176, R178): by what the table holds for the key, and by which entry a full
table evicts. -/

namespace Sys2Proof.Machine

set_option Elab.async false

namespace FaultTable

variable {f : Flt} {k : FaultKind} {x : Subject} {safety : Bool} {now : Stamp} {l a b : List FaultEntry} {v : FaultEntry}

/-! ### What a report does -/

theorem union_ofFaultNew (p : PendingSet) : p.union PendingSet.ofFaultNew = { p with faultNew := true } := by
  simp [PendingSet.union, PendingSet.ofFaultNew, PendingSet.empty]

theorem any_hasKey_iff : (l.any fun e => e.hasKey k x) = true ↔ ∃ e ∈ l, e.kind = k ∧ e.subject = x := by
  simp

theorem any_hasKey_of_none (h : ∀ e ∈ l, ¬(e.kind = k ∧ e.subject = x)) : ¬(l.any fun e => e.hasKey k x) = true :=
  fun hany => (any_hasKey_iff.mp hany).elim fun e he => h e he.1 he.2

theorem report_of_known (h : ∃ e ∈ f.entries, e.kind = k ∧ e.subject = x) :
    f.report k x safety now =
      { f with
        entries := f.entries.map fun e => if e.hasKey k x then e.again safety now else e
        pendingSet := { f.pendingSet with faultChange := true }
        added := true } := by
  rw [Flt.report, if_pos (any_hasKey_iff.mpr h), union_ofFaultChange]

theorem report_of_room (h : ∀ e ∈ f.entries, ¬(e.kind = k ∧ e.subject = x)) (hroom : f.entries.length < 64) :
    f.report k x safety now =
      { f with
        entries := f.entries ++ [FaultEntry.fresh k x safety now]
        pendingSet := { f.pendingSet with faultNew := true }
        added := true } := by
  rw [Flt.report, if_neg (any_hasKey_of_none h), if_pos (show f.entries.length < Config.faultCapacity from hroom),
    union_ofFaultNew]

theorem report_of_evictee {i : Nat} (h : ∀ e ∈ f.entries, ¬(e.kind = k ∧ e.subject = x)) (hfull : 64 ≤ f.entries.length)
    (hi : evictee f.entries safety = some i) :
    f.report k x safety now =
      { f with
        entries := f.entries.eraseIdx i ++ [FaultEntry.fresh k x safety now]
        pendingSet := { f.pendingSet with faultNew := true, faultChange := true }
        added := true } := by
  rw [Flt.report, if_neg (any_hasKey_of_none h), if_neg (show ¬f.entries.length < Config.faultCapacity from not_lt.mpr hfull),
    hi]
  dsimp only
  rw [union_ofFaultChange, union_ofFaultNew]

theorem report_of_overflow (h : ∀ e ∈ f.entries, ¬(e.kind = k ∧ e.subject = x)) (hfull : 64 ≤ f.entries.length)
    (hi : evictee f.entries safety = none) :
    f.report k x safety now =
      { f with overflow := true, pendingSet := { f.pendingSet with faultNew := true }, added := true } := by
  rw [Flt.report, if_neg (any_hasKey_of_none h), if_neg (show ¬f.entries.length < Config.faultCapacity from not_lt.mpr hfull),
    hi]
  dsimp only
  rw [union_ofFaultNew]

/-! ### The evicted entry -/

/-- The first place that meets `p`, where all before it do not. -/
theorem findIdx?_append_cons {p : FaultEntry → Bool} (hv : p v = true) (ha : ∀ e ∈ a, p e = false) :
    (a ++ v :: b).findIdx? p = some a.length := by
  rw [List.findIdx?_append, List.findIdx?_eq_none_iff.mpr ha, List.findIdx?_cons, if_pos hv]
  simp

theorem evictee_of_acked (hv : v.active = false) (hv' : v.acked = true)
    (ha : ∀ e ∈ a, ¬(e.active = false ∧ e.acked = true)) : evictee (a ++ v :: b) safety = some a.length := by
  unfold evictee
  rw [findIdx?_append_cons (by simp [hv, hv']) fun e he => by simpa using ha e he]

theorem evictee_of_cleared (hv : v.active = false) (hl : ∀ e ∈ a ++ v :: b, ¬(e.active = false ∧ e.acked = true))
    (ha : ∀ e ∈ a, e.active = true) : evictee (a ++ v :: b) safety = some a.length := by
  have hnone : (a ++ v :: b).findIdx? (fun e => !e.active && e.acked) = none :=
    List.findIdx?_eq_none_iff.mpr fun e he => by simpa using hl e he
  unfold evictee
  rw [hnone, findIdx?_append_cons (by simp [hv]) fun e he => by simp [ha e he]]

theorem evictee_of_active (hl : ∀ e ∈ l, e.active = true) :
    evictee l safety = if safety then l.findIdx? (fun e => !e.safety && e.active) else none := by
  have hacked : l.findIdx? (fun e => !e.active && e.acked) = none :=
    List.findIdx?_eq_none_iff.mpr fun e he => by simp [hl e he]
  have hcleared : l.findIdx? (fun e => !e.active) = none :=
    List.findIdx?_eq_none_iff.mpr fun e he => by simp [hl e he]
  unfold evictee
  rw [hacked, hcleared]

theorem evictee_of_advisory (hv : v.active = true) (hv' : v.safety = false) (hs : safety = true)
    (hl : ∀ e ∈ a ++ v :: b, e.active = true) (ha : ∀ e ∈ a, e.safety = true) :
    evictee (a ++ v :: b) safety = some a.length := by
  rw [evictee_of_active hl, if_pos hs, findIdx?_append_cons (by simp [hv, hv']) fun e he => by simp [ha e he]]

theorem evictee_of_none (hl : ∀ e ∈ l, e.active = true ∧ (safety = true → e.safety = true)) : evictee l safety = none := by
  rw [evictee_of_active fun e he => (hl e he).1]
  split
  · next hs => exact List.findIdx?_eq_none_iff.mpr fun e he => by simp [(hl e he).2 hs]
  · rfl

/-- An evicted entry is CLEARED or ADVISORY. -/
theorem of_evictee {i : Nat} (h : evictee l safety = some i) (hi : i < l.length) : ¬(l[i].active = true ∧ l[i].safety = true) := by
  have found {p : FaultEntry → Bool} (hp : l.findIdx? p = some i) : p l[i] = true :=
    (List.findIdx?_eq_some_iff_getElem.mp hp).2.1
  unfold evictee at h
  rintro ⟨hactive, hsafety⟩
  split at h
  · next hp => have := found (hp.trans h); simp [hactive] at this
  · split at h
    · next hp => have := found (hp.trans h); simp [hactive] at this
    · split at h
      · have := found h; simp [hsafety] at this
      · exact absurd h nofun

/-- A report keeps the key of every ACTIVE SAFETY entry ACTIVE. -/
theorem report_keeps_safety {e : FaultEntry} (he : e ∈ f.entries) (hactive : e.active = true) (hsafety : e.safety = true) :
    ∃ e' ∈ (f.report k x safety now).entries, e'.kind = e.kind ∧ e'.subject = e.subject ∧ e'.active = true := by
  by_cases hknown : ∃ e ∈ f.entries, e.kind = k ∧ e.subject = x
  · rw [report_of_known hknown]
    refine ⟨_, List.mem_map_of_mem he, ?_⟩
    split
    · exact ⟨rfl, rfl, rfl⟩
    · exact ⟨rfl, rfl, hactive⟩
  · have hnew : ∀ e ∈ f.entries, ¬(e.kind = k ∧ e.subject = x) := fun e he hk => hknown ⟨e, he, hk⟩
    rcases lt_or_ge f.entries.length 64 with hroom | hfull
    · rw [report_of_room hnew hroom]
      exact ⟨e, List.mem_append_left _ he, rfl, rfl, hactive⟩
    · cases hi : evictee f.entries safety with
      | none =>
        rw [report_of_overflow hnew hfull hi]
        exact ⟨e, he, rfl, rfl, hactive⟩
      | some i =>
        rw [report_of_evictee hnew hfull hi]
        obtain ⟨j, hj, rfl⟩ := List.mem_iff_getElem.mp he
        have hij : i ≠ j := fun h => of_evictee hi (h ▸ hj) (by subst h; exact ⟨hactive, hsafety⟩)
        exact ⟨_, List.mem_append_left _ (List.mem_eraseIdx_iff_getElem.mpr ⟨j, hj, hij.symm, rfl⟩), rfl, rfl, hactive⟩

end FaultTable

open FaultTable

/-- Settles O13: no case of the eviction finds an ACTIVE SAFETY entry, and a report of its own key leaves it ACTIVE. -/
theorem activeSafetyEntryNeverEvicted : Obligations.ActiveSafetyEntryNeverEvicted := by
  unfold Obligations.ActiveSafetyEntryNeverEvicted
  exact fun _ _ _ _ _ _ he hactive hsafety => report_keeps_safety he hactive hsafety

/-- Settles O14: the report's two cases with room, by what the table holds for the key. -/
theorem reportCreatesOrUpdatesEntry : Obligations.ReportCreatesOrUpdatesEntry := by
  unfold Obligations.ReportCreatesOrUpdatesEntry
  intro f k x safety now
  refine ⟨fun hnew hroom => report_of_room hnew hroom, fun a b e hf hk hx hne => ?_⟩
  have hknown : ∃ e ∈ f.entries, e.kind = k ∧ e.subject = x := ⟨e, hf ▸ List.mem_append_right a List.mem_cons_self, hk, hx⟩
  rw [report_of_known hknown, hf, map_of_only_key (hasKey_iff.mpr ⟨hk, hx⟩) hne]
  rfl

/-- Settles O15: the entry that leaves a full table, in the three cases of R178, and the overflow where none does. -/
theorem fullTableEvictsOrOverflows : Obligations.FullTableEvictsOrOverflows := by
  unfold Obligations.FullTableEvictsOrOverflows
  intro f k x safety now hnew hfull
  refine ⟨fun a b v hf hcase => ?_, fun hkeep => report_of_overflow hnew hfull.ge (evictee_of_none hkeep)⟩
  have hi : evictee f.entries safety = some a.length := by
    rw [hf] at hcase ⊢
    rcases hcase with ⟨hv, hv', ha⟩ | ⟨hv, hl, ha⟩ | ⟨hv, hv', hs, hl, ha⟩
    · exact evictee_of_acked hv hv' ha
    · exact evictee_of_cleared hv hl ha
    · exact evictee_of_advisory hv hv' hs hl ha
  rw [report_of_evictee hnew hfull.ge hi]
  have herase : f.entries.eraseIdx a.length = a ++ b := by
    rw [hf, List.eraseIdx_append_of_length_le le_rfl, Nat.sub_self, List.eraseIdx_cons_zero]
  exact ⟨by rw [herase]; rfl, rfl, rfl⟩

end Sys2Proof.Machine
end

section
/-! SUPPORT. Requests that are answered at once: from what the service does with its slot reserved to what the command
does. -/

namespace Sys2Proof.Machine

set_option Elab.async false

namespace Requests

variable {s t : State} {tag code : Byte} {body b : List Byte} {st : Status} {serve : State → State} {i : Instr}

/-- A command that is a request given directly, served at once from `s` as an answer from `t`. -/
theorem answers (h : s.takes tag body) (hexec : exec i s = .next (s.direct tag body serve)) (hc : code.toNat < 128)
    (hs : serve s.reserve = t.reserve.reply tag code st b) (ht : t.betweenSteps) (hg : t.seq.groups = s.seq.groups) :
    exec i s = .next (t.withReply tag code st b) := by
  rw [hexec, DemandPlace.direct_reply h hc hs ht fun g hi => ?_]
  unfold State.group at *
  rw [← hg]
  exact hi

/-- One that answers and changes nothing else. -/
theorem reads (h : s.takes tag body) (hexec : exec i s = .next (s.direct tag body serve)) (hc : code.toNat < 128)
    (hs : serve s.reserve = s.reserve.reply tag code st b) : exec i s = .next (s.withReply tag code st b) :=
  answers h hexec hc hs h.1 rfl

/-! ### The reads -/

theorem answerEmpty_of_empty (code : Byte) (reply : List Byte) : s.answerEmpty tag code [] reply = s.reply tag code .ok reply := rfl

theorem answerEmpty_of_badLength (code : Byte) (h : body ≠ []) (reply : List Byte) :
    s.answerEmpty tag code body reply = s.reply tag code .badLength [] := if_neg h

theorem answerNumber_of_member (code : Byte) {n : Nat} (f : Fin n → List Byte) (x : Byte) {k : Fin n} (hx : member n x.toNat = some k) :
    s.answerNumber tag code [x] n f = s.reply tag code .ok (f k) := by
  simp only [State.answerNumber, hx]

theorem answerNumber_of_outOfRange (code : Byte) {n : Nat} (f : Fin n → List Byte) {x : Byte} (hx : x.toNat = 0 ∨ n < x.toNat) :
    s.answerNumber tag code [x] n f = s.reply tag code .outOfRange [] := by
  simp only [State.answerNumber, DemandPlace.member_of_outOfRange hx]
  rfl

theorem answerNumber_of_badLength (code : Byte) {n : Nat} (f : Fin n → List Byte) (h : body.length ≠ 1) :
    s.answerNumber tag code body n f = s.reply tag code .badLength [] := by
  match body, h with
  | [], _ => rfl
  | [_], h => exact absurd rfl h
  | _ :: _ :: _, _ => rfl

theorem member_number {n : Nat} (hn : n < 256) (k : Fin n) : member n (BitVec.ofNat 8 (k.val + 1)).toNat = some k := by
  rw [BitVec.toNat_ofNat, Nat.mod_eq_of_lt (by omega), DemandPlace.member_succ]

theorem identifyBody_eq : s.identifyBody =
    [0x4A#8, 0x43#8, 0x36#8, 0x32#8, 1#8] ++ (if s.lnk.fast then [0x04#8, 0x80#8] else [0x02#8, 0x40#8]) := by
  unfold State.identifyBody
  cases s.lnk.fast <;> rfl

theorem serveIdentify_empty (s : State) (tag : Byte) : serveIdentify tag [] s = s.reply tag 0x01#8 .ok
    ([0x4A#8, 0x43#8, 0x36#8, 0x32#8, 1#8] ++ (if s.lnk.fast then [0x04#8, 0x80#8] else [0x02#8, 0x40#8])) := by
  rw [← identifyBody_eq]; rfl

end Requests

open Requests

/-- Settles O26: each of the three answers an empty body with its fields and any other with BAD_LENGTH. -/
theorem plainReadsChangeNothing : Obligations.PlainReadsChangeNothing := by
  unfold Obligations.PlainReadsChangeNothing
  intro s tag body h
  refine ⟨?_, fun hbody => ⟨?_, ?_, ?_⟩⟩
  · rintro rfl
    exact ⟨reads h rfl (by decide) (serveIdentify_empty _ _), reads h rfl (by decide) (answerEmpty_of_empty _ _),
      reads h rfl (by decide) (answerEmpty_of_empty _ _)⟩
  · exact reads h rfl (by decide) (answerEmpty_of_badLength _ hbody _)
  · exact reads h rfl (by decide) (answerEmpty_of_badLength _ hbody _)
  · exact reads h rfl (by decide) (answerEmpty_of_badLength _ hbody _)

/-- Settles O27: each of the five answers a number in its range with the record, another with OUT_OF_RANGE. -/
theorem numberedReadsChangeNothing : Obligations.NumberedReadsChangeNothing := by
  unfold Obligations.NumberedReadsChangeNothing
  intro s tag body h
  refine ⟨?_, ?_, ?_, ?_, ?_, ?_, fun hbody => ⟨?_, ?_, ?_, ?_, ?_⟩⟩
  · rintro g rfl
    exact reads h rfl (by decide) (answerNumber_of_member 0x50#8 _ _ (member_number (by decide) g))
  · rintro c rfl
    exact reads h rfl (by decide) (answerNumber_of_member 0x51#8 _ _ (member_number (by decide) c))
  · rintro d rfl
    exact reads h rfl (by decide) (answerNumber_of_member 0x52#8 _ _ (member_number (by decide) d))
  · rintro k rfl
    exact reads h rfl (by decide) (answerNumber_of_member 0x53#8 _ _ (member_number (by decide) k))
  · rintro n rfl
    exact reads h rfl (by decide) (answerNumber_of_member 0x60#8 _ _ (member_number (by decide) n))
  · rintro b rfl
    exact ⟨fun hb => reads h rfl (by decide) (answerNumber_of_outOfRange 0x50#8 _ hb),
      fun hb => reads h rfl (by decide) (answerNumber_of_outOfRange 0x51#8 _ hb),
      fun hb => reads h rfl (by decide) (answerNumber_of_outOfRange 0x52#8 _ hb),
      fun hb => reads h rfl (by decide) (answerNumber_of_outOfRange 0x53#8 _ hb),
      fun hb => reads h rfl (by decide) (answerNumber_of_outOfRange 0x60#8 _ hb)⟩
  · exact reads h rfl (by decide) (answerNumber_of_badLength 0x50#8 _ hbody)
  · exact reads h rfl (by decide) (answerNumber_of_badLength 0x51#8 _ hbody)
  · exact reads h rfl (by decide) (answerNumber_of_badLength 0x52#8 _ hbody)
  · exact reads h rfl (by decide) (answerNumber_of_badLength 0x53#8 _ hbody)
  · exact reads h rfl (by decide) (answerNumber_of_badLength 0x60#8 _ hbody)

end Sys2Proof.Machine
end

section
/-! PROOFS. The requests of the fault table, the attention output, the edit session and the clock: the statements O17, O19,
O28, O29, O30 and O35. -/

namespace Sys2Proof.Machine

set_option Elab.async false

open Requests

namespace Requests

variable {s t : State} {tag : Byte} {body : List Byte}

/-! ### FAULT_ACK (R180) -/

theorem serveFaultAck_all (s : State) (tag : Byte) :
    serveFaultAck tag [0xFF#8] s = (s.onFlt fun f => f.acknowledge fun _ => true).reply tag 0x61#8 .ok [] := if_pos rfl

theorem serveFaultAck_of_badLength (h : body ≠ [0xFF#8]) (hlen : body.length ≠ 4) (s : State) (tag : Byte) :
    serveFaultAck tag body s = s.reply tag 0x61#8 .badLength [] := by
  rw [serveFaultAck, if_neg h, if_pos hlen]; rfl

theorem ne_all_of_length (h : body.length = 4) : body ≠ [0xFF#8] := by rintro rfl; exact absurd h (by decide)

theorem serveFaultAck_of_noKey (h : body.length = 4) (hkey : parseKey body = none) (s : State) (tag : Byte) :
    serveFaultAck tag body s = s.reply tag 0x61#8 .outOfRange [] := by
  simp only [serveFaultAck, ne_all_of_length h, h, hkey]; rfl

theorem serveFaultAck_of_key {k : FaultKind} {x : Subject} (h : body.length = 4) (hkey : parseKey body = some (k, x))
    (s : State) (tag : Byte) :
    serveFaultAck tag body s =
      if s.flt.entries.any fun e => e.hasKey k x then
        (s.onFlt fun f => f.acknowledge fun e => e.hasKey k x).reply tag 0x61#8 .ok []
      else s.reply tag 0x61#8 .outOfRange [] := by
  simp only [serveFaultAck, ne_all_of_length h, h, hkey]; rfl

theorem acknowledge_key (f : Flt) (k : FaultKind) (x : Subject) :
    (f.acknowledge fun e => e.hasKey k x) =
      { f with entries := f.entries.map fun e => if e.kind = k ∧ e.subject = x then { e with acked := true } else e } := by
  simp only [Flt.acknowledge, FaultTable.hasKey_iff]

/-! ### ATTENTION_READ and the attention output (R182 to R184) -/

theorem attnPin_of_asserted (h : s.attentionAsserted = true) :
    s.attnPin = (match s.cabinet.attnPolarity with | .activeHigh => .high | .activeLow => .low) := by
  unfold State.attnPin
  rw [h]
  cases s.cabinet.attnPolarity <;> rfl

theorem attnPin_of_idle (h : s.attentionAsserted = false) :
    s.attnPin = (match s.cabinet.attnPolarity with | .activeHigh => .low | .activeLow => .released) := by
  unfold State.attnPin
  rw [h]
  cases s.cabinet.attnPolarity <;> rfl

theorem attentionAsserted_of_emptied (hset : s.flt.pendingSet = PendingSet.empty) (hpulse : s.flt.pulse = none) :
    s.attentionAsserted = false := by
  unfold State.attentionAsserted
  rw [hset, hpulse]
  cases s.cabinet.attnMode <;> rfl

theorem attentionAsserted_of_added (hset : s.flt.pendingSet.isEmpty = false)
    (hpulse : s.cabinet.attnMode = .pulse → s.flt.pulse.isSome = true) : s.attentionAsserted = true := by
  unfold State.attentionAsserted
  split
  · rw [hset]; rfl
  · next hm => exact hpulse hm

/-- What the end of an event does where it made an addition (R183, R184). -/
theorem closeAdditions_of_added {before u : State} (h : u.flt.added = true) (hc : u.cabinet.attnMode = before.cabinet.attnMode) :
    (State.closeAdditions before u).flt =
        { u.flt with added := false, pulse := if before.cabinet.attnMode = .pulse then some 0 else u.flt.pulse } ∧
      (State.closeAdditions before u).lnk.output =
        if u.lnk.notices = true ∧ u.lnk.output.length + u.lnk.reserved + 3 ≤ 8 then u.lnk.output ++ [u.notice]
        else u.lnk.output := by
  have hpulse : (before.cabinet.attnMode == .pulse && u.cabinet.attnMode == .pulse) = decide (before.cabinet.attnMode = .pulse) := by
    rw [hc]; cases before.cabinet.attnMode <;> rfl
  have hfree : (u.lnk.notices && decide (Config.noticeSlots ≤ u.lnk.freeSlots)) = true ↔
      u.lnk.notices = true ∧ u.lnk.output.length + u.lnk.reserved + 3 ≤ 8 := by
    rw [Bool.and_eq_true, decide_eq_true_iff]
    refine and_congr_right fun _ => ?_
    show 3 ≤ 8 - (u.lnk.output.length + u.lnk.reserved) ↔ _
    omega
  unfold State.closeAdditions
  rw [if_pos h, hpulse]
  simp only [State.onFlt_lnk, hfree, decide_eq_true_iff]
  split
  · exact ⟨rfl, rfl⟩
  · exact ⟨rfl, rfl⟩

theorem cabinet_closeAdditions (before u : State) : (State.closeAdditions before u).cabinet = u.cabinet := by
  unfold State.cabinet
  rw [Frames.cfg_of_base (Frames.base_closeAdditions before u)]

/-- With no commit to apply and the groups left alone, the end of a step counts the additions and does nothing else. -/
theorem finish_of_kept {before u : State} (hp : u.sup.mode.drains = true → u.cfg.pendingCommit = none)
    (hg : u.seq.groups = before.seq.groups) : State.finish before u = State.closeAdditions before u := by
  unfold State.finish
  rw [Laws.drainPending_of_none hp, Laws.takeInhibition_of_groups hg]

/-- A supply loss of an UNCONFIGURED cabinet: the finding and its counting, and no more (R169). -/
theorem exec_supplyLoss_of_unconfigured (h : s.betweenSteps) (hm : s.sup.mode = .unconfigured)
    (hp : s.sup.supplyPresent = true) (hgap : 200 ≤ s.sup.supplyGap) :
    exec .supplyLoss s =
      .next (State.closeAdditions s ((s.onSup fun u => { u with supplyPresent := false }).report .supplyLoss .nothing)) := by
  have hdue : s.supplyLossDue = true := by simp [State.supplyLossDue, hp, hgap]
  have hlose : s.loseSupply = (s.onSup fun u => { u with supplyPresent := false }).report .supplyLoss .nothing := by
    unfold State.loseSupply State.darkForSupply
    have hmode : ((s.onSup fun u => { u with supplyPresent := false }).report .supplyLoss .nothing).sup.mode = .unconfigured := hm
    rw [hmode]
  show Host.Outcome.next _ = _
  rw [if_pos hdue, hlose, finish_of_kept]
  · exact h.2
  · rfl

/-! ### The edit session (R186 to R188) -/

theorem answerRead_of_badLength (c : ConfigSet) (h : body.length ≠ 2) : c.answerRead body = (.badLength, []) := by
  match body, h with
  | [], _ => rfl
  | [_], _ => rfl
  | [_, _], h => exact absurd rfl h
  | _ :: _ :: _ :: _, _ => rfl

theorem answerRead_of_record {c : ConfigSet} {k i : Byte} {cls : RecordClass} {r : List Byte}
    (hcls : RecordClass.ofCode k.toNat = some cls) (hr : c.read cls i.toNat = some r) : c.answerRead [k, i] = (.ok, r) := by
  simp only [ConfigSet.answerRead, hcls, hr]

theorem ofCode_of_large {n : Nat} (h : 14 ≤ n) : RecordClass.ofCode n = none := by
  match n, h with
  | n + 14, _ => rfl

theorem read_isNone_iff {c : ConfigSet} {cls : RecordClass} {n : Nat} : c.read cls n = none ↔ n = 0 ∨ cls.count < n := by
  have hmember {m : Nat} {α : Type} (f : Fin m → α) : (member m n).map f = none ↔ n = 0 ∨ m < n := by
    rw [Option.map_eq_none_iff]
    unfold member
    split
    · exact ⟨nofun, fun h => by omega⟩
    · exact ⟨fun _ => by omega, fun _ => rfl⟩
  cases cls <;> exact hmember _

theorem answerRead_of_outOfRange (c : ConfigSet) {k i : Byte}
    (h : 14 ≤ k.toNat ∨ ∀ cls, RecordClass.ofCode k.toNat = some cls → i.toNat = 0 ∨ cls.count < i.toNat) :
    c.answerRead [k, i] = (.outOfRange, []) := by
  rcases hcls : RecordClass.ofCode k.toNat with _ | cls
  · simp only [ConfigSet.answerRead, hcls]
  · have hread : c.read cls i.toNat = none := read_isNone_iff.mpr (h.elim
      (fun hk => absurd ((ofCode_of_large hk).symm.trans hcls) nofun) fun hi => hi cls hcls)
    simp only [ConfigSet.answerRead, hcls, hread]

theorem serveEditRead_of_buffer {c : ConfigSet} (h : s.cfg.buffer = some c) {st : Status} {r : List Byte}
    (hr : c.answerRead body = (st, r)) : serveEditRead tag body s = s.reply tag 0x12#8 st r := by
  unfold serveEditRead
  rw [h]
  dsimp only
  rw [hr]

theorem serveConfigRead_of {st : Status} {r : List Byte} (hr : s.cfg.running.answerRead body = (st, r)) :
    serveConfigRead tag body s = s.reply tag 0x15#8 st r := by
  unfold serveConfigRead
  rw [hr]

theorem serveEditWrite_of_noSession (h : s.cfg.buffer = none) : serveEditWrite tag body s = s.reply tag 0x11#8 .noSession [] := by
  unfold serveEditWrite
  rw [h]
  rfl

theorem serveEditWrite_of_empty {c : ConfigSet} (h : s.cfg.buffer = some c) :
    serveEditWrite tag [] s = s.reply tag 0x11#8 .badLength [] := by
  unfold serveEditWrite
  rw [h]
  rfl

theorem serveEditWrite_of_noClass {c : ConfigSet} (h : s.cfg.buffer = some c) {k : Byte} (hk : 14 ≤ k.toNat) (l : List Byte) :
    serveEditWrite tag (k :: l) s = s.reply tag 0x11#8 .outOfRange [] := by
  unfold serveEditWrite
  simp only [h, ofCode_of_large hk]
  rfl

theorem ofCode_of_small {n : Nat} (h : n < 14) : ∃ cls, RecordClass.ofCode n = some cls := by
  interval_cases n <;> exact ⟨_, rfl⟩

theorem serveEditWrite_of_noIndex {c : ConfigSet} (h : s.cfg.buffer = some c) {k : Byte} (hk : k.toNat < 14) :
    serveEditWrite tag [k] s = s.reply tag 0x11#8 .badLength [] := by
  obtain ⟨cls, hcls⟩ := ofCode_of_small hk
  unfold serveEditWrite
  simp only [h, hcls]
  rfl

theorem serveEditWrite_of_record {c : ConfigSet} (h : s.cfg.buffer = some c) {k i : Byte} {rec : List Byte} {cls : RecordClass}
    (hcls : RecordClass.ofCode k.toNat = some cls) :
    serveEditWrite tag (k :: i :: rec) s = s.writeRecord tag c cls i.toNat rec := by
  unfold serveEditWrite
  simp only [h, hcls]

theorem writeRecord_of_outOfRange (c : ConfigSet) {cls : RecordClass} {n : Nat} (hn : n = 0 ∨ cls.count < n) (rec : List Byte) :
    s.writeRecord tag c cls n rec = s.reply tag 0x11#8 .outOfRange [] := by
  unfold State.writeRecord
  rw [read_isNone_iff.mpr hn]
  rfl

theorem writeRecord_of_inRange {c : ConfigSet} {cls : RecordClass} {n : Nat} (hlo : 1 ≤ n) (hhi : n ≤ cls.count) {rec : List Byte} :
    s.writeRecord tag c cls n rec =
      match c.write cls n rec with
      | .error st => s.reply tag 0x11#8 st []
      | .ok (new, clampedAny) =>
        (s.onCfg fun d => { d with buffer := some new }).reply tag 0x11#8 (if clampedAny then .okClamped else .ok)
          ((new.read cls n).getD []) := by
  have hread : ¬(c.read cls n).isNone = true := fun h => by
    rcases read_isNone_iff.mp (Option.isNone_iff_eq_none.mp h) with h | h <;> omega
  unfold State.writeRecord
  rw [if_neg hread]
  rfl

/-! ### The clock (R77, R79) -/

theorem serveClockSet_of_badLength (h : body.length ≠ 7) (s : State) (tag : Byte) :
    serveClockSet tag body s = s.reply tag 0x20#8 .badLength [] := if_pos h

theorem serveClockTrim_of_badLength (h : body.length ≠ 1) (s : State) (tag : Byte) :
    serveClockTrim tag body s = s.reply tag 0x22#8 .badLength [] := by
  match body, h with
  | [], _ => rfl
  | [_], h => exact absurd rfl h
  | _ :: _ :: _, _ => rfl

theorem serveNoticeEnable_of_badLength (h : body.length ≠ 1) (s : State) (tag : Byte) :
    serveNoticeEnable tag body s = s.reply tag 0x64#8 .badLength [] := by
  match body, h with
  | [], _ => rfl
  | [_], h => exact absurd rfl h
  | _ :: _ :: _, _ => rfl

theorem serveClockTrim_of {b : Byte} {n : Int} (h : clampTrim b.toInt = n) (s : State) (tag : Byte) :
    serveClockTrim tag [b] s =
      (s.onClk fun k => { k with trim := n }).reply tag 0x22#8 (if n = b.toInt then .ok else .okClamped) [] := by
  unfold serveClockTrim
  dsimp only
  rw [h]

end Requests

/-- Settles O17: the acknowledgement of every entry, the refusals, and the acknowledgement of the entry with the key. -/
theorem faultAckMarksEntries : Obligations.FaultAckMarksEntries := by
  unfold Obligations.FaultAckMarksEntries
  intro s tag body h
  refine ⟨?_, fun hall hlen => reads h rfl (by decide) (serveFaultAck_of_badLength hall hlen _ _),
    fun hlen hkey => reads h rfl (by decide) (serveFaultAck_of_noKey hlen hkey _ _), fun k x hlen hkey => ?_⟩
  · rintro rfl
    exact answers h rfl (by decide) (t := s.onFlt fun f => f.acknowledge fun _ => true) (serveFaultAck_all _ _) h.1 rfl
  · have hserve := serveFaultAck_of_key hlen hkey s.reserve tag
    split
    · next hknown =>
      rw [if_pos (show (s.reserve.flt.entries.any fun e => e.hasKey k x) = true from FaultTable.any_hasKey_iff.mpr hknown)] at hserve
      have hacked := answers h (i := .faultAck tag body) rfl (by decide) (t := s.onFlt fun f => f.acknowledge fun e => e.hasKey k x)
        hserve h.1 rfl
      rw [hacked, State.onFlt, acknowledge_key]
    · next hnew =>
      rw [if_neg (show ¬(s.reserve.flt.entries.any fun e => e.hasKey k x) = true from
        fun h => hnew (FaultTable.any_hasKey_iff.mp h))] at hserve
      exact reads h rfl (by decide) hserve

/-- Settles O19: the read of the pending set, the end of the pulse, and the counting of the addition that a supply loss of
an UNCONFIGURED cabinet makes. -/
theorem attentionReadEmptiesPendingSet : Obligations.AttentionReadEmptiesPendingSet := by
  unfold Obligations.AttentionReadEmptiesPendingSet
  refine ⟨fun s tag body h => ⟨fun hbody => reads h rfl (by decide) (if_pos hbody), ?_⟩, fun s h => ?_, ?_⟩
  · rintro rfl
    have hread := answers h (i := .attentionRead tag []) rfl (by decide)
      (t := { s with flt := { s.flt with pendingSet := PendingSet.empty, pulse := none } })
      (b := [BitVec.ofNat 8 s.flt.pendingSet.code, BitVec.ofNat 8 s.sup.mode.code]) rfl h.1 rfl
    exact ⟨hread, _, hread, attnPin_of_idle (attentionAsserted_of_emptied rfl rfl)⟩
  · have hdone : s.pulseDone = true := by unfold State.pulseDone; rw [h]; rfl
    show Host.Outcome.next _ = _
    rw [if_pos hdone]
    rfl
  · intro s h hm hp hgap hroom hnew
    have hreport : ((s.onSup fun u => { u with supplyPresent := false }).report .supplyLoss .nothing).flt =
        s.flt.report .supplyLoss .nothing false s.stamp := rfl
    rw [FaultTable.report_of_room hnew hroom] at hreport
    generalize hu : (s.onSup fun u => { u with supplyPresent := false }).report .supplyLoss .nothing = u at hreport
    have hlnk : u.lnk = s.lnk := by rw [← hu]; rfl
    have hcab : u.cabinet = s.cabinet := by rw [← hu]; rfl
    have hmode : u.sup.mode = s.sup.mode := by rw [← hu]; rfl
    have hadded : u.flt.added = true := by rw [hreport]
    obtain ⟨hflt, hout⟩ := closeAdditions_of_added (before := s) hadded (by rw [hcab])
    have hset : (State.closeAdditions s u).flt.pendingSet = { s.flt.pendingSet with faultNew := true } := by rw [hflt, hreport]
    have hpulse : (State.closeAdditions s u).flt.pulse = if s.cabinet.attnMode = .pulse then some 0 else s.flt.pulse := by
      rw [hflt, hreport]
    refine ⟨State.closeAdditions s u, by rw [exec_supplyLoss_of_unconfigured h hm hp hgap, hu], hset, ?_, hpulse, ?_⟩
    · rw [hout, hlnk, hset]
      unfold State.notice
      rw [hreport, hmode, hm]
      rfl
    · have hpin := attnPin_of_asserted (s := State.closeAdditions s u)
        (attentionAsserted_of_added (by rw [hset]; rfl) fun hmode => by
          rw [cabinet_closeAdditions, hcab] at hmode
          rw [hpulse, if_pos hmode]
          rfl)
      rw [cabinet_closeAdditions, hcab] at hpin
      exact hpin

/-- Settles O28, by the cases of each of the two requests. -/
theorem editSessionOpensAndCloses : Obligations.EditSessionOpensAndCloses := by
  unfold Obligations.EditSessionOpensAndCloses
  intro s tag body h
  refine ⟨fun hbody => ⟨reads h rfl (by decide) (if_pos hbody), reads h rfl (by decide) (if_pos hbody)⟩, ?_⟩
  rintro rfl
  refine ⟨?_, ?_⟩
  · have hopen : serveEditOpen tag [] s.reserve =
        if s.cfg.buffer.isSome then s.reserve.reply tag 0x10#8 .sessionOpen []
        else if s.cfg.pendingCommit.isSome then s.reserve.reply tag 0x10#8 .busy []
        else (s.onCfg fun c => { c with buffer := some c.running }).reserve.reply tag 0x10#8 .ok [] := rfl
    simp only [Option.isSome_iff_ne_none] at hopen
    split
    · next hb => exact reads h rfl (by decide) (hopen.trans (if_pos hb))
    · next hb =>
      rw [if_neg hb] at hopen
      split
      · next hc => exact reads h rfl (by decide) (hopen.trans (if_pos hc))
      · next hc => exact answers h rfl (by decide) (hopen.trans (if_neg hc)) h.1 rfl
  · have hclose : serveEditDiscard tag [] s.reserve =
        if s.cfg.buffer.isNone then s.reserve.reply tag 0x14#8 .noSession []
        else (s.onCfg fun c => { c with buffer := none }).reserve.reply tag 0x14#8 .ok [] := rfl
    simp only [Option.isNone_iff_eq_none] at hclose
    split
    · next hb => exact reads h rfl (by decide) (hclose.trans (if_pos hb))
    · next hb => exact answers h rfl (by decide) (hclose.trans (if_neg hb)) h.1 rfl

/-- Settles O29, by what a set of records answers to a read. -/
theorem recordReadsReturnBufferOrRunning : Obligations.RecordReadsReturnBufferOrRunning := by
  unfold Obligations.RecordReadsReturnBufferOrRunning
  intro s tag body h
  have running {st : Status} {r : List Byte} (hr : s.cfg.running.answerRead body = (st, r)) :
      exec (.configRead tag body) s = .next (s.withReply tag 0x15#8 st r) :=
    reads h rfl (by decide) (serveConfigRead_of (s := s.reserve) hr)
  have buffered {c : ConfigSet} (hc : s.cfg.buffer = some c) {st : Status} {r : List Byte} (hr : c.answerRead body = (st, r)) :
      exec (.editRead tag body) s = .next (s.withReply tag 0x12#8 st r) :=
    reads h rfl (by decide) (serveEditRead_of_buffer (s := s.reserve) hc hr)
  refine ⟨fun hb => reads h rfl (by decide) (by unfold serveEditRead; rw [show s.reserve.cfg.buffer = none from hb]; rfl),
    fun hlen => ⟨running (answerRead_of_badLength _ hlen), fun hb => ?_⟩, ?_⟩
  · obtain ⟨c, hc⟩ := Option.ne_none_iff_exists'.mp hb
    exact buffered hc (answerRead_of_badLength _ hlen)
  · rintro k i rfl
    refine ⟨fun cls r hcls hr => running (answerRead_of_record hcls hr),
      fun c cls r hc hcls hr => buffered hc (answerRead_of_record hcls hr),
      fun hout => ⟨running (answerRead_of_outOfRange _ hout), fun hb => ?_⟩⟩
    obtain ⟨c, hc⟩ := Option.ne_none_iff_exists'.mp hb
    exact buffered hc (answerRead_of_outOfRange _ hout)

/-- Settles O30, by the order of the refusals of a write and what a taken write stores. -/
theorem editWriteStoresWholeRecord : Obligations.EditWriteStoresWholeRecord := by
  unfold Obligations.EditWriteStoresWholeRecord
  intro s tag body h
  refine ⟨fun hb => reads h rfl (by decide) (serveEditWrite_of_noSession (s := s.reserve) hb), fun c hc => ⟨?_, ?_, ?_⟩⟩
  · rintro rfl
    exact reads h rfl (by decide) (serveEditWrite_of_empty (s := s.reserve) hc)
  · rintro k rfl
    split
    · next hk => exact reads h rfl (by decide) (serveEditWrite_of_noClass (s := s.reserve) hc hk [])
    · next hk => exact reads h rfl (by decide) (serveEditWrite_of_noIndex (s := s.reserve) hc (not_le.mp hk))
  · rintro k i rec rfl
    refine ⟨fun hk => reads h rfl (by decide) (serveEditWrite_of_noClass (s := s.reserve) hc hk _), fun cls hcls => ?_⟩
    have hserve := serveEditWrite_of_record (s := s.reserve) (tag := tag) (i := i) (rec := rec) hc hcls
    refine ⟨fun hi => reads h rfl (by decide) (hserve.trans (writeRecord_of_outOfRange c hi rec)), fun hlo hhi => ?_⟩
    rw [writeRecord_of_inRange hlo hhi] at hserve
    refine ⟨fun st hst => ?_, fun new clampedAny stored hnew hstored => ?_⟩
    · rw [hst] at hserve
      exact reads h rfl (by decide) hserve
    · rw [hnew] at hserve
      dsimp only at hserve
      rw [hstored] at hserve
      exact answers h rfl (by decide) (t := s.onCfg fun d => { d with buffer := some new }) hserve h.1 rfl

/-- Settles O35: the pending set with its reserved slot, the trim in and out of its range, and the notices. -/
theorem clockAndNoticeRequests : Obligations.ClockAndNoticeRequests := by
  unfold Obligations.ClockAndNoticeRequests
  intro s tag body h
  refine ⟨fun hlen => reads h rfl (by decide) (serveClockSet_of_badLength hlen _ _), ?_,
    fun hlen => ⟨reads h rfl (by decide) (serveClockTrim_of_badLength hlen _ _),
      reads h rfl (by decide) (serveNoticeEnable_of_badLength hlen _ _)⟩, ?_⟩
  · rintro yh yl mo d hr mi sec rfl y rfl
    have hserve : serveClockSet tag [yh, yl, mo, d, hr, mi, sec] s.reserve =
        match parseClockSet [yh, yl, mo, d, hr, mi, sec] with
        | none => s.reserve.reply tag 0x20#8 .outOfRange []
        | some v => s.reserve.onClk fun k => { k with pendingSet := some v, setTags := k.setTags ++ [tag] } := rfl
    split
    · next hrange =>
      rw [show parseClockSet [yh, yl, mo, d, hr, mi, sec] =
          some (⟨yh.toNat * 256 + yl.toNat, mo.toNat, d.toNat⟩, ((hr.toNat * 60 + mi.toNat) * 60 + sec.toNat) * 10) from
        if_pos hrange] at hserve
      show Host.Outcome.next _ = _
      rw [Laws.direct_of_takes h, hserve]
      dsimp only
      rw [show ((hr.toNat * 60 + mi.toNat) * 60 + sec.toNat) * 10 = hr.toNat * 36000 + mi.toNat * 600 + sec.toNat * 10 by omega,
        Laws.finish_of_quiet]
      · rfl
      · exact h.1.1
      · exact h.1.2
      · rfl
    · next hrange =>
      rw [show parseClockSet [yh, yl, mo, d, hr, mi, sec] = none from if_neg hrange] at hserve
      exact reads h rfl (by decide) hserve
  · rintro b rfl
    have trimmed {n : Int} (hn : clampTrim b.toInt = n) : exec (.clockTrim tag [b]) s =
        .next (State.withReply { s with clk := { s.clk with trim := n } } tag 0x22#8 (if n = b.toInt then .ok else .okClamped) []) :=
      answers h rfl (by decide) (t := s.onClk fun k => { k with trim := n }) (serveClockTrim_of hn _ _) h.1 rfl
    refine ⟨fun hlo hhi => ?_, fun hlo => ?_, fun hhi => ?_, ?_, ?_, fun hb => ?_⟩
    · have := trimmed (n := b.toInt) (by unfold clampTrim; omega)
      rwa [if_pos rfl] at this
    · have := trimmed (n := -63) (by unfold clampTrim; omega)
      rwa [if_neg hlo.ne'] at this
    · have := trimmed (n := 63) (by unfold clampTrim; omega)
      rwa [if_neg hhi.ne] at this
    · rintro rfl
      exact answers h rfl (by decide) (t := s.onLnk fun l => { l with notices := true }) rfl h.1 rfl
    · rintro rfl
      exact answers h rfl (by decide) (t := s.onLnk fun l => { l with notices := false }) rfl h.1 rfl
    · exact reads h rfl (by decide) (if_neg (by omega))

end Sys2Proof.Machine
end

section
/-! PROOFS. The Link Interface's own events: the statements O20, O21, O22, O23 and O25. -/

namespace Sys2Proof.Machine

set_option Elab.async false

open Requests

namespace LinkEvents

variable {s t u : State} {tag code : Byte} {body : List Byte} {c : Instr}

/-! ### Requests given directly, and the catalogue -/

/-- Every command that a request frame gives is a service given directly. -/
theorem exec_of_frameOf (h : c.frameOf = some (tag, body)) (hc : ∀ code crc, c ≠ .rxFrame tag code body crc) (s : State) :
    ∃ serve, exec c s = .next (s.direct tag body serve) := by
  cases c with
  | identify a b | status a b | editOpen a b | editWrite a b | editRead a b | editCommit a b | editDiscard a b | configRead a b
  | clockSet a b | clockRead a b | clockTrim a b | start a b | restart a b | modeSet a b | planForce a b | planRelease a b
  | demandPlace a b | maintUpdate a b | lampRelearn a b | sweepStart a b | sweepStop a b | probeRun a b | groupRead a b
  | channelRead a b | detectorRead a b | cableRead a b | faultRead a b | faultAck a b | faultPurge a b | attentionRead a b
  | noticeEnable a b => cases h; exact ⟨_, rfl⟩
  | rxFrame a code b crc => cases h; exact absurd rfl (hc code crc)
  | _ => cases h

/-- A request of the catalogue is served as its code's row. -/
theorem exec_of_catalogued (h : catalogued tag code body = some c) (s : State) :
    exec c s = .next (s.direct tag body (serveRequest tag code body)) := by
  unfold catalogued at h
  unfold serveRequest
  generalize code.toNat = n at h ⊢
  split at h
  case h_32 => cases h
  all_goals cases h; rfl

/-- A code that the catalogue lacks is an unknown request. -/
theorem serveRequest_of_unknown (h : catalogued tag code body = none) (s : State) :
    serveRequest tag code body s = s.reply tag code .unknownRequest [] := by
  unfold catalogued at h
  unfold serveRequest
  generalize code.toNat = n at h ⊢
  split
  case h_32 => rfl
  all_goals cases h

/-- The end of a step reads of the state the step met only its records and groups. -/
theorem finish_onLnk (s : State) (f : Lnk → Lnk) (u : State) : State.finish (s.onLnk f) u = State.finish s u := by
  unfold State.finish State.takeInhibition State.closeAdditions
  rfl

theorem takeOldest_of_frame {f : ReqFrame} {rest : List ReqFrame} (h : s.lnk.input = f :: rest) :
    s.takeOldest = if s.lnk.freeSlots = 0 then s
      else State.finish s (serveRequest f.tag f.code f.body ((s.onLnk fun l => { l with input := rest }).reserve)) := by
  unfold State.takeOldest
  rw [h]

/-! ### The end of an event that leaves the groups alone -/

/-- The counting of additions changes of the link only its output queue. -/
theorem closeAdditions_lnk (before u : State) : ∃ l, (State.closeAdditions before u).lnk = { u.lnk with output := l } := by
  unfold State.closeAdditions
  by_cases h : u.flt.added = true
  · rw [if_pos h]
    dsimp only
    split_ifs <;> exact ⟨_, rfl⟩
  · rw [if_neg h]
    exact ⟨_, rfl⟩

/-! ### A frame given whole (R193, R195) -/

theorem receiveFrame_of_good (hlen : body.length ≤ 240)
    {crc : BitVec 16} (hcrc : crc = crc16 (tag :: code :: BitVec.ofNat 8 body.length :: body)) (s : State) :
    s.receiveFrame tag code body crc = s.completeFrame tag code body := by
  unfold State.receiveFrame
  rw [if_neg (show ¬Config.maxBody < body.length from not_lt.mpr hlen),
    if_pos (show crc16 (coveredBytes tag code body) = crc from hcrc.symm)]

theorem receiveFrame_of_bad {crc : BitVec 16}
    (h : tag = 0 ∨ 240 < body.length ∨ crc ≠ crc16 (tag :: code :: BitVec.ofNat 8 body.length :: body)) (s : State) :
    s.receiveFrame tag code body crc = s.abandonFrame := by
  unfold State.receiveFrame
  split
  · rfl
  · next hlen =>
    split
    · next hcrc =>
      rcases h with h | h | h
      · exact if_pos h
      · exact absurd h hlen
      · exact absurd hcrc.symm h
    · rfl

/-- What a complete frame does to the link (R193). -/
def completed (l : Lnk) (f : ReqFrame) : Lnk :=
  { l with
    assembler := .hunt
    interbyte := 0
    input := if l.input.length < 2 then l.input ++ [f] else l.input
    overrun := l.overrun || decide (2 ≤ l.input.length) }

theorem completeFrame_of_tag (htag : tag ≠ 0) (s : State) :
    s.completeFrame tag code body = (s.onLnk fun l => completed l ⟨tag, code, body⟩).clearFault .linkBreak .nothing := by
  have hlnk (l : Lnk) : (if l.input.length < Config.inputFrames then
        { l with assembler := .hunt, interbyte := 0, input := l.input ++ [⟨tag, code, body⟩] }
      else { l with assembler := .hunt, interbyte := 0, overrun := true }) = completed l ⟨tag, code, body⟩ := by
    unfold completed
    rw [show Config.inputFrames = 2 from rfl]
    by_cases h : l.input.length < 2
    · rw [if_pos h, if_pos h, decide_eq_false (not_le.mpr h), Bool.or_false]
    · rw [if_neg h, if_neg h, decide_eq_true (not_lt.mp h), Bool.or_true]
  unfold State.completeFrame
  rw [if_neg htag]
  exact congrArg (fun f => (s.onLnk f).clearFault .linkBreak .nothing) (funext hlnk)

/-- An effect on the link alone makes no addition: the step ends with it. -/
theorem finish_link (h : s.betweenSteps) (l : Lnk) : State.finish s { s with lnk := l } = { s with lnk := l } :=
  Laws.finish_of_quiet h.1 h.2 rfl

theorem exec_byteReceived (s : State) (b : Byte) (fe : Bool) :
    exec (.byteReceived b fe) s = .next (State.finish s ((s.sawStop fe).receiveByte b fe)) := rfl

theorem exec_rxFrame (s : State) (tag code : Byte) (body : List Byte) (crc : BitVec 16) :
    exec (.rxFrame tag code body crc) s = .next (State.finish s ((s.sawStop false).receiveFrame tag code body crc)) := rfl

/-! ### The assembler (R193) -/

theorem receiveByte_of_hunt (h : s.lnk.assembler = .hunt) (b : Byte) (fe : Bool) :
    s.receiveByte b fe =
      if fe = false ∧ b = 0xC3#8 then s.onLnk fun l => { l with assembler := .assembling [], interbyte := 0 } else s := by
  unfold State.receiveByte
  rw [h]

theorem receiveByte_of_assembling {got : List Byte} (h : s.lnk.assembler = .assembling got) (b : Byte) :
    s.receiveByte b true = s.abandonFrame ∧ s.receiveByte b false = s.assemble (got ++ [b]) := by
  unfold State.receiveByte
  rw [h]
  exact ⟨rfl, rfl⟩

theorem byteAt_append_left {got l : List Byte} {i : Nat} (h : i < got.length) : byteAt (got ++ l) i = (got.getD i 0).toNat := by
  unfold byteAt
  rw [List.getD_append _ _ _ _ h]

theorem byteAt_append_last (got : List Byte) (b : Byte) : byteAt (got ++ [b]) got.length = b.toNat := by
  unfold byteAt
  rw [List.getD_append_right _ _ _ _ le_rfl, Nat.sub_self]
  rfl

theorem assemble_of_long {got : List Byte} {b : Byte} (hlen : got.length = 2) (hb : 240 < b.toNat) (s : State) :
    s.assemble (got ++ [b]) = s.abandonFrame := by
  have hn : byteAt (got ++ [b]) 2 = b.toNat := hlen ▸ byteAt_append_last got b
  unfold State.assemble
  exact if_pos ⟨by simp [hlen], by rw [hn]; exact hb⟩

theorem assemble_of_joining {got : List Byte} {b : Byte}
    (h : got.length < 2 ∨ (got.length = 2 ∧ b.toNat ≤ 240) ∨ (3 ≤ got.length ∧ got.length + 1 < (got.getD 2 0).toNat + 5))
    (s : State) :
    s.assemble (got ++ [b]) = s.onLnk fun l => { l with assembler := .assembling (got ++ [b]), interbyte := 0 } := by
  have hlen : (got ++ [b]).length = got.length + 1 := by simp
  have hlong : ¬((got ++ [b]).length = 3 ∧ Config.maxBody < byteAt (got ++ [b]) 2) := by
    rintro ⟨h3, hbyte⟩
    have h2 : got.length = 2 := by omega
    rw [← h2, byteAt_append_last] at hbyte
    have : (240 : Nat) < b.toNat := hbyte
    omega
  have hwhole : ¬(3 < (got ++ [b]).length ∧ (got ++ [b]).length = byteAt (got ++ [b]) 2 + 5) := by
    rintro ⟨h3, hbyte⟩
    rw [byteAt_append_left (by omega)] at hbyte
    omega
  unfold State.assemble
  dsimp only
  rw [if_neg hlong, if_neg hwhole]

/-- The two bytes of a CRC, high byte first. -/
theorem ofNat_word (hi lo : Byte) : BitVec.ofNat 16 (hi.toNat * 256 + lo.toNat) = hi ++ lo := by
  apply BitVec.eq_of_toNat_eq
  rw [BitVec.toNat_ofNat, BitVec.toNat_append, ← Nat.shiftLeft_add_eq_or_of_lt lo.isLt, Nat.shiftLeft_eq]
  omega

theorem assemble_of_whole {n hi b : Byte} (hlen : body.length = n.toNat) (hn : n.toNat ≤ 240) (s : State) :
    s.assemble ((tag :: code :: n :: body ++ [hi]) ++ [b]) = s.receiveFrame tag code body (hi ++ b) := by
  have hbytes : (tag :: code :: n :: body ++ [hi]) ++ [b] = tag :: code :: n :: (body ++ [hi, b]) := by simp
  have hcount : (tag :: code :: n :: (body ++ [hi, b])).length = n.toNat + 5 := by simp [hlen]
  have hhi : byteAt (tag :: code :: n :: (body ++ [hi, b])) (n.toNat + 3) = hi.toNat := by
    rw [← hlen]; simp [byteAt]
  have hlo : byteAt (tag :: code :: n :: (body ++ [hi, b])) (n.toNat + 3 + 1) = b.toNat := by
    rw [← hlen, Nat.add_right_comm]; simp [byteAt]
  have hbody : ((tag :: code :: n :: (body ++ [hi, b])).drop 3).take n.toNat = body := by
    rw [← hlen]; simp
  rw [hbytes]
  unfold State.assemble
  dsimp only
  rw [if_neg (by omega), if_pos ⟨by omega, hcount⟩]
  show s.receiveFrame tag code (((tag :: code :: n :: (body ++ [hi, b])).drop 3).take n.toNat)
    (BitVec.ofNat 16 (wordAt (tag :: code :: n :: (body ++ [hi, b])) (n.toNat + 3))) = _
  unfold wordAt
  rw [hbody, hhi, hlo, ofNat_word]

end LinkEvents

open LinkEvents

/-- Settles O20: a request given directly is its owner's service, which is neither begun with no slot free nor where no
frame can carry the request. -/
theorem unservableRequestIsNotTaken : Obligations.UnservableRequestIsNotTaken := by
  unfold Obligations.UnservableRequestIsNotTaken
  intro c s tag body hframe hc
  obtain ⟨serve, hexec⟩ := exec_of_frameOf hframe hc s
  refine ⟨fun htag hlen hfree => ?_, fun hbad => ?_⟩
  · rw [hexec, Laws.direct_of_full htag hlen hfree]
  · rw [hexec, Laws.direct_of_illFormed hbad]
    rfl

/-- Settles O21: the frame joins or overruns the buffer and clears LINK_BREAK, or is abandoned. -/
theorem receivedFrameJoinsBuffer : Obligations.ReceivedFrameJoinsBuffer := by
  unfold Obligations.ReceivedFrameJoinsBuffer
  intro s tag code body crc h
  refine ⟨fun htag hlen hcrc => ?_, fun hbad => ?_⟩
  · rw [exec_rxFrame, receiveFrame_of_good hlen hcrc, completeFrame_of_tag htag]
    generalize hu : ((s.sawStop false).onLnk fun l => completed l ⟨tag, code, body⟩).clearFault .linkBreak .nothing = u
    have hlnk : u.lnk = completed (s.sawStop false).lnk ⟨tag, code, body⟩ := by rw [← hu]; rfl
    have hflt : u.flt = s.flt.clear .linkBreak .nothing := by rw [← hu]; rfl
    have hrest : u.cfg = s.cfg ∧ u.clk = s.clk ∧ u.sch = s.sch ∧ u.seq = s.seq ∧ u.det = s.det ∧ u.out = s.out ∧
        u.lmp = s.lmp ∧ u.cbt = s.cbt ∧ u.sup = s.sup := by
      rw [← hu]; exact ⟨rfl, rfl, rfl, rfl, rfl, rfl, rfl, rfl, rfl⟩
    obtain ⟨hcfg, hclk, hsch, hseq, hdet, hout, hlmp, hcbt, hsup⟩ := hrest
    have hbase := Frames.base_closeAdditions s u
    obtain ⟨l, hl⟩ := closeAdditions_lnk s u
    obtain ⟨-, hentries, -, -, -, -, hseq', hout', hlmp', hcbt', hsup', -⟩ := Laws.closeAdditions_spec s u
    refine ⟨State.closeAdditions s u, ?_, ?_⟩
    · rw [finish_of_kept]
      · rw [hsup, hcfg]; exact h.2
      · rw [hseq]
    · rw [hl, hlnk, hentries, hflt, hseq', hout', hlmp', hcbt', hsup']
      exact ⟨rfl, rfl, rfl, rfl, rfl, rfl, Laws.clear_inactive _ _ _, (Frames.cfg_of_base hbase).trans hcfg,
        (Frames.clk_of_base hbase).trans hclk, (Frames.sch_of_base hbase).trans hsch, hseq,
        (Frames.det_of_base hbase).trans hdet, hout, hlmp, hcbt, hsup⟩
  · rw [exec_rxFrame, receiveFrame_of_bad hbad]
    exact congrArg Host.Outcome.next (finish_link h _)

/-- Settles O22: what each byte does in HUNT and in ASSEMBLING; the last one gives the frame whole. -/
theorem assemblerTakesBytes : Obligations.AssemblerTakesBytes := by
  unfold Obligations.AssemblerTakesBytes
  intro s b h
  refine ⟨fun hunt => ⟨?_, fun hb => ?_, ?_⟩, fun got hgot => ?_⟩
  · rw [exec_byteReceived, receiveByte_of_hunt (s := s.sawStop true) hunt, if_neg (by simp)]
    exact congrArg Host.Outcome.next (finish_link h _)
  · rw [exec_byteReceived, receiveByte_of_hunt (s := s.sawStop false) hunt, if_neg (by simp [hb])]
    exact congrArg Host.Outcome.next (finish_link h _)
  · rw [exec_byteReceived, receiveByte_of_hunt (s := s.sawStop false) hunt, if_pos ⟨rfl, rfl⟩]
    exact congrArg Host.Outcome.next (finish_link h _)
  · have taken (fe : Bool) := receiveByte_of_assembling (s := s.sawStop fe) hgot b
    refine ⟨?_, fun hlen hb => ?_, fun hjoin => ?_, ?_⟩
    · rw [exec_byteReceived, (taken true).1]
      exact congrArg Host.Outcome.next (finish_link h _)
    · rw [exec_byteReceived, (taken false).2, assemble_of_long hlen hb]
      exact congrArg Host.Outcome.next (finish_link h _)
    · rw [exec_byteReceived, (taken false).2, assemble_of_joining hjoin]
      exact congrArg Host.Outcome.next (finish_link h _)
    · rintro tag code n body hi rfl hlen hn
      rw [exec_byteReceived, (taken false).2, assemble_of_whole hlen hn, exec_rxFrame]

/-- Settles O23, by the two conditions as they stand. -/
theorem interbyteGapAndSentFrame : Obligations.InterbyteGapAndSentFrame := by
  unfold Obligations.InterbyteGapAndSentFrame
  refine ⟨fun s got hgot hgap => ?_, fun s f rest hout => ?_⟩
  · have hdue : s.interbyteDue = true := by
      unfold State.interbyteDue
      rw [hgot, hgap]
      rfl
    show Host.Outcome.next _ = _
    rw [if_pos hdue]
    rfl
  · have hsend : s.lnk.sendFirst =
        { s.lnk with output := rest, sent := if rest = [] then 0 else s.lnk.sent - f.lineTime } := by
      unfold Lnk.sendFirst
      rw [hout]
      simp only [List.isEmpty_iff]
    show Host.Outcome.next (s.onLnk Lnk.sendFirst) = _
    rw [State.onLnk, hsend]

/-- Settles O25: the oldest frame's request is served as its catalogue row from the state with the frame taken off. -/
theorem oldestFrameReachesItsOwner : Obligations.OldestFrameReachesItsOwner := by
  unfold Obligations.OldestFrameReachesItsOwner
  intro s f rest h hinput htag hlen
  have htake := takeOldest_of_frame hinput
  have hexec : exec .requestTaken s = .next s.takeOldest := rfl
  have htakes (hfree : s.lnk.freeSlots ≠ 0) : (s.onLnk fun l => { l with input := rest }).takes f.tag f.body :=
    ⟨h, htag, hlen, hfree⟩
  refine ⟨fun hfree => by rw [hexec, htake, if_pos hfree], fun hfree c hc => ?_, fun hfree hcode hc => ?_⟩
  · have hdirect := Laws.direct_of_takes (htakes hfree) (serveRequest f.tag f.code f.body)
    rw [finish_onLnk] at hdirect
    rw [hexec, htake, if_neg hfree, ← hdirect]
    exact (exec_of_catalogued hc _).symm
  · have hserve := serveRequest_of_unknown hc (s.onLnk fun l => { l with input := rest }).reserve
    have hrefused := Laws.direct_refuse .unknownRequest (htakes hfree) hcode (serve := serveRequest f.tag f.code f.body) hserve
    rw [Laws.direct_of_takes (htakes hfree), finish_onLnk] at hrefused
    rw [hexec, htake, if_neg hfree, hrefused]
    rfl

end Sys2Proof.Machine
end

section
/-! PROOFS. Steps, one millisecond and the resets: the statements O1, O2, O11 and O34. -/

namespace Sys2Proof.Machine

set_option Elab.async false

namespace Resets

variable {s t : State}

/-! ### One millisecond -/

theorem min_lt_of_lt {a b c : Nat} (h : c ≤ a) : min a b < c ↔ b < c := by omega

theorem line_ms (l : Line) (returned : Bool) :
    (l = .mark → l.ms returned = .mark) ∧
      ∀ n declared, l = .space n declared → l.ms returned = .mark ∨ l.ms returned = .space (min 25 (n + 1)) declared := by
  refine ⟨fun h => by rw [h]; rfl, fun n declared h => ?_⟩
  rw [h]
  cases returned
  · exact .inr rfl
  · exact .inl rfl

theorem clk_ms (k : Clk) (low : Bool) :
    k.ms low =
      { k with
        vbakLow := low
        sinceCrossing := min 50 (k.sinceCrossing + 1)
        stability := if k.sinceCrossing + 1 < 50 then min 2000 (k.stability + 1) else k.stability
        divider := k.divider + 32768 } := by
  unfold Clk.ms
  simp only [min_lt_of_lt le_rfl]
  rfl

theorem lnk_ms (l : Lnk) (returned : Bool) :
    l.ms returned =
      { l with
        line := l.line.ms returned
        interbyte := (match l.assembler with | .assembling _ => min 5 (l.interbyte + 1) | .hunt => 0)
        sent := if l.output = [] then 0 else l.sent + (if l.fast = true then 11520 else 5760) } := by
  unfold Lnk.ms
  simp only [List.isEmpty_iff] <;> rfl

theorem det_ms (r : DetRun) (used : Bool) :
    r.ms used =
      if used = true ∧ r.reading ≠ r.accepted then { r with debounceTime := min 500 (r.debounceTime + 1), nextMs := false }
      else { r with nextMs := false } := by
  unfold DetRun.ms
  simp only [Bool.and_eq_true, bne_iff_ne]

theorem sup_ms (u : Sup) (proof : Proof) :
    u.ms (proof == .closed) =
      { u with
        phaseTime := if u.mode = .startupCheck ∧ proof = .closed then min 500 (u.phaseTime + 1) else u.phaseTime
        conflicts := u.conflicts.map fun p => if p.found = true then p else { p with ms := min 50 (p.ms + 1) }
        supplyGap := min 200 (u.supplyGap + 1)
        supplyStable :=
          if u.crossingSeen = true ∧ u.supplyGap + 1 < 50 then min 2000 (u.supplyStable + 1) else u.supplyStable } := by
  unfold Sup.ms
  simp only [Bool.and_eq_true, decide_eq_true_iff, beq_iff_eq, min_lt_of_lt (show 50 ≤ 200 by decide)]

theorem msCounts_msTick (s : State) : s.msCounts s.msTick := by
  have hline := line_ms s.lnk.line (Config.lineReturns (s.now + 1))
  refine ⟨rfl, rfl, rfl, rfl, rfl, clk_ms _ _, lnk_ms _ _, hline.1, hline.2, fun d => ?_, fun c => ?_, rfl, rfl, rfl, fun c => ?_, rfl,
    sup_ms _ _, rfl⟩
  · exact (Tab.get_ofFn _ d).trans (det_ms _ _)
  · exact Tab.get_map _ _ c
  · exact Tab.get_map _ _ c

/-! ### The resets -/

/-- A state whose records are those of a reset, but for the clock, the pins and the fault table. -/
theorem emptied_of {fast : Bool} {line : Line} {tick : Nat} (hcfg : t.cfg = Cfg.reset) (hsch : t.sch = Sch.reset)
    (hseq : t.seq = { Seq.reset with tick := tick }) (hdet : ∀ d, ∃ p, t.input d = { DetRun.reset with pin := p })
    (hout : t.out = Out.reset) (hlmp : t.lmp = Tab.fill 48 LampRec.reset) (hcbt : t.cbt = Cbt.reset t.now)
    (hsup : t.sup = Sup.reset) (hlnk : t.lnk = Lnk.reset fast line) (hover : t.flt.overflow = false)
    (hpulse : t.flt.pulse = none) : t.emptied fast := by
  have hgroup (g : Gid) : t.group g = GroupRun.reset := by unfold State.group; rw [hseq]; exact Tab.get_fill _ g
  have hinput (d : Det) : (t.input d).reading = false ∧ (t.input d).accepted = false ∧ (t.input d).debounceTime = 0 ∧
      (t.input d).stateTime = 0 ∧ (t.input d).fault = .none ∧ (t.input d).count = 0 := by
    obtain ⟨p, hp⟩ := hdet d
    rw [hp]
    exact ⟨rfl, rfl, rfl, rfl, rfl, rfl⟩
  have hchan (c : Ch) : t.chan c = ChanRun.reset := by unfold State.chan; rw [hout]; exact Tab.get_fill _ c
  have hlamp (c : Ch) : t.lamp c = LampRec.reset := by unfold State.lamp; rw [hlmp]; exact Tab.get_fill _ c
  have hresult (e : PEnt) : t.result e = ResultRec.reset := by unfold State.result; rw [hcbt]; exact Tab.get_fill _ e
  have hcable (c : Ch) : t.cbt.cable.get c = .untested ∧ t.cbt.quietSince.get c = some t.now := by
    rw [hcbt]; exact ⟨Tab.get_fill _ c, Tab.get_fill _ c⟩
  have hgrace (g : Gid) : t.sup.grace.get g = .idle := by rw [hsup]; exact Tab.get_fill _ g
  unfold State.emptied
  simp only [hgroup, hcable, hgrace, hover, hpulse, hlnk]
  rw [hcfg, hsch, hseq, hout, hcbt, hsup]
  simp only [Cfg.reset, Sch.reset, Seq.reset, Out.reset, Cbt.reset, Sup.reset, Lnk.reset, GroupRun.reset, FlashGen.reset,
    Contactor.reset, implies_true, and_self, true_and]
  exact ⟨hinput, hchan, hlamp, hresult, trivial⟩

theorem line_restart (l : Line) : l.restart = if l = .mark then .mark else .space 0 false := by
  cases l <;> rfl

theorem pin_map (t : Tab 32 DetRun) (d : Det) : (t.map fun r => { DetRun.reset with pin := r.pin }).get d =
    { DetRun.reset with pin := (t.get d).pin } := Tab.get_map _ t d

theorem pin_kept (t : Tab 32 DetRun) (d : Det) : ((t.map fun r : DetRun => { DetRun.reset with pin := r.pin }).get d).pin = (t.get d).pin := by
  rw [pin_map]

/-! ### The power-on reset (R78) -/

/-- The clock of a power-on, but for the date, the time and what the backup held. -/
theorem clk_powerOn (k : Clk) (held : Bool) (n : Nat) (low : Bool) :
    (k.powerOn held n low).source = .crystal ∧ (k.powerOn held n low).mainsCount = 0 ∧ (k.powerOn held n low).stability = 0 ∧
      (k.powerOn held n low).pattern = 1 ∧ (k.powerOn held n low).secs = 0 ∧ (k.powerOn held n low).pendingSet = none ∧
      (k.powerOn held n low).vbakLow = low := by
  cases held
  · exact ⟨rfl, rfl, rfl, rfl, rfl, rfl, rfl⟩
  · exact ⟨rfl, rfl, rfl, rfl, rfl, rfl, rfl⟩

/-- With an invalid time the power-on makes the TIME_INVALID entry and counts its addition. -/
theorem flt_invalidTime {u : State} (hflt : u.flt = Flt.reset) (hcfg : u.cfg = Cfg.reset) (hvalid : u.clk.valid = false)
    (hsecs : u.clk.secs = 0) (hlnk : u.lnk.notices = false) :
    State.closeAdditions u (u.report .timeInvalid .nothing) =
      { u with
        flt :=
          { Flt.reset with
            entries := [⟨.timeInvalid, .nothing, false, true, false, .invalid 0, .invalid 0, 1⟩]
            pendingSet := { PendingSet.empty with faultNew := true } } } := by
  have hstamp : u.stamp = .invalid 0 := by unfold State.stamp; rw [hvalid, hsecs]; rfl
  have hcab : u.cabinet.attnMode = .level := by unfold State.cabinet; rw [hcfg]; rfl
  have hreport : u.report .timeInvalid .nothing =
      { u with
        flt :=
          { Flt.reset with
            entries := [⟨.timeInvalid, .nothing, false, true, false, .invalid 0, .invalid 0, 1⟩]
            pendingSet := { PendingSet.empty with faultNew := true }
            added := true } } := by
    unfold State.report State.reportAs State.onFlt
    rw [hstamp, hflt]
    rfl
  rw [hreport]
  unfold State.closeAdditions
  rw [if_pos rfl]
  dsimp only
  rw [if_neg (by show ¬(u.lnk.notices && _) = true; rw [hlnk]; exact nofun)]
  unfold State.onFlt
  rw [hcab]
  rfl

end Resets

open Resets

/-- Settles O1, by the step's definition. -/
theorem stepRunsFrontCommand : Obligations.StepRunsFrontCommand := by
  unfold Obligations.StepRunsFrontCommand
  intro c rest s h
  unfold step
  rw [h]

/-- Settles O2: the first due row, or one millisecond with each of its counts. -/
theorem idleStepTakesDueStepOrMillisecond : Obligations.IdleStepTakesDueStepOrMillisecond := by
  unfold Obligations.IdleStepTakesDueStepOrMillisecond
  intro s h
  have hstep : step s = idle s := by unfold step; rw [h]
  refine ⟨fun c hc => ?_, fun hnone => ⟨s.msTick, ?_, msCounts_msTick s⟩⟩
  · rw [hstep]; unfold idle; rw [hc]
  · rw [hstep]; unfold idle; rw [hnone]

/-- Settles O11: the reset state, law by law, by evaluation. -/
theorem resetStateIsSafe : Obligations.ResetStateIsSafe := by
  unfold Obligations.ResetStateIsSafe
  have hsound : State.reset.flt.sound := ⟨by decide, List.pairwise_singleton _ _⟩
  have hcoil : State.reset.coilSafe := by unfold State.coilSafe; decide +kernel
  have hcolours : State.reset.followsColours := by unfold State.followsColours; decide +kernel
  have hhanded : State.reset.handedOn := by unfold State.handedOn; decide +kernel
  have hdark : State.reset.darkWhereDue := by unfold State.darkWhereDue; decide +kernel
  have hslots : State.reset.slotsSound := by unfold State.slotsSound; decide +kernel
  have hlists : State.reset.listsSound := by unfold State.listsSound; decide +kernel
  exact ⟨hsound, hcoil, hcolours, hhanded, hdark, hslots, hlists, rfl, fun _ => rfl⟩

/-- Settles O34: the records of each reset, with the clock by what the backup held. -/
theorem resetsEmptyEveryRecord : Obligations.ResetsEmptyEveryRecord := by
  unfold Obligations.ResetsEmptyEveryRecord
  intro s spd1 spd0
  refine ⟨⟨s.inputReset (spd1 && spd0), rfl, emptied_of (tick := s.seq.tick) rfl rfl rfl (fun d => ⟨_, pin_map _ d⟩) rfl rfl rfl rfl
    rfl rfl rfl, rfl, rfl, rfl, fun d => pin_kept s.det d, line_restart _⟩, fun held low n => ?_⟩
  obtain ⟨hsource, hmains, hstability, hpattern, hsecs, hset, hlow⟩ := clk_powerOn s.clk held n low
  have hdate : held = false → (s.clk.powerOn held n low) = { Clk.reset with vbakLow := low } := by rintro rfl; rfl
  have hheld : held = true → (s.clk.powerOn held n low) = s.clk.heldThrough n low := by rintro rfl; rfl
  have hon : exec (.powerOnReset held n low spd1 spd0) s = .next (s.powerOn held n low (spd1 && spd0)) := rfl
  rw [Acts.powerOn_eq] at hon
  generalize hu : Acts.poweredOn s held n low (spd1 && spd0) = u at hon
  have hclk : u.clk = s.clk.powerOn held n low := by rw [← hu]; rfl
  have hflt : u.flt = Flt.reset := by rw [← hu]; rfl
  have hem {f : Flt} (hover : f.overflow = false) (hpulse : f.pulse = none) : ({ u with flt := f } : State).emptied (spd1 && spd0) := by
    rw [← hu]
    exact emptied_of (tick := 0) rfl rfl rfl (fun d => ⟨_, pin_map _ d⟩) rfl rfl rfl rfl rfl hover hpulse
  have hpin (d : Det) : (u.input d).pin = (s.input d).pin := by rw [← hu]; exact pin_kept s.det d
  have hline : u.lnk.line = if s.lnk.line = .mark then .mark else .space 0 false := by rw [← hu]; exact line_restart _
  obtain ⟨t, ht, htclk, htem, htpin, htline, hvalid, hinvalid⟩ : ∃ t, exec (.powerOnReset held n low spd1 spd0) s = .next t ∧
      t.clk = s.clk.powerOn held n low ∧ t.emptied (spd1 && spd0) ∧ (∀ d, (t.input d).pin = (s.input d).pin) ∧
      t.lnk.line = (if s.lnk.line = .mark then .mark else .space 0 false) ∧
      (t.clk.valid = true → t.flt.entries = [] ∧ t.flt.pendingSet = PendingSet.empty) ∧
      (t.clk.valid = false →
        t.flt.entries = [⟨.timeInvalid, .nothing, false, true, false, .invalid 0, .invalid 0, 1⟩] ∧
          t.flt.pendingSet = { PendingSet.empty with faultNew := true }) := by
    cases hv : u.clk.valid with
    | true =>
      rw [if_pos hv] at hon
      refine ⟨u, hon, hclk, hem (f := u.flt) (by rw [hflt]; rfl) (by rw [hflt]; rfl), hpin, hline, fun _ => ?_, fun h => ?_⟩
      · rw [hflt]; exact ⟨rfl, rfl⟩
      · exact absurd (hv.symm.trans h) nofun
    | false =>
      rw [if_neg (by rw [hv]; exact nofun), flt_invalidTime hflt (by rw [← hu]; rfl) hv (by rw [hclk]; exact hsecs)
        (by rw [← hu]; rfl)] at hon
      exact ⟨_, hon, hclk, hem rfl rfl, hpin, hline, fun h => absurd (hv.symm.trans h) nofun, fun _ => ⟨rfl, rfl⟩⟩
  refine ⟨t, ht, htem, htpin, htline, ?_⟩
  rw [htclk] at hvalid hinvalid ⊢
  refine ⟨hsource, hmains, hstability, hpattern, hsecs, hset, hlow, fun h => ?_, fun h => ?_, hvalid, hinvalid⟩
  · rw [hdate h]
    exact ⟨rfl, rfl, rfl, rfl, rfl, rfl, rfl⟩
  · rw [hheld h]
    refine ⟨rfl, rfl, ?_, rfl, rfl, rfl, rfl⟩
    show (s.clk.valid && !(Date.plusDays ((s.clk.tod + n) / 864000) s.clk.date).2) = true ↔ _
    simp only [Bool.and_eq_true, Bool.not_eq_true']

end Sys2Proof.Machine
end

section
/-! PROOFS. Records written and read back: the statement O31. -/

namespace Sys2Proof.Machine

set_option Elab.async false

namespace Records

variable {c new : ConfigSet} {n k k' : Nat} {f : Bool} {α : Type}

/-- Where the records of a class stand in a set of records, and how one is read as bytes. -/
structure Place (n : Nat) (α : Type) where
  get : ConfigSet → Tab n α
  set : ConfigSet → Tab n α → ConfigSet
  bytes : α → List Byte

def groupsAt : Place 16 GroupRec := ⟨fun c => c.st.groups, fun c t => { c with st := { c.st with groups := t } }, GroupRec.bytes⟩
def channelsAt : Place 48 ChannelRec := ⟨fun c => c.st.channels, fun c t => { c with st := { c.st with channels := t } }, ChannelRec.bytes⟩
def conflictsAt : Place 16 (List Gid) := ⟨fun c => c.st.conflicts, fun c t => { c with st := { c.st with conflicts := t } }, counted⟩
def intergreensAt : Place 16 (Tab 16 Nat) := ⟨fun c => c.st.intergreens, fun c t => { c with st := { c.st with intergreens := t } }, fun row => row.items.flatMap u16⟩
def cablesAt : Place 24 (List Ch) := ⟨fun c => c.st.cables, fun c t => { c with st := { c.st with cables := t } }, counted⟩
def probesAt : Place 64 ProbeRec := ⟨fun c => c.st.probes, fun c t => { c with st := { c.st with probes := t } }, ProbeRec.bytes⟩
def groupTimingsAt : Place 16 GroupTiming := ⟨fun c => c.tm.groupTimings, fun c t => { c with tm := { c.tm with groupTimings := t } }, GroupTiming.bytes⟩
def settingsAt : Place 48 ChanSettings := ⟨fun c => c.tm.settings, fun c t => { c with tm := { c.tm with settings := t } }, ChanSettings.bytes⟩
def stagesAt : Place 16 (List Gid) := ⟨fun c => c.tm.stages, fun c t => { c with tm := { c.tm with stages := t } }, counted⟩
def plansAt : Place 8 PlanRec := ⟨fun c => c.tm.plans, fun c t => { c with tm := { c.tm with plans := t } }, PlanRec.bytes⟩
def detectorsAt : Place 32 DetectorRec := ⟨fun c => c.tm.detectors, fun c t => { c with tm := { c.tm with detectors := t } }, DetectorRec.bytes⟩
def scheduleAt : Place 32 ScheduleRec := ⟨fun c => c.tm.schedule, fun c t => { c with tm := { c.tm with schedule := t } }, ScheduleRec.bytes⟩
def specialsAt : Place 16 (Option SpecialRec) := ⟨fun c => c.tm.specials, fun c t => { c with tm := { c.tm with specials := t } }, specialBytes⟩

/-- The record of one number written from its parse. -/
def Place.write (p : Place n α) (c : ConfigSet) (k : Nat) (parsed : Except Status (α × Bool)) : Except Status (ConfigSet × Bool) := do
  let i ← named (member n k)
  let r ← parsed
  return (p.set c ((p.get c).put i r.1), r.2)

/-- The record of one number read. -/
def Place.read (p : Place n α) (c : ConfigSet) (k : Nat) : Option (List Byte) := (member n k).map fun i => p.bytes ((p.get c).get i)

variable {p : Place n α} {parsed : Except Status (α × Bool)}

theorem write_of_member {i : Fin n} (hi : member n k = some i) (p : Place n α) (c : ConfigSet) (parsed : Except Status (α × Bool)) :
    p.write c k parsed = parsed.map fun r => (p.set c ((p.get c).put i r.1), r.2) := by
  unfold Place.write
  rw [hi]
  cases parsed <;> rfl

theorem member_of_inRange (hlo : 1 ≤ k) (hhi : k ≤ n) : ∃ i : Fin n, member n k = some i := ⟨_, dif_pos ⟨hlo, hhi⟩⟩

theorem number_of_member {i : Fin n} (h : member n k = some i) : k = i.val + 1 := by
  unfold member at h
  split at h
  · have hi := congrArg Fin.val (Option.some.inj h)
    dsimp only at hi
    omega
  · exact absurd h nofun

/-- A write whose parse succeeds is taken and reads back; one whose parse fails is refused with its status. -/
theorem write_reads (hset : ∀ c t, p.get (p.set c t) = t) (c : ConfigSet) (hlo : 1 ≤ k) (hhi : k ≤ n) :
    (∀ stored f, parsed.map (fun r => (p.bytes r.1, r.2)) = .ok (stored, f) →
      ∃ new, p.write c k parsed = .ok (new, f) ∧ p.read new k = some stored) ∧
    ∀ st, parsed.map (fun r => (p.bytes r.1, r.2)) = .error st → p.write c k parsed = .error st := by
  obtain ⟨i, hi⟩ := member_of_inRange hlo hhi
  rw [write_of_member hi]
  cases parsed with
  | error st => exact ⟨nofun, fun st' h => by cases h; rfl⟩
  | ok r =>
    refine ⟨fun stored f h => ?_, nofun⟩
    cases h
    refine ⟨_, rfl, ?_⟩
    unfold Place.read
    rw [hi, Option.map_some, hset, Tab.get_put_self]

/-- What a taken write changed. -/
theorem of_write (h : p.write c k parsed = .ok (new, f)) : ∃ i a, k = i.val + 1 ∧ new = p.set c ((p.get c).put i a) := by
  cases hi : member n k with
  | none =>
    unfold Place.write at h
    rw [hi] at h
    exact absurd h nofun
  | some i =>
    rw [write_of_member hi] at h
    cases parsed with
    | error st => exact absurd h nofun
    | ok r =>
      cases h
      exact ⟨i, r.1, number_of_member hi, rfl⟩

/-- A record written at one number leaves the others of its class. -/
theorem read_set_other (hset : ∀ c t, p.get (p.set c t) = t) (c : ConfigSet) {i : Fin n} (a : α) (hk : i.val + 1 ≠ k') :
    p.read (p.set c ((p.get c).put i a)) k' = p.read c k' := by
  unfold Place.read
  cases hj : member n k' with
  | none => rfl
  | some j =>
    have hne : i ≠ j := fun h => hk (h ▸ (number_of_member hj).symm)
    rw [Option.map_some, Option.map_some, hset, Tab.get_put_ne _ _ hne]

end Records

open Records

/-- Every class takes a write by its own parse, at the place of its index. -/
theorem write_takes (c : ConfigSet) (cls : RecordClass) (k : Nat) (rec : List Byte) (hlo : 1 ≤ k) (hhi : k ≤ cls.count) :
    (∀ stored f, cls.takes rec = .ok (stored, f) → ∃ new, c.write cls k rec = .ok (new, f) ∧ new.read cls k = some stored) ∧
      ∀ st, cls.takes rec = .error st → c.write cls k rec = .error st := by
  cases cls with
  | group => exact write_reads (p := groupsAt) (parsed := parseGroup rec) (fun _ _ => rfl) c hlo hhi
  | channel => exact write_reads (p := channelsAt) (parsed := parseChannel rec) (fun _ _ => rfl) c hlo hhi
  | conflictRow => exact write_reads (p := conflictsAt) (parsed := parseGroupSet rec) (fun _ _ => rfl) c hlo hhi
  | intergreenRow => exact write_reads (p := intergreensAt) (parsed := parseIntergreen rec) (fun _ _ => rfl) c hlo hhi
  | cable => exact write_reads (p := cablesAt) (parsed := parseCable rec) (fun _ _ => rfl) c hlo hhi
  | probe => exact write_reads (p := probesAt) (parsed := parseProbe rec) (fun _ _ => rfl) c hlo hhi
  | groupTiming => exact write_reads (p := groupTimingsAt) (parsed := parseGroupTiming rec) (fun _ _ => rfl) c hlo hhi
  | channelSettings => exact write_reads (p := settingsAt) (parsed := parseSettings rec) (fun _ _ => rfl) c hlo hhi
  | stage => exact write_reads (p := stagesAt) (parsed := parseGroupSet rec) (fun _ _ => rfl) c hlo hhi
  | plan => exact write_reads (p := plansAt) (parsed := parsePlan rec) (fun _ _ => rfl) c hlo hhi
  | detector => exact write_reads (p := detectorsAt) (parsed := parseDetector rec) (fun _ _ => rfl) c hlo hhi
  | schedule => exact write_reads (p := scheduleAt) (parsed := parseSchedule rec) (fun _ _ => rfl) c hlo hhi
  | specialDay => exact write_reads (p := specialsAt) (parsed := parseSpecial rec) (fun _ _ => rfl) c hlo hhi
  | cabinet =>
    obtain ⟨i, hi⟩ := member_of_inRange (n := 1) hlo hhi
    have hwrite : c.write .cabinet k rec = (parseCabinet rec).map fun r => ({ c with tm := { c.tm with cabinet := r.1 } }, r.2) := by
      unfold ConfigSet.write
      dsimp only
      rw [hi]
      cases parseCabinet rec <;> rfl
    rw [hwrite]
    unfold RecordClass.takes ConfigSet.read
    dsimp only
    rw [hi]
    cases parseCabinet rec with
    | error st => exact ⟨nofun, fun st' h => by cases h; rfl⟩
    | ok r => exact ⟨fun stored f h => by cases h; exact ⟨_, rfl, rfl⟩, nofun⟩

/-- A taken write leaves every record of another class or another index. -/
theorem read_of_write {c new : ConfigSet} {cls cls' : RecordClass} {k k' : Nat} {rec : List Byte} {f : Bool}
    (h : c.write cls k rec = .ok (new, f)) (hne : cls ≠ cls' ∨ k ≠ k') : new.read cls' k' = c.read cls' k' := by
  cases cls with
  | group =>
    obtain ⟨i, a, rfl, rfl⟩ := of_write (p := groupsAt) (parsed := parseGroup rec) h
    cases cls' with
    | group => exact read_set_other (p := groupsAt) (fun _ _ => rfl) c a (hne.resolve_left (absurd rfl))
    | _ => rfl
  | channel =>
    obtain ⟨i, a, rfl, rfl⟩ := of_write (p := channelsAt) (parsed := parseChannel rec) h
    cases cls' with
    | channel => exact read_set_other (p := channelsAt) (fun _ _ => rfl) c a (hne.resolve_left (absurd rfl))
    | _ => rfl
  | conflictRow =>
    obtain ⟨i, a, rfl, rfl⟩ := of_write (p := conflictsAt) (parsed := parseGroupSet rec) h
    cases cls' with
    | conflictRow => exact read_set_other (p := conflictsAt) (fun _ _ => rfl) c a (hne.resolve_left (absurd rfl))
    | _ => rfl
  | intergreenRow =>
    obtain ⟨i, a, rfl, rfl⟩ := of_write (p := intergreensAt) (parsed := parseIntergreen rec) h
    cases cls' with
    | intergreenRow => exact read_set_other (p := intergreensAt) (fun _ _ => rfl) c a (hne.resolve_left (absurd rfl))
    | _ => rfl
  | cable =>
    obtain ⟨i, a, rfl, rfl⟩ := of_write (p := cablesAt) (parsed := parseCable rec) h
    cases cls' with
    | cable => exact read_set_other (p := cablesAt) (fun _ _ => rfl) c a (hne.resolve_left (absurd rfl))
    | _ => rfl
  | probe =>
    obtain ⟨i, a, rfl, rfl⟩ := of_write (p := probesAt) (parsed := parseProbe rec) h
    cases cls' with
    | probe => exact read_set_other (p := probesAt) (fun _ _ => rfl) c a (hne.resolve_left (absurd rfl))
    | _ => rfl
  | groupTiming =>
    obtain ⟨i, a, rfl, rfl⟩ := of_write (p := groupTimingsAt) (parsed := parseGroupTiming rec) h
    cases cls' with
    | groupTiming => exact read_set_other (p := groupTimingsAt) (fun _ _ => rfl) c a (hne.resolve_left (absurd rfl))
    | _ => rfl
  | channelSettings =>
    obtain ⟨i, a, rfl, rfl⟩ := of_write (p := settingsAt) (parsed := parseSettings rec) h
    cases cls' with
    | channelSettings => exact read_set_other (p := settingsAt) (fun _ _ => rfl) c a (hne.resolve_left (absurd rfl))
    | _ => rfl
  | stage =>
    obtain ⟨i, a, rfl, rfl⟩ := of_write (p := stagesAt) (parsed := parseGroupSet rec) h
    cases cls' with
    | stage => exact read_set_other (p := stagesAt) (fun _ _ => rfl) c a (hne.resolve_left (absurd rfl))
    | _ => rfl
  | plan =>
    obtain ⟨i, a, rfl, rfl⟩ := of_write (p := plansAt) (parsed := parsePlan rec) h
    cases cls' with
    | plan => exact read_set_other (p := plansAt) (fun _ _ => rfl) c a (hne.resolve_left (absurd rfl))
    | _ => rfl
  | detector =>
    obtain ⟨i, a, rfl, rfl⟩ := of_write (p := detectorsAt) (parsed := parseDetector rec) h
    cases cls' with
    | detector => exact read_set_other (p := detectorsAt) (fun _ _ => rfl) c a (hne.resolve_left (absurd rfl))
    | _ => rfl
  | schedule =>
    obtain ⟨i, a, rfl, rfl⟩ := of_write (p := scheduleAt) (parsed := parseSchedule rec) h
    cases cls' with
    | schedule => exact read_set_other (p := scheduleAt) (fun _ _ => rfl) c a (hne.resolve_left (absurd rfl))
    | _ => rfl
  | specialDay =>
    obtain ⟨i, a, rfl, rfl⟩ := of_write (p := specialsAt) (parsed := parseSpecial rec) h
    cases cls' with
    | specialDay => exact read_set_other (p := specialsAt) (fun _ _ => rfl) c a (hne.resolve_left (absurd rfl))
    | _ => rfl
  | cabinet =>
    have hput : ∃ r, k = 1 ∧ new = { c with tm := { c.tm with cabinet := r } } := by
      unfold ConfigSet.write at h
      cases hi : member 1 k with
      | none => rw [hi] at h; exact absurd h nofun
      | some i =>
        rw [hi] at h
        cases hr : parseCabinet rec with
        | error st => rw [hr] at h; exact absurd h nofun
        | ok r => rw [hr] at h; cases h; exact ⟨_, by have := number_of_member hi; omega, rfl⟩
    obtain ⟨r, rfl, rfl⟩ := hput
    cases cls' with
    | cabinet =>
      have hk : member 1 k' = none := dif_neg fun hk => hne.elim (absurd rfl) fun hne => hne (by omega)
      unfold ConfigSet.read
      dsimp only
      rw [hk]
      rfl
    | _ => rfl

/-- Settles O31, by what each class's parse makes of the bytes and where the record is put. -/
theorem writeChangesOneRecord : Obligations.WriteChangesOneRecord := by
  unfold Obligations.WriteChangesOneRecord
  exact ⟨write_takes, fun _ _ _ _ _ _ _ _ => read_of_write⟩

end Sys2Proof.Machine
end

section
/-! PROOFS. The records of the fourteen classes read back from their bytes, and clamped: the statement O32. -/

namespace Sys2Proof.Machine

set_option Elab.async false

namespace Records

/-! ### Bytes, words and names read back -/

@[simp] theorem byteAt_zero (b : Byte) (l : List Byte) : byteAt (b :: l) 0 = b.toNat := rfl
@[simp] theorem byteAt_succ (b : Byte) (l : List Byte) (i : Nat) : byteAt (b :: l) (i + 1) = byteAt l i := rfl

theorem byte_of_lt {n : Nat} (h : n < 256) : (BitVec.ofNat 8 n).toNat = n := by
  rw [BitVec.toNat_ofNat]; omega

theorem word_of_lt {n : Nat} (h : n < 65536) : (BitVec.ofNat 8 (n / 256)).toNat * 256 + (BitVec.ofNat 8 n).toNat = n := by
  rw [BitVec.toNat_ofNat, BitVec.toNat_ofNat]; omega

@[simp] theorem named_some {α : Type} (a : α) : named (some a) = .ok a := rfl

theorem bool_of_iff {p : Prop} [Decidable p] {b : Bool} (h : b = true ↔ p) : b = decide p := by
  cases b
  · exact (decide_eq_false fun hp => Bool.false_ne_true (h.mpr hp)).symm
  · exact (decide_eq_true (h.mp rfl)).symm

theorem clampTo_of {lo hi n : Nat} (h : lo ≤ n) (h' : n ≤ hi) : clampTo lo hi n = n := by unfold clampTo; omega

theorem clampTo_zero (hi n : Nat) : clampTo 0 hi n = min hi n := Nat.zero_max _

theorem long_of_lt {n : Nat} (h : n < 4294967296) :
    ((BitVec.ofNat 8 (n / 16777216)).toNat * 256 + (BitVec.ofNat 8 (n / 65536)).toNat) * 65536 +
      ((BitVec.ofNat 8 (n / 256)).toNat * 256 + (BitVec.ofNat 8 n).toNat) = n := by
  simp only [BitVec.toNat_ofNat]; omega

@[simp] theorem ofCode_refMode (m : RefMode) : RefMode.ofCode (BitVec.ofNat 8 m.code).toNat = some m := by cases m <;> rfl
@[simp] theorem ofCode_lampKind (m : LampKind) : LampKind.ofCode (BitVec.ofNat 8 m.code).toNat = some m := by cases m <;> rfl
@[simp] theorem ofCode_method (m : CorrectionMethod) : CorrectionMethod.ofCode (BitVec.ofNat 8 m.code).toNat = some m := by
  cases m <;> rfl
@[simp] theorem ofCode_polarity (m : Polarity) : Polarity.ofCode (BitVec.ofNat 8 m.code).toNat = some m := by cases m <;> rfl
@[simp] theorem ofCode_clockSource (m : ClockSource) : ClockSource.ofCode (BitVec.ofNat 8 m.code).toNat = some m := by cases m <;> rfl
@[simp] theorem ofCode_mainsFreq (m : MainsFreq) : MainsFreq.ofCode (BitVec.ofNat 8 m.code).toNat = some m := by cases m <;> rfl
@[simp] theorem ofCode_breakAction (m : BreakAction) : BreakAction.ofCode (BitVec.ofNat 8 m.code).toNat = some m := by cases m <;> rfl
@[simp] theorem ofCode_attnMode (m : AttnMode) : AttnMode.ofCode (BitVec.ofNat 8 m.code).toNat = some m := by cases m <;> rfl

@[simp] theorem namedOrAbsent_aspect (o : Option Aspect) :
    namedOrAbsent Aspect.ofCode (BitVec.ofNat 8 ((o.map Aspect.code).getD 255)).toNat = .ok o := by
  rcases o with _ | a
  · rfl
  · cases a <;> rfl
@[simp] theorem namedOrAbsent_groupKind (o : Option GroupKind) :
    namedOrAbsent GroupKind.ofCode (BitVec.ofNat 8 ((o.map GroupKind.code).getD 255)).toNat = .ok o := by
  rcases o with _ | a
  · rfl
  · cases a <;> rfl
@[simp] theorem namedOrAbsent_probeKind (o : Option ProbeKind) :
    namedOrAbsent ProbeKind.ofCode (BitVec.ofNat 8 ((o.map ProbeKind.code).getD 255)).toNat = .ok o := by
  rcases o with _ | a
  · rfl
  · cases a <;> rfl
@[simp] theorem namedOrAbsent_detKind (o : Option DetKind) :
    namedOrAbsent DetKind.ofCode (BitVec.ofNat 8 ((o.map DetKind.code).getD 255)).toNat = .ok o := by
  rcases o with _ | a
  · rfl
  · cases a <;> rfl

theorem toNat_number {n : Nat} (hn : n < 255) (i : Fin n) : (BitVec.ofNat 8 (number i)).toNat = number i := by
  rw [BitVec.toNat_ofNat]; unfold number; omega

theorem member_number' {n : Nat} (hn : n < 255) (i : Fin n) : member n (BitVec.ofNat 8 (number i)).toNat = some i := by
  rw [toNat_number hn]; exact DemandPlace.member_succ i

theorem optMember_optNum {n : Nat} (hn : n < 255) (o : Option (Fin n)) :
    optMember n (BitVec.ofNat 8 ((o.map number).getD 255)).toNat = some o := by
  cases o with
  | none => rfl
  | some i =>
    rw [Option.map_some, Option.getD_some, toNat_number hn]
    unfold optMember
    rw [if_neg (by unfold number; omega)]
    exact congrArg (Option.map some) (DemandPlace.member_succ i)

theorem ofCode_action (a : Action) : Action.ofCode (BitVec.ofNat 8 a.code).toNat = some a := by
  cases a with
  | flash => rfl
  | plan p =>
    have hp : (BitVec.ofNat 8 (Action.plan p).code).toNat = p.val := byte_of_lt (show p.val < 256 by omega)
    rw [hp]
    unfold Action.ofCode
    rw [if_neg (by omega), DemandPlace.member_succ]
    rfl

theorem flagOfCode_yesNo (b : Bool) : flagOfCode (BitVec.ofNat 8 (if b then 0 else 1)).toNat = some b := by cases b <;> rfl

@[simp] theorem ofCode_demandMode (m : DemandMode) : DemandMode.ofCode (BitVec.ofNat 8 m.code).toNat = some m := by cases m <;> rfl
@[simp] theorem ofCode_redFailAction (m : RedFailAction) : RedFailAction.ofCode (BitVec.ofNat 8 m.code).toNat = some m := by
  cases m <;> rfl

theorem requireLength_of {b : List Byte} {n : Nat} (h : b.length = n) : requireLength b n = .ok () := if_pos h

theorem ok_bind {ε α β : Type} (a : α) (f : α → Except ε β) : (Except.ok a >>= f) = f a := rfl

/-! ### Records of fixed layout, each with its values clamped -/

theorem parseGroupTiming_bytes (r : GroupTiming) (h1 : r.minGreen < 65536) (h2 : r.amber < 256) (h3 : r.redAmber < 256)
    (h4 : r.clearance < 65536) (h5 : r.extension < 256) (h6 : r.redMin < 256) (h7 : r.redFailGrace < 65536) {r' : GroupTiming}
    (hr : r' = { r with
      minGreen := clampTo 40 600 r.minGreen, amber := clampTo 20 60 r.amber, redAmber := clampTo 0 30 r.redAmber
      clearance := clampTo 30 300 r.clearance, extension := clampTo 5 100 r.extension
      redMin := clampTo 1 8 r.redMin, redFailGrace := clampTo 0 600 r.redFailGrace }) :
    parseGroupTiming r.bytes = .ok (r', decide (r' ≠ r)) := by
  subst hr
  rcases r
  simp only [parseGroupTiming, GroupTiming.bytes, u8, u16, List.cons_append, List.nil_append, requireLength_of, ok_bind,
    List.length_cons, List.length_nil, wordAt, byteAt_zero, byteAt_succ, word_of_lt, byte_of_lt, h1, h2, h3, h4, h5, h6, h7, named_some,
    ofCode_demandMode, ofCode_redFailAction, clamped]
  refine congrArg (fun f => Except.ok (_, f)) (bool_of_iff ?_)
  simp only [Bool.or_eq_true, bne_iff_ne, ne_eq, GroupTiming.mk.injEq]
  tauto

theorem parseSettings_bytes (r : ChanSettings) (h1 : r.pullIn < 256) (h2 : r.release < 256) (h3 : r.holdDuty < 256)
    (h4 : r.wear < 4294967296) (h5 : r.fixedRef < 65536) (h6 : r.confirm < 256) {r' : ChanSettings} {duty : Nat}
    (hduty : duty = clampTo 30 100 r.holdDuty)
    (hr : r' = { r with
      pullIn := clampTo 10 250 r.pullIn, release := clampTo 10 250 r.release, holdDuty := roundDuty duty
      fixedRef := clampTo 20 4000 r.fixedRef, confirm := clampTo 2 15 r.confirm }) :
    parseSettings r.bytes = .ok (r', decide ({ r' with holdDuty := duty } ≠ r)) := by
  subst hr hduty
  rcases r
  simp only [parseSettings, ChanSettings.bytes, u8, u16, u32, List.cons_append, List.nil_append, requireLength_of, ok_bind,
    List.length_cons, List.length_nil, longAt, wordAt, byteAt_zero, byteAt_succ, word_of_lt, byte_of_lt, long_of_lt, h1, h2, h3, h4, h5,
    h6, named_some, ofCode_refMode, clamped]
  refine congrArg (fun f => Except.ok (_, f)) (bool_of_iff ?_)
  simp only [Bool.or_eq_true, bne_iff_ne, ne_eq, ChanSettings.mk.injEq]
  tauto

theorem isSome_eq_isSome_iff {α β : Type} (a : Option α) (b : Option β) : a.isSome = b.isSome ↔ (a = none ↔ b = none) := by
  cases a <;> cases b <;> simp

theorem parseChannel_bytes (r : ChannelRec) (h : r.group = none ↔ r.aspect = none) (hheads : r.heads < 256) {r' : ChannelRec}
    (hr : r' = { r with heads := clampTo 1 8 r.heads }) : parseChannel r.bytes = .ok (r', decide (r' ≠ r)) := by
  subst hr
  rcases r
  simp only [parseChannel, ChannelRec.bytes, optNum, opt8, u8, List.cons_append, List.nil_append, requireLength_of, ok_bind,
    List.length_cons, List.length_nil, byteAt_zero, byteAt_succ, byte_of_lt hheads, optMember_optNum (show 16 < 255 by decide),
    named_some, namedOrAbsent_aspect, ofCode_lampKind, clamped]
  rw [if_pos ((isSome_eq_isSome_iff _ _).mpr h)]
  refine congrArg (fun f => Except.ok (_, f)) (bool_of_iff ?_)
  simp only [bne_iff_ne, ne_eq, ChannelRec.mk.injEq]
  tauto

theorem parseProbe_bytes (r : ProbeRec) (h : r.limit < 65536) {r' : ProbeRec}
    (hr : r' = { r with limit := clampTo 1 65535 r.limit }) : parseProbe r.bytes = .ok (r', decide (r' ≠ r)) := by
  subst hr
  rcases r
  simp only [parseProbe, ProbeRec.bytes, optNum, opt8, u8, u16, List.cons_append, List.nil_append, requireLength_of, ok_bind,
    List.length_cons, List.length_nil, byteAt_zero, byteAt_succ, wordAt, word_of_lt h, optMember_optNum (show 48 < 255 by decide),
    member_number' (show 48 < 255 by decide), named_some, namedOrAbsent_probeKind, clamped]
  refine congrArg (fun f => Except.ok (_, f)) (bool_of_iff ?_)
  simp only [bne_iff_ne, ne_eq, ProbeRec.mk.injEq]
  tauto

theorem parseSchedule_bytes (r : ScheduleRec) (h : r.minute < 65536) {r' : ScheduleRec}
    (hr : r' = { r with minute := clampTo 0 1439 r.minute }) : parseSchedule r.bytes = .ok (r', decide (r' ≠ r)) := by
  subst hr
  rcases r
  simp only [parseSchedule, ScheduleRec.bytes, u8, u16, List.cons_append, List.nil_append, requireLength_of, ok_bind,
    List.length_cons, List.length_nil, byteAt_zero, byteAt_succ, wordAt, word_of_lt h, ofCode_action, named_some, clamped]
  refine congrArg (fun f => Except.ok (_, f)) (bool_of_iff ?_)
  simp only [bne_iff_ne, ne_eq, ScheduleRec.mk.injEq]
  tauto

/-! ### SPECIAL_DAY (R81) -/

theorem parseSpecial_none : parseSpecial (specialBytes none) = .ok (none, false) := rfl

theorem parseSpecial_some (r : SpecialRec) (h1 : 1 ≤ r.month) (h2 : r.month ≤ 12) (h3 : 1 ≤ r.day) (h4 : r.day ≤ 31)
    (hy : ∀ y, r.year = some y → 2000 ≤ y ∧ y ≤ 2199) : parseSpecial (specialBytes (some r)) = .ok (some r, false) := by
  obtain ⟨month, day, year⟩ := r
  dsimp only at h1 h2 h3 h4 hy
  have hlt : year.getD 65535 < 65536 := by
    cases year with
    | none => decide
    | some y => have := hy y rfl; simp only [Option.getD_some]; omega
  have hrange : 1 ≤ month ∧ month ≤ 12 ∧ 1 ≤ day ∧ day ≤ 31 ∧
      (year.getD 65535 = 65535 ∨ 2000 ≤ year.getD 65535 ∧ year.getD 65535 ≤ 2199) := by
    refine ⟨h1, h2, h3, h4, ?_⟩
    cases year with
    | none => exact .inl rfl
    | some y => exact .inr (hy y rfl)
  have hyear : (if year.getD 65535 = 65535 then none else some (year.getD 65535)) = year := by
    cases year with
    | none => rfl
    | some y => have := hy y rfl; rw [Option.getD_some, if_neg (by omega)]
  simp only [parseSpecial, specialBytes, opt16, u8, u16, List.cons_append, List.nil_append, requireLength_of, ok_bind,
    List.length_cons, List.length_nil, byteAt_zero, byteAt_succ, wordAt, word_of_lt hlt, byte_of_lt (show month < 256 by omega),
    byte_of_lt (show day < 256 by omega)]
  rw [if_neg (by omega), if_pos hrange, hyear]
  rfl

end Records
end Sys2Proof.Machine
end

section
/-! PROOFS. The records with lists and tables read back from their bytes, and the statement O32. -/

namespace Sys2Proof.Machine

set_option Elab.async false

namespace Records

/-! ### Counted lists -/

theorem counted_eq {n : Nat} (l : List (Fin n)) :
    counted l = BitVec.ofNat 8 l.length :: l.map fun i => BitVec.ofNat 8 (number i) := by
  have hnumbers : (l.flatMap fun i => u8 (number i)) = l.map fun i => BitVec.ofNat 8 (number i) := by
    induction l with
    | nil => rfl
    | cons i l ih => rw [List.flatMap_cons, ih]; rfl
  unfold counted
  rw [hnumbers]
  rfl

theorem splitCounted_counted {n : Nat} (hn : n < 255) (l : List (Fin n)) (hl : l.length < 256) (rest : List Byte) :
    splitCounted (counted l ++ rest) = some (l.map number, rest) := by
  have hnumbers : (l.map fun i => BitVec.ofNat 8 (number i)).map BitVec.toNat = l.map number := by
    rw [List.map_map]
    exact List.map_congr_left fun i _ => toNat_number hn i
  rw [counted_eq, List.cons_append]
  unfold splitCounted
  dsimp only
  rw [byte_of_lt hl, if_neg (by simp), List.take_left' (by simp), List.drop_left' (by simp), hnumbers]

theorem members_number {n : Nat} (l : List (Fin n)) : members n (l.map number) = some l := by
  induction l with
  | nil => rfl
  | cons i l ih =>
    rw [List.map_cons, members, ih, show member n (number i) = some i from DemandPlace.member_succ i]

theorem foldl_firstPlaces {α : Type} [DecidableEq α] (l acc : List α) (h : (acc ++ l).Nodup) :
    l.foldl (fun acc a => if acc.contains a then acc else acc ++ [a]) acc = acc ++ l := by
  induction l generalizing acc with
  | nil => simp
  | cons a l ih =>
    have ha : ¬acc.contains a = true := by
      rw [List.contains_iff_mem]
      intro hmem
      exact (List.nodup_append.mp h).2.2 a hmem a List.mem_cons_self rfl
    rw [List.foldl_cons, if_neg ha, ih _ (by simpa using h)]
    simp

theorem firstPlaces_of_nodup {α : Type} [DecidableEq α] {l : List α} (h : l.Nodup) : firstPlaces l = l :=
  foldl_firstPlaces l [] h

/-- A list in ascending order is its own set of groups. -/
theorem groupSet_of_sorted {l : List Gid} (h : l.Pairwise (· < ·)) : groupSet l = l := by
  have hset : (groupSet l).Pairwise (· < ·) := List.Pairwise.filter _ (List.pairwise_lt_finRange 16)
  refine List.Perm.eq_of_pairwise (le := (· < ·)) (fun a b _ _ hab hba => absurd (hab.trans hba) (lt_irrefl _)) hset h ?_
  refine (List.perm_ext_iff_of_nodup (hset.imp fun h => h.ne) (h.imp fun h => h.ne)).mpr fun g => ?_
  simp [groupSet, allFin]

theorem length_le_of_sorted {l : List Gid} (h : l.Pairwise (· < ·)) : l.length ≤ 16 := by
  have hnodup : l.Nodup := h.imp fun h => h.ne
  simpa using hnodup.length_le_card

theorem oneList_counted {n most : Nat} (hn : n < 255) {l : List (Fin n)} (hl : l.length ≤ most) (hmost : most < 256) :
    oneList most (counted l) = .ok (l.map number) := by
  unfold oneList
  have hsplit := splitCounted_counted hn l (by omega) []
  rw [List.append_nil] at hsplit
  rw [hsplit]
  exact if_pos (by simpa using hl)

theorem parseGroupSet_counted {l : List Gid} (h : l.Pairwise (· < ·)) : parseGroupSet (counted l) = .ok (l, false) := by
  unfold parseGroupSet
  rw [oneList_counted (by decide) (length_le_of_sorted h) (by decide), ok_bind, members_number, named_some, ok_bind,
    groupSet_of_sorted h]
  rfl

theorem parseCable_counted {l : List Ch} (h : l.Nodup) (hl : l.length ≤ 12) : parseCable (counted l) = .ok (l, false) := by
  unfold parseCable
  rw [oneList_counted (by decide) hl (by decide), ok_bind, members_number, named_some, ok_bind, firstPlaces_of_nodup h]
  rfl

theorem parseGroup_bytes (r : GroupRec) (h1 : r.red.Nodup) (h2 : r.amber.Nodup) (h3 : r.green.Nodup) (l1 : r.red.length ≤ 16)
    (l2 : r.amber.length ≤ 16) (l3 : r.green.length ≤ 16) : parseGroup r.bytes = .ok (r, false) := by
  have hthree : splitThree (counted r.red ++ (counted r.amber ++ counted r.green)) =
      some (r.red.map number, r.amber.map number, r.green.map number) := by
    have hgreen := splitCounted_counted (by decide) r.green (by omega) []
    rw [List.append_nil] at hgreen
    unfold splitThree
    rw [splitCounted_counted (by decide) _ (by omega)]
    dsimp only
    rw [splitCounted_counted (by decide) _ (by omega)]
    dsimp only
    rw [hgreen]
  have hbytes : r.bytes = BitVec.ofNat 8 ((r.kind.map GroupKind.code).getD 255) ::
      (counted r.red ++ (counted r.amber ++ counted r.green)) := by
    unfold GroupRec.bytes opt8 u8
    simp
  rw [hbytes]
  unfold parseGroup
  dsimp only
  rw [hthree]
  dsimp only
  rw [if_pos (by simpa using ⟨l1, l2, l3⟩), namedOrAbsent_groupKind, members_number, members_number, members_number]
  simp only [named_some, ok_bind, firstPlaces_of_nodup h1, firstPlaces_of_nodup h2, firstPlaces_of_nodup h3]
  rfl

/-! ### Rows of intergreens (R11) -/

theorem wordAt_flatMap (l : List Nat) (h : ∀ n ∈ l, n < 65536) (i : Nat) (hi : i < l.length) :
    wordAt (l.flatMap u16) (2 * i) = l[i] := by
  induction l generalizing i with
  | nil => exact absurd hi (Nat.not_lt_zero i)
  | cons n l ih =>
    cases i with
    | zero => exact word_of_lt (h n List.mem_cons_self)
    | succ i => exact ih (fun m hm => h m (List.mem_cons_of_mem _ hm)) i (Nat.lt_of_succ_lt_succ hi)

theorem length_flatMap_u16 (l : List Nat) : (l.flatMap u16).length = 2 * l.length := by
  induction l with
  | nil => rfl
  | cons n l ih => rw [List.flatMap_cons, List.length_append, ih]; simp [u16]; omega

theorem tab_ext {n : Nat} {α : Type} {t u : Tab n α} (h : ∀ i, t.get i = u.get i) : t = u := by
  obtain ⟨l, hl⟩ := t
  obtain ⟨m, hm⟩ := u
  have : l = m := List.ext_getElem (hl.trans hm.symm) fun i hi _ => h ⟨i, hl ▸ hi⟩
  subst this
  rfl

theorem parseIntergreen_items (row row' : Tab 16 Nat) (h : ∀ g, row.get g < 65536 ∧ row'.get g = min 300 (row.get g)) :
    parseIntergreen (row.items.flatMap u16) = .ok (row', decide (row' ≠ row)) := by
  have hmem : ∀ n ∈ row.items, n < 65536 := fun n hn => by
    obtain ⟨i, hi, rfl⟩ := List.mem_iff_getElem.mp hn
    exact (h ⟨i, row.len ▸ hi⟩).1
  have hraw : (Tab.ofFn 16 fun i => wordAt (row.items.flatMap u16) (2 * i.val)) = row := tab_ext fun i => by
    rw [Tab.get_ofFn]
    exact wordAt_flatMap row.items hmem i.val (by rw [row.len]; exact i.isLt)
  have hrow : row.map (clampTo 0 300) = row' := tab_ext fun i => by
    rw [Tab.get_map, clampTo_zero, (h i).2]
  unfold parseIntergreen
  rw [requireLength_of (by rw [length_flatMap_u16, row.len]), ok_bind]
  dsimp only
  rw [hraw, hrow]
  exact congrArg (fun f => Except.ok (row', f)) (bool_of_iff bne_iff_ne)

/-! ### PLAN (R46, R47) -/

theorem parsePlanEntry_bytes (e : PlanEntry) (h1 : e.endPos < 65536) (h2 : e.maxGreen < 65536) (rest : List Byte) :
    parsePlanEntry (e.bytes ++ rest) =
      .ok ({ e with endPos := clampTo 1 2400 e.endPos, maxGreen := clampTo 50 1200 e.maxGreen },
        clampTo 1 2400 e.endPos != e.endPos || clampTo 50 1200 e.maxGreen != e.maxGreen) := by
  simp only [parsePlanEntry, PlanEntry.bytes, u8, u16, yesNo, List.cons_append, List.nil_append, byteAt_zero, byteAt_succ, wordAt,
    word_of_lt h1, word_of_lt h2, member_number' (show 16 < 255 by decide), flagOfCode_yesNo, named_some, ok_bind, clamped]
  rfl

theorem length_planEntry (e : PlanEntry) : e.bytes.length = 7 := rfl

/-- A plan's entries, each with its values clamped. -/
def clampedEntry (e : PlanEntry) : PlanEntry :=
  { e with endPos := clampTo 1 2400 e.endPos, maxGreen := clampTo 50 1200 e.maxGreen }

theorem parsePlanEntries_bytes (l : List PlanEntry) (h : ∀ e ∈ l, e.endPos < 65536 ∧ e.maxGreen < 65536) :
    parsePlanEntries l.length (l.flatMap PlanEntry.bytes) = .ok (l.map clampedEntry, decide (l.map clampedEntry ≠ l)) := by
  induction l with
  | nil => rfl
  | cons e l ih =>
    obtain ⟨h1, h2⟩ := h e List.mem_cons_self
    rw [List.length_cons, List.flatMap_cons, parsePlanEntries, parsePlanEntry_bytes e h1 h2,
      List.drop_left' (length_planEntry e), ih fun e' he' => h e' (List.mem_cons_of_mem _ he')]
    refine congrArg (fun f => Except.ok (_, f)) (bool_of_iff ?_)
    rcases e
    simp only [Bool.or_eq_true, bne_iff_ne, decide_eq_true_iff, List.map_cons, ne_eq, List.cons.injEq, clampedEntry,
      PlanEntry.mk.injEq]
    tauto

theorem length_flatMap_planEntry (l : List PlanEntry) : (l.flatMap PlanEntry.bytes).length = 7 * l.length := by
  induction l with
  | nil => rfl
  | cons e l ih => rw [List.flatMap_cons, List.length_append, ih, length_planEntry, List.length_cons]; omega

theorem parsePlan_bytes (r : PlanRec) (h1 : r.cycle < 65536) (h2 : r.offset < 65536) (h3 : r.pmax < 256) (h4 : r.entries.length ≤ 16)
    (h5 : ∀ e ∈ r.entries, e.endPos < 65536 ∧ e.maxGreen < 65536) {r' : PlanRec}
    (hr : r' = { r with
      cycle := clampCycle r.cycle, offset := clampTo 0 2399 r.offset, pmax := clampTo 5 30 r.pmax
      entries := r.entries.map clampedEntry }) : parsePlan r.bytes = .ok (r', decide (r' ≠ r)) := by
  subst hr
  rcases r with ⟨cycle, offset, pmax, method, entries⟩
  dsimp only at h1 h2 h3 h4 h5
  simp only [parsePlan, PlanRec.bytes, u8, u16, List.cons_append, List.nil_append, byteAt_zero, byteAt_succ, wordAt,
    word_of_lt h1, word_of_lt h2, byte_of_lt h3, byte_of_lt (show entries.length < 256 by omega), List.length_cons,
    length_flatMap_planEntry, ofCode_method, named_some, ok_bind, clamped]
  rw [if_neg (by omega)]
  show (parsePlanEntries entries.length (entries.flatMap PlanEntry.bytes) >>= _) = _
  rw [parsePlanEntries_bytes entries h5, ok_bind]
  refine congrArg (fun f => Except.ok (_, f)) (bool_of_iff ?_)
  simp only [Bool.or_eq_true, bne_iff_ne, decide_eq_true_iff, ne_eq, PlanRec.mk.injEq]
  tauto

/-! ### DETECTOR (R86) -/

theorem byteAt_append {l : List Byte} {k : Nat} (hk : l.length = k) (b : List Byte) (i : Nat) : byteAt (l ++ b) (k + i) = byteAt b i := by
  unfold byteAt
  rw [List.getD_append_right _ _ _ _ (by omega), ← hk, Nat.add_sub_cancel_left]

theorem parseDetector_bytes (r : DetectorRec) (h1 : r.debounce < 65536) (h2 : r.served.Pairwise (· < ·)) (h3 : r.served.length ≤ 4)
    (h4 : r.maxPresence ≤ 255) (h5 : r.maxAbsence ≤ 255) (h6 : r.priorityMax ≤ 255) {r' : DetectorRec}
    (hr : r' = { r with debounce := clampTo 10 500 r.debounce }) : parseDetector r.bytes = .ok (r', decide (r' ≠ r)) := by
  subst hr
  rcases r with ⟨kind, polarity, debounce, served, maxPresence, maxAbsence, target, priorityMax⟩
  dsimp only at h1 h2 h3 h4 h5 h6
  generalize hl : (served.map fun i => BitVec.ofNat 8 (number i)) = l
  have hlen : l.length = served.length := by rw [← hl, List.length_map]
  have hnumbers : l.map BitVec.toNat = served.map number := by
    rw [← hl, List.map_map]
    exact List.map_congr_left fun i _ => toNat_number (by decide) i
  have hbytes : DetectorRec.bytes ⟨kind, polarity, debounce, served, maxPresence, maxAbsence, target, priorityMax⟩ =
      BitVec.ofNat 8 ((kind.map DetKind.code).getD 255) :: BitVec.ofNat 8 polarity.code :: BitVec.ofNat 8 (debounce / 256) ::
        BitVec.ofNat 8 debounce :: BitVec.ofNat 8 served.length :: (l ++ [BitVec.ofNat 8 maxPresence, BitVec.ofNat 8 maxAbsence,
          BitVec.ofNat 8 ((target.map number).getD 255), BitVec.ofNat 8 priorityMax]) := by
    unfold DetectorRec.bytes
    rw [counted_eq, hl]
    simp [opt8, optNum, u8, u16]
  rw [hbytes]
  have hat (i : Nat) (b0 b1 b2 b3 b4 : Byte) (b : List Byte) :
      byteAt (b0 :: b1 :: b2 :: b3 :: b4 :: (l ++ b)) (5 + i + served.length) = byteAt b i := by
    rw [show 5 + i + served.length = (served.length + i) + 1 + 1 + 1 + 1 + 1 by omega]
    simp only [byteAt_succ]
    exact byteAt_append hlen b i
  have hat0 := fun b0 b1 b2 b3 b4 b => hat 0 b0 b1 b2 b3 b4 b
  have hat1 := fun b0 b1 b2 b3 b4 b => hat 1 b0 b1 b2 b3 b4 b
  have hat2 := fun b0 b1 b2 b3 b4 b => hat 2 b0 b1 b2 b3 b4 b
  have hat3 := fun b0 b1 b2 b3 b4 b => hat 3 b0 b1 b2 b3 b4 b
  simp only [Nat.reduceAdd] at hat0 hat1 hat2 hat3
  simp only [parseDetector, byteAt_zero, byteAt_succ, wordAt, word_of_lt h1, byte_of_lt (show served.length < 256 by omega),
    hat0, hat1, hat2, hat3, byte_of_lt (show maxPresence < 256 by omega), byte_of_lt (show maxAbsence < 256 by omega),
    byte_of_lt (show priorityMax < 256 by omega), namedOrAbsent_detKind, ofCode_polarity, named_some, ok_bind,
    optMember_optNum (show 16 < 255 by decide), List.length_cons, List.length_append, List.length_nil, hlen, clamped]
  rw [if_neg (by omega)]
  simp only [List.drop_succ_cons, List.drop_zero, List.take_left' hlen, hnumbers, members_number, named_some, ok_bind,
    groupSet_of_sorted h2]
  refine congrArg (fun f => Except.ok (_, f)) (bool_of_iff ?_)
  simp only [bne_iff_ne, ne_eq, DetectorRec.mk.injEq]
  tauto

end Records
end Sys2Proof.Machine
end

section
/-! PROOFS. The cabinet record, the fixed lengths of 12.6, and the statement O32. -/

namespace Sys2Proof.Machine

set_option Elab.async false

namespace Records

/-! ### CABINET (R75, R81, R87, R112, R157, R183) -/

/-- A table of eight by its entries. -/
theorem tab8_cases {α : Type} (t : Tab 8 α) :
    ∃ a b c d e f g h, t = ⟨[a, b, c, d, e, f, g, h], rfl⟩ := by
  obtain ⟨l, hl⟩ := t
  match l, hl with
  | [a, b, c, d, e, f, g, h], _ => exact ⟨a, b, c, d, e, f, g, h, rfl⟩

theorem parseAux_of (b : List Byte) (aux : Tab 8 (Option Gid)) (h : ∀ i : Fin 8, optMember 16 (byteAt b (3 + i.val)) = some (aux.get i)) :
    parseAux b = some aux := by
  have hraw : (Tab.ofFn 8 fun i : Fin 8 => optMember 16 (byteAt b (3 + i.val))) = aux.map some :=
    tab_ext fun i => by rw [Tab.get_ofFn, Tab.get_map, h i]
  have hback : (aux.map some).map (fun o : Option (Option Gid) => o.getD none) = aux :=
    tab_ext fun i => by rw [Tab.get_map, Tab.get_map, Option.getD_some]
  unfold parseAux
  dsimp only
  rw [hraw, hback, if_pos]
  simp [Tab.map]

theorem parseCabinet_bytes (r : CabinetRec) (h1 : r.flashRate < 256) (h2 : r.startFlash < 65536) (h3 : r.startRed < 65536)
    (h4 : r.attempts < 256) (h5 : r.holdoff < 256) (h6 : r.probation < 256) {r' : CabinetRec}
    (hr : r' = { r with
      flashRate := clampTo 50 90 r.flashRate, startFlash := clampTo 0 600 r.startFlash
      startRed := clampTo 30 300 r.startRed, attempts := clampTo 0 5 r.attempts, holdoff := clampTo 1 60 r.holdoff
      probation := clampTo 1 60 r.probation }) : parseCabinet r.bytes = .ok (r', decide (r' ≠ r)) := by
  subst hr
  rcases r with ⟨preference, freq, defaultPlan, aux, flashRate, startFlash, startRed, attempts, holdoff, probation, ba, ap, am⟩
  dsimp only at h1 h2 h3 h4 h5 h6
  obtain ⟨a0, a1, a2, a3, a4, a5, a6, a7, haux⟩ := tab8_cases aux
  have hbytes : CabinetRec.bytes ⟨preference, freq, defaultPlan, aux, flashRate, startFlash, startRed, attempts, holdoff, probation,
      ba, ap, am⟩ =
      [BitVec.ofNat 8 preference.code, BitVec.ofNat 8 freq.code, BitVec.ofNat 8 (number defaultPlan),
        BitVec.ofNat 8 ((a0.map number).getD 255), BitVec.ofNat 8 ((a1.map number).getD 255), BitVec.ofNat 8 ((a2.map number).getD 255),
        BitVec.ofNat 8 ((a3.map number).getD 255), BitVec.ofNat 8 ((a4.map number).getD 255), BitVec.ofNat 8 ((a5.map number).getD 255),
        BitVec.ofNat 8 ((a6.map number).getD 255), BitVec.ofNat 8 ((a7.map number).getD 255), BitVec.ofNat 8 flashRate,
        BitVec.ofNat 8 (startFlash / 256), BitVec.ofNat 8 startFlash, BitVec.ofNat 8 (startRed / 256), BitVec.ofNat 8 startRed,
        BitVec.ofNat 8 attempts, BitVec.ofNat 8 holdoff, BitVec.ofNat 8 probation, BitVec.ofNat 8 ba.code, BitVec.ofNat 8 ap.code,
        BitVec.ofNat 8 am.code] := by rw [haux]; rfl
  have hparse : parseAux (CabinetRec.bytes ⟨preference, freq, defaultPlan, aux, flashRate, startFlash, startRed, attempts, holdoff,
      probation, ba, ap, am⟩) = some aux := by
    refine parseAux_of _ _ fun i => ?_
    rw [hbytes, haux]
    fin_cases i
    all_goals exact optMember_optNum (by decide) _
  unfold parseCabinet
  rw [hparse, hbytes]
  simp only [requireLength_of, ok_bind, List.length_cons, List.length_nil, wordAt, byteAt_zero, byteAt_succ, word_of_lt, byte_of_lt,
    h1, h2, h3, h4, h5, h6, named_some, ofCode_clockSource, ofCode_mainsFreq, ofCode_breakAction, ofCode_polarity, ofCode_attnMode,
    member_number' (show 8 < 255 by decide), clamped]
  refine congrArg (fun f => Except.ok (_, f)) (bool_of_iff ?_)
  simp only [Bool.or_eq_true, bne_iff_ne, ne_eq, CabinetRec.mk.injEq, true_and, and_true, not_and_or, or_assoc]

/-! ### Fixed lengths (12.6) -/

theorem length_steadyBytes (s : State) (r : ChanRun) : (s.steadyBytes r).length = 4 := by
  unfold State.steadyBytes
  split <;> rfl

theorem length_channelBody (s : State) (c : Ch) : (s.channelBody c).length = 20 := by
  simp only [State.channelBody, List.length_append, length_steadyBytes, u8, u32, opt8, opt16, u16, List.length_cons, List.length_nil,
    Nat.reduceAdd]

theorem length_subject (x : Subject) : x.bytes.length = 3 := by cases x <;> rfl
theorem length_stamp (x : Stamp) : x.bytes.length = 8 := by cases x <;> rfl

theorem length_faultEntry (e : FaultEntry) : e.bytes.length = 22 := by
  simp only [FaultEntry.bytes, List.length_append, length_subject, length_stamp, u8, List.length_cons, List.length_nil]

end Records

open Records

/-- Settles O32: the records of each class by the values their bytes hold, clamped; where every value lies in its range the
clamped record is the record. -/
theorem recordsInRangeReadBack : Obligations.RecordsInRangeReadBack := by
  unfold Obligations.RecordsInRangeReadBack
  have same {α : Type} [DecidableEq α] (r : α) : decide (r ≠ r) = false := decide_eq_false fun h => h rfl
  refine ⟨?_, ?_, ?_, ?_, ?_, fun r h1 h2 h3 h4 h5 h6 => parseGroup_bytes r h1 h2 h3 h4 h5 h6, fun l h => parseGroupSet_counted h,
    fun l h hl => parseCable_counted h hl, ?_, ?_, ?_, parseSpecial_none,
    fun r h1 h2 h3 h4 hy => parseSpecial_some r h1 h2 h3 h4 hy, ?_, ?_, ?_, ?_, ?_,
    fun row row' h => parseIntergreen_items row row' h, ?_, ?_, ?_, ?_, length_channelBody, length_faultEntry⟩
  · intro r a1 b1 a2 b2 b3 a4 b4 a5 b5 a6 b6 b7
    rw [parseGroupTiming_bytes r (by omega) (by omega) (by omega) (by omega) (by omega) (by omega) (by omega) (r' := r), same]
    rw [clampTo_of a1 b1, clampTo_of a2 b2, clampTo_of (Nat.zero_le _) b3, clampTo_of a4 b4, clampTo_of a5 b5, clampTo_of a6 b6,
      clampTo_of (Nat.zero_le _) b7]
  · intro r a1 b1 a2 b2 a3 b3 h5 hw a4 b4 a5 b5
    rw [parseSettings_bytes r (by omega) (by omega) (by omega) hw (by omega) (by omega) (r' := r) rfl]
    · rw [clampTo_of a3 b3, same]
    · rw [clampTo_of a1 b1, clampTo_of a2 b2, clampTo_of a3 b3, clampTo_of a4 b4, clampTo_of a5 b5,
        show roundDuty r.holdDuty = r.holdDuty by unfold roundDuty; omega]
  · intro r h a b
    rw [parseChannel_bytes r h (by omega) (r' := r) (by rw [clampTo_of a b]), same]
  · intro r a b
    rw [parseProbe_bytes r (by omega) (r' := r) (by rw [clampTo_of a b]), same]
  · intro row h
    rw [parseIntergreen_items row row fun g => ⟨by have := h g; omega, (Nat.min_eq_right (h g)).symm⟩, same]
  · intro r hc b2 a3 b3 hl he
    have hentries : r.entries.map clampedEntry = r.entries := by
      refine (List.map_congr_left fun e h => ?_).trans (List.map_id _)
      obtain ⟨c1, d1, c2, d2⟩ := he e h
      unfold clampedEntry
      rw [clampTo_of c1 d1, clampTo_of c2 d2]
      rfl
    have hcycle : clampCycle r.cycle = r.cycle := by
      unfold clampCycle
      split
      · next h => exact h.symm
      · next h => exact clampTo_of (by omega) (by omega)
    rw [parsePlan_bytes r (by omega) (by omega) (by omega) hl (fun e h => by have := he e h; omega) (r' := r)
      (by rw [hentries, hcycle, clampTo_of (Nat.zero_le _) b2, clampTo_of a3 b3]), same]
  · intro r a b hs hl h4 h5 h6
    rw [parseDetector_bytes r (by omega) hs hl h4 h5 h6 (r' := r) (by rw [clampTo_of a b]), same]
  · intro r b
    rw [parseSchedule_bytes r (by omega) (r' := r) (by rw [clampTo_of (Nat.zero_le _) b]), same]
  · intro r a1 b1 b2 a3 b3 b4 a5 b5 a6 b6
    rw [parseCabinet_bytes r (by omega) (by omega) (by omega) (by omega) (by omega) (by omega) (r' := r), same]
    rw [clampTo_of a1 b1, clampTo_of (Nat.zero_le _) b2, clampTo_of a3 b3, clampTo_of (Nat.zero_le _) b4, clampTo_of a5 b5,
      clampTo_of a6 b6]
  · rintro r r' h1 h2 h3 h4 h5 h6 h7 hr
    exact parseGroupTiming_bytes r h1 h2 h3 h4 h5 h6 h7 (by rw [hr, clampTo_zero, clampTo_zero]; rfl)
  · rintro r duty h1 h2 h3 h4 h5 h6 hduty r' hr
    exact parseSettings_bytes r h1 h2 h3 h4 h5 h6 hduty hr
  · rintro r r' h hh hr
    exact parseChannel_bytes r h hh hr
  · rintro r r' h hr
    refine parseProbe_bytes r h (hr.trans ?_)
    rw [show clampTo 1 65535 r.limit = max 1 r.limit by unfold clampTo; omega]
  · rintro r r' h1 h2 h3 h4 h5 hr
    exact parsePlan_bytes r h1 h2 h3 h4 h5 (by rw [hr, clampTo_zero]; rfl)
  · rintro r r' h1 h2 h3 h4 h5 h6 hr
    exact parseDetector_bytes r h1 h2 h3 h4 h5 h6 hr
  · rintro r r' h hr
    exact parseSchedule_bytes r h (by rw [hr, clampTo_zero])
  · rintro r r' h1 h2 h3 h4 h5 h6 hr
    exact parseCabinet_bytes r h1 h2 h3 h4 h5 h6 (by rw [hr, clampTo_zero, clampTo_zero]; rfl)

end Sys2Proof.Machine
end

section
/-! PROOFS. The isolated selection, and the end-of-entry decision of a coordinated plan: the statements O51 and O52. -/

namespace Sys2Proof.Machine

set_option Elab.async false

namespace Sequencing

/-! ### The conditions of a tick, as statements about the groups -/

theorem normalTick_of {s : State} (ht : s.seq.tickOpen = true) (hm : s.sup.mode = .normal) : s.normalTick = true := by
  simp [State.normalTick, ht, hm]

theorem noRedAmber_iff {s : State} : s.noRedAmber = true ↔ ∀ g, (s.group g).colour ≠ .redAmber := by
  simp [State.noRedAmber, allFin]

theorem minimumsDone_iff {s : State} {stay : List Gid} :
    s.minimumsDone stay = true ↔
      ∀ g, (s.group g).colour = .green → g ∉ stay → (s.group g).minInForce ≤ (s.group g).timeIn := by
  simp only [State.minimumsDone, State.isGreen, GroupRun.minimumDone, allFin, List.all_eq_true, List.mem_finRange,
    forall_const, Bool.or_eq_true, Bool.not_eq_true', beq_eq_false_iff_ne, List.contains_iff_mem, decide_eq_true_eq]
  exact forall_congr' fun g => by tauto

theorem allGreen_iff {s : State} {b : Stg} : s.allGreen b = true ↔ ∀ g ∈ s.stage b, (s.group g).colour = .green := by
  simp [State.allGreen, State.isGreen]

/-! ### The isolated selection (R33) -/

/-- What the selection looks for at one entry number (R33). -/
def pick (s : State) (k : Nat) : Option (Stg × Nat) :=
  match s.activePlan.entry? k with
  | some e => if s.candidate e.stage then some (e.stage, k) else none
  | none => none

/-- An entry number names a candidate: another stage than the running one with a demanded group that is not inhibited. -/
def Candidate (s : State) (k : Nat) : Prop :=
  ∃ e, s.activePlan.entry? k = some e ∧ s.seq.running ≠ some e.stage ∧
    ∃ g ∈ s.stage e.stage, (s.group g).colour ≠ .green ∧ (s.group g).demand = true ∧ (s.group g).inhibited = false

theorem selection_eq_findSome (s : State) :
    s.selection = (entriesAfter s.activePlan.entries.length (s.seq.entry.getD 0)).findSome? (pick s) := by
  rw [← List.head?_filterMap]; rfl

theorem entry_mem {p : PlanRec} {k : Nat} {e : PlanEntry} (h : p.entry? k = some e) : e ∈ p.entries := by
  unfold PlanRec.entry? at h
  split at h
  · cases h
  · exact List.mem_of_getElem? h

/-- A stage that an entry names is a candidate as R33 says. -/
theorem candidate_of_entry {s : State} {k : Nat} {e : PlanEntry} (h : s.activePlan.entry? k = some e) :
    s.candidate e.stage = true ↔ Candidate s k := by
  have named : s.activePlan.entries.any (fun x => x.stage == e.stage) = true :=
    List.any_eq_true.mpr ⟨e, entry_mem h, by simp⟩
  simp [State.candidate, State.isGreen, Candidate, h, named, and_assoc]

theorem pick_of_candidate {s : State} {k : Nat} (h : Candidate s k) : ∃ b, pick s k = some (b, k) := by
  obtain ⟨e, he, -⟩ := id h
  exact ⟨e.stage, by simp [pick, he, (candidate_of_entry he).mpr h]⟩

theorem pick_of_not_candidate {s : State} {k : Nat} (h : ¬Candidate s k) : pick s k = none := by
  unfold pick
  split
  · next e he => simp [mt (candidate_of_entry he).mp h]
  · rfl

/-- What the selection finds is a candidate, with its stage (R33). -/
theorem pick_sound {s : State} {k b k'} (h : pick s k = some (b, k')) :
    (s.activePlan.entry? k').map (·.stage) = some b ∧ Candidate s k' := by
  unfold pick at h
  split at h
  · next e he =>
    split at h
    · next hc =>
      obtain ⟨rfl, rfl⟩ := Prod.mk.inj (Option.some.inj h)
      exact ⟨by rw [he]; rfl, (candidate_of_entry he).mp hc⟩
    · cases h
  · cases h

theorem selection_sound {s : State} {b k} (h : s.selection = some (b, k)) :
    (s.activePlan.entry? k).map (·.stage) = some b ∧ Candidate s k := by
  rw [selection_eq_findSome] at h
  obtain ⟨l, x, r, -, hx, -⟩ := List.findSome?_eq_some_iff.mp h
  exact pick_sound hx

/-- The numbers below `n`, split at one of them. -/
theorem range_split {n i : Nat} (h : i < n) : ∃ rest, List.range n = List.range i ++ i :: rest := by
  obtain ⟨m, rfl⟩ : ∃ m, n = i + (m + 1) := ⟨n - i - 1, by omega⟩
  exact ⟨_, by rw [List.range_add, List.range_succ_eq_map, List.map_cons, Nat.add_zero]⟩

/-- The selection is the first candidate in plan order from the entry after the current one (R33). -/
theorem selection_of_first {s : State} {n cur i : Nat} (hn : n = s.activePlan.entries.length)
    (hcur : cur = s.seq.entry.getD 0) (hi : i < n) (hc : Candidate s ((cur + i) % n + 1))
    (first : ∀ j, j < i → ¬Candidate s ((cur + j) % n + 1)) : ∃ b, s.selection = some (b, (cur + i) % n + 1) := by
  obtain ⟨b, hb⟩ := pick_of_candidate hc
  obtain ⟨rest, hsplit⟩ := range_split hi
  refine ⟨b, ?_⟩
  rw [selection_eq_findSome, ← hn, ← hcur, entriesAfter, hsplit, List.map_append, List.map_cons]
  refine List.findSome?_eq_some_iff.mpr ⟨_, _, _, rfl, hb, fun x hx => ?_⟩
  obtain ⟨j, hj, rfl⟩ := List.mem_map.mp hx
  exact pick_of_not_candidate (first j (List.mem_range.mp hj))

theorem selection_of_none {s : State} (h : ∀ k, ¬Candidate s k) : s.selection = none := by
  rw [selection_eq_findSome]
  exact List.findSome?_eq_none_iff.mpr fun k _ => pick_of_not_candidate (h k)

/-! ### Gap-out and max-out (R35, R36) -/

theorem selects_of {s : State} (hp : s.activePlan.isolated = true) (hc : s.seq.change = none) (he : s.seq.endDue = none)
    (hq : s.seq.priority = []) : s.selects = true := by
  simp [State.selects, hp, hc, he, hq]

theorem endToSelection_of_some {s : State} {b : Stg} {k : Nat} (h : s.selection = some (b, k)) :
    s.endToSelection = { s with seq := { s.seq with endDue := some ⟨b, some k, none⟩ } } := by
  unfold State.endToSelection; rw [h]; rfl

theorem endToSelection_of_none {s : State} (h : s.selection = none) :
    s.endToSelection = { s with seq := { s.seq with maxTimer := none } } := by
  unfold State.endToSelection; rw [h]; rfl

theorem exec_gapOut {s : State} (h : s.gapOutDue = true) : exec .gapOut s = .next s.endToSelection := by
  show Host.Outcome.next _ = _; rw [if_pos h]

theorem exec_maxOut {s : State} (h : s.maxOutDue = true) : exec .maxOut s = .next s.endToSelection := by
  show Host.Outcome.next _ = _; rw [if_pos h]

/-! ### The end-of-entry decision (R51, R60) -/

/-- What the decision for the next entry `n` makes of the sequencer record (R51). -/
def Decided (s : State) (n : Nat) (en : PlanEntry) (q : Seq) : Prop :=
  q.decision = some n ∧ q.running = s.seq.running ∧ q.change = s.seq.change ∧ q.pos = s.seq.pos ∧
    q.groups = s.seq.groups ∧ q.shorten = s.seq.shorten ∧ q.priority = [] ∧
  (if s.seq.running = some en.stage ∨ s.seq.change.map (·.target) = some en.stage then
    q.entry = some n ∧ q.endDue = none
  else if s.stageWanted en.stage = false ∧ s.demandDependent en.stage = true then
    q.entry = s.seq.entry ∧ q.endDue = none
  else
    q.entry = s.seq.entry ∧ (q.endDue.map fun e => (e.target, e.entry)) = some (en.stage, some n))

/-- The decision is taken as R51 says; an end that it sets carries the jump given; nothing but the sequencer record
changes, and a hold stands as it was. -/
theorem takeDecision_decided {s : State} {n : Nat} {en : PlanEntry} (jump : Option Nat)
    (hn : s.nextEntry = some (n, en)) (hq : s.seq.priority = []) :
    ∃ q, s.takeDecision jump = { s with seq := q } ∧ Decided s n en q ∧ q.hold = s.seq.hold ∧
      (∀ e, q.endDue = some e → e.jump = jump) ∧
      (s.decisionOn en.stage = .endDue → q.endDue = some ⟨en.stage, some n, jump⟩) := by
  unfold State.takeDecision Decided
  simp only [hn]
  by_cases hpass : s.seq.running = some en.stage ∨ s.seq.change.map (·.target) = some en.stage
  · have hd : s.decisionOn en.stage = .passOver := if_pos hpass
    simp only [hd, if_pos hpass]
    exact ⟨_, rfl, ⟨rfl, rfl, rfl, rfl, rfl, rfl, hq, rfl, rfl⟩, rfl, nofun, nofun⟩
  · by_cases hskip : s.stageWanted en.stage = false ∧ s.demandDependent en.stage = true
    · have hd : s.decisionOn en.stage = .skip := by
        unfold State.decisionOn; rw [if_neg hpass, if_pos (by simp [hskip])]
      simp only [hd, if_neg hpass, if_pos hskip]
      exact ⟨_, rfl, ⟨rfl, rfl, rfl, rfl, rfl, rfl, hq, rfl, rfl⟩, rfl, nofun, nofun⟩
    · have hd : s.decisionOn en.stage = .endDue := by
        unfold State.decisionOn; rw [if_neg hpass, if_neg (by simpa using hskip)]
      simp only [hd, if_neg hpass, if_neg hskip]
      exact ⟨_, rfl, ⟨rfl, rfl, rfl, rfl, rfl, rfl, hq, rfl, rfl⟩, rfl, fun e he => by cases he; rfl, fun _ => rfl⟩

theorem decides_of {s : State} (ht : s.seq.tickOpen = true) (hm : s.sup.mode = .normal)
    (hp : s.activePlan.coordinated = true) (hq : s.seq.priority = []) (hh : s.seq.hold = none) : s.decides = true := by
  simp [State.decides, normalTick_of ht hm, hp, hq, hh]

theorem decisionEntry_of {s : State} {d : Nat} {e : PlanEntry} (hd : s.seq.decision = some d)
    (he : s.activePlan.entry? d = some e) : s.decisionEntry = some e := by
  simp [State.decisionEntry, hd, he]

theorem nextEntry_of {s : State} {d n : Nat} {e : PlanEntry} (hd : s.seq.decision = some d)
    (hn : n = s.activePlan.next d) (he : s.activePlan.entry? n = some e) : s.nextEntry = some (n, e) := by
  subst hn; simp [State.nextEntry, hd, he]

/-- A hold begins exactly where a DWELL entry that is the current one runs undisturbed with a budget (R60). -/
theorem holdBegins_iff {s : State} {d : Nat} {e : PlanEntry} (hd : s.seq.decision = some d)
    (he : s.activePlan.entry? d = some e) :
    s.holdBegins = true ↔ 0 < s.seq.holdBudget ∧ e.dwell = true ∧ s.seq.entry = some d ∧
      s.seq.running = some e.stage ∧ s.seq.change = none ∧ s.seq.endDue = none := by
  simp only [State.holdBegins, decisionEntry_of hd he, hd, Bool.and_eq_true, decide_eq_true_eq, beq_iff_eq,
    Option.isNone_iff_eq_none]
  tauto

end Sequencing

open Sequencing

/-- Settles O51: the rows are due by the hypotheses, and the selection is the first entry that the look of R33 finds. -/
theorem isolatedEndsGoToSelection : Obligations.IsolatedEndsGoToSelection := by
  unfold Obligations.IsolatedEndsGoToSelection
  intro s ht hm hp hc he hq
  have hsel := selects_of hp hc he hq
  have hnt := normalTick_of ht hm
  refine ⟨fun b k hb hgap hra hmin => ?_, fun n hn hle => ⟨fun b k hb => ?_, fun hb => ?_⟩, fun b k hb => ?_, ?_⟩
  · have due : s.gapOutDue = true := by
      simp [State.gapOutDue, hnt, hsel, hgap, noRedAmber_iff.mpr hra, hb, minimumsDone_iff.mpr hmin]
    rw [exec_gapOut due, endToSelection_of_some hb]
  · rw [exec_maxOut (by simp [State.maxOutDue, hnt, hsel, hn, hle]), endToSelection_of_some hb]
  · rw [exec_maxOut (by simp [State.maxOutDue, hnt, hsel, hn, hle]), endToSelection_of_none hb]
  · obtain ⟨hstage, e, hentry, hrun, hg⟩ := selection_sound hb
    obtain rfl : e.stage = b := by simpa [hentry] using hstage
    exact ⟨hrun, hstage, hg⟩
  · rintro candidate rfl n cur hn hcur
    exact ⟨fun i hi hcand first => selection_of_first hn hcur hi hcand first, selection_of_none⟩

/-- Settles O52: each instant's conditions make its row due, and the decision is `takeDecision`. -/
theorem endOfEntryDecisions : Obligations.EndOfEntryDecisions := by
  unfold Obligations.EndOfEntryDecisions
  rintro s d n ed en ht hm hp hq hd hed hn hen outcome rfl
  have hnt := normalTick_of ht hm
  have hdec := decisionEntry_of hd hed
  have hnext := nextEntry_of hd hn hen
  have taken := fun jump => takeDecision_decided jump hnext hq
  refine ⟨fun hh hr => ?_, fun hh => ?_, fun l hl hle => ?_, fun l hh hu hr hc ha hcs hl hlt hle => ?_, ?_⟩
  · have due : s.endOfEntryDue = true := by simp [State.endOfEntryDue, decides_of ht hm hp hq hh, hr]
    have hexec : exec .endOfEntryDecision s = .next s.endOfEntry := by show Host.Outcome.next _ = _; rw [if_pos due]
    refine ⟨fun hb hdw hent hrun hc he => ?_, fun hnot => ?_⟩
    · rw [hexec, State.endOfEntry, if_pos ((holdBegins_iff hd hed).mpr ⟨hb, hdw, hent, hrun, hc, he⟩)]; rfl
    · have hno : ¬s.holdBegins = true := by
        rw [holdBegins_iff hd hed]
        rintro ⟨hb, hdw, hent, hrun, hc, he⟩
        rcases hnot with h | h | h | h | h | h <;> simp_all
      obtain ⟨q, hq', hout, -⟩ := taken none
      exact ⟨q, by rw [hexec, State.endOfEntry, if_neg hno, hq'], hout⟩
  · have due : s.holdEndDue = true := by simp [State.holdEndDue, hnt, hh]
    obtain ⟨q, hq', hout, hhold, -⟩ :=
      takeDecision_decided (s := s.onSeq fun q => { q with hold := none }) none (n := n) (en := en) hnext hq
    refine ⟨q, ?_, hhold, hout⟩
    show Host.Outcome.next _ = _
    rw [if_pos due, State.endHold, hq']; rfl
  · show Host.Outcome.next _ = _
    rw [if_neg (by simp [Laws.skipDue_of_behind hl hdec hle])]
  · have due : s.skipDue = true := by
      simp [State.skipDue, decides_of ht hm hp hq hh, hu, hr, hcs, hc, ha, hl, hdec, hlt, hle]
    obtain ⟨q, hq', hout, -, hjump, -⟩ := taken (some ed.endPos)
    refine ⟨q, ?_, hout, hjump⟩
    show Host.Outcome.next _ = _
    rw [if_pos due, State.skipDecision, hdec]; exact congrArg _ hq'
  · intro hh hu hent hc he hgap hra hgo hdw hmin hon
    have due : s.coordinatedGapOutDue = true := by
      have hdw' : (ed.dwell && decide (0 < s.seq.holdBudget)) = false := by rcases hdw with h | h <;> simp [h]
      simp [State.coordinatedGapOutDue, decides_of ht hm hp hq hh, hu, hent, hd, hc, he, hgap, noRedAmber_iff.mpr hra, hdec,
        hgo, hdw', hnext, minimumsDone_iff.mpr hmin, hon]
    obtain ⟨q, hq', hout, -, -, hend⟩ := taken none
    refine ⟨q, ?_, hout, by rw [hend hon]; rfl⟩
    show Host.Outcome.next _ = _
    rw [if_pos due, hq']

end Sys2Proof.Machine
end

section
/-! SUPPORT. What actions leave alone, block by block, read off the parts they may write; and the end of a step that
releases no commit and finds no new inhibition. -/

namespace Sys2Proof.Machine

set_option Elab.async false

namespace Acts

variable {G : Gid → Prop} {K L : List Part} {s t u v : State} {β : Type}

/-- A projection that no write of the parts in `K` changes, as a law: the writes that it does not see need no argument. -/
theorem frame (p : State → β) (b : β)
    (groups : ∀ (s : State) f, (∃ gs, f s.seq = { s.seq with groups := gs } ∧ ∀ g, (s.group g).within K (gs.get g)) →
      p (s.onSeq f) = p s := by intros; rfl)
    (seq : Part.seq ∈ K → ∀ (s : State) f, (f s.seq).groups = s.seq.groups → p (s.onSeq f) = p s := by intros; rfl)
    (timers : Part.seq ∈ K → ∀ s : State, p (s.onSeq Seq.tickTimers) = p s := by intros; rfl)
    (sup : ∀ (s : State) f, s.sup.within K (f s.sup) → p (s.onSup f) = p s := by intros; rfl)
    (lmp : Part.lamp ∈ K → ∀ (s : State) f, p (s.onLmp f) = p s := by intros; rfl)
    (out : ∀ (s : State) f, s.out.within K (f s.out) → p (s.onOut f) = p s := by intros; rfl)
    (chan : Part.chan ∈ K → ∀ (s : State) c (r : ChanRun), (Part.command ∉ K → r.command = (s.chan c).command) →
      p (s.onChan c fun _ => r) = p s := by intros; rfl)
    (flt : Part.flt ∈ K → ∀ (s : State) f, p (s.onFlt f) = p s := by intros; rfl)
    (cbt : Part.cbt ∈ K → ∀ (s : State) f, p (s.onCbt f) = p s := by intros; rfl)
    (sch : Part.sch ∈ K → ∀ (s : State) f, p (s.onSch f) = p s := by intros; rfl)
    (clk : Part.clk ∈ K → ∀ (s : State) f, p (s.onClk f) = p s := by intros; rfl)
    (det : Part.det ∈ K → ∀ (s : State) f, p (s.onDet f) = p s := by intros; rfl)
    (cfg : Part.cfg ∈ K → ∀ (s : State) f, p (s.onCfg f) = p s := by intros; rfl)
    (link : Part.link ∈ K ∨ Part.slots ∈ K ∨ Part.answer ∈ K → ∀ (s : State) f, p (s.onLnk f) = p s := by intros; rfl) :
    Law K fun s => p s = b where
  groups s f hf h := (groups s f hf).trans h
  seq hm s f hf _ _ h := (seq hm s f hf).trans h
  timers hm s h := (timers hm s).trans h
  sup s f hf h := (sup s f hf).trans h
  lmp hm s f _ h := (lmp hm s f).trans h
  out s f hf h := (out s f hf).trans h
  chan hm s c r _ hr _ h := (chan hm s c r hr).trans h
  flt hm s f _ _ h := (flt hm s f).trans h
  cbt hm s f _ h := (cbt hm s f).trans h
  sch hm s f h := (sch hm s f).trans h
  clk hm s f _ h := (clk hm s f).trans h
  det hm s f h := (det hm s f).trans h
  cfg hm s f h := (cfg hm s f).trans h
  link hm s f _ h := (link hm s f).trans h

/-! ### The blocks -/

theorem clk_eq (h : Acts G K s t) (hK : Part.clk ∉ K := by decide) : t.clk = s.clk :=
  (frame (K := K) State.clk s.clk (clk := fun hm => absurd hm hK)).acts h rfl

theorem sch_eq (h : Acts G K s t) (hK : Part.sch ∉ K := by decide) : t.sch = s.sch :=
  (frame (K := K) State.sch s.sch (sch := fun hm => absurd hm hK)).acts h rfl

theorem det_eq (h : Acts G K s t) (hK : Part.det ∉ K := by decide) : t.det = s.det :=
  (frame (K := K) State.det s.det (det := fun hm => absurd hm hK)).acts h rfl

theorem flt_eq (h : Acts G K s t) (hK : Part.flt ∉ K := by decide) : t.flt = s.flt :=
  (frame (K := K) State.flt s.flt (flt := fun hm => absurd hm hK)).acts h rfl

theorem lmp_eq (h : Acts G K s t) (hK : Part.lamp ∉ K := by decide) : t.lmp = s.lmp :=
  (frame (K := K) State.lmp s.lmp (lmp := fun hm => absurd hm hK)).acts h rfl

theorem cbt_eq (h : Acts G K s t) (hK : Part.cbt ∉ K := by decide) : t.cbt = s.cbt :=
  (frame (K := K) State.cbt s.cbt (cbt := fun hm => absurd hm hK)).acts h rfl

theorem lnk_eq (h : Acts G K s t) (hK : Part.link ∉ K ∧ Part.slots ∉ K ∧ Part.answer ∉ K := by decide) : t.lnk = s.lnk :=
  (frame (K := K) State.lnk s.lnk (link := fun hm => absurd hm (by tauto))).acts h rfl

/-- Where nothing is learned or estimated, a lamp record only follows its channel. -/
theorem trails (h : Acts G K s t) (c : Ch) (hK : Part.healthy ∉ K := by decide) : (s.lamp c).trails (t.lamp c) := by
  have hlaw : Law K fun u => (s.lamp c).trails (u.lamp c) :=
    { groups := fun _ _ _ h => h, seq := fun _ _ _ _ _ _ h => h, timers := fun _ _ h => h, sup := fun _ _ _ h => h
      lmp := fun _ _ _ hf h => trails_trans h (hf hK c)
      out := fun _ _ _ h => h, chan := fun _ _ _ _ _ _ _ h => h, flt := fun _ _ _ _ _ h => h, cbt := fun _ _ _ _ h => h
      sch := fun _ _ _ h => h, clk := fun _ _ _ _ h => h, det := fun _ _ _ h => h, cfg := fun _ _ _ h => h
      link := fun _ _ _ _ h => h }
  exact hlaw.acts h (trails_refl _)

/-- Where the link itself is left alone, replies may have joined the output queue, and no more. -/
theorem replied (h : Acts G K s t) (hK : Part.link ∉ K := by decide) : s.lnk.replied t.lnk := by
  have hlaw : Law K fun u => s.lnk.replied u.lnk :=
    { groups := fun _ _ _ h => h, seq := fun _ _ _ _ _ _ h => h, timers := fun _ _ h => h, sup := fun _ _ _ h => h
      lmp := fun _ _ _ _ h => h, out := fun _ _ _ h => h, chan := fun _ _ _ _ _ _ _ h => h, flt := fun _ _ _ _ _ h => h
      cbt := fun _ _ _ _ h => h, sch := fun _ _ _ h => h, clk := fun _ _ _ _ h => h, det := fun _ _ _ h => h
      cfg := fun _ _ _ h => h, link := fun _ _ _ hf h => replied_trans h (hf hK) }
  exact hlaw.acts h (replied_refl _)

theorem now_eq (h : Acts G K s t) : t.now = s.now := (frame (K := K) State.now s.now).acts h rfl

/-! ### The outputs -/

/-- The channels of the outputs. -/
def chansOf (s : State) : Tab 48 ChanRun := s.out.chans

/-- The commands of the channels. -/
def commandsOf (s : State) (c : Ch) : Command := (s.chan c).command

theorem chansOf_onOut (s : State) (f : Out → Out) (h : s.out.within K (f s.out)) : chansOf (s.onOut f) = chansOf s := h.1

theorem chans_eq (h : Acts G K s t) (hK : Part.chan ∉ K := by decide) : t.out.chans = s.out.chans :=
  (frame (K := K) chansOf s.out.chans (out := chansOf_onOut) (chan := fun hm => absurd hm hK)).acts h rfl

theorem chan_eq (h : Acts G K s t) (c : Ch) (hK : Part.chan ∉ K := by decide) : t.chan c = s.chan c := by
  unfold State.chan; rw [h.chans_eq hK]

theorem command_eq (h : Acts G K s t) (c : Ch) (hK : Part.command ∉ K := by decide) :
    (t.chan c).command = (s.chan c).command := by
  refine congrFun ((frame (K := K) commandsOf (commandsOf s) (out := fun s f hf => ?_) (chan := fun _ s k r hr => ?_)).acts h rfl) c
  · funext c; unfold commandsOf State.chan; rw [State.onOut_out, hf.1]
  · funext c
    unfold commandsOf
    by_cases hk : k = c
    · subst hk; rw [State.onChan_self]; exact hr hK
    · rw [State.onChan_other _ _ hk]

/-- The flash generator. -/
def flashOf (s : State) : FlashGen := s.out.flash
/-- The contactor with the trip. -/
def contactorOf (s : State) : Contactor × Bool := (s.out.contactor, s.out.trip)

theorem flash_eq (h : Acts G K s t) (hK : Part.flash ∉ K := by decide) : t.out.flash = s.out.flash :=
  (frame (K := K) flashOf s.out.flash (out := fun _ _ hf => hf.2.1 hK)).acts h rfl

theorem contactor_eq (h : Acts G K s t) (hK : Part.contactor ∉ K := by decide) :
    t.out.contactor = s.out.contactor ∧ t.out.trip = s.out.trip :=
  Prod.mk.inj ((frame (K := K) contactorOf (contactorOf s)
    (out := fun s f hf => Prod.ext (hf.2.2 hK).1 (hf.2.2 hK).2)).acts h rfl)

theorem out_eq (h : Acts G K s t) (hK : Part.chan ∉ K ∧ Part.flash ∉ K ∧ Part.contactor ∉ K := by decide) :
    t.out = s.out := by
  obtain ⟨hk, ht⟩ := h.contactor_eq hK.2.2
  have hc := h.chans_eq hK.1
  have hf := h.flash_eq hK.2.1
  cases ho : t.out
  cases ho' : s.out
  simp_all

/-! ### The supervisor -/

theorem conflicts_eq (h : Acts G K s t) (hK : Part.shown ∉ K := by decide) : t.sup.conflicts = s.sup.conflicts :=
  (frame (K := K) (fun s => s.sup.conflicts) s.sup.conflicts (sup := fun _ _ hf => hf.2.2.1 hK)).acts h rfl

theorem grace_eq (h : Acts G K s t) (hK : Part.grace ∉ K := by decide) : t.sup.grace = s.sup.grace :=
  (frame (K := K) (fun s => s.sup.grace) s.sup.grace (sup := fun _ _ hf => hf.2.1 hK)).acts h rfl

theorem modes_eq (h : Acts G K s t) (hK : Part.mode ∉ K := by decide) : t.sup.mode = s.sup.mode :=
  (frame (K := K) (fun s => s.sup.mode) s.sup.mode (sup := fun _ _ hf => hf.1 hK)).acts h rfl

/-- The supervisor record but for the grace times and the conflict times. -/
def Sup.core (u : Sup) : Sup := { u with grace := Tab.fill 16 .idle, conflicts := [] }

theorem core_eq (h : Acts G K s t) (hK : Part.mode ∉ K ∧ Part.sup ∉ K := by decide) : Sup.core t.sup = Sup.core s.sup := by
  refine (frame (K := K) (fun s => Sup.core s.sup) (Sup.core s.sup) (sup := fun s f hf => ?_)).acts h rfl
  show Sup.core (f s.sup) = _
  rw [hf.2.2.2.1 hK.1 hK.2]
  rfl

theorem sup_eq (h : Acts G K s t)
    (hK : Part.mode ∉ K ∧ Part.sup ∉ K ∧ Part.grace ∉ K ∧ Part.shown ∉ K := by decide) : t.sup = s.sup := by
  obtain ⟨hm, hu, hg, hw⟩ := hK
  have hc := h.core_eq ⟨hm, hu⟩
  have hgr := h.grace_eq hg
  have hcf := h.conflicts_eq hw
  cases ht : t.sup
  cases hs : s.sup
  simp_all [Sup.core]

theorem supplied_eq (h : Acts G K s t) (hK : Part.supply ∉ K := by decide) : t.sup.supplied = s.sup.supplied :=
  (frame (K := K) (fun s => s.sup.supplied) s.sup.supplied (sup := fun _ _ hf => hf.2.2.2.2 hK)).acts h rfl

/-! ### The time, the tick and the fault table -/

theorem timed_eq (h : Acts G K s t) (hK : Part.time ∉ K := by decide) : t.clk.timed = s.clk.timed := by
  have hlaw : Law K fun u => u.clk.timed = s.clk.timed :=
    { groups := fun _ _ _ h => h, seq := fun _ _ _ _ _ _ h => h, timers := fun _ _ h => h, sup := fun _ _ _ h => h
      lmp := fun _ _ _ _ h => h, out := fun _ _ _ h => h, chan := fun _ _ _ _ _ _ _ h => h, flt := fun _ _ _ _ _ h => h
      cbt := fun _ _ _ _ h => h, sch := fun _ _ _ h => h, clk := fun _ _ _ hf h => (hf hK).trans h, det := fun _ _ _ h => h
      cfg := fun _ _ _ h => h, link := fun _ _ _ _ h => h }
  exact hlaw.acts h rfl

theorem ticked_eq (h : Acts G K s t) (hK : Part.tick ∉ K := by decide) : t.seq.ticked = s.seq.ticked := by
  have hlaw : Law K fun u => u.seq.ticked = s.seq.ticked :=
    { groups := fun u f hf h => by obtain ⟨gs, hgs, -⟩ := hf; rw [State.onSeq_seq, hgs]; exact h
      seq := fun _ _ _ _ _ hf h => (hf hK).trans h, timers := fun _ _ h => h, sup := fun _ _ _ h => h
      lmp := fun _ _ _ _ h => h, out := fun _ _ _ h => h, chan := fun _ _ _ _ _ _ _ h => h, flt := fun _ _ _ _ _ h => h
      cbt := fun _ _ _ _ h => h, sch := fun _ _ _ h => h, clk := fun _ _ _ _ h => h, det := fun _ _ _ h => h
      cfg := fun _ _ _ h => h, link := fun _ _ _ _ h => h }
  exact hlaw.acts h rfl

/-- What actions leave of the fault table. -/
theorem flt_within (h : Acts G K s t) : s.flt.within K t.flt := by
  have hlaw : Law K fun u => s.flt.within K u.flt :=
    { groups := fun _ _ _ h => h, seq := fun _ _ _ _ _ _ h => h, timers := fun _ _ h => h, sup := fun _ _ _ h => h
      lmp := fun _ _ _ _ h => h, out := fun _ _ _ h => h, chan := fun _ _ _ _ _ _ _ h => h
      flt := fun _ _ _ _ hf h => flt_within_trans h hf
      cbt := fun _ _ _ _ h => h, sch := fun _ _ _ h => h, clk := fun _ _ _ _ h => h, det := fun _ _ _ h => h
      cfg := fun _ _ _ h => h, link := fun _ _ _ _ h => h }
  exact hlaw.acts h (flt_within_refl K _)

theorem pendingSet_grows (h : Acts G K s t) (hK : Part.table ∉ K := by decide) :
    s.flt.pendingSet.union t.flt.pendingSet = t.flt.pendingSet := (h.flt_within hK).1

theorem overflow_stays (h : Acts G K s t) (hK : Part.table ∉ K := by decide) : s.flt.overflow = true → t.flt.overflow = true :=
  (h.flt_within hK).2.1

theorem entries_length_le (h : Acts G K s t) (hK : Part.table ∉ K := by decide) :
    s.flt.entries.length ≤ t.flt.entries.length := (h.flt_within hK).2.2.1

/-- Where its kind is not written and no SAFETY report may evict it, an ACTIVE entry stays. -/
theorem entry_stays (h : Acts G K s t) {e : FaultEntry} (he : e ∈ s.flt.entries) (ha : e.active = true)
    (hk : e.kind.part ∉ K) (hs : e.safety = true ∨ Part.alarm ∉ K) (hK : Part.table ∉ K := by decide) : e ∈ t.flt.entries :=
  ((h.flt_within hK).2.2.2.1 e hk).1 he (.inr ⟨ha, hs⟩)

/-- Where its kind is not written, an entry stays in a table that is not full. -/
theorem entry_kept (h : Acts G K s t) {e : FaultEntry} (he : e ∈ s.flt.entries) (hl : t.flt.entries.length < 64)
    (hk : e.kind.part ∉ K) (hK : Part.table ∉ K := by decide) : e ∈ t.flt.entries :=
  ((h.flt_within hK).2.2.2.1 e hk).1 he (.inl hl)

/-- Where its kind is not written, an entry is none but an old one. -/
theorem entry_old (h : Acts G K s t) {e : FaultEntry} (he : e ∈ t.flt.entries) (hk : e.kind.part ∉ K)
    (hK : Part.table ∉ K := by decide) : e ∈ s.flt.entries := ((h.flt_within hK).2.2.2.1 e hk).2 he

/-- Without a SAFETY report an ACTIVE SAFETY entry is none but an old one. -/
theorem safety_old (h : Acts G K s t) {e : FaultEntry} (he : e ∈ t.flt.entries) (ha : e.active = true) (hs : e.safety = true)
    (hK : Part.table ∉ K ∧ Part.alarm ∉ K := by decide) : e ∈ s.flt.entries := (h.flt_within hK.1).2.2.2.2 hK.2 e he ha hs

/-! ### The groups and the sequencer -/

/-- What red health and inhibition say of a group. -/
def healthOf (s : State) (g : Gid) : RedHealth × Bool := ((s.group g).redHealth, (s.group g).inhibited)

theorem group_onSeq {f : Seq → Seq} (hf : (f s.seq).groups = s.seq.groups) (g : Gid) : (s.onSeq f).group g = s.group g := by
  unfold State.group; rw [State.onSeq_seq, hf]

theorem group_tickTimers (g : Gid) :
    (s.onSeq Seq.tickTimers).group g = { s.group g with timeIn := min 65535 ((s.group g).timeIn + 1) } := Tab.get_map _ _ _

theorem health_eq (h : Acts G K s t) (g : Gid) (hK : Part.health ∉ K := by decide) :
    (t.group g).redHealth = (s.group g).redHealth ∧ (t.group g).inhibited = (s.group g).inhibited := by
  refine Prod.mk.inj (congrFun ((frame (K := K) healthOf (healthOf s) (groups := fun s f hf => ?_) (seq := fun _ s f hf => ?_)
    (timers := fun _ s => ?_)).acts h rfl) g)
  · obtain ⟨gs, hgs, hw⟩ := hf
    funext g
    have : (s.onSeq f).group g = gs.get g := by unfold State.group; rw [State.onSeq_seq, hgs]
    unfold healthOf
    rw [this, ((hw g).2.2.1 hK).1, ((hw g).2.2.1 hK).2]
  · funext g; unfold healthOf; rw [group_onSeq hf]
  · funext g; unfold healthOf; rw [group_tickTimers]

theorem shown_eq (h : Acts G K s t) (g : Gid) (hK : Part.shown ∉ K := by decide) :
    (t.group g).observedGreen = (s.group g).observedGreen := by
  refine congrFun ((frame (K := K) (fun s g => (s.group g).observedGreen) (fun g => (s.group g).observedGreen)
    (groups := fun s f hf => ?_) (seq := fun _ s f hf => ?_) (timers := fun _ s => ?_)).acts h rfl) g
  · obtain ⟨gs, hgs, hw⟩ := hf
    funext g
    have : (s.onSeq f).group g = gs.get g := by unfold State.group; rw [State.onSeq_seq, hgs]
    rw [this, (hw g).2.2.2 hK]
  · funext g; rw [group_onSeq hf]
  · funext g; rw [group_tickTimers]

/-- A group's colour with its times and the timings in force. -/
def phaseOf (s : State) (g : Gid) : Colour × Nat × Option Nat × Nat × Nat × Nat × Nat :=
  ((s.group g).colour, (s.group g).timeIn, (s.group g).greenEnd, (s.group g).minInForce, (s.group g).amberInForce,
    (s.group g).clearanceInForce, (s.group g).redAmberInForce)

theorem phase_eq (h : Acts G K s t) (g : Gid) (hK : Part.colour ∉ K ∧ Part.seq ∉ K := by decide) :
    phaseOf t g = phaseOf s g := by
  refine congrFun ((frame (K := K) phaseOf (phaseOf s) (groups := fun s f hf => ?_) (seq := fun hm => absurd hm hK.2)
    (timers := fun hm => absurd hm hK.2)).acts h rfl) g
  obtain ⟨gs, hgs, hw⟩ := hf
  funext g
  have : (s.onSeq f).group g = gs.get g := by unfold State.group; rw [State.onSeq_seq, hgs]
  obtain ⟨h1, h2, h3, h4, h5, h6, h7⟩ := (hw g).1 hK.1
  unfold phaseOf
  rw [this, h1, h2, h3, h4, h5, h6, h7]

theorem colour_eq (h : Acts G K s t) (g : Gid) (hK : Part.colour ∉ K := by decide) :
    (t.group g).colour = (s.group g).colour := by
  refine congrFun ((frame (K := K) colours (colours s) (groups := fun s f hf => ?_) (seq := fun _ s f hf => ?_)
    (timers := fun _ s => ?_)).acts h rfl) g
  · obtain ⟨gs, hgs, hw⟩ := hf
    funext g
    have : (s.onSeq f).group g = gs.get g := by unfold State.group; rw [State.onSeq_seq, hgs]
    unfold colours
    rw [this, ((hw g).1 hK).1]
  · funext g; unfold colours; rw [group_onSeq hf]
  · funext g; unfold colours; rw [group_tickTimers]

theorem demand_eq (h : Acts G K s t) (g : Gid) (hK : Part.colour ∉ K ∧ Part.demand ∉ K := by decide) :
    (t.group g).demand = (s.group g).demand ∧ (t.group g).latch = (s.group g).latch := by
  refine Prod.mk.inj (congrFun ((frame (K := K) (fun s g => ((s.group g).demand, (s.group g).latch))
    (fun g => ((s.group g).demand, (s.group g).latch)) (groups := fun s f hf => ?_) (seq := fun _ s f hf => ?_)
    (timers := fun _ s => ?_)).acts h rfl) g)
  · obtain ⟨gs, hgs, hw⟩ := hf
    funext g
    have : (s.onSeq f).group g = gs.get g := by unfold State.group; rw [State.onSeq_seq, hgs]
    rw [this, ((hw g).2.1 hK.1 hK.2).1, ((hw g).2.1 hK.1 hK.2).2]
  · funext g; rw [group_onSeq hf]
  · funext g; rw [group_tickTimers]

/-- The sequencer record but for the groups. -/
def Seq.line (q : Seq) : Seq := { q with groups := Tab.fill 16 GroupRun.reset }

theorem line_eq (h : Acts G K s t) (hK : Part.seq ∉ K := by decide) : Seq.line t.seq = Seq.line s.seq := by
  refine (frame (K := K) (fun s => Seq.line s.seq) (Seq.line s.seq) (groups := fun s f hf => ?_)
    (seq := fun hm => absurd hm hK) (timers := fun hm => absurd hm hK)).acts h rfl
  obtain ⟨gs, hgs, -⟩ := hf
  show Seq.line (f s.seq) = _
  rw [hgs]; rfl

theorem group_eq (h : Acts G K s t) (g : Gid)
    (hK : Part.colour ∉ K ∧ Part.demand ∉ K ∧ Part.health ∉ K ∧ Part.shown ∉ K ∧ Part.seq ∉ K := by decide) :
    t.group g = s.group g := by
  obtain ⟨hc, hd, hh, hw, hq⟩ := hK
  have hp := h.phase_eq g ⟨hc, hq⟩
  obtain ⟨d1, d2⟩ := h.demand_eq g ⟨hc, hd⟩
  obtain ⟨r1, r2⟩ := h.health_eq g hh
  have ho := h.shown_eq g hw
  unfold phaseOf at hp
  cases ht : t.group g
  cases hs : s.group g
  simp_all

end Acts

end Sys2Proof.Machine
end

section
/-! PROOFS. The requests of the Cable Tester: the statement O45. -/

namespace Sys2Proof.Machine

set_option Elab.async false

open Requests

namespace TesterRequests

variable {s : State} {tag : Byte} {body : List Byte}

/-! ### Sweeps on request (R148) -/

theorem startSweeping_eq (b : Cbt) (q : Nat) :
    b.startSweeping q =
      if b.period = none then
        { b with
          period := some q, sweepTime := 0, walk := 1, deferred := [], choice := true, sweepNext := false
          uncounted := false
          results := b.results.map fun r => { r with done := false } }
      else { b with period := some q, sweepNext := decide (q * 600 ≤ b.sweepTime) } := by
  unfold Cbt.startSweeping
  cases hp : b.period <;> rfl

theorem stopSweeping_eq (b : Cbt) :
    b.stopSweeping =
      if b.period = none then b
      else
        { b with
          period := none, deferred := [], urgent := [], walk := 1, choice := false, sweepNext := false
          uncounted := false
          results := b.results.map fun r => { r with done := false } } := by
  unfold Cbt.stopSweeping
  cases hp : b.period <;> rfl

theorem serveSweepStart_of_badLength (h : body.length ≠ 2) (s : State) :
    serveSweepStart tag body s = s.reply tag 0x40#8 .badLength [] := if_pos h

theorem serveSweepStart_word (hi lo : Byte) {p q : Nat} (hp : p = hi.toNat * 256 + lo.toNat) (hq : q = max 1 (min 1440 p))
    (s : State) :
    serveSweepStart tag [hi, lo] s =
      (s.onCbt fun b => b.startSweeping q).reply tag 0x40#8 (if p = q then .ok else .okClamped) [] := by
  subst hp hq
  rw [serveSweepStart, if_neg (by simp)]
  have hst (n m : Nat) : (if (m != n) = true then Status.okClamped else .ok) = if n = m then .ok else .okClamped := by
    by_cases h : n = m
    · subst h; simp
    · simp [h, Ne.symm h]
  exact congrArg (fun st => State.reply _ tag 0x40#8 st []) (hst _ _)

theorem serveSweepStop_of_badLength (h : body ≠ []) (s : State) :
    serveSweepStop tag body s = s.reply tag 0x41#8 .badLength [] := if_pos h

/-! ### A probe on request (R152) -/

theorem serveProbeRun_of_badLength (h : body.length ≠ 1) (s : State) :
    serveProbeRun tag body s = s.reply tag 0x42#8 .badLength [] := by
  match body, h with
  | [], _ => rfl
  | [_], h => exact absurd rfl h
  | _ :: _ :: _, _ => rfl

theorem serveProbeRun_of_outOfRange {b : Byte} (h : b.toNat = 0 ∨ 64 < b.toNat) (s : State) :
    serveProbeRun tag [b] s = s.reply tag 0x42#8 .outOfRange [] := by
  simp only [serveProbeRun, DemandPlace.member_of_outOfRange h]
  rfl

/-- What PROBE_RUN does with an entry in range. -/
theorem serveProbeRun_entry (e : PEnt) (s : State) :
    serveProbeRun tag [BitVec.ofNat 8 (e.val + 1)] s =
      if s.probeUsed e = false then s.reply tag 0x42#8 .outOfRange []
      else if s.busFree = false then s.reply tag 0x42#8 .busy []
      else if s.canStart e then s.startProbe e (.request tag)
      else s.reply tag 0x42#8 .notTestable [] := by
  simp only [serveProbeRun, member_number (by decide) e]
  rfl

theorem probeUsed_iff {e : PEnt} : s.probeUsed e = true ↔ (s.probeRec e).kind ≠ none := Option.isSome_iff_ne_none

theorem busFree_iff : s.busFree = true ↔ s.cbt.phase = .idle := beq_iff_eq

theorem used_of_canStart {e : PEnt} (h : s.canStart e = true) : s.probeUsed e = true ∧ s.busFree = true := by
  simp only [State.canStart, State.entryTestable, Bool.and_eq_true] at h
  exact ⟨h.1.2.1, h.1.1⟩

theorem serveProbeRun_of_canStart {e : PEnt} (h : s.canStart e = true) :
    serveProbeRun tag [BitVec.ofNat 8 (e.val + 1)] s = s.startProbe e (.request tag) := by
  rw [serveProbeRun_entry, used_of_canStart h |>.1, used_of_canStart h |>.2, h]
  rfl

/-! ### The channels a probe connects (R113) -/

/-- The connection writes the channels alone. -/
theorem connectBus_out (s : State) (e : PEnt) : ∃ f, s.connectBus e = s.onOut f := by
  refine ⟨fun _ => (s.connectBus e).out, ?_⟩
  unfold State.connectBus
  dsimp only
  split <;> rfl

theorem connectBus_subject (s : State) (e : PEnt) : ((s.connectBus e).chan (s.probeRec e).subject).testBus = .drive := by
  unfold State.connectBus
  rw [State.onChan_self]

theorem connectBus_partner (s : State) {e : PEnt} {q : Ch} (hk : (s.probeRec e).kind = some .coupling)
    (hq : (s.probeRec e).partner = some q) (ne : q ≠ (s.probeRec e).subject) : ((s.connectBus e).chan q).testBus = .sense := by
  unfold State.connectBus
  rw [State.onChan_other _ _ ne.symm]
  simp only [hk, hq, State.onChan_self]

theorem connectBus_other (s : State) {e : PEnt} {c : Ch} (hs : c ≠ (s.probeRec e).subject)
    (hp : (s.probeRec e).partner ≠ some c) : (s.connectBus e).chan c = s.chan c := by
  unfold State.connectBus
  rw [State.onChan_other _ _ hs.symm]
  split
  · next q _ hq => exact State.onChan_other _ _ fun h => hp (by rw [hq, h])
  · rfl

/-- A probe that starts on request: what the command does. -/
theorem exec_probeRun_of_canStart {e : PEnt} (h : s.takes tag [BitVec.ofNat 8 (e.val + 1)]) (hc : s.canStart e = true) :
    exec (.probeRun tag [BitVec.ofNat 8 (e.val + 1)]) s = .next (s.reserve.startProbe e (.request tag)) := by
  show Host.Outcome.next _ = _
  rw [Laws.direct_of_takes h, serveProbeRun_of_canStart (s := s.reserve) hc]
  obtain ⟨f, hf⟩ := connectBus_out s.reserve e
  unfold State.startProbe
  rw [hf]
  exact congrArg _ (Laws.finish_of_quiet h.1.1 h.1.2 rfl)

end TesterRequests

open TesterRequests

/-- Settles O45: the refused requests and the sweeps are answered at once; a probe that can start connects its channels and
defers its reply. -/
theorem sweepAndProbeRequests : Obligations.SweepAndProbeRequests := by
  unfold Obligations.SweepAndProbeRequests
  intro s tag body h
  refine ⟨fun hb => ?_, ?_, fun hb => ?_, ?_, fun hb => ?_, ?_, ?_⟩
  · exact reads h rfl (by decide) (serveSweepStart_of_badLength hb _)
  · rintro hi lo rfl p q hp hq
    rw [← startSweeping_eq]
    exact answers (t := s.onCbt fun b => b.startSweeping q) h rfl (by decide) (serveSweepStart_word hi lo hp hq _) h.1 rfl
  · exact reads h rfl (by decide) (serveSweepStop_of_badLength hb _)
  · rintro rfl
    rw [← stopSweeping_eq]
    exact answers (t := s.onCbt Cbt.stopSweeping) h rfl (by decide) rfl h.1 rfl
  · exact reads h rfl (by decide) (serveProbeRun_of_badLength hb _)
  · rintro b rfl hb
    exact reads h rfl (by decide) (serveProbeRun_of_outOfRange hb _)
  · rintro e rfl
    refine ⟨fun hk => ?_, fun hk hp => ?_, fun hk hp hc => ?_, fun hc => ?_⟩
    · have hu : s.probeUsed e = false := by rw [Bool.eq_false_iff, ne_eq, probeUsed_iff, not_not]; exact hk
      exact reads h rfl (by decide) ((serveProbeRun_entry e _).trans (if_pos hu))
    · have hu : ¬ s.probeUsed e = false := by rw [Bool.not_eq_false, probeUsed_iff]; exact hk
      have hf : s.busFree = false := by rw [Bool.eq_false_iff, ne_eq, busFree_iff]; exact hp
      exact reads h rfl (by decide) ((serveProbeRun_entry e _).trans ((if_neg hu).trans (if_pos hf)))
    · have hu : ¬ s.probeUsed e = false := by rw [Bool.not_eq_false, probeUsed_iff]; exact hk
      have hf : ¬ s.busFree = false := by rw [Bool.not_eq_false, busFree_iff]; exact hp
      exact reads h rfl (by decide)
        ((serveProbeRun_entry e _).trans ((if_neg hu).trans ((if_neg hf).trans (if_neg (by rw [show s.reserve.canStart e = s.canStart e from rfl, hc]; decide)))))
    · refine ⟨_, exec_probeRun_of_canStart h hc, rfl, rfl, rfl, ?_, ?_, ?_, connectBus_subject s.reserve e,
        fun q hk hq ne => connectBus_partner s.reserve hk hq ne, fun c hs hp => connectBus_other s.reserve hs hp, ?_⟩
      all_goals
        obtain ⟨f, hf⟩ := connectBus_out s.reserve e
        unfold State.startProbe
        rw [hf]
      · rfl
      · rfl
      · rfl
      · exact ⟨rfl, rfl, rfl, rfl, rfl, rfl, rfl, rfl, rfl, rfl⟩

end Sys2Proof.Machine
end

section
/-! SUPPORT. The end of a step: what the counting of the additions keeps, what the inhibitions that arose drop, and the reply
that a request served in it is given. -/

namespace Sys2Proof.Machine

set_option Elab.async false

/-- A sequencer record in which groups on their way to GREEN may have been dropped, and nothing else changed. -/
def Seq.drops (q q' : Seq) : Prop := q' = { q with change := q'.change, dropped := q'.dropped, joined := q'.joined }

namespace Ending

variable {G : Gid → Prop} {K : List Acts.Part} {before s t u v : State}

open Acts

/-! ### The counting of the additions -/

@[simp] theorem closeAdditions_now (before u : State) : (State.closeAdditions before u).now = u.now :=
  congrArg (·.2.1) (Frames.base_closeAdditions before u)
@[simp] theorem closeAdditions_cfg (before u : State) : (State.closeAdditions before u).cfg = u.cfg :=
  Frames.cfg_of_base (Frames.base_closeAdditions before u)
@[simp] theorem closeAdditions_clk (before u : State) : (State.closeAdditions before u).clk = u.clk :=
  Frames.clk_of_base (Frames.base_closeAdditions before u)
@[simp] theorem closeAdditions_sch (before u : State) : (State.closeAdditions before u).sch = u.sch :=
  Frames.sch_of_base (Frames.base_closeAdditions before u)
@[simp] theorem closeAdditions_det (before u : State) : (State.closeAdditions before u).det = u.det :=
  Frames.det_of_base (Frames.base_closeAdditions before u)

@[simp] theorem closeAdditions_entries (before u : State) : (State.closeAdditions before u).flt.entries = u.flt.entries := by
  obtain ⟨-, h, -⟩ := Laws.closeAdditions_spec before u; exact h
@[simp] theorem closeAdditions_pendingSet (before u : State) :
    (State.closeAdditions before u).flt.pendingSet = u.flt.pendingSet := by
  obtain ⟨-, -, h, -⟩ := Laws.closeAdditions_spec before u; exact h
@[simp] theorem closeAdditions_overflow (before u : State) : (State.closeAdditions before u).flt.overflow = u.flt.overflow := by
  obtain ⟨-, -, -, h, -⟩ := Laws.closeAdditions_spec before u; exact h
@[simp] theorem closeAdditions_reserved (before u : State) : (State.closeAdditions before u).lnk.reserved = u.lnk.reserved := by
  obtain ⟨-, -, -, -, h, -⟩ := Laws.closeAdditions_spec before u; exact h
@[simp] theorem closeAdditions_seq (before u : State) : (State.closeAdditions before u).seq = u.seq := by
  obtain ⟨-, -, -, -, -, -, h, -⟩ := Laws.closeAdditions_spec before u; exact h
@[simp] theorem closeAdditions_out (before u : State) : (State.closeAdditions before u).out = u.out := by
  obtain ⟨-, -, -, -, -, -, -, h, -⟩ := Laws.closeAdditions_spec before u; exact h
@[simp] theorem closeAdditions_lmp (before u : State) : (State.closeAdditions before u).lmp = u.lmp := by
  obtain ⟨-, -, -, -, -, -, -, -, h, -⟩ := Laws.closeAdditions_spec before u; exact h
@[simp] theorem closeAdditions_cbt (before u : State) : (State.closeAdditions before u).cbt = u.cbt := by
  obtain ⟨-, -, -, -, -, -, -, -, -, h, -⟩ := Laws.closeAdditions_spec before u; exact h
@[simp] theorem closeAdditions_sup (before u : State) : (State.closeAdditions before u).sup = u.sup := by
  obtain ⟨-, -, -, -, -, -, -, -, -, -, h, -⟩ := Laws.closeAdditions_spec before u; exact h

@[simp] theorem closeAdditions_group (before u : State) (g : Gid) : (State.closeAdditions before u).group g = u.group g := by
  unfold State.group; rw [closeAdditions_seq]
@[simp] theorem closeAdditions_chan (before u : State) (c : Ch) : (State.closeAdditions before u).chan c = u.chan c := by
  unfold State.chan; rw [closeAdditions_out]
@[simp] theorem closeAdditions_lamp (before u : State) (c : Ch) : (State.closeAdditions before u).lamp c = u.lamp c := by
  unfold State.lamp; rw [closeAdditions_lmp]
@[simp] theorem closeAdditions_input (before u : State) (d : Det) : (State.closeAdditions before u).input d = u.input d := by
  unfold State.input; rw [closeAdditions_det]
@[simp] theorem closeAdditions_result (before u : State) (e : PEnt) : (State.closeAdditions before u).result e = u.result e := by
  unfold State.result; rw [closeAdditions_cbt]

/-- The counting of the additions queues at most a notice. -/
theorem closeAdditions_output (before u : State) :
    ∃ x, (State.closeAdditions before u).lnk.output = u.lnk.output ++ x := by
  obtain ⟨-, -, -, -, -, -, -, -, -, -, -, x, -, h⟩ := Laws.closeAdditions_spec before u; exact ⟨x, h⟩

/-! ### The inhibitions that arose (R31) -/

theorem acts_takeInhibition_green (before : State) : Acts G greenParts s (State.takeInhibition before s) :=
  Acts.either (fun _ => Acts.forAll s fun _ _ => Acts.either (fun _ => acts_dropIfInhibited _) fun _ => Acts.refl _)
    fun _ => Acts.refl _

theorem drops_refl (q : Seq) : q.drops q := rfl

theorem drops_trans {a b c : Seq} (h : a.drops b) (h' : b.drops c) : a.drops c := by
  unfold Seq.drops at *
  rw [h', h]

/-- A state in which groups on their way to GREEN may have been dropped, and nothing else changed. -/
def Drops (s t : State) : Prop := ∃ q, s.seq.drops q ∧ t = s.onSeq fun _ => q

theorem Drops.refl (s : State) : Drops s s := ⟨s.seq, drops_refl _, rfl⟩

theorem Drops.trans (h : Drops s t) (h' : Drops t u) : Drops s u := by
  obtain ⟨q, hq, rfl⟩ := h
  obtain ⟨r, hr, rfl⟩ := h'
  exact ⟨r, drops_trans hq hr, rfl⟩

theorem Drops.groups (h : Drops s t) : t.seq.groups = s.seq.groups := by
  obtain ⟨q, hq, rfl⟩ := h
  rw [State.onSeq_seq, hq]

theorem Drops.group (h : Drops s t) (g : Gid) : t.group g = s.group g := by unfold State.group; rw [h.groups]

/-- A drop of a group that is not in RED_AMBER turns no colour back. -/
theorem drops_dropIfInhibited {g : Gid} (h : (s.group g).colour ≠ .redAmber) : Drops s (s.dropIfInhibited g) := by
  have hdrop (i : Nat) : Drops s (s.dropGroup g i) := by
    unfold State.dropGroup
    rw [if_neg h]
    exact ⟨{ s.seq with
      change := s.seq.change.map fun ch => { ch with gaining := ch.gaining.filter fun p => p.1 != g }
      dropped := s.seq.dropped ++ [(g, i)]
      joined := s.seq.joined.filter fun p => p.1 != g }, rfl, rfl⟩
  unfold State.dropIfInhibited
  split
  · split
    · exact hdrop _
    · exact Drops.refl s
  · exact Drops.refl s

theorem drops_foldl {α : Type} {f : State → α → State} (hf : ∀ t, Drops u t → ∀ a, Drops t (f t a)) (l : List α) :
    Drops u s → Drops u (l.foldl f s) := by
  induction l generalizing s with
  | nil => exact id
  | cons a l ih => exact fun h => ih (h.trans (hf s h a))

/-- Where no group that an inhibition could turn back is in RED_AMBER, the inhibitions that arose drop groups and turn no
colour back (R31). -/
theorem drops_takeInhibition
    (h : u.normalTick = true → ∀ g, (before.group g).inhibited = false → (u.group g).colour = .redAmber →
      (u.group g).timeIn ≠ 0) : Drops u (State.takeInhibition before u) := by
  unfold State.takeInhibition
  split
  · next hn =>
    refine drops_foldl (fun t ht g => ?_) _ (Drops.refl u)
    split
    · next hg =>
      rw [Bool.and_eq_true, Bool.not_eq_true', Bool.or_eq_true, bne_iff_ne, beq_iff_eq] at hg
      refine drops_dropIfInhibited ?_
      rw [ht.group]
      intro hc
      exact hg.2.elim (fun hne => hne hc) fun h0 => h hn g hg.1 hc h0
    · exact Drops.refl t
  · exact Drops.refl u

/-- At a settled instant, after actions that leave the colours, the sequencer and the mode alone. -/
theorem drops_of_settled (hs : s.redAmberSettled) (h : Acts G K s u)
    (hK : Part.colour ∉ K ∧ Part.seq ∉ K ∧ Part.mode ∉ K ∧ Part.cfg ∉ K := by decide) :
    Drops u (State.takeInhibition s u) := by
  obtain ⟨hc, hq, hm, hcfg⟩ := hK
  refine drops_takeInhibition fun hn g hi hcol => ?_
  have htick : s.normalTick = true := by
    have hline := congrArg Seq.tickOpen (h.line_eq hq)
    rw [← hn]
    unfold State.normalTick
    rw [h.modes_eq hm]
    exact congrArg (· && _) hline.symm
  have hphase := h.phase_eq g ⟨hc, hq⟩
  unfold phaseOf at hphase
  obtain ⟨hcolour, htime, -⟩ := Prod.mk.inj hphase |>.imp_right Prod.mk.inj
  rw [hcolour] at hcol
  rcases hs htick g hcol with hin | hpos
  · rw [hi] at hin; exact absurd hin (by decide)
  · rw [htime]; exact Nat.pos_iff_ne_zero.mp hpos

/-! ### The end of a step -/

/-- Where the step leaves no commit to apply, its end takes the inhibitions and counts the additions. -/
theorem finish_of_noCommit (hp : u.sup.mode.drains = true → u.cfg.pendingCommit = none) :
    State.finish before u = State.closeAdditions before (State.takeInhibition before u) := by
  unfold State.finish
  rw [Laws.drainPending_of_none hp]

/-- Where the mode and the configuration stand, no commit is left to apply. -/
theorem noCommit_of_kept (h : s.betweenSteps) (hm : u.sup.mode = s.sup.mode) (hc : u.cfg = s.cfg) :
    u.sup.mode.drains = true → u.cfg.pendingCommit = none := by
  rw [hm, hc]; exact h.2

/-- With no commit to apply and no inhibition arisen, the end of a step counts the additions and does nothing else. -/
theorem finish_closes (hp : u.sup.mode.drains = true → u.cfg.pendingCommit = none)
    (hi : ∀ g, (u.group g).inhibited = true → (before.group g).inhibited = true) :
    State.finish before u = State.closeAdditions before u := by
  rw [finish_of_noCommit hp, Laws.takeInhibition_of_none hi]

/-- Outside NORMAL no inhibition is taken at a step's end (R31). -/
theorem takeInhibition_of_mode (h : u.sup.mode ≠ .normal) : State.takeInhibition before u = u := by
  have : u.normalTick = false := by
    unfold State.normalTick
    rw [show (u.sup.mode == Mode.normal) = false from beq_eq_false_iff_ne.mpr h, Bool.and_false]
  unfold State.takeInhibition
  rw [this]
  rfl

/-! ### Replies (R194, R196) -/

/-- A request that is served and answered in one step is answered in the output queue. -/
theorem answers_finish {tag code : Byte} {st : Status} {b : List Byte} (hv : Acts G K s.reserve v) (hc : code.toNat < 128)
    (hK : Part.link ∉ K := by decide) :
    State.answers s (State.finish s (v.reply tag code st b)) tag code st := by
  obtain ⟨-, x, hx⟩ := hv.replied hK
  have hend : Acts (fun _ => True) inner (v.reply tag code st b)
      (State.takeInhibition s (v.reply tag code st b).drainPending) := acts_drainPending.trans (acts_takeInhibition s)
  obtain ⟨-, y, hy⟩ := hend.replied (by decide)
  obtain ⟨z, hz⟩ := closeAdditions_output s (State.takeInhibition s (v.reply tag code st b).drainPending)
  refine ⟨x ++ [⟨tag, replyCode code, BitVec.ofNat 8 st.code :: v.summary :: replyBody b⟩] ++ y ++ z, ?_,
    ⟨tag, replyCode code, BitVec.ofNat 8 st.code :: v.summary :: replyBody b⟩, by simp, rfl, Laws.replyCode_of_lt hc, rfl⟩
  unfold State.finish
  rw [hz, hy]
  show (v.lnk.output ++ _) ++ y ++ z = _
  rw [hx]
  simp [State.reserve]

end Ending

end Sys2Proof.Machine
end

section
/-! PROOFS. The maintenance set and the relearning of lamps on request: the statement O44. -/

namespace Sys2Proof.Machine

set_option Elab.async false

open Requests Acts Ending

namespace Maintenance

variable {s t u v : State} {tag : Byte} {body : List Byte} {c : Ch}

/-! ### A request that acts and is answered at once -/

/-- A request whose service leaves the mode and the configuration alone: its effect, its reply, the inhibitions that arose
and the counting. -/
theorem exec_answered {K : List Part} {G : Gid → Prop} {i : Instr} {serve : State → State} {code : Byte} {st : Status}
    {b : List Byte} (h : s.takes tag body) (hexec : exec i s = .next (s.direct tag body serve))
    (hs : serve s.reserve = v.reply tag code st b) (hv : Acts G K s.reserve v)
    (hK : Part.mode ∉ K ∧ Part.cfg ∉ K := by decide) :
    exec i s = .next (State.finish s (v.reply tag code st b)) ∧
      State.finish s (v.reply tag code st b) =
        State.closeAdditions s (State.takeInhibition s (v.reply tag code st b)) := by
  refine ⟨by rw [hexec, Laws.direct_of_takes h, hs], finish_of_noCommit ?_⟩
  exact noCommit_of_kept (u := v.reply tag code st b) h.1 (hv.modes_eq hK.1) (hv.cfg_eq hK.2)

/-! ### One lamp record -/

theorem lamp_clearLampFaults (c k : Ch) : (s.clearLampFaults c).lamp k = s.lamp k := by
  have h : Acts (fun _ => True) [.flt, .lampFault] s (s.clearLampFaults c) := of_edits (edits_clearLampFaults c)
  unfold State.lamp
  rw [h.lmp_eq]

theorem lamp_evalAllRedHealth (k : Ch) : s.evalAllRedHealth.lamp k = s.lamp k := by
  have h : Acts (fun _ => True) redParts s s.evalAllRedHealth := of_edits edits_evalAllRedHealth
  unfold State.lamp
  rw [h.lmp_eq]

theorem lamp_relearn (c : Ch) :
    (s.relearn c).lamp c = ((s.lamp c).restartReference (s.settings c)).withVerdict .unknown none := by
  unfold State.relearn
  rw [lamp_clearLampFaults, State.onLamp_self]

theorem lamp_relearn_other {k : Ch} (h : k ≠ c) : (s.relearn c).lamp k = s.lamp k := by
  unfold State.relearn
  rw [lamp_clearLampFaults, State.onLamp_other _ _ h.symm]

/-- What the reference restarts at (R132, R133). -/
theorem restartReference_spec (l : LampRec) (st : ChanSettings) :
    (l.restartReference st).maintenance = l.maintenance ∧ (l.restartReference st).verdict = l.verdict ∧
      (l.restartReference st).set = none ∧ (l.restartReference st).run = none ∧
      (st.refMode = .learn → (l.restartReference st).iref = none ∧ (l.restartReference st).learn = .unlearned) ∧
      (st.refMode = .fixed → (l.restartReference st).iref = some st.fixedRef ∧ (l.restartReference st).learn = .learned) := by
  unfold LampRec.restartReference
  split
  · next h => exact ⟨rfl, rfl, rfl, rfl, fun _ => ⟨rfl, rfl⟩, fun h' => by rw [h] at h'; exact absurd h' nofun⟩
  · next h => exact ⟨rfl, rfl, rfl, rfl, fun h' => by rw [h] at h'; exact absurd h' nofun, fun _ => ⟨rfl, rfl⟩⟩

/-- A record whose verdict and estimate are discarded (R127, R132). -/
theorem withVerdict_unknown (l : LampRec) :
    (l.withVerdict .unknown none).healthy = none ∧ (l.withVerdict .unknown none).run = none ∧
      (l.withVerdict .unknown none).set = l.set ∧ (l.withVerdict .unknown none).iref = l.iref ∧
      (l.withVerdict .unknown none).learn = l.learn ∧ (l.withVerdict .unknown none).maintenance = l.maintenance ∧
      (if l.verdict = .held then
        (l.withVerdict .unknown none).verdict = .held ∧ (l.withVerdict .unknown none).saved = some .unknown
      else (l.withVerdict .unknown none).verdict = .unknown) := by
  unfold LampRec.withVerdict
  split
  · next h => exact ⟨rfl, rfl, rfl, rfl, rfl, rfl, h, rfl⟩
  · exact ⟨rfl, rfl, rfl, rfl, rfl, rfl, rfl⟩

/-- A record with nothing learned, or all, follows its channel with its reference and learning as they were. -/
theorem trails_settled {l l' : LampRec} (h : l.trails l') (hl : l.learn = .unlearned ∨ l.learn = .learned) :
    l'.learn = l.learn := by
  obtain ⟨-, -, -, -, -, hlearn⟩ := h
  rcases hlearn with e | e
  · exact e
  · rw [e]; unfold LampRec.leaveSteady; rcases hl with e' | e' <;> rw [e']

/-! ### LAMP_RELEARN (R133) -/

theorem serveLampRelearn_of_badLength (h : body.length ≠ 1) (s : State) :
    serveLampRelearn tag body s = s.reply tag 0x37#8 .badLength [] := by
  match body, h with
  | [], _ => rfl
  | [_], h => exact absurd rfl h
  | _ :: _ :: _, _ => rfl

theorem serveLampRelearn_of_outOfRange {b : Byte} (h : b.toNat = 0 ∨ 48 < b.toNat) (s : State) :
    serveLampRelearn tag [b] s = s.reply tag 0x37#8 .outOfRange [] := by
  simp only [serveLampRelearn, DemandPlace.member_of_outOfRange h]
  rfl

theorem serveLampRelearn_channel (c : Ch) (s : State) :
    serveLampRelearn tag [BitVec.ofNat 8 (c.val + 1)] s = ((s.relearn c).evalAllRedHealth).reply tag 0x37#8 .ok [] := by
  simp only [serveLampRelearn, member_number (by decide) c]

theorem acts_relearnServed (c : Ch) : Acts (fun _ => True) verdictParts s ((s.relearn c).evalAllRedHealth) :=
  (of_edits (edits_relearn c)).up.trans (of_edits edits_evalAllRedHealth).up

/-! ### MAINT_UPDATE (R131, R132) -/

theorem serveMaintUpdate_of_badLength (h : body.length ≠ 7) (s : State) :
    serveMaintUpdate tag body s = s.reply tag 0x36#8 .badLength [] := if_pos h

theorem serveMaintUpdate_of_outOfRange (h : body.length = 7) (hop : 2 < (body.getD 0 0).toNat) (s : State) :
    serveMaintUpdate tag body s = s.reply tag 0x36#8 .outOfRange [] := by
  rw [serveMaintUpdate, if_neg (not_not.mpr h)]
  exact if_pos hop

/-- The channels of a MAINT_UPDATE, one after the other. -/
def maintained (s : State) (op : Nat) (body : List Byte) : State :=
  (s.forAll fun (t : State) (c : Ch) => t.maintChannel op body c).evalAllRedHealth

theorem serveMaintUpdate_eq (h : body.length = 7) (hop : (body.getD 0 0).toNat ≤ 2) (s : State) :
    serveMaintUpdate tag body s =
      (maintained s (body.getD 0 0).toNat body).reply tag 0x36#8 .ok
        (counted ((allFin 48).filter fun c => ((maintained s (body.getD 0 0).toNat body).lamp c).maintenance)) := by
  rw [serveMaintUpdate, if_neg (not_not.mpr h)]
  exact if_neg (by show ¬ 2 < (body.getD 0 0).toNat; omega)

theorem acts_maintained (op : Nat) (body : List Byte) :
    Acts (fun _ => True) (.answer :: .cbt :: .starved :: verdictParts) s (maintained s op body) :=
  (Acts.forAll s fun _ c => acts_maintChannel op body c).up.trans (of_edits edits_evalAllRedHealth).up

/-- A fold over all indices in which each step writes its own entry of a projection: what it leaves of one entry is what
that entry's own step leaves of it. -/
theorem forAll_own {n : Nat} {β : Type} {f : State → Fin n → State} {p : State → Fin n → β} {I : State → Prop}
    (hI : ∀ t i, I t → I (f t i)) (hp : ∀ t i k, i ≠ k → p (f t i) k = p t k) (s : State) (hs : I s) (k : Fin n) :
    ∃ t, I t ∧ p t k = p s k ∧ p (s.forAll f) k = p (f t k) k := by
  have hrest (l : List (Fin n)) (hk : k ∉ l) (t : State) : p (l.foldl f t) k = p t k := by
    induction l generalizing t with
    | nil => rfl
    | cons i l ih =>
      rw [List.mem_cons, not_or] at hk
      rw [List.foldl_cons, ih hk.2, hp t i k (Ne.symm hk.1)]
  have hall (l : List (Fin n)) (hn : l.Nodup) (hk : k ∈ l) (t : State) (ht : I t) :
      ∃ t', I t' ∧ p t' k = p t k ∧ p (l.foldl f t) k = p (f t' k) k := by
    induction l generalizing t with
    | nil => exact absurd hk (List.not_mem_nil)
    | cons i l ih =>
      obtain ⟨hi, hl⟩ := List.nodup_cons.mp hn
      rw [List.foldl_cons]
      by_cases hik : i = k
      · subst hik; exact ⟨t, ht, rfl, hrest l hi _⟩
      · obtain ⟨t', ht', he, hf⟩ := ih hl ((List.mem_cons.mp hk).resolve_left (Ne.symm hik)) _ (hI t i ht)
        exact ⟨t', ht', he.trans (hp t i k hik), hf⟩
  have hfin : allFin n = List.finRange n := rfl
  exact hall (allFin n) (List.nodup_finRange n) (List.mem_finRange k) s hs

/-! ### One channel of a MAINT_UPDATE -/

/-- The leak's conditions write the leak time and its request alone (R134). -/
theorem lamp_refreshLeak (c : Ch) :
    ∃ a b, (s.refreshLeak c).lamp c = { s.lamp c with leak := a, leakAsked := b } := by
  unfold State.refreshLeak
  split_ifs
  · exact ⟨_, _, rfl⟩
  · exact ⟨_, _, State.onLamp_self _ _ _⟩
  · exact ⟨_, _, State.onLamp_self _ _ _⟩

theorem lamp_refreshLeak_other {k : Ch} (h : c ≠ k) : (s.refreshLeak c).lamp k = s.lamp k := by
  unfold State.refreshLeak
  split_ifs
  · rfl
  · exact State.onLamp_other _ _ h
  · exact State.onLamp_other _ _ h

theorem lamp_claimChannel (c k : Ch) : (s.claimChannel c).lamp k = s.lamp k := by
  have h : Acts (fun _ => True) [.answer, .cbt, .flt, .starved] s (s.claimChannel c) := of_edits (edits_claimChannel c)
  unfold State.lamp
  rw [h.lmp_eq]

/-- What an entry to the maintenance set leaves of the channel's record (R132). -/
theorem lamp_enterMaintenance (c : Ch) :
    ∃ a b, (s.enterMaintenance c).lamp c =
      { (s.lamp c).leaveSteady.withVerdict .unknown none with maintenance := true, leak := a, leakAsked := b } := by
  unfold State.enterMaintenance
  obtain ⟨a, b, h⟩ := lamp_refreshLeak
    (s := (s.onLamp c fun l => { l.leaveSteady.withVerdict .unknown none with maintenance := true }).clearLampFaults c) c
  refine ⟨a, b, ?_⟩
  rw [h, lamp_clearLampFaults, State.onLamp_self]

/-- What leaving the maintenance set leaves of the channel's record (R132). -/
theorem lamp_leaveMaintenance (c : Ch) :
    ∃ a b, (s.leaveMaintenance c).lamp c =
      { (s.lamp c).restartReference (s.settings c) with maintenance := false, leak := a, leakAsked := b } := by
  unfold State.leaveMaintenance
  obtain ⟨a, b, h⟩ := lamp_refreshLeak
    (s := s.onLamp c fun l => { l.restartReference (s.settings c) with maintenance := false }) c
  refine ⟨a, b, ?_⟩
  rw [h, State.onLamp_self]

theorem lamp_maintChannel_other {k : Ch} (op : Nat) (b : List Byte) (h : c ≠ k) :
    (s.maintChannel op b c).lamp k = s.lamp k := by
  unfold State.maintChannel
  split
  · split
    · rw [lamp_claimChannel]
      unfold State.enterMaintenance
      rw [lamp_refreshLeak_other h, lamp_clearLampFaults, State.onLamp_other _ _ h]
    · unfold State.leaveMaintenance
      rw [lamp_refreshLeak_other h, State.onLamp_other _ _ h]
    · rfl
  · rfl

/-- What MAINT_UPDATE makes of one channel's record: `l` before, `l'` after, with the channel's settings (R131, R132). -/
def maintains (masked : Bool) (op : Nat) (st : ChanSettings) (l l' : LampRec) : Prop :=
  l'.maintenance = (if masked = false then l.maintenance else maintAfter op l.maintenance) ∧
    (l'.maintenance = l.maintenance → l' = l) ∧
    (l.maintenance = false → l'.maintenance = true →
      l'.healthy = none ∧ l'.set = none ∧ l'.run = none ∧ l'.iref = l.iref ∧
        (if l.verdict = .held then l'.verdict = .held ∧ l'.saved = some .unknown else l'.verdict = .unknown)) ∧
    (l.maintenance = true → l'.maintenance = false →
      (st.refMode = .learn → l'.iref = none ∧ l'.learn = .unlearned) ∧
        (st.refMode = .fixed → l'.iref = some st.fixedRef ∧ l'.learn = .learned))

theorem maintains_same {masked : Bool} {op : Nat} (st : ChanSettings) (l : LampRec)
    (h : masked = true → maintAfter op l.maintenance = l.maintenance) : maintains masked op st l l := by
  refine ⟨?_, fun _ => rfl, fun h0 h1 => ?_, fun h0 h1 => ?_⟩
  · cases masked
    · rfl
    · exact (h rfl).symm
  · rw [h0] at h1; exact absurd h1 (by decide)
  · rw [h0] at h1; exact absurd h1 (by decide)

theorem lamp_maintChannel (op : Nat) (b : List Byte) (c : Ch) :
    maintains (maskHas b c) op (s.settings c) (s.lamp c) ((s.maintChannel op b c).lamp c) := by
  unfold State.maintChannel
  split
  · next hmask =>
    rw [hmask]
    split
    · next h0 h1 =>
      obtain ⟨a, b', h⟩ := lamp_enterMaintenance (s := s) c
      obtain ⟨v1, v2, v3, v4, -, -, v7⟩ := withVerdict_unknown (s.lamp c).leaveSteady
      rw [lamp_claimChannel, h]
      refine ⟨h1.symm, fun hm => ?_, fun _ _ => ⟨v1, v3, v2, v4, v7⟩, fun hm => ?_⟩
      · exact absurd (hm.trans h0) nofun
      · rw [h0] at hm; exact absurd hm (by decide)
    · next h0 h1 =>
      obtain ⟨a, b', h⟩ := lamp_leaveMaintenance (s := s) c
      obtain ⟨-, -, -, -, r5, r6⟩ := restartReference_spec (s.lamp c) (s.settings c)
      rw [h]
      refine ⟨h1.symm, fun hm => ?_, fun hm => ?_, fun _ _ => ⟨r5, r6⟩⟩
      · exact absurd (hm.trans h0) nofun
      · rw [h0] at hm; exact absurd hm (by decide)
    · next hne1 hne2 =>
      refine maintains_same _ _ fun _ => ?_
      cases hm : (s.lamp c).maintenance <;> cases ha : maintAfter op (s.lamp c).maintenance
      · rw [hm] at ha; exact ha
      · exact (hne1 hm ha).elim
      · exact (hne2 hm ha).elim
      · rw [hm] at ha; exact ha
  · next hmask => exact maintains_same _ _ fun h => absurd h hmask

/-- What MAINT_UPDATE makes of every record. -/
theorem lamp_maintained (op : Nat) (b : List Byte) (c : Ch) :
    maintains (maskHas b c) op (s.settings c) (s.lamp c) ((maintained s op b).lamp c) := by
  unfold maintained
  rw [lamp_evalAllRedHealth]
  obtain ⟨t, hcfg, hown, hall⟩ := forAll_own (f := fun (t : State) (c : Ch) => t.maintChannel op b c) (p := State.lamp)
    (I := fun t => t.cfg = s.cfg)
    (fun t i ht => (Acts.cfg_eq (G := fun _ => True) (acts_maintChannel op b i)).trans ht)
    (fun t i k hne => lamp_maintChannel_other op b hne) s rfl c
  have hset : t.settings c = s.settings c := by unfold State.settings; rw [hcfg]
  rw [hall, ← hown, ← hset]
  exact lamp_maintChannel op b c

end Maintenance

open Maintenance

/-- Settles O44: each channel of the mask has its record rewritten once, and what follows at the end of the step writes no
lamp record at a settled instant and discards no more than a partial set and a run at another. -/
theorem maintenanceAndRelearnRequests : Obligations.MaintenanceAndRelearnRequests := by
  unfold Obligations.MaintenanceAndRelearnRequests
  intro s tag body h
  refine ⟨fun hb => ?_, fun hb hop => ?_, fun hb hop => ?_, fun hb => ?_, ?_, ?_⟩
  · exact reads h rfl (by decide) (serveMaintUpdate_of_badLength hb _)
  · exact reads h rfl (by decide) (serveMaintUpdate_of_outOfRange hb hop _)
  · obtain ⟨hexec, hend⟩ := exec_answered (i := .maintUpdate tag body) h rfl (serveMaintUpdate_eq hb hop _) (acts_maintained _ _)
    refine ⟨_, hexec, answers_finish (acts_maintained _ _) (by decide), ?_⟩
    rw [hend]
    generalize hv : maintained s.reserve (body.getD 0 0).toNat body = v
    have hacts : Acts (fun _ => True) _ s.reserve v := hv ▸ acts_maintained _ _
    generalize hu : v.reply tag 0x36#8 .ok _ = u
    obtain ⟨hcfg, hclk, hsch, hdet, hlamp⟩ : u.cfg = s.cfg ∧ u.clk = s.clk ∧ u.sch = s.sch ∧ u.det = s.det ∧
        ∀ c, u.lamp c = v.lamp c := by
      subst hu
      exact ⟨hacts.cfg_eq, hacts.clk_eq, hacts.sch_eq, hacts.det_eq, fun _ => rfl⟩
    have hend : Acts (fun _ => True) greenParts u (State.takeInhibition s u) := acts_takeInhibition_green s
    refine ⟨by rw [closeAdditions_cfg, hend.cfg_eq, hcfg], by rw [closeAdditions_clk, hend.clk_eq, hclk],
      by rw [closeAdditions_sch, hend.sch_eq, hsch], by rw [closeAdditions_det, hend.det_eq, hdet], ?_⟩
    rintro c op rfl
    obtain ⟨m1, m2, m3, m4⟩ := lamp_maintained (s := s.reserve) (body.getD 0 0).toNat body c
    rw [hv] at m1 m2 m3 m4
    have hsettled (hs : s.redAmberSettled) : (State.closeAdditions s (State.takeInhibition s u)).lamp c = v.lamp c := by
      have hu' : Acts (fun _ => True) (.slots :: .answer :: .cbt :: .starved :: verdictParts) s.reserve u := by
        subst hu
        exact hacts.up.trans (of_edits (.one (.reply _ _ _ _ (by decide))))
      obtain ⟨q, -, hq⟩ : Drops u (State.takeInhibition s u) := drops_of_settled (s := s.reserve) hs hu'
      rw [closeAdditions_lamp, hq]
      exact hlamp c
    refine ⟨?_, fun hs hm => ?_, fun hs hm => ?_⟩
    · obtain ⟨hm, -⟩ := hend.trails c
      rw [closeAdditions_lamp, hm, hlamp]
      exact m1
    · rw [hsettled hs]
      rw [hm] at m1
      exact m2 m1
    · rw [hsettled hs]
      exact ⟨m2, m3, m4⟩
  · exact reads h rfl (by decide) (serveLampRelearn_of_badLength hb _)
  · rintro b rfl hb
    exact reads h rfl (by decide) (serveLampRelearn_of_outOfRange hb _)
  · rintro c rfl
    have hacts : Acts (fun _ => True) verdictParts s.reserve ((s.reserve.relearn c).evalAllRedHealth) := acts_relearnServed c
    obtain ⟨hexec, hend⟩ := exec_answered (i := .lampRelearn tag _) h rfl (serveLampRelearn_channel c _) hacts
    refine ⟨_, hexec, answers_finish hacts (by decide), ?_⟩
    rw [hend]
    generalize hv : (s.reserve.relearn c).evalAllRedHealth = v at hacts
    have hown : v.lamp c = ((s.lamp c).restartReference (s.settings c)).withVerdict .unknown none := by
      rw [← hv, lamp_evalAllRedHealth, lamp_relearn]; rfl
    have hother (k : Ch) (hk : k ≠ c) : v.lamp k = s.lamp k := by
      rw [← hv, lamp_evalAllRedHealth, lamp_relearn_other hk]; rfl
    generalize hu : v.reply tag 0x37#8 .ok [] = u
    have hu' : Acts (fun _ => True) (.slots :: verdictParts) s.reserve u := by
      subst hu
      exact hacts.up.trans (of_edits (.one (.reply _ _ _ _ (by decide))))
    have hlamp (k : Ch) : u.lamp k = v.lamp k := by subst hu; rfl
    have hend : Acts (fun _ => True) greenParts u (State.takeInhibition s u) := acts_takeInhibition_green s
    have htrails := hend.trails c
    rw [hlamp, hown] at htrails
    obtain ⟨r1, r2, r3, r4, r5, r6⟩ := restartReference_spec (s.lamp c) (s.settings c)
    obtain ⟨v1, v2, v3, v4, v5, v6, v7⟩ := withVerdict_unknown ((s.lamp c).restartReference (s.settings c))
    have hdrops (hs : s.redAmberSettled) : Drops u (State.takeInhibition s u) := drops_of_settled (s := s.reserve) hs hu'
    have hsettled (hs : s.redAmberSettled) (k : Ch) :
        (State.closeAdditions s (State.takeInhibition s u)).lamp k = v.lamp k := by
      obtain ⟨q, -, hq⟩ := hdrops hs
      rw [closeAdditions_lamp, hq]
      exact hlamp k
    obtain ⟨t1, t2, t3, t4, t5, -⟩ := id htrails
    rw [closeAdditions_lamp]
    refine ⟨by rw [closeAdditions_cfg, hend.cfg_eq, hu'.cfg_eq]; rfl, by rw [closeAdditions_clk, hend.clk_eq, hu'.clk_eq]; rfl,
      by rw [closeAdditions_det, hend.det_eq, hu'.det_eq]; rfl, fun hs => ⟨?_, ?_, fun k hk => ?_⟩, t2.trans v1, ?_, ?_,
      t1.trans (v6.trans r1), fun hs => ?_, fun hl => ⟨t3.trans (v4.trans (r5 hl).1), ?_⟩,
      fun hf => ⟨t3.trans (v4.trans (r6 hf).1), ?_⟩⟩
    · obtain ⟨q, -, hq⟩ := hdrops hs
      rw [closeAdditions_out, hq]
      exact hu'.out_eq
    · obtain ⟨q, -, hq⟩ := hdrops hs
      rw [closeAdditions_cbt, hq]
      exact hu'.cbt_eq
    · rw [hsettled hs, hother k hk]
    · exact t4.elim (fun e => e.trans (v3.trans r3)) id
    · exact t5.elim (fun e => e.trans v2) id
    · have := hsettled hs c
      rw [closeAdditions_lamp] at this
      rw [this, hown, ← r2]
      exact v7
    · exact (trails_settled htrails (.inl (v5.trans (r5 hl).2))).trans (v5.trans (r5 hl).2)
    · exact (trails_settled htrails (.inr (v5.trans (r6 hf).2))).trans (v5.trans (r6 hf).2)

end Sys2Proof.Machine
end

section
/-! SUPPORT. The entries to the cabinet modes: what each leaves of the supervisor record, of the contactor and of the colours, and
that MODE_CHANGE is added. -/

namespace Sys2Proof.Machine

set_option Elab.async false

/-- The pending set of a later instant holds what an earlier one held (R182). -/
theorem PendingSet.bits_of_union {p q : PendingSet} (h : p.union q = q) :
    (p.modeChange = true → q.modeChange = true) ∧ (p.planChange = true → q.planChange = true) ∧
      (p.commitApplied = true → q.commitApplied = true) ∧ (p.clock = true → q.clock = true) := by
  rw [← h]
  simp +contextual [PendingSet.union]

namespace Modes

open Acts

variable {G : Gid → Prop} {K : List Part} {s t u v : State}

/-! ### The colours of all groups -/

theorem kind_putColour (g k : Gid) (col : Colour) : (s.putColour g col).kind k = s.kind k := by
  unfold State.kind State.groupRec; rw [Frames.cfg_of_base (Frames.base_putColour s g col)]

/-- A fitted group given the colour of its kind, its channels not yet following. -/
def painted (f : GroupKind → Colour) (t : State) (g : Gid) : State :=
  match t.kind g with | some k => t.putColour g (f k) | none => t

theorem setAllColours_eq (f : GroupKind → Colour) : s.setAllColours f = (s.forAll (painted f)).syncCommands := rfl

theorem painted_of_fitted {g : Gid} {k : GroupKind} (f : GroupKind → Colour) (h : s.kind g = some k) :
    painted f s g = s.putColour g (f k) := by unfold painted; rw [h]

theorem painted_of_unfitted {g : Gid} (f : GroupKind → Colour) (h : s.kind g = none) : painted f s g = s := by
  unfold painted; rw [h]

theorem cfg_painted (f : GroupKind → Colour) (g : Gid) : (painted f s g).cfg = s.cfg := by
  cases hk : s.kind g with
  | none => rw [painted_of_unfitted f hk]
  | some k => rw [painted_of_fitted f hk]; exact Frames.cfg_of_base (Frames.base_putColour _ _ _)

theorem colours_painted_other (f : GroupKind → Colour) {g k : Gid} (h : g ≠ k) : colours (painted f s g) k = colours s k := by
  cases hk : s.kind g with
  | none => rw [painted_of_unfitted f hk]
  | some x => rw [painted_of_fitted f hk, colours_putColour, if_neg h]

theorem colours_painted_self (f : GroupKind → Colour) (g : Gid) :
    colours (painted f s g) g = match s.kind g with | some k => f k | none => colours s g := by
  cases hk : s.kind g with
  | none => rw [painted_of_unfitted f hk]
  | some x => rw [painted_of_fitted f hk, colours_putColour, if_pos rfl]

/-- The colour that every fitted group is given by its kind (R43). -/
theorem colour_setAllColours (f : GroupKind → Colour) (g : Gid) :
    ((s.setAllColours f).group g).colour = match s.kind g with | some k => f k | none => (s.group g).colour := by
  show colours _ g = _
  rw [setAllColours_eq, colours_syncCommands]
  obtain ⟨t, hI, hp, he⟩ := Maintenance.forAll_own (f := painted f) (p := colours) (I := fun t => t.cfg = s.cfg)
    (fun t i h => (cfg_painted f i).trans h) (fun _ _ _ h => colours_painted_other f h) s rfl g
  have hkind : t.kind g = s.kind g := by unfold State.kind State.groupRec; rw [hI]
  rw [he, colours_painted_self, hkind, hp]
  rfl

/-! ### The entry to an unlit mode -/

/-- The supervisor record changed, the contactor's record with it, every fitted group in DARK_ALL and the sequencer record
rewritten: the common part of the entries to DARK and to STARTUP_CHECK. -/
def dimmed (f : Sup → Sup) (k : Contactor → Contactor) (s : State) : State :=
  ((((s.onMode f).onContactor k).setAllColours fun _ => .darkAll).onSeq unlitRecord).refreshGrace

/-- What that common part may write. -/
abbrev dimParts : List Part := [.mode, .seq, .grace, .contactor, .colour, .flt] ++ restingParts

theorem enterDark_dimmed (r : Option Reason) (l : Bool) : s.enterDark r l = dimmed (toDark r l) released s := enterDark_eq s r l

theorem enterStartupCheck_dimmed (e : CheckExit) : s.enterStartupCheck e = (dimmed (toCheck e) id s).closeContactor :=
  enterStartupCheck_eq s e

theorem acts_enterDark_dim (r : Option Reason) (l : Bool) : Acts G dimParts s (s.enterDark r l) := by
  rw [enterDark_eq]
  exact one (.dim _ _ _ (by decide) (by decide) (by decide) (by decide) (by decide) (by decide) rfl rfl rfl rfl
    gentle_unlitRecord)

theorem acts_dimmedCheck (e : CheckExit) : Acts G dimParts s (dimmed (toCheck e) id s) :=
  one (.dim _ _ _ (by decide) (by decide) (by decide) (by decide) (by decide) (by decide) rfl rfl rfl rfl
    gentle_unlitRecord)

/-- What follows the supervisor's and the contactor's own records. -/
theorem acts_dimming (f : Sup → Sup) (k : Contactor → Contactor) :
    Acts G ([.seq, .grace, .colour] ++ electric) ((s.onMode f).onContactor k) (dimmed f k s) :=
  Acts.trans (Acts.trans (acts_setAllColours (fun _ => by decide) (.inl fun _ => rfl)).up
    (one (.seq _ (by decide) (gentle_unlitRecord _).1 (gentle_unlitRecord _).2.1 (.inl (gentle_unlitRecord _).2.2))))
    (of_edits (.one (.grace (by decide))))

theorem core_dimmed (f : Sup → Sup) (k : Contactor → Contactor) : Sup.core (dimmed f k s).sup = Sup.core (f s.sup) := by
  have h : Acts (fun _ => True) _ ((s.onMode f).onContactor k) (dimmed f k s) := acts_dimming f k
  rw [h.core_eq]
  show Sup.core (s.onMode f).sup = _
  rw [Laws.onMode_sup]

theorem out_onMode (f : Sup → Sup) : (s.onMode f).out = s.out := by unfold State.onMode; dsimp only; split <;> rfl

theorem contactor_dimmed (f : Sup → Sup) (k : Contactor → Contactor) :
    (dimmed f k s).out.contactor = k s.out.contactor ∧ (dimmed f k s).out.trip = s.out.trip := by
  have h : Acts (fun _ => True) _ ((s.onMode f).onContactor k) (dimmed f k s) := acts_dimming f k
  obtain ⟨hk, ht⟩ := h.contactor_eq
  rw [hk, ht]
  show k (s.onMode f).out.contactor = _ ∧ (s.onMode f).out.trip = _
  rw [out_onMode]
  exact ⟨rfl, rfl⟩

theorem cfg_onMode (f : Sup → Sup) : (s.onMode f).cfg = s.cfg := Frames.cfg_of_base (Frames.base_onMode s f)

theorem colour_dimmed (f : Sup → Sup) (k : Contactor → Contactor) {g : Gid} (hg : s.kind g ≠ none) :
    ((dimmed f k s).group g).colour = .darkAll := by
  have hafter : Acts (fun _ => True) [.seq, .grace] (((s.onMode f).onContactor k).setAllColours fun _ => .darkAll)
      (dimmed f k s) :=
    (one (.seq _ (by decide) (gentle_unlitRecord _).1 (gentle_unlitRecord _).2.1 (.inl (gentle_unlitRecord _).2.2))).trans
      (of_edits (.one (.grace (by decide))))
  rw [hafter.colour_eq, colour_setAllColours]
  have hkind : ((s.onMode f).onContactor k).kind g = s.kind g := by
    have hcfg : ((s.onMode f).onContactor k).cfg = s.cfg := cfg_onMode f
    unfold State.kind State.groupRec; rw [hcfg]
  rw [hkind]
  split
  · rfl
  · next h => exact absurd h hg

theorem modeChange_onMode (f : Sup → Sup)
    (h : ¬((f s.sup).mode = s.sup.mode ∧ (f s.sup).reason = s.sup.reason ∧ (f s.sup).latched = s.sup.latched)) :
    (s.onMode f).flt.pendingSet.modeChange = true := by
  have h' : ¬((s.onSup f).sup.mode = s.sup.mode ∧ (s.onSup f).sup.reason = s.sup.reason ∧
      (s.onSup f).sup.latched = s.sup.latched) := h
  unfold State.onMode
  dsimp only
  rw [if_neg h']
  exact Bool.or_true _

/-- MODE_CHANGE stays in the pending set. -/
theorem modeChange_stays (h : Acts G K s t) (hm : s.flt.pendingSet.modeChange = true)
    (hK : Part.table ∉ K := by decide) : t.flt.pendingSet.modeChange = true :=
  (PendingSet.bits_of_union (h.pendingSet_grows hK)).1 hm

theorem modeChange_dimmed (f : Sup → Sup) (k : Contactor → Contactor)
    (h : ¬((f s.sup).mode = s.sup.mode ∧ (f s.sup).reason = s.sup.reason ∧ (f s.sup).latched = s.sup.latched)) :
    (dimmed f k s).flt.pendingSet.modeChange = true := by
  have hd : Acts (fun _ => True) _ ((s.onMode f).onContactor k) (dimmed f k s) := acts_dimming f k
  exact modeChange_stays hd (modeChange_onMode f h)

/-! ### STARTUP_CHECK (R164) -/

/-- The contactor's record as its command becomes CLOSED and no FULL indication completes the close (R114, R115). -/
def closing (trip : Bool) (k : Contactor) : Contactor :=
  if k.driven || trip then { k with closeCommand := true }
  else { k with closeCommand := true, driven := true, state := .pullingIn, limit := some 0 }

@[simp] theorem onContactor_group (f : Contactor → Contactor) (g : Gid) : (s.onContactor f).group g = s.group g := rfl
@[simp] theorem onContactor_contactor (f : Contactor → Contactor) :
    (s.onContactor f).out.contactor = f s.out.contactor := rfl

theorem onContactor_congr {f g : Contactor → Contactor} (h : f s.out.contactor = g s.out.contactor) :
    s.onContactor f = s.onContactor g := by
  unfold State.onContactor State.onOut
  simp only [h]

theorem closeContactor_later (h : s.closesLater) : s.closeContactor = s.onContactor (closing s.out.trip) := by
  unfold State.closeContactor
  dsimp only
  split
  · next hd => exact onContactor_congr (by unfold closing; rw [if_pos hd])
  · next hd =>
    have hk : s.out.contactor.indication ≠ .full := h.resolve_left fun hdr => hd (by rw [hdr]; rfl)
    rw [if_neg hk]
    exact onContactor_congr (by unfold closing; rw [if_neg hd])

theorem closesLater_dimmed (e : CheckExit) (h : s.closesLater) : (dimmed (toCheck e) id s).closesLater := by
  unfold State.closesLater
  rw [(contactor_dimmed _ _).1]
  exact h

/-- The entry to STARTUP_CHECK where the close of the contactor does not complete at once. -/
theorem enterStartupCheck_later (e : CheckExit) (h : s.closesLater) :
    s.enterStartupCheck e = (dimmed (toCheck e) id s).onContactor (closing s.out.trip) := by
  rw [enterStartupCheck_dimmed, closeContactor_later (closesLater_dimmed e h), (contactor_dimmed _ _).2]

theorem acts_enterStartupCheck_later (e : CheckExit) (h : s.closesLater) : Acts G dimParts s (s.enterStartupCheck e) := by
  rw [enterStartupCheck_later e h]
  exact (acts_dimmedCheck e).trans (acts_onContactor _).up

theorem core_enterStartupCheck (e : CheckExit) (h : s.closesLater) :
    Sup.core (s.enterStartupCheck e).sup = Sup.core (toCheck e s.sup) := by
  rw [enterStartupCheck_later e h, State.onContactor_sup]
  exact core_dimmed _ _

theorem contactor_enterStartupCheck (e : CheckExit) (h : s.closesLater) :
    (s.enterStartupCheck e).out.contactor = closing s.out.trip s.out.contactor := by
  rw [enterStartupCheck_later e h, onContactor_contactor, (contactor_dimmed _ _).1]
  rfl

theorem colour_enterStartupCheck (e : CheckExit) (h : s.closesLater) {g : Gid} (hg : s.kind g ≠ none) :
    ((s.enterStartupCheck e).group g).colour = .darkAll := by
  rw [enterStartupCheck_later e h, onContactor_group]
  exact colour_dimmed _ _ hg

theorem modeChange_enterStartupCheck (e : CheckExit) (h : s.closesLater) (hm : s.sup.mode ≠ .startupCheck) :
    (s.enterStartupCheck e).flt.pendingSet.modeChange = true := by
  rw [enterStartupCheck_later e h, State.onContactor_flt]
  exact modeChange_dimmed _ _ fun ⟨he, _⟩ => hm he.symm

theorem closing_closeCommand (trip : Bool) (k : Contactor) : (closing trip k).closeCommand = true := by
  unfold closing; split <;> rfl

theorem closing_driven (k : Contactor) : (closing false k).driven = true := by
  unfold closing
  rw [Bool.or_false]
  split
  · assumption
  · rfl

/-! ### DARK (R159) -/

theorem core_enterDark (r : Option Reason) (l : Bool) : Sup.core (s.enterDark r l).sup = Sup.core (toDark r l s.sup) := by
  rw [enterDark_dimmed]; exact core_dimmed _ _

theorem contactor_enterDark (r : Option Reason) (l : Bool) :
    (s.enterDark r l).out.contactor = released s.out.contactor ∧ (s.enterDark r l).out.trip = s.out.trip := by
  rw [enterDark_dimmed]; exact contactor_dimmed _ _

theorem released_off (k : Contactor) : (released k).closeCommand = false ∧ (released k).driven = false := by
  unfold released
  split
  · exact ⟨rfl, rfl⟩
  · next h => exact ⟨rfl, by simpa using h⟩

theorem colour_enterDark (r : Option Reason) (l : Bool) {g : Gid} (hg : s.kind g ≠ none) :
    ((s.enterDark r l).group g).colour = .darkAll := by
  rw [enterDark_dimmed]; exact colour_dimmed _ _ hg

theorem modeChange_enterDark (r : Option Reason) (l : Bool) (hm : s.sup.mode ≠ .dark) :
    (s.enterDark r l).flt.pendingSet.modeChange = true := by
  rw [enterDark_dimmed]; exact modeChange_dimmed _ _ fun ⟨he, _⟩ => hm he.symm

/-! ### The lit modes -/

/-- The supervisor record as the cabinet enters CLEARING. -/
def toClearing (r : Reason) (l : Bool) (u : Sup) : Sup :=
  { u with mode := .clearing, reason := some r, latched := l, phaseTime := 0 }

/-- The supervisor record as the cabinet enters FLASH. -/
def toFlash (attempts : Nat) (r : Option Reason) (l : Bool) (u : Sup) : Sup :=
  let u1 : Sup := { u with mode := .flash, reason := r, latched := l, phaseTime := 0, flashNext := none }
  if u1.holdoffPending && r == some Reason.redFail && !l then u1.startHoldoff attempts else { u1 with holdoffPending := false }

/-- A supervisor record with other grace times. -/
theorem core_entered (f : Sup → Sup) (q : Seq → Seq) :
    Sup.core (((s.onMode f).onSeq q).refreshGrace).sup = Sup.core (f s.sup) := by
  show Sup.core (s.onMode f).sup = _
  rw [Laws.onMode_sup]

theorem core_enterClearing (r : Reason) (l : Bool) :
    Sup.core (s.enterClearing r l).sup = Sup.core (toClearing r l s.sup) := core_entered _ _

theorem core_enterFlash (r : Option Reason) (l : Bool) :
    Sup.core (s.enterFlash r l).sup = Sup.core (toFlash s.cabinet.attempts r l s.sup) := core_entered _ _

end Modes

end Sys2Proof.Machine
end

section
/-! SUPPORT. What actions leave of the wear of the relays (R110): a judged wear stands until a commit changes a threshold. -/

namespace Sys2Proof.Machine

set_option Elab.async false

namespace Acts

variable {G : Gid → Prop} {K L : List Part} {s t u v : State}

/-! ### The operation counts -/

/-- The operation counts of the channels. -/
def opsOf (s : State) (c : Ch) : Nat := (s.chan c).opCount

/-- Without a count of its own, an operation leaves the operation counts. -/
theorem law_ops (hK : Part.wear ∉ K) : Law K fun u => opsOf u = opsOf s where
  groups _ _ _ h := h
  seq _ _ _ _ _ _ h := h
  timers _ _ h := h
  sup _ _ _ h := h
  lmp _ _ _ _ h := h
  out u f hf h := by
    have hc : opsOf (u.onOut f) = opsOf u := by funext c; unfold opsOf State.chan; rw [State.onOut_out, hf.1]
    exact hc.trans h
  chan _ u c r _ _ ho h := by
    have hc : opsOf (u.onChan c fun _ => r) = opsOf u := by
      funext k
      unfold opsOf
      by_cases hk : c = k
      · subst hk; rw [State.onChan_self]; exact ho hK
      · rw [State.onChan_other _ _ hk]
    exact hc.trans h
  flt _ _ _ _ _ h := h
  cbt _ _ _ _ h := h
  sch _ _ _ h := h
  clk _ _ _ _ h := h
  det _ _ _ h := h
  cfg _ _ _ h := h
  link _ _ _ _ h := h

/-! ### The wear stands -/

theorem settings_of_cfg (h : t.cfg = s.cfg) (c : Ch) : t.settings c = s.settings c := by
  unfold State.settings; rw [h]

/-- A judged wear stands where settings and counts do and the entries of the wear do, but for evictions from a full table. -/
theorem wearJudged_of_kept (hs : s.wearJudged) (hcfg : t.cfg = s.cfg) (hops : opsOf t = opsOf s)
    (hl : s.flt.entries.length ≤ t.flt.entries.length)
    (he : ∀ e, e.kind = .relayWear → (e ∈ s.flt.entries → t.flt.entries.length < 64 → e ∈ t.flt.entries) ∧
      (e ∈ t.flt.entries → e ∈ s.flt.entries)) : t.wearJudged := by
  intro c worn hworn
  have hcount : (t.chan c).opCount = (s.chan c).opCount := congrFun hops c
  rw [settings_of_cfg hcfg, hcount] at hworn
  obtain ⟨hyes, hno⟩ := hs c worn hworn
  refine ⟨fun hw hroom => ?_, fun hw e hm hk hx => hno hw e ((he e hk).2 hm) hk hx⟩
  obtain ⟨e, hm, hk, hx, ha⟩ := hyes hw (hl.trans_lt hroom)
  exact ⟨e, (he e hk).1 hm hroom, hk, hx, ha⟩

/-- Actions that write neither the counts, the wear nor the settings leave a judged wear standing. -/
theorem wearJudged_unworn (h : Acts G K s t) (hs : s.wearJudged)
    (hK : Part.wear ∉ K ∧ Part.cfg ∉ K ∧ Part.table ∉ K) (hcfg : t.cfg = s.cfg) : t.wearJudged := by
  obtain ⟨hw, -, ht⟩ := hK
  refine wearJudged_of_kept hs hcfg ((law_ops hw).acts h rfl) (h.entries_length_le ht) fun e hk => ?_
  have hpart : e.kind.part ∉ K := by rw [hk]; exact hw
  exact ⟨fun hm hl => h.entry_kept hm hl hpart ht, fun hm => h.entry_old hm hpart ht⟩

end Acts
end Sys2Proof.Machine
end

section
/-! PROOFS. START (O39) and RESTART (O40): requests that enter STARTUP_CHECK. -/

namespace Sys2Proof.Machine

set_option Elab.async false

namespace Modes

open Acts Ending

variable {G : Gid → Prop} {K : List Part} {s t u v : State} {tag : Byte} {body : List Byte}

/-! ### A request that enters a mode of the start-up -/

/-- A request whose service enters a mode that neither drains nor gives GREEN: its effect, its reply and the counting. -/
theorem exec_entered {i : Instr} {serve : State → State} {code : Byte} {st : Status} {b : List Byte} (h : s.takes tag body)
    (hexec : exec i s = .next (s.direct tag body serve)) (hs : serve s.reserve = v.reply tag code st b)
    (hm : v.sup.mode = .startupCheck) :
    exec i s = .next (State.closeAdditions s (v.reply tag code st b)) := by
  have hfin : State.finish s (v.reply tag code st b) = State.closeAdditions s (v.reply tag code st b) := by
    have hm' : (v.reply tag code st b).sup.mode = .startupCheck := hm
    rw [finish_of_noCommit (fun hd => absurd (hm' ▸ hd) (by decide)), takeInhibition_of_mode (by rw [hm']; decide)]
  rw [hexec, Laws.direct_of_takes h, hs, hfin]

/-- The same with the answer in the output queue. -/
theorem answers_entered {code : Byte} {st : Status} {b : List Byte} (hv : Acts G K s.reserve v) (hm : v.sup.mode = .startupCheck)
    (hc : code.toNat < 128) (hK : Part.link ∉ K := by decide) :
    State.answers s (State.closeAdditions s (v.reply tag code st b)) tag code st := by
  have hm' : (v.reply tag code st b).sup.mode = .startupCheck := hm
  have hfin : State.finish s (v.reply tag code st b) = State.closeAdditions s (v.reply tag code st b) := by
    rw [finish_of_noCommit (fun hd => absurd (hm' ▸ hd) (by decide)), takeInhibition_of_mode (by rw [hm']; decide)]
  rw [← hfin]
  exact answers_finish hv hc hK

/-! ### An evaluation in UNCONFIGURED -/

theorem waitingSupply_of_present (h : s.sup.supplyPresent = true) : s.waitingSupply = false := by
  unfold State.waitingSupply; rw [h]; rfl

/-- A FLASH selected in UNCONFIGURED starts nothing. -/
theorem scheduledFlashStart_unconfigured (hm : s.sup.mode = .unconfigured) : s.scheduledFlashStart = s := by
  unfold State.scheduledFlashStart State.takeCause
  split
  · rfl
  · unfold State.takeUnlatchedFlash; simp [hm]

theorem scheduledFlashEnd_unconfigured (hm : s.sup.mode = .unconfigured) (hp : s.sup.supplyPresent = true) :
    s.scheduledFlashEnd = s := by
  unfold State.scheduledFlashEnd
  rw [if_neg (by rw [waitingSupply_of_present hp]; decide)]
  simp [hm]

theorem deliverPlan_stays (p : Pln) (hm : s.sup.mode ≠ .normal) : s.deliverPlan p = s := if_neg hm

/-- What an evaluation writes where it delivers nothing that a block acts on. -/
abbrev selectParts : List Part := [.sch, .flt, .planFault]

theorem deliver_unconfigured (hm : s.sup.mode = .unconfigured) (hp : s.sup.supplyPresent = true) (old : Option Action)
    (new : Action) : s.deliver old new = s.addEvents PendingSet.ofPlanChange := by
  have hm' : (s.addEvents PendingSet.ofPlanChange).sup.mode = .unconfigured := hm
  have hn : (s.addEvents PendingSet.ofPlanChange).sup.mode ≠ .normal := by rw [hm']; decide
  unfold State.deliver
  cases new with
  | flash => exact scheduledFlashStart_unconfigured hm'
  | plan p =>
    dsimp only
    split
    · rw [scheduledFlashEnd_unconfigured hm' hp, deliverPlan_stays p hn]
    · exact deliverPlan_stays p hn

theorem acts_evaluate_unconfigured (hm : s.sup.mode = .unconfigured) (hp : s.sup.supplyPresent = true) :
    Acts G selectParts s s.evaluate := by
  unfold State.evaluate
  dsimp only
  have hjudge : Acts G selectParts s ((s.onSch fun h => { h with
      action := some s.select.action, source := some s.select.source, governing := s.select.governing }).judgePlan
        s.select.replaced (s.sch.action != some s.select.action)) :=
    (one (.sch _ (by decide))).trans (acts_judgePlan _ _).up
  refine either (fun _ => hjudge) fun _ => hjudge.trans ?_
  have hsup := Acts.sup_eq (acts_judgePlan (G := G) (s := s.onSch fun h => { h with
      action := some s.select.action, source := some s.select.source, governing := s.select.governing })
        s.select.replaced (s.sch.action != some s.select.action))
  rw [deliver_unconfigured (by rw [hsup]; exact hm) (by rw [hsup]; exact hp)]
  exact (of_edits (edits_addEvents _)).up

/-! ### What the entry to STARTUP_CHECK leaves of a supervisor record -/

/-- Supervisor records that agree but for the grace and the conflict times. -/
theorem fields_of_core {u w : Sup} (h : Sup.core u = Sup.core w) :
    u.mode = w.mode ∧ u.reason = w.reason ∧ u.latched = w.latched ∧ u.phaseTime = w.phaseTime ∧ u.exit = w.exit ∧
      u.attempts = w.attempts ∧ u.recovering = w.recovering ∧ u.holdoff = w.holdoff ∧ u.probation = w.probation ∧
      u.saved = w.saved ∧ u.supplyPresent = w.supplyPresent := by
  have field {α : Type} (p : Sup → α) : p (Sup.core u) = p (Sup.core w) := congrArg p h
  exact ⟨field Sup.mode, field Sup.reason, field Sup.latched, field Sup.phaseTime, field Sup.exit, field Sup.attempts,
    field Sup.recovering, field Sup.holdoff, field Sup.probation, field Sup.saved, field Sup.supplyPresent⟩

theorem sup_enterStartupCheck (e : CheckExit) (h : s.closesLater) :
    (s.enterStartupCheck e).sup.mode = .startupCheck ∧ (s.enterStartupCheck e).sup.reason = none ∧
      (s.enterStartupCheck e).sup.latched = false ∧ (s.enterStartupCheck e).sup.phaseTime = 0 ∧
      (s.enterStartupCheck e).sup.exit = e ∧ (s.enterStartupCheck e).sup.attempts = s.sup.attempts ∧
      (s.enterStartupCheck e).sup.recovering = s.sup.recovering ∧ (s.enterStartupCheck e).sup.holdoff = s.sup.holdoff ∧
      (s.enterStartupCheck e).sup.probation = s.sup.probation ∧ (s.enterStartupCheck e).sup.saved = s.sup.saved ∧
      (s.enterStartupCheck e).sup.supplyPresent = s.sup.supplyPresent :=
  fields_of_core (core_enterStartupCheck e h)

theorem scheduledExit_eq :
    s.scheduledExit = if s.sch.action = some .flash then .flash (some .hostRequest) false else .startupFlash := rfl

theorem closesLater_of_out (h : t.out = s.out) (hs : s.closesLater) : t.closesLater := by
  unfold State.closesLater; rw [h]; exact hs

/-! ### The clearing of the entries whose condition is absent (R174) -/

/-- An ACTIVE entry after a clear stood ACTIVE before it, under another key. -/
theorem active_of_clear {f : Flt} {k : FaultKind} {x : Subject} {e : FaultEntry} (he : e ∈ (f.clear k x).entries)
    (ha : e.active = true) : e ∈ f.entries ∧ ¬(e.kind = k ∧ e.subject = x) := by
  have hkey : ¬(e.kind = k ∧ e.subject = x) := fun h =>
    absurd ha (by rw [Laws.clear_inactive f k x e he h.1 h.2]; decide)
  refine ⟨?_, hkey⟩
  unfold Flt.clear at he
  split at he
  · obtain ⟨o, ho, rfl⟩ := List.mem_map.mp he
    split at ha
    · exact absurd ha nofun
    · next hn => rw [if_neg hn]; exact ho
  · exact he

/-- One entry made CLEARED where its condition is absent in `s`. -/
def clearsAbsent (s t : State) (e : FaultEntry) : State :=
  if e.active && e.safety && !s.conditionHolds e then t.clearFault e.kind e.subject else t

theorem clearAbsent_eq : s.clearAbsent = s.flt.entries.foldl (clearsAbsent s) s := rfl

theorem active_of_foldl {e : FaultEntry} (ha : e.active = true) (l : List FaultEntry) (t : State)
    (hm : e ∈ (l.foldl (clearsAbsent s) t).flt.entries) :
    e ∈ t.flt.entries ∧ (e ∈ l → e.safety = true → s.conditionHolds e = true) := by
  induction l generalizing t with
  | nil => exact ⟨hm, nofun⟩
  | cons a l ih =>
    obtain ⟨hin, hl⟩ := ih _ hm
    unfold clearsAbsent at hin
    split at hin
    · obtain ⟨hin', hkey⟩ := active_of_clear hin ha
      refine ⟨hin', fun h => hl ((List.mem_cons.mp h).resolve_left ?_)⟩
      rintro rfl
      exact hkey ⟨rfl, rfl⟩
    · next hn =>
      refine ⟨hin, fun h => (List.mem_cons.mp h).elim (fun heq hs => ?_) hl⟩
      rw [← heq, ha, hs] at hn
      simpa using hn

/-- No ACTIVE SAFETY entry whose condition is absent is left. -/
theorem clearAbsent_spec {e : FaultEntry} (he : e ∈ s.clearAbsent.flt.entries) (ha : e.active = true)
    (hs : e.safety = true) : s.conditionHolds e = true := by
  rw [clearAbsent_eq] at he
  obtain ⟨hin, hl⟩ := active_of_foldl ha _ _ he
  exact hl hin hs

theorem active_of_clearAbsent {e : FaultEntry} (he : e ∈ s.clearAbsent.flt.entries) (ha : e.active = true) :
    e ∈ s.flt.entries := by
  rw [clearAbsent_eq] at he
  exact (active_of_foldl ha _ _ he).1

/-! ### The refusals of RESTART (R174) -/

theorem runsRestart (hm : s.sup.mode = .flash ∨ s.sup.mode = .dark) (hw : s.waitingSupply = false) :
    ¬((s.sup.mode ≠ .flash ∧ s.sup.mode ≠ .dark) ∨ s.waitingSupply = true) := by
  rintro (⟨hf, hd⟩ | hw')
  · exact hm.elim hf hd
  · rw [hw] at hw'; exact absurd hw' (by decide)

theorem mem_groupPairs {i j : Gid} (h : i < j) : (i, j) ∈ groupPairs :=
  List.mem_flatMap.mpr ⟨i, List.mem_finRange i,
    List.mem_map.mpr ⟨j, List.mem_filter.mpr ⟨List.mem_finRange j, decide_eq_true h⟩, rfl⟩⟩

theorem restartRefused_of
    (h : (∃ i j : Gid, i < j ∧ s.conflicting i j = true ∧ (s.group i).observedGreen = true ∧ (s.group j).observedGreen = true) ∨
      (∃ e : PEnt, (s.probeRec e).kind = some .coupling ∧ (s.result e).standing = .fault ∧ (s.result e).cross = .dangerous) ∨
      s.out.trip = true) : s.restartRefused = true := by
  unfold State.restartRefused
  rw [Bool.or_eq_true, Bool.or_eq_true]
  rcases h with ⟨i, j, hij, hc, hi, hj⟩ | ⟨e, hk, hs, hx⟩ | ht
  · refine .inl (.inl (List.any_eq_true.mpr ⟨(i, j), mem_groupPairs hij, ?_⟩))
    unfold State.pairRuns
    rw [hc, hi, hj]; rfl
  · refine .inl (.inr (List.any_eq_true.mpr ⟨(s.probeRec e).subject, List.mem_finRange _, ?_⟩))
    exact List.any_eq_true.mpr ⟨e, List.mem_finRange e, by simp [hk, hs, hx]⟩
  · exact .inr ht

end Modes

open Requests Acts Ending Modes

/-- Settles O39. START evaluates in UNCONFIGURED, where no block acts on the selection, and enters STARTUP_CHECK. -/
theorem startEntersStartupCheck : Obligations.StartEntersStartupCheck := by
  unfold Obligations.StartEntersStartupCheck
  intro s tag body h
  refine ⟨fun hb => ?_, fun hb hm => ?_, fun hb hm hc hp => ?_, fun hb hm hc hp ht hl => ?_⟩
  · exact reads h rfl (by decide) (if_pos hb)
  · refine reads h rfl (by decide) ?_
    show serveStart tag body s.reserve = _
    unfold serveStart
    rw [if_neg (not_not.mpr hb), if_pos (by exact hm)]
    rfl
  · refine reads h rfl (by decide) ?_
    unfold serveStart
    have hmode : ¬(s.reserve.sup.mode ≠ .unconfigured ∨ s.reserve.cfg.committed = false) :=
      not_or.mpr ⟨not_not.mpr hm, ne_false_of_eq_true hc⟩
    rw [if_neg (not_not.mpr hb), if_neg hmode, if_pos (by exact hp)]
    rfl
  · have heval : Acts (fun _ => True) selectParts s.reserve s.reserve.evaluate := acts_evaluate_unconfigured hm hp
    have hlater : s.reserve.evaluate.closesLater := closesLater_of_out heval.out_eq hl
    obtain ⟨u, hu⟩ : ∃ u, u = s.reserve.evaluate.enterStartupCheck s.reserve.evaluate.scheduledExit := ⟨_, rfl⟩
    have hserve : serveStart tag body s.reserve = u.reply tag 0x30#8 .ok [] := by
      unfold serveStart
      have hmode : ¬(s.reserve.sup.mode ≠ .unconfigured ∨ s.reserve.cfg.committed = false) :=
        not_or.mpr ⟨not_not.mpr hm, ne_false_of_eq_true hc⟩
      have hsupply : ¬(s.reserve.sup.supplyPresent = false ∨ s.reserve.out.trip = true) :=
        not_or.mpr ⟨ne_false_of_eq_true hp, ne_true_of_eq_false ht⟩
      rw [if_neg (not_not.mpr hb), if_neg hmode, if_neg hsupply, hu]
    have henter : Acts (fun _ => True) dimParts s.reserve.evaluate u := hu ▸ acts_enterStartupCheck_later _ hlater
    have hacts : Acts (fun _ => True) (selectParts ++ dimParts) s.reserve u := heval.up.trans henter.up
    obtain ⟨hmode, hreason, hlatched, hphase, hexit, -⟩ := sup_enterStartupCheck s.reserve.evaluate.scheduledExit hlater
    rw [← hu] at hmode hreason hlatched hphase hexit
    have hsch : u.sch = s.reserve.evaluate.sch := henter.sch_eq
    have hselect : s.reserve.evaluate.sch.action = some s.select.action := by
      rw [(Laws.evaluate_spec s.reserve).2.2.2.2.2]; rfl
    have hcontactor : u.out.contactor = closing false s.out.contactor := by
      rw [hu, contactor_enterStartupCheck _ hlater, heval.out_eq, ← ht]; rfl
    refine ⟨_, exec_entered h rfl hserve hmode, answers_entered hacts hmode (by decide), ?_⟩
    rw [closeAdditions_sup, closeAdditions_sch, closeAdditions_out, closeAdditions_pendingSet, closeAdditions_cfg,
      closeAdditions_clk]
    refine ⟨hmode, hreason, hlatched, hphase, ?_, ?_, ?_, ?_, fun g hg => ?_, ?_, ?_, ?_⟩
    · exact hexit.trans (by rw [scheduledExit_eq, ← hsch]; rfl)
    · show u.sch.action = _
      rw [hsch, hselect]
    · show u.out.contactor.closeCommand = true
      rw [hcontactor]; exact closing_closeCommand _ _
    · show u.out.contactor.driven = true
      rw [hcontactor]; exact closing_driven _
    · rw [closeAdditions_group]
      show (u.group g).colour = _
      rw [hu]
      refine colour_enterStartupCheck _ hlater ?_
      unfold State.kind State.groupRec
      rw [heval.cfg_eq]
      exact hg
    · show u.flt.pendingSet.modeChange = true
      rw [hu]
      exact modeChange_enterStartupCheck _ hlater (by rw [heval.sup_eq]; rw [show s.reserve.sup.mode = _ from hm]; decide)
    · exact hacts.cfg_eq
    · exact hacts.clk_eq

/-- Settles O40. RESTART ends the recovery, clears the entries whose condition is absent and enters STARTUP_CHECK. -/
theorem restartReturnsToStartupCheck : Obligations.RestartReturnsToStartupCheck := by
  unfold Obligations.RestartReturnsToStartupCheck
  intro s tag body h
  refine ⟨fun hb => ?_, fun hb hm => ?_, fun hb hm hw hc => ?_, fun hb hm hw hc hl => ?_⟩
  · exact reads h rfl (by decide) (if_pos hb)
  · refine reads h rfl (by decide) ?_
    unfold serveRestart
    rw [if_neg (not_not.mpr hb), if_pos (by exact hm)]
    rfl
  · refine reads h rfl (by decide) ?_
    unfold serveRestart
    rw [if_neg (not_not.mpr hb), if_neg (runsRestart (s := s.reserve) hm hw), if_pos (restartRefused_of (s := s.reserve) hc)]
    rfl
  · have hserve : serveRestart tag body s.reserve = s.reserve.restartCabinet.reply tag 0x31#8 .ok [] := by
      unfold serveRestart
      rw [if_neg (not_not.mpr hb), if_neg (runsRestart (s := s.reserve) hm hw), if_neg (ne_true_of_eq_false (show s.reserve.restartRefused = false from hc))]
    obtain ⟨w, hwd⟩ : ∃ w, w = s.reserve.onSup fun u => { u.endRecovery with attempts := 0, probation := 0 } := ⟨_, rfl⟩
    obtain ⟨x, hxd⟩ : ∃ x, x = (w.clearFault .recoveryLockout .nothing).clearAbsent := ⟨_, rfl⟩
    have hstart : s.reserve.restartCabinet = x.enterStartupCheck x.scheduledExit := by
      rw [hxd, hwd]; rfl
    have hclears : Acts (fun _ => True) entryParts w x :=
      hxd ▸ Acts.trans (of_edits (edits_clearFault _ _)) acts_clearAbsent
    have hsup : Acts (fun _ => True) [.sup] s.reserve w := hwd ▸ acts_sup _ rfl rfl rfl
    have hlater : x.closesLater := closesLater_of_out (hclears.out_eq.trans hsup.out_eq) hl
    obtain ⟨u, hu⟩ : ∃ u, u = x.enterStartupCheck x.scheduledExit := ⟨_, rfl⟩
    have henter : Acts (fun _ => True) dimParts x u := hu ▸ acts_enterStartupCheck_later _ hlater
    have hacts : Acts (fun _ => True) (.sup :: entryParts ++ dimParts) s.reserve u :=
      (hsup.up.trans hclears.up).trans henter.up
    obtain ⟨hmode, hreason, hlatched, -, -, hattempts, hrecovering, hholdoff, hprobation, -⟩ :=
      sup_enterStartupCheck x.scheduledExit hlater
    have hcontactor := contactor_enterStartupCheck x.scheduledExit hlater
    rw [← hu, hclears.sup_eq] at hattempts hrecovering hholdoff hprobation
    rw [← hu] at hmode hreason hlatched hcontactor
    rw [hstart, ← hu] at hserve
    have hold {e : FaultEntry} (he : e ∈ u.flt.entries) : e ∈ x.flt.entries :=
      henter.entry_old he (by cases e.kind <;> decide)
    refine ⟨_, exec_entered h rfl hserve hmode, answers_entered hacts hmode (by decide), ?_⟩
    rw [closeAdditions_sup, closeAdditions_out, closeAdditions_entries]
    refine ⟨hmode, hreason, hlatched, ?_, ?_, ?_, ?_, ?_, fun e he hk hx => ?_, fun e he ha hs => ?_⟩
    · exact hattempts.trans (by rw [hwd]; rfl)
    · exact hrecovering.trans (by rw [hwd]; rfl)
    · exact hholdoff.trans (by rw [hwd]; rfl)
    · exact hprobation.trans (by rw [hwd]; rfl)
    · show u.out.contactor.closeCommand = true
      rw [hcontactor]; exact closing_closeCommand _ _
    · cases ha : e.active with
      | false => rfl
      | true =>
        rw [hxd] at hold
        have hin := active_of_clearAbsent (hold he) ha
        rw [Laws.clear_inactive w.flt .recoveryLockout .nothing e hin hk hx] at ha
        exact absurd ha nofun
    · rw [hxd] at hold
      have hcond := clearAbsent_spec (hold he) ha hs
      rw [hwd] at hcond
      exact hcond

end Sys2Proof.Machine
end

section
/-! SUPPORT. The pending commit that the entry to CLEARING, FLASH or DARK releases (R191), where the evaluation on its
records ends no scheduled FLASH: it leaves the mode, the colours and the outputs alone. -/

namespace Sys2Proof.Machine

set_option Elab.async false

/-- A supervisor record in which what a commit judges again (R157, R160) may have changed, with the grace times and the
conflict times, and nothing else. -/
def Sup.retaken (u w : Sup) : Prop :=
  Acts.Sup.core w = { Acts.Sup.core u with
    holdoff := w.holdoff, holdoffNext := w.holdoffNext, probationNext := w.probationNext, graceNext := w.graceNext } ∧
    (w.holdoff = u.holdoff ∨ w.holdoff = none)

namespace Parked

open Acts Ending Modes

variable {G : Gid → Prop} {K : List Part} {before s t u v w : State}

theorem retaken_of_core {a b : Sup} (h : Sup.core b = Sup.core a) : a.retaken b := by
  have field {α : Type} (p : Sup → α) : p (Sup.core b) = p (Sup.core a) := congrArg p h
  have hh : b.holdoff = a.holdoff := field Sup.holdoff
  have hn : b.holdoffNext = a.holdoffNext := field Sup.holdoffNext
  have hp : b.probationNext = a.probationNext := field Sup.probationNext
  have hg : b.graceNext = a.graceNext := field Sup.graceNext
  refine ⟨?_, .inl hh⟩
  rw [h, hh, hn, hp, hg]
  rfl

theorem retaken_trans {a b c : Sup} (h : a.retaken b) (h' : b.retaken c) : a.retaken c := by
  refine ⟨?_, h'.2.elim (fun e => h.2.imp e.trans e.trans) .inr⟩
  rw [h'.1, h.1]

/-- What a commit leaves of the supervisor record (R157, R160). -/
theorem fields_of_retaken {a b : Sup} (h : a.retaken b) :
    b.mode = a.mode ∧ b.reason = a.reason ∧ b.latched = a.latched ∧ b.exit = a.exit ∧ b.phaseTime = a.phaseTime ∧
      b.recovering = a.recovering ∧ b.attempts = a.attempts ∧ b.probation = a.probation ∧ b.saved = a.saved ∧
      b.supplyPresent = a.supplyPresent ∧ b.flashNext = a.flashNext ∧ (b.holdoff = a.holdoff ∨ b.holdoff = none) := by
  have field {α : Type} (p : Sup → α) := congrArg p h.1
  exact ⟨field Sup.mode, field Sup.reason, field Sup.latched, field Sup.exit, field Sup.phaseTime, field Sup.recovering,
    field Sup.attempts, field Sup.probation, field Sup.saved, field Sup.supplyPresent, field Sup.flashNext, h.2⟩

/-! ### What every block does with the records (R190) -/

theorem core_retakeRecovery (before : State) : s.sup.retaken (s.retakeRecovery before).sup := by
  refine ⟨rfl, ?_⟩
  show (if s.cabinet.attempts = 0 then none else s.sup.holdoff) = _ ∨ (if s.cabinet.attempts = 0 then none else s.sup.holdoff) = _
  split
  · exact .inr rfl
  · exact .inl rfl

theorem core_retakeGraces (before : State) : s.sup.retaken (s.retakeGraces before).sup := ⟨rfl, .inl rfl⟩

theorem retaken_retakeTiming (before : State) : s.sup.retaken (s.retakeTiming before).sup := by
  obtain ⟨a, ha⟩ : ∃ a, a = s.copyClockSettings.forAll fun (t : State) (d : Det) => t.compareInput before d := ⟨_, rfl⟩
  obtain ⟨b, hb⟩ : ∃ b, b = a.forAll fun (t : State) (c : Ch) => (t.compareSettings before c).judgeWear c := ⟨_, rfl⟩
  obtain ⟨c, hc⟩ : ∃ c, c = ((State.refreshStanding before b).evalAllRedHealth).dropUndefinedTargets := ⟨_, rfl⟩
  have hblocks : Acts (fun _ => True) [.clk, .flt, .det, .stuck, .seq] s a :=
    ha ▸ acts_copyClockSettings.up.trans (forAll _ fun _ _ => (acts_compareInput _ _).up)
  have hchans : Acts (fun _ => True) [.flt, .wear, .lamp, .healthy, .lampFault] a b :=
    hb ▸ forAll _ fun _ _ => (acts_compareSettings _ _).up.trans (acts_judgeWear _).up
  have hgroups : Acts (fun _ => True) ([.demand, .seq] ++ verdictParts) b c :=
    hc ▸ Acts.trans (Acts.trans (of_edits (edits_refreshStanding _)).up (of_edits edits_evalAllRedHealth).up)
      acts_dropUndefinedTargets.up
  have hlast (x : State) : Acts (fun _ => True) [.flt, .grace, .seq] x ((x.retakeAttention before).refreshGrace).holdGap :=
    Acts.trans (Acts.trans (acts_retakeAttention _).up (of_edits (.one (.grace (K := [.grace]) (by decide)))).up) acts_holdGap.up
  have heq : s.retakeTiming before =
      ((((c.retakeRecovery before).retakeGraces before).retakeAttention before).refreshGrace).holdGap := by
    rw [hc, hb, ha]; rfl
  rw [heq]
  refine retaken_trans (retaken_of_core ?_) (retaken_trans (core_retakeRecovery before) (retaken_trans
    (core_retakeGraces before) (retaken_of_core (hlast _).core_eq)))
  rw [hgroups.core_eq, hchans.core_eq, hblocks.core_eq]

/-! ### The evaluation on the new records -/

/-- No scheduled FLASH for an evaluation to end, in CLEARING, FLASH or DARK (R167). -/
def parked (u : State) : Prop :=
  u.sup.mode.drains = true ∧ (u.waitingSupply = true → u.sup.saved ≠ some (.flash (some .hostRequest) false)) ∧
    (u.waitingSupply = false → u.sup.mode = .dark ∨ ¬(u.sup.reason = some .hostRequest ∧ u.sup.latched = false))

theorem drains_cases {m : Mode} (h : m.drains = true) : m = .clearing ∨ m = .flash ∨ m = .dark := by
  revert h; cases m <;> decide

theorem parked_of_retaken (h : s.sup.retaken t.sup) (hs : parked s) : parked t := by
  obtain ⟨hm, hr, hl, -, -, -, -, -, hsv, hp, -⟩ := fields_of_retaken h
  have hw : t.waitingSupply = s.waitingSupply := by unfold State.waitingSupply; rw [hp, hsv]
  unfold parked
  rw [hw, hm, hr, hl, hsv]
  exact hs

theorem parked_of_sup (h : t.sup = s.sup) (hs : parked s) : parked t := parked_of_retaken (retaken_of_core (by rw [h])) hs

theorem scheduledFlashStart_parked (h : parked s) : s.scheduledFlashStart = s := by
  unfold State.scheduledFlashStart State.takeCause
  split
  · rfl
  · unfold State.takeUnlatchedFlash
    rcases drains_cases h.1 with hm | hm | hm <;> simp [hm]

theorem scheduledFlashEnd_parked (h : parked s) : s.scheduledFlashEnd = s := by
  obtain ⟨hd, hsaved, hreason⟩ := h
  unfold State.scheduledFlashEnd
  split
  · next hw => exact if_neg (hsaved hw)
  · next hw =>
    have hr := hreason (by simpa using hw)
    rcases drains_cases hd with hm | hm | hm
    · simp only [hm]
      exact if_neg (hr.resolve_left (by rw [hm]; decide))
    · simp only [hm]
      exact if_neg (hr.resolve_left (by rw [hm]; decide))
    · simp only [hm]

theorem deliver_parked (h : parked s) (old : Option Action) (new : Action) :
    s.deliver old new = s.addEvents PendingSet.ofPlanChange := by
  have h' : parked (s.addEvents PendingSet.ofPlanChange) := parked_of_sup rfl h
  have hn : (s.addEvents PendingSet.ofPlanChange).sup.mode ≠ .normal := fun hm => absurd (hm ▸ h'.1) (by decide)
  unfold State.deliver
  cases new with
  | flash => exact scheduledFlashStart_parked h'
  | plan p =>
    dsimp only
    split
    · rw [scheduledFlashEnd_parked h', deliverPlan_stays p hn]
    · exact deliverPlan_stays p hn

theorem acts_evaluate_parked (h : parked s) : Acts G selectParts s s.evaluate := by
  unfold State.evaluate
  dsimp only
  have hjudge : Acts G selectParts s ((s.onSch fun h => { h with
      action := some s.select.action, source := some s.select.source, governing := s.select.governing }).judgePlan
        s.select.replaced (s.sch.action != some s.select.action)) :=
    (one (.sch _ (by decide))).trans (acts_judgePlan _ _).up
  refine either (fun _ => hjudge) fun _ => hjudge.trans ?_
  rw [deliver_parked (parked_of_sup hjudge.sup_eq h)]
  exact (of_edits (edits_addEvents _)).up

theorem acts_reevaluate_parked (h : parked s) : Acts G selectParts s s.reevaluate :=
  either (fun _ => refl _) fun _ => acts_evaluate_parked h

theorem acts_scheduleAtCommit_parked (h : parked s) : Acts G selectParts s s.scheduleAtCommit :=
  either (fun _ => Acts.trans (Acts.trans (one (.sch _ (by decide))) (acts_reevaluate_parked (parked_of_sup rfl h)))
    (of_edits (edits_report _ _))) fun _ => acts_reevaluate_parked h

/-! ### The commit -/

/-- What such a commit may write. -/
abbrev parkedParts : List Part := [.cfg, .sch, .planFault] ++ retakeParts

theorem retakeActive_of_mode (before : State) (h : s.sup.mode ≠ .normal) : s.retakeActive before = s :=
  if_neg fun hc => h hc.1

theorem applyPending_of_some {tm : Timing} (h : s.cfg.pendingCommit = some tm) :
    s.applyPending = (((((s.onCfg fun c => { c with pendingCommit := none }).install { s.cfg.running with tm := tm }).retakeTiming
      (s.onCfg fun c => { c with pendingCommit := none })).scheduleAtCommit).retakeActive
      (s.onCfg fun c => { c with pendingCommit := none })) := by
  unfold State.applyPending
  rw [h]
  dsimp only
  exact congrArg (fun t => (State.scheduleAtCommit t).retakeActive (s.onCfg fun c => { c with pendingCommit := none })) (if_pos rfl)

theorem applyPending_of_none (h : s.cfg.pendingCommit = none) : s.applyPending = s := by
  unfold State.applyPending; rw [h]

/-- The state without its pending commit. -/
def unpended (s : State) : State := s.onCfg fun c => { c with pendingCommit := none }

/-- The new timing records in force, before the blocks follow. -/
def recorded (s : State) (tm : Timing) : State := (unpended s).install { s.cfg.running with tm := tm }

theorem acts_recorded (tm : Timing) : Acts G [.cfg, .flt] s (recorded s tm) :=
  (one (.cfg (fun c => { c with pendingCommit := none }) (by decide) rfl)).trans
    (one (.install (s := unpended s) { s.cfg.running with tm := tm } (by decide) (by decide) rfl))

/-- The records in force, with what the blocks did with them, before the Day Schedule's evaluation. -/
def retaken (s : State) (tm : Timing) : State := (recorded s tm).retakeTiming (unpended s)

theorem applyPending_eq {tm : Timing} (h : s.cfg.pendingCommit = some tm) :
    s.applyPending = (retaken s tm).scheduleAtCommit.retakeActive (unpended s) := applyPending_of_some h

theorem acts_retaken (tm : Timing) : Acts G (.cfg :: retakeParts) s (retaken s tm) :=
  (acts_recorded tm).up.trans (acts_retakeTiming (unpended s)).up

theorem sup_retaken (tm : Timing) : s.sup.retaken (retaken s tm).sup := by
  have hsup : (recorded s tm).sup = s.sup := (acts_recorded (G := fun _ => True) tm).sup_eq
  rw [← hsup]
  exact retaken_retakeTiming (unpended s)

/-- The commit released in such a mode. -/
theorem applyPending_parked (h : parked s) :
    Acts G parkedParts s s.applyPending ∧ s.sup.retaken s.applyPending.sup := by
  cases hp : s.cfg.pendingCommit with
  | none => rw [applyPending_of_none hp]; exact ⟨refl _, retaken_of_core rfl⟩
  | some tm =>
    have hpark : parked (retaken s tm) := parked_of_retaken (sup_retaken tm) h
    have hsched (G : Gid → Prop) : Acts G selectParts (retaken s tm) (retaken s tm).scheduleAtCommit :=
      acts_scheduleAtCommit_parked hpark
    have hsup := (hsched fun _ => True).sup_eq
    have heq : s.applyPending = (retaken s tm).scheduleAtCommit := by
      rw [applyPending_eq hp]
      refine retakeActive_of_mode _ fun hm => ?_
      have hd := (parked_of_sup hsup hpark).1
      exact absurd (hm ▸ hd) (by decide)
    rw [heq]
    refine ⟨(acts_retaken tm).up.trans (hsched G).up, ?_⟩
    rw [hsup]
    exact sup_retaken tm

/-- The end of a step that leaves the cabinet in such a mode. -/
theorem finish_parked (h : parked u) :
    ∃ v, State.finish before u = State.closeAdditions before v ∧ Acts (fun _ => True) parkedParts u v ∧ u.sup.retaken v.sup := by
  obtain ⟨hacts, hsup⟩ := applyPending_parked (G := fun _ => True) h
  refine ⟨u.applyPending, ?_, hacts, hsup⟩
  unfold State.finish State.drainPending
  rw [if_pos h.1, takeInhibition_of_mode fun hm => ?_]
  have hd := (parked_of_retaken hsup h).1
  exact absurd (hm ▸ hd) (by decide)

end Parked

end Sys2Proof.Machine
end

section
/-! PROOFS. The latched causes of the link break (O24) and of MODE_SET (O41). -/

namespace Sys2Proof.Machine

set_option Elab.async false

namespace Causes

open Acts Ending Modes Parked

variable {G : Gid → Prop} {K : List Part} {before s t u v : State}

/-! ### The end of a step that enters no mode with a scheduled FLASH -/

/-- A commit that the end of the step applies finds no scheduled FLASH to end, and no inhibition has arisen in NORMAL. -/
def quiet (before u : State) : Prop :=
  (u.sup.mode.drains = true → u.cfg.pendingCommit = none ∨ parked u) ∧
    ∀ g, (u.group g).inhibited = true → (before.group g).inhibited = true

theorem finish_quiet (h : quiet before u) :
    ∃ v, State.finish before u = State.closeAdditions before v ∧ Acts (fun _ => True) parkedParts u v ∧
      u.sup.retaken v.sup := by
  have hstay (hp : u.sup.mode.drains = true → u.cfg.pendingCommit = none) :
      ∃ v, State.finish before u = State.closeAdditions before v ∧ Acts (fun _ => True) parkedParts u v ∧
        u.sup.retaken v.sup := ⟨u, finish_closes hp h.2, Acts.refl u, retaken_of_core rfl⟩
  by_cases hd : u.sup.mode.drains = true
  · exact (h.1 hd).elim (fun hn => hstay fun _ => hn) finish_parked
  · exact hstay fun hd' => absurd hd' hd

/-- Actions that leave the health alone raise no inhibition. -/
theorem inhibited_of_acts (h : Acts G K s u) (hK : Part.health ∉ K := by decide) (g : Gid)
    (hg : (u.group g).inhibited = true) : (s.group g).inhibited = true := by
  rw [← (h.health_eq g hK).2]; exact hg

theorem closeAdditions_lnk (before u : State) :
    ∃ x, (State.closeAdditions before u).lnk = { u.lnk with output := u.lnk.output ++ x } := by
  have hcount (w : State) (h : w.lnk = u.lnk) : ∃ x,
      (if w.lnk.notices && decide (Config.noticeSlots ≤ w.lnk.freeSlots) then
        w.onLnk fun l => { l with output := l.output ++ [w.notice] } else w).lnk = { u.lnk with output := u.lnk.output ++ x } := by
    rw [← h]
    split
    · exact ⟨_, rfl⟩
    · exact ⟨[], by rw [List.append_nil]⟩
  unfold State.closeAdditions
  by_cases h : u.flt.added = true
  · rw [if_pos h]; exact hcount _ rfl
  · rw [if_neg h]; exact ⟨[], by rw [List.append_nil]⟩

/-! ### A latched FLASH cause (R163) -/

/-- The supervisor record of a CLEARING, FLASH or DARK that a latched FLASH cause meets. -/
def relatched (r : Reason) (u : Sup) : Sup :=
  if u.latched then u.endRecovery else { u.endRecovery with reason := some r, latched := true }

theorem takeCause_latchedDark (hard : Bool) (r : Reason) (hw : s.waitingSupply = false) :
    s.takeCause (.latchedDark hard) r = s.takeLatchedDark hard r := if_neg (ne_true_of_eq_false hw)

theorem takeCause_closeFailure (r : Reason) (hw : s.waitingSupply = false) :
    s.takeCause .closeFailure r = s.takeCloseFailure := if_neg (ne_true_of_eq_false hw)

theorem takeCause_latchedFlash (r : Reason) (hw : s.waitingSupply = false) :
    s.takeCause .latchedFlash r = s.takeLatchedFlash r := if_neg (ne_true_of_eq_false hw)

theorem takeCause_unlatchedFlash (r : Reason) (hw : s.waitingSupply = false) :
    s.takeCause .unlatchedFlash r = s.takeUnlatchedFlash r := if_neg (ne_true_of_eq_false hw)

theorem sup_latchedFlash_drained {r : Reason} (hm : s.sup.mode.drains = true) :
    (s.takeLatchedFlash r).sup = relatched r s.sup := by
  have hlatch : (if s.sup.latched = true then s.onSup Sup.endRecovery else (s.onSup Sup.endRecovery).latchWith r).sup =
      relatched r s.sup := by
    unfold relatched
    split
    · rfl
    · exact Laws.onMode_sup _ _
  unfold State.takeLatchedFlash
  rcases drains_cases hm with hm | hm | hm <;> simp only [hm] <;> exact hlatch

theorem core_latchedFlash_normal {r : Reason} (hm : s.sup.mode = .normal) :
    Sup.core (s.takeLatchedFlash r).sup = Sup.core (toClearing r true s.sup.endRecovery) := by
  unfold State.takeLatchedFlash
  simp only [hm]
  exact core_enterClearing r true

theorem core_latchedFlash_flash {r : Reason}
    (hm : s.sup.mode = .startupFlash ∨ s.sup.mode = .startupRed ∧ r ≠ .redFail ∧ r ≠ .lockout) :
    Sup.core (s.takeLatchedFlash r).sup = Sup.core (toFlash s.cabinet.attempts (some r) true s.sup.endRecovery) := by
  unfold State.takeLatchedFlash
  rcases hm with hm | ⟨hm, hr, hl⟩
  · simp only [hm]
    exact core_enterFlash (some r) true
  · simp only [hm]
    rw [if_neg (not_or.mpr ⟨hr, hl⟩)]
    exact core_enterFlash (some r) true

theorem toFlash_fields (n : Nat) (r : Option Reason) (l : Bool) (u : Sup) :
    (toFlash n r l u).mode = .flash ∧ (toFlash n r l u).reason = r ∧ (toFlash n r l u).latched = l ∧
      (toFlash n r l u).saved = u.saved ∧ (toFlash n r l u).supplyPresent = u.supplyPresent ∧
      (toFlash n r l u).recovering = u.recovering ∧ (toFlash n r l u).attempts = u.attempts := by
  unfold toFlash
  dsimp only
  split <;> exact ⟨rfl, rfl, rfl, rfl, rfl, rfl, rfl⟩

theorem core_field {α : Type} {a b : Sup} (p : Sup → α) (h : Sup.core a = Sup.core b)
    (hp : ∀ u, p u = p (Sup.core u) := by intros; rfl) : p a = p b := by rw [hp, h, ← hp]

theorem relatched_fields (r : Reason) (u : Sup) :
    (relatched r u).mode = u.mode ∧ (relatched r u).saved = u.saved ∧ (relatched r u).supplyPresent = u.supplyPresent ∧
      (relatched r u).latched = true ∧ (relatched r u).reason = (if u.latched then u.reason else some r) := by
  unfold relatched
  split
  · next h => exact ⟨rfl, rfl, rfl, h, rfl⟩
  · exact ⟨rfl, rfl, rfl, rfl, rfl⟩

/-- A latched FLASH cause leaves the supply as it is, and a CLEARING, FLASH or DARK latched. -/
theorem keeps_latchedFlash (r : Reason) :
    (s.takeLatchedFlash r).sup.saved = s.sup.saved ∧ (s.takeLatchedFlash r).sup.supplyPresent = s.sup.supplyPresent ∧
      ((s.takeLatchedFlash r).sup.mode.drains = true → (s.takeLatchedFlash r).sup.latched = true) := by
  have hflash (h : Sup.core (s.takeLatchedFlash r).sup = Sup.core (toFlash s.cabinet.attempts (some r) true s.sup.endRecovery)) :
      (s.takeLatchedFlash r).sup.saved = s.sup.saved ∧ (s.takeLatchedFlash r).sup.supplyPresent = s.sup.supplyPresent ∧
        ((s.takeLatchedFlash r).sup.mode.drains = true → (s.takeLatchedFlash r).sup.latched = true) := by
    obtain ⟨-, -, hl, hs, hp, -⟩ := toFlash_fields s.cabinet.attempts (some r) true s.sup.endRecovery
    exact ⟨(core_field Sup.saved h).trans hs, (core_field Sup.supplyPresent h).trans hp,
      fun _ => (core_field Sup.latched h).trans hl⟩
  have hdrained (h : s.sup.mode.drains = true) :
      (s.takeLatchedFlash r).sup.saved = s.sup.saved ∧ (s.takeLatchedFlash r).sup.supplyPresent = s.sup.supplyPresent ∧
        ((s.takeLatchedFlash r).sup.mode.drains = true → (s.takeLatchedFlash r).sup.latched = true) := by
    rw [sup_latchedFlash_drained h]
    obtain ⟨-, hs, hp, hl, -⟩ := relatched_fields r s.sup
    exact ⟨hs, hp, fun _ => hl⟩
  cases hm : s.sup.mode with
  | unconfigured =>
    have h : s.takeLatchedFlash r = s := by unfold State.takeLatchedFlash; simp only [hm]
    rw [h, hm]
    exact ⟨rfl, rfl, nofun⟩
  | startupCheck =>
    have h : s.takeLatchedFlash r = (s.onSup Sup.endRecovery).onSup fun u => { u with exit := .flash (some r) true } := by
      unfold State.takeLatchedFlash; simp only [hm]
    rw [h]
    refine ⟨rfl, rfl, fun hd => ?_⟩
    exact absurd ((show s.sup.mode.drains = true from hd).symm.trans (congrArg Mode.drains hm)) nofun
  | startupFlash => exact hflash (core_latchedFlash_flash (.inl hm))
  | startupRed =>
    by_cases hr : r = .redFail ∨ r = .lockout
    · have h : s.takeLatchedFlash r = (s.onSup Sup.endRecovery).onSup fun u => { u with flashNext := some (some r, true) } := by
        unfold State.takeLatchedFlash; simp only [hm]; exact if_pos hr
      rw [h]
      refine ⟨rfl, rfl, fun hd => ?_⟩
      exact absurd ((show s.sup.mode.drains = true from hd).symm.trans (congrArg Mode.drains hm)) nofun
    · exact hflash (core_latchedFlash_flash (.inr ⟨hm, not_or.mp hr⟩))
  | normal =>
    have h := core_latchedFlash_normal (r := r) hm
    exact ⟨(core_field Sup.saved h).trans rfl, (core_field Sup.supplyPresent h).trans rfl, fun _ => core_field Sup.latched h⟩
  | clearing => exact hdrained (by rw [hm]; rfl)
  | flash => exact hdrained (by rw [hm]; rfl)
  | dark => exact hdrained (by rw [hm]; rfl)

theorem waitingSupply_of_kept (hs : t.sup.saved = s.sup.saved) (hp : t.sup.supplyPresent = s.sup.supplyPresent) :
    t.waitingSupply = s.waitingSupply := by unfold State.waitingSupply; rw [hs, hp]

theorem parked_latchedFlash (r : Reason) (hw : s.waitingSupply = false)
    (hd : (s.takeLatchedFlash r).sup.mode.drains = true) : parked (s.takeLatchedFlash r) := by
  obtain ⟨hs, hp, hl⟩ := keeps_latchedFlash (s := s) r
  have hwait := waitingSupply_of_kept hs hp
  refine ⟨hd, fun h => ?_, fun _ => .inr fun h => ?_⟩
  · rw [hwait, hw] at h; exact absurd h nofun
  · rw [hl hd] at h; exact absurd h.2 nofun

/-- A latched FLASH cause that meets a supply loss keeps the mode. -/
theorem mode_waiting_latchedFlash (r : Reason) (hw : s.waitingSupply = true) :
    (s.takeCause .latchedFlash r).sup.mode = s.sup.mode := by
  unfold State.takeCause
  rw [if_pos hw]
  rfl

/-- The end of a step in which a latched FLASH cause was taken. -/
theorem quiet_latchedFlash (r : Reason) (hs : s.sup.mode.drains = true → s.cfg.pendingCommit = none)
    (hi : ∀ g, (s.group g).inhibited = true → (before.group g).inhibited = true) :
    quiet before (s.takeCause .latchedFlash r) := by
  have hacts : Acts (fun _ => True) cabinet s (s.takeCause .latchedFlash r) := acts_takeCause _ _
  refine ⟨fun hd => ?_, fun g hg => hi g (inhibited_of_acts hacts (by decide) g hg)⟩
  cases hw : s.waitingSupply with
  | true =>
    rw [mode_waiting_latchedFlash r hw] at hd
    rw [hacts.cfg_eq]
    exact .inl (hs hd)
  | false =>
    rw [takeCause_latchedFlash _ hw] at hd ⊢
    exact .inr (parked_latchedFlash r hw hd)

/-! ### The link break (R195, R171) -/

/-- The break declared on the line, before the cabinet acts on it. -/
def broken (s : State) : State :=
  (s.onLnk fun l =>
    { l with
      line := .space Config.breakTime true
      linkError := l.linkError || l.assembler != .hunt
      assembler := .hunt, interbyte := 0, input := [] }).report .linkBreak .nothing

theorem declareBreak_eq : s.declareBreak = (broken s).breakAction := rfl

theorem acts_broken : Acts G [.link, .flt, .alert] s (broken s) :=
  Acts.trans (t := s.onLnk fun l =>
    { l with
      line := .space Config.breakTime true
      linkError := l.linkError || l.assembler != .hunt
      assembler := .hunt, interbyte := 0, input := [] })
    (acts_onLnk _ le_rfl rfl fun _ => Nat.zero_le _).up (of_edits (edits_report _ _))

theorem breakDue_of_space {n : Nat} (h : s.lnk.line = .space n false) (hn : 25 ≤ n) : s.breakDue = true := by
  unfold State.breakDue
  rw [h]
  exact Bool.and_eq_true_iff.mpr ⟨decide_eq_true hn, rfl⟩

theorem breakDue_false (h : s.lnk.line = .mark ∨ ∃ n declared, s.lnk.line = .space n declared ∧ (n < 25 ∨ declared = true)) :
    s.breakDue = false := by
  unfold State.breakDue
  rcases h with h | ⟨n, declared, h, hn | hd⟩
  · rw [h]
  · rw [h]
    exact Bool.and_eq_false_iff.mpr (.inl (decide_eq_false (Nat.not_le.mpr hn)))
  · rw [h, hd]
    exact Bool.and_false _

theorem breakAction_of_none (h : s.cabinet.breakAction = .none ∨ s.sup.mode = .unconfigured) : s.breakAction = s :=
  if_neg fun ⟨ha, hm⟩ => h.elim (fun hn => absurd (ha.symm.trans hn) nofun) hm

theorem breakAction_of_flash (h : s.cabinet.breakAction = .flash) (hm : s.sup.mode ≠ .unconfigured) :
    s.breakAction = s.takeCause .latchedFlash .linkBreak := if_pos ⟨h, hm⟩

theorem acts_breakAction : Acts G cabinet s s.breakAction := either (fun _ => acts_takeCause _ _) fun _ => refl _

theorem quiet_breakAction (hs : s.sup.mode.drains = true → s.cfg.pendingCommit = none)
    (hi : ∀ g, (s.group g).inhibited = true → (before.group g).inhibited = true) : quiet before s.breakAction := by
  unfold State.breakAction
  split
  · exact quiet_latchedFlash _ hs hi
  · exact ⟨fun hd => .inl (hs hd), hi⟩

end Causes

open Acts Ending Modes Parked Causes

/-- Settles O24. The break empties the link's input and takes the latched FLASH cause of R163. -/
theorem linkBreakFlushesAndActs : Obligations.LinkBreakFlushesAndActs := by
  unfold Obligations.LinkBreakFlushesAndActs
  refine ⟨fun s t n declared hp hf hline hstep => ?_, fun s hline => ?_, fun s n hb hline hn => ?_⟩
  · have hidle : step s = .next s.msTick := by unfold step idle; rw [hp]; simp only [hf]
    have ht : t = s.msTick := Host.Outcome.next.inj (hstep.symm.trans hidle)
    rw [ht]
    show (s.lnk.line.ms _) = _ ∨ (s.lnk.line.ms _) = _
    rw [hline]
    cases Config.lineReturns (s.now + 1) with
    | true => exact .inl rfl
    | false => exact .inr rfl
  · show Host.Outcome.next (if s.breakDue = true then _ else s) = _
    rw [if_neg (ne_true_of_eq_false (breakDue_false hline))]
  · have hexec : exec .linkBreak s = .next (State.finish s s.declareBreak) := by
      show Host.Outcome.next (if s.breakDue = true then _ else s) = _
      rw [if_pos (breakDue_of_space hline hn)]
    have hbroken : Acts (fun _ => True) [.link, .flt, .alert] s (broken s) := acts_broken
    have haction : Acts (fun _ => True) cabinet (broken s) (broken s).breakAction := acts_breakAction
    obtain ⟨v, hfin, hv, hsup⟩ := finish_quiet (before := s) (u := (broken s).breakAction)
      (quiet_breakAction (fun hd => by rw [hbroken.modes_eq] at hd; rw [hbroken.cfg_eq]; exact hb.2 hd)
        (inhibited_of_acts hbroken))
    rw [declareBreak_eq, hfin] at hexec
    obtain ⟨x, hx⟩ := closeAdditions_lnk s v
    have hlnk : v.lnk = (broken s).lnk := hv.lnk_eq.trans haction.lnk_eq
    have hcloses (hn : s.cabinet.breakAction = .none ∨ s.sup.mode = .unconfigured) :
        State.finish s (broken s).breakAction = State.closeAdditions s (broken s) := by
      rw [breakAction_of_none (s := broken s) hn]
      exact finish_closes (noCommit_of_kept hb hbroken.modes_eq hbroken.cfg_eq) (inhibited_of_acts hbroken)
    refine ⟨_, hexec, by rw [hx, hlnk]; rfl, by rw [hx, hlnk]; rfl, by rw [hx, hlnk]; rfl, fun ha => ?_, fun hl hn => ?_,
      fun hn => ?_, fun hf hw => ?_⟩
    · rw [hx, hlnk]
      show (s.lnk.linkError || s.lnk.assembler != .hunt) = true
      rw [bne_iff_ne.mpr ha, Bool.or_true]
    · obtain ⟨e, he, hk, hsub, hact, hack, -⟩ :=
        Laws.report_active s.flt .linkBreak .nothing FaultKind.linkBreak.listedSafety s.stamp hl
      refine ⟨e, ?_, hk, hsub, hact, hack⟩
      rw [← hfin, hcloses (.inl hn), closeAdditions_entries]
      exact he
    · rw [← hfin, hcloses hn]
      simp only [closeAdditions_sup, closeAdditions_seq, closeAdditions_cfg, closeAdditions_clk, closeAdditions_sch,
        closeAdditions_det, closeAdditions_out, closeAdditions_lmp, closeAdditions_cbt]
      exact ⟨hbroken.sup_eq, rfl, hbroken.cfg_eq, hbroken.clk_eq, hbroken.sch_eq, hbroken.det_eq, hbroken.out_eq,
        hbroken.lmp_eq, hbroken.cbt_eq⟩
    · obtain ⟨hm, hr, hlat, -⟩ := fields_of_retaken hsup
      rw [closeAdditions_sup, hm, hr, hlat]
      have hwb : (broken s).waitingSupply = false := hw
      have htaken (hu : s.sup.mode ≠ .unconfigured) :
          (broken s).breakAction = (broken s).takeLatchedFlash .linkBreak := by
        rw [breakAction_of_flash (s := broken s) hf hu, takeCause_latchedFlash _ hwb]
      refine ⟨fun hmode => ?_, fun hmode => ?_, fun hmode hlatched => ?_⟩
      · have hcore := core_latchedFlash_normal (s := broken s) (r := .linkBreak) hmode
        rw [htaken (by rw [hmode]; decide)]
        exact ⟨core_field Sup.mode hcore, core_field Sup.reason hcore, core_field Sup.latched hcore⟩
      · have hcore := core_latchedFlash_flash (s := broken s) (r := .linkBreak) (.inl hmode)
        obtain ⟨fm, fr, fl, -⟩ := toFlash_fields (broken s).cabinet.attempts (some .linkBreak) true (broken s).sup.endRecovery
        rw [htaken (by rw [hmode]; decide)]
        exact ⟨(core_field Sup.mode hcore).trans fm, (core_field Sup.reason hcore).trans fr,
          (core_field Sup.latched hcore).trans fl⟩
      · have hdrains : (broken s).sup.mode.drains = true := by
          show s.sup.mode.drains = true
          rcases hmode with h | h | h <;> rw [h] <;> rfl
        have hne : s.sup.mode ≠ .unconfigured := by rcases hmode with h | h | h <;> rw [h] <;> decide
        rw [htaken hne, sup_latchedFlash_drained hdrains]
        obtain ⟨rm, -, -, rl, rr⟩ := relatched_fields .linkBreak (broken s).sup
        exact ⟨rm, rr.trans (if_pos hlatched), rl⟩

end Sys2Proof.Machine
end

section
/-! PROOFS. The latched DARK cause, and with it MODE_SET (O41). -/

namespace Sys2Proof.Machine

set_option Elab.async false

namespace Causes

open Acts Ending Modes Parked

variable {G : Gid → Prop} {K : List Part} {before s t u v : State}

/-! ### A latched DARK cause (R163) -/

/-- The supervisor record that a latched DARK cause ends the recovery of. -/
def recoveryEnded (u : Sup) : Sup := { u.endRecovery with probation := 0 }

/-- The supervisor record of a DARK that a latched DARK cause meets. -/
def redarkened (r : Reason) (u : Sup) : Sup :=
  if u.latched then recoveryEnded u else { recoveryEnded u with reason := some r, latched := true }

theorem sup_latchedDark_dark {hard : Bool} {r : Reason} (hm : s.sup.mode = .dark) :
    (s.takeLatchedDark hard r).sup = redarkened r s.sup := by
  unfold State.takeLatchedDark redarkened
  simp only [hm]
  split
  · rfl
  · exact Laws.onMode_sup _ _

/-- From a mode other than DARK the cabinet goes dark. -/
theorem latchedDark_enters {hard : Bool} {r : Reason} (hm : s.sup.mode ≠ .dark) (hu : s.sup.mode = .unconfigured → hard = true) :
    s.takeLatchedDark hard r = (s.onSup recoveryEnded).enterDark (some r) true := by
  unfold State.takeLatchedDark
  cases h : s.sup.mode with
  | dark => exact absurd h hm
  | unconfigured => exact if_pos (hu h)
  | startupCheck | startupFlash | startupRed | normal | clearing | flash => rfl

/-- What a latched DARK cause leaves of the supervisor record. -/
theorem latchedDark_spec {hard : Bool} (r : Reason) (hu : s.sup.mode = .unconfigured → hard = true) :
    (s.takeLatchedDark hard r).sup.mode = .dark ∧ (s.takeLatchedDark hard r).sup.latched = true ∧
      (s.takeLatchedDark hard r).sup.recovering = false ∧ (s.takeLatchedDark hard r).sup.holdoff = none ∧
      (s.takeLatchedDark hard r).sup.saved = s.sup.saved ∧
      (s.takeLatchedDark hard r).sup.supplyPresent = s.sup.supplyPresent ∧
      (s.takeLatchedDark hard r).sup.reason =
        (if s.sup.mode = .dark ∧ s.sup.latched = true then s.sup.reason else some r) := by
  by_cases hm : s.sup.mode = .dark
  · rw [sup_latchedDark_dark hm]
    unfold redarkened
    split
    · next hl => exact ⟨hm, hl, rfl, rfl, rfl, rfl, (if_pos ⟨hm, hl⟩).symm⟩
    · next hl => exact ⟨hm, rfl, rfl, rfl, rfl, rfl, (if_neg fun h => hl h.2).symm⟩
  · rw [latchedDark_enters hm hu, if_neg fun h => hm h.1]
    have h := core_enterDark (s := s.onSup recoveryEnded) (some r) true
    exact ⟨core_field Sup.mode h, core_field Sup.latched h, (core_field Sup.recovering h).trans rfl,
      (core_field Sup.holdoff h).trans rfl, (core_field Sup.saved h).trans rfl,
      (core_field Sup.supplyPresent h).trans rfl, core_field Sup.reason h⟩

theorem parked_of_latched (hd : s.sup.mode.drains = true) (hl : s.sup.latched = true) (hw : s.waitingSupply = false) :
    parked s :=
  ⟨hd, fun h => absurd (h.symm.trans hw) nofun, fun _ => .inr fun h => absurd (hl.symm.trans h.2) nofun⟩

theorem parked_latchedDark {hard : Bool} (r : Reason) (hu : s.sup.mode = .unconfigured → hard = true)
    (hw : s.waitingSupply = false) : parked (s.takeLatchedDark hard r) := by
  obtain ⟨hm, hl, -, -, hs, hp, -⟩ := latchedDark_spec r hu
  exact parked_of_latched (by rw [hm]; rfl) hl ((waitingSupply_of_kept hs hp).trans hw)

/-- The contactor of a cabinet that a latched DARK cause takes dark. -/
theorem contactor_latchedDark {hard : Bool} (r : Reason) (hm : s.sup.mode ≠ .dark)
    (hu : s.sup.mode = .unconfigured → hard = true) :
    (s.takeLatchedDark hard r).out.contactor.closeCommand = false ∧ (s.takeLatchedDark hard r).out.contactor.driven = false := by
  rw [latchedDark_enters hm hu, (contactor_enterDark _ _).1]
  exact released_off _

theorem takeCause_of_waiting (k : Cause) (r : Reason) (hw : s.waitingSupply = true) :
    s.takeCause k r = s.takeWhileWaiting k r := if_pos hw

/-- The supervisor record that a latched DARK cause leaves of a supply loss being waited out. -/
def darkWhileWaiting (r : Reason) (u : Sup) : Sup :=
  { u.endRecovery with reason := some r, latched := true, probation := 0, saved := some (.dark (some r) true) }

theorem sup_waiting_latchedDark (hard : Bool) (r : Reason) : (s.takeWhileWaiting (.latchedDark hard) r).sup = darkWhileWaiting r s.sup :=
  Laws.onMode_sup _ _

/-- The state saved by a supply loss after a latched FLASH cause. -/
def savedFlash (r : Reason) : Option SavedState → Option SavedState
  | some .startup => some (.flash (some r) true)
  | some (.flash _ false) => some (.flash (some r) true)
  | x => x

theorem sup_waiting_latchedFlash (r : Reason) :
    (s.takeWhileWaiting .latchedFlash r).sup = { s.sup.endRecovery with saved := savedFlash r s.sup.saved } := rfl

theorem quiet_latchedDark {hard : Bool} (r : Reason) (hu : s.sup.mode = .unconfigured → hard = true)
    (hs : s.sup.mode.drains = true → s.cfg.pendingCommit = none)
    (hi : ∀ g, (s.group g).inhibited = true → (before.group g).inhibited = true) :
    quiet before (s.takeCause (.latchedDark hard) r) := by
  have hacts : Acts (fun _ => True) cabinet s (s.takeCause (.latchedDark hard) r) := acts_takeCause _ _
  refine ⟨fun hd => ?_, fun g hg => hi g (inhibited_of_acts hacts (by decide) g hg)⟩
  cases hw : s.waitingSupply with
  | true =>
    rw [takeCause_of_waiting _ r hw, sup_waiting_latchedDark] at hd
    rw [hacts.cfg_eq]
    exact .inl (hs hd)
  | false =>
    rw [takeCause_latchedDark _ _ hw]
    exact .inr (parked_latchedDark r hu hw)

/-! ### MODE_SET (R173) -/

/-- The cause that a value of MODE_SET gives. -/
def setCause (b : Byte) : Cause := if b.toNat = 0 then .latchedFlash else .latchedDark false

theorem serveModeSet_acts {tag b : Byte} (hb : b.toNat ≤ 1) (hm : s.sup.mode ≠ .unconfigured) :
    serveModeSet tag [b] s = (s.takeCause (setCause b) .hostRequest).reply tag 0x32#8 .ok [] := by
  unfold serveModeSet
  dsimp only
  rw [if_neg (Nat.not_lt.mpr hb), if_neg hm]
  rfl

/-- A MODE_SET that acts: what it leaves is what its cause leaves, but for what a commit judges again. -/
theorem exec_modeSet {tag b : Byte} (h : s.takes tag [b]) (hb : b.toNat ≤ 1) (hm : s.sup.mode ≠ .unconfigured) :
    ∃ t, exec (.modeSet tag [b]) s = .next t ∧ State.answers s t tag 0x32#8 .ok ∧
      (s.reserve.takeCause (setCause b) .hostRequest).sup.retaken t.sup ∧
      t.out.contactor = (s.reserve.takeCause (setCause b) .hostRequest).out.contactor := by
  have hacts : Acts (fun _ => True) cabinet s.reserve (s.reserve.takeCause (setCause b) .hostRequest) := acts_takeCause _ _
  have hquiet : quiet s (s.reserve.takeCause (setCause b) .hostRequest) := by
    unfold setCause
    split
    · exact quiet_latchedFlash (s := s.reserve) _ h.1.2 fun _ hg => hg
    · exact quiet_latchedDark (s := s.reserve) _ (fun h => absurd h hm) h.1.2 fun _ hg => hg
  obtain ⟨v, hfin, hv, hsup⟩ :=
    finish_quiet (u := (s.reserve.takeCause (setCause b) .hostRequest).reply tag 0x32#8 .ok []) hquiet
  have hexec : exec (.modeSet tag [b]) s =
      .next (State.finish s ((s.reserve.takeCause (setCause b) .hostRequest).reply tag 0x32#8 .ok [])) := by
    show Host.Outcome.next (s.direct tag [b] (serveModeSet tag [b])) = _
    rw [Laws.direct_of_takes h, serveModeSet_acts (s := s.reserve) hb hm]
  refine ⟨_, hexec, answers_finish hacts (by decide), ?_, ?_⟩
  · rw [hfin, closeAdditions_sup]; exact hsup
  · rw [hfin, closeAdditions_out, hv.contactor_eq.1]; rfl

end Causes

open Requests Acts Ending Modes Parked Causes

/-- Settles O41. MODE_SET takes the latched cause HOST_REQUEST, in each mode and while a supply loss is waited out. -/
theorem modeSetTakesLatchedCause : Obligations.ModeSetTakesLatchedCause := by
  unfold Obligations.ModeSetTakesLatchedCause
  intro s tag body h
  have hdark : setCause 1 = .latchedDark false := rfl
  have hflash : setCause 0 = .latchedFlash := rfl
  refine ⟨fun hb => ?_, fun b hb hn => ?_, fun b hb hn hm => ?_, fun hb hm hw => ?_, fun hb hm hw => ?_,
    fun hm hw => ⟨fun hb => ?_, fun hb => ?_⟩⟩
  · refine reads h rfl (by decide) ?_
    unfold serveModeSet
    split
    · exact absurd rfl hb
    · rfl
  · subst hb
    refine reads h rfl (by decide) ?_
    unfold serveModeSet
    exact if_pos hn
  · subst hb
    refine reads h rfl (by decide) ?_
    unfold serveModeSet
    dsimp only
    rw [if_neg (Nat.not_lt.mpr hn), if_pos (by exact hm)]
    rfl
  · subst hb
    obtain ⟨t, hexec, hans, hsup, hcon⟩ := exec_modeSet h (by decide) hm
    have hunconf : s.reserve.sup.mode = .unconfigured → false = true := fun h => absurd h hm
    rw [hdark, takeCause_latchedDark (s := s.reserve) _ _ hw] at hsup hcon
    obtain ⟨dm, dl, drec, dh, -, -, dr⟩ := latchedDark_spec (s := s.reserve) .hostRequest hunconf
    obtain ⟨tm, tr, tl, -, -, trec, -, -, -, -, -, th⟩ := fields_of_retaken hsup
    refine ⟨t, hexec, hans, tm.trans dm, tl.trans dl, trec.trans drec, th.elim (·.trans dh) id, tr.trans dr, fun hne => ?_⟩
    rw [hcon]
    exact contactor_latchedDark (s := s.reserve) _ hne hunconf
  · subst hb
    obtain ⟨t, hexec, hans, hsup, -⟩ := exec_modeSet h (by decide) hm
    rw [hflash, takeCause_latchedFlash (s := s.reserve) _ hw] at hsup
    obtain ⟨tm, tr, tl, te, -⟩ := fields_of_retaken hsup
    refine ⟨t, hexec, hans, fun hmode => ?_, fun hmode => ?_, fun hmode => ?_, fun hmode => ?_⟩
    · have heq : s.reserve.takeLatchedFlash .hostRequest =
          (s.reserve.onSup Sup.endRecovery).onSup fun u => { u with exit := .flash (some .hostRequest) true } := by
        unfold State.takeLatchedFlash
        simp only [show s.reserve.sup.mode = .startupCheck from hmode]
      rw [heq] at tm te
      exact ⟨tm.trans hmode, te⟩
    · have hcore := core_latchedFlash_flash (s := s.reserve) (r := .hostRequest) (hmode.imp id fun h => ⟨h, by decide, by decide⟩)
      obtain ⟨fm, fr, fl, -⟩ := toFlash_fields s.reserve.cabinet.attempts (some .hostRequest) true s.reserve.sup.endRecovery
      exact ⟨tm.trans ((core_field Sup.mode hcore).trans fm), tr.trans ((core_field Sup.reason hcore).trans fr),
        tl.trans ((core_field Sup.latched hcore).trans fl)⟩
    · have hcore := core_latchedFlash_normal (s := s.reserve) (r := .hostRequest) hmode
      exact ⟨tm.trans (core_field Sup.mode hcore), tr.trans (core_field Sup.reason hcore),
        tl.trans (core_field Sup.latched hcore)⟩
    · have hdrains : s.reserve.sup.mode.drains = true := by
        show s.sup.mode.drains = true
        rcases hmode with h | h | h <;> rw [h] <;> rfl
      rw [sup_latchedFlash_drained hdrains] at tm tr tl
      obtain ⟨rm, -, -, rl, rr⟩ := relatched_fields .hostRequest s.reserve.sup
      exact ⟨tm.trans rm, tl.trans rl, tr.trans rr⟩
  · subst hb
    obtain ⟨t, hexec, -, hsup, -⟩ := exec_modeSet h (by decide) hm
    rw [hdark, takeCause_of_waiting (s := s.reserve) _ _ hw, sup_waiting_latchedDark] at hsup
    obtain ⟨tm, tr, tl, -, -, -, -, -, ts, -⟩ := fields_of_retaken hsup
    exact ⟨t, hexec, tm, tl, tr, ts⟩
  · subst hb
    obtain ⟨t, hexec, -, hsup, -⟩ := exec_modeSet h (by decide) hm
    rw [hflash, takeCause_of_waiting (s := s.reserve) _ _ hw, sup_waiting_latchedFlash] at hsup
    obtain ⟨tm, tr, tl, -, -, -, -, -, ts, -⟩ := fields_of_retaken hsup
    have hsaved : t.sup.saved = savedFlash .hostRequest s.sup.saved := ts
    refine ⟨t, hexec, tm, tl, tr, fun hs => ?_, fun r hs => ?_, fun r hs => ?_, fun r l hs => ?_⟩
    · rw [hsaved, hs]; rfl
    · rw [hsaved, hs]; rfl
    · rw [hsaved, hs]; rfl
    · rw [hsaved, hs]; rfl

end Sys2Proof.Machine
end

section
/-! PROOFS. The conflict monitor and the red failure (O59). -/

namespace Sys2Proof.Machine

set_option Elab.async false

namespace Causes

open Acts Ending Modes Parked

variable {G : Gid → Prop} {K : List Part} {before s t u v : State}

/-! ### The conflict found (R158, R159) -/

/-- The conflict marked and reported, before the cabinet acts on it. -/
def conflictReported (s : State) (i j : Gid) : State :=
  (s.onSup fun u =>
    { u with
      conflicts := u.conflicts.map fun t =>
        if t.low = (lowerFirst i j).1 ∧ t.high = (lowerFirst i j).2 then { t with found := true } else t }).report
    .conflict (.pair (lowerFirst i j).1 (lowerFirst i j).2)

theorem findConflict_eq (i j : Gid) : s.findConflict i j = (conflictReported s i j).hardFault .conflict := rfl

theorem hardFault_of_present (r : Reason) (hw : s.waitingSupply = false) : s.hardFault r = s.takeLatchedDark true r :=
  takeCause_latchedDark _ _ hw

/-- The end of a step whose hard fault takes the cabinet dark: what it leaves, and what it keeps of the table. -/
theorem hardFault_finishes (r : Reason) (hw : s.waitingSupply = false) (hm : s.sup.mode ≠ .dark) :
    ∃ v, State.finish before (s.hardFault r) = State.closeAdditions before v ∧ v.sup.mode = .dark ∧
      v.sup.reason = some r ∧ v.sup.latched = true ∧ v.sup.recovering = false ∧ v.sup.holdoff = none ∧
      v.out.contactor.driven = false ∧ v.out.contactor.closeCommand = false ∧
      (∀ g, s.kind g ≠ none → (v.group g).colour = .darkAll) ∧ v.flt.pendingSet.modeChange = true ∧
      Acts (fun _ => True) (.sup :: dimParts ++ parkedParts) s v := by
  have hhard : s.hardFault r = (s.onSup recoveryEnded).enterDark (some r) true := by
    rw [hardFault_of_present r hw, latchedDark_enters hm fun _ => rfl]
  have hpark : parked (s.hardFault r) := by
    rw [hardFault_of_present r hw]; exact parked_latchedDark r (fun _ => rfl) hw
  obtain ⟨v, hfin, hv, hsup⟩ := finish_parked (before := before) hpark
  obtain ⟨dm, dl, drec, dh, -, -, dr⟩ := latchedDark_spec (s := s) (hard := true) r fun _ => rfl
  obtain ⟨hc, hd⟩ := contactor_latchedDark (s := s) (hard := true) r hm fun _ => rfl
  rw [← hardFault_of_present r hw] at dm dl drec dh dr hc hd
  rw [if_neg fun h => hm h.1] at dr
  obtain ⟨vm, vr, vl, -, -, vrec, -, -, -, -, -, vh⟩ := fields_of_retaken hsup
  have hdark : Acts (fun _ => True) (.sup :: dimParts) s (s.hardFault r) := by
    rw [hhard]
    exact (acts_sup recoveryEnded rfl rfl rfl).up.trans (acts_enterDark_dim _ _).up
  refine ⟨v, hfin, vm.trans dm, vr.trans dr, vl.trans dl, vrec.trans drec, vh.elim (·.trans dh) id, ?_, ?_, fun g hg => ?_,
    modeChange_stays hv ?_, hdark.up.trans hv.up⟩
  · rw [hv.contactor_eq.1]; exact hd
  · rw [hv.contactor_eq.1]; exact hc
  · rw [hv.colour_eq, hhard]; exact colour_enterDark _ _ hg
  · rw [hhard]; exact modeChange_enterDark _ _ hm

theorem lowerFirst_eq (i j : Gid) : lowerFirst i j = (if i ≤ j then i else j, if i ≤ j then j else i) := by
  unfold lowerFirst; split <;> rfl

theorem conflictDue_of {i j : Gid} {p : PairTime} (hp : p ∈ s.sup.conflicts) (hl : p.low = (lowerFirst i j).1)
    (hh : p.high = (lowerFirst i j).2) (hf : p.found = false) (hms : 50 ≤ p.ms) : s.conflictDue i j = true :=
  List.any_eq_true.mpr ⟨p, hp, by simp [hl, hh, hf, hms]⟩

/-! ### The red failure (R160, R162) -/

/-- The grace time of a red failure that is taken. -/
def graceStopped (s : State) (g : Gid) : State := s.onSup fun u => { u with grace := u.grace.put g .stopped }

/-- The attempt that a soft fault counts during a recovery. -/
def attempted (s : State) : State :=
  if s.attemptCounts then s.onSup fun u => { u with attempts := min 5 (s.sup.attempts + 1) } else s

theorem takeRedFailure_eq (g : Gid) : s.takeRedFailure g = (graceStopped s g).softFault true := rfl

theorem softFault_of_left (h : s.attemptCounts = false ∨ min 5 (s.sup.attempts + 1) < s.cabinet.attempts) :
    s.softFault true = (attempted s).takeCause .unlatchedFlash .redFail := by
  unfold State.softFault attempted
  dsimp only
  cases hc : s.attemptCounts with
  | false => rfl
  | true => rw [if_pos rfl, if_pos rfl, if_pos (h.resolve_left (by rw [hc]; decide))]; rfl

/-- The last attempt is spent (R162). -/
theorem softFault_of_spent (hc : s.attemptCounts = true) (h : ¬ min 5 (s.sup.attempts + 1) < s.cabinet.attempts) :
    s.softFault true = (((attempted s).report .recoveryLockout .nothing).onSup fun u =>
      { u with recovering := false, probation := 0 }).takeCause .latchedFlash .lockout := by
  unfold State.softFault attempted
  dsimp only
  rw [hc, if_pos rfl, if_pos rfl, if_neg h]
  rfl

theorem acts_graceStopped {g : Gid} {n : Nat} (h : s.sup.grace.get g = .running n) :
    Acts G [.sup, .grace] s (graceStopped s g) := by
  refine one (.sup _ (by decide) rfl (.inr ⟨by decide, fun k => ?_⟩) (.inl rfl))
  show (s.sup.grace.put g .stopped).get k = _ ↔ _
  by_cases hk : g = k
  · subst hk
    rw [Tab.get_put_self, h]
    exact ⟨nofun, nofun⟩
  · rw [Tab.get_put_ne _ _ hk]

theorem acts_attempted : Acts G [.sup] s (attempted s) := either (fun _ => acts_sup _ rfl rfl rfl) fun _ => refl _

theorem sup_attempted : (attempted s).sup =
    { s.sup with attempts := if s.attemptCounts then min 5 (s.sup.attempts + 1) else s.sup.attempts } := by
  unfold attempted
  split
  · rfl
  · rfl

theorem redFailureDue_of {g : Gid} {n : Nat} (ht : s.seq.tickOpen = true)
    (hk : s.kind g = some .traffic ∨ s.kind g = some .pedestrian) (hd : (s.group g).redHealth = .deficient)
    (ha : (s.gt g).redFailAction = .flash) (hg : s.sup.grace.get g = .running n) (h1 : 1 ≤ n) (hn : (s.gt g).redFailGrace ≤ n)
    (hm : s.sup.mode.runs = true) (hx : s.sup.graceNext.get g = false) : s.redFailureDue g = true := by
  have hruns : s.graceRuns g = true := by
    unfold State.graceRuns
    rw [hd, ha, hm]
    rcases hk with hk | hk <;> rw [hk] <;> rfl
  unfold State.redFailureDue
  rw [ht, hx, hruns, hg]
  exact decide_eq_true (Nat.max_le.mpr ⟨h1, hn⟩)

theorem redFailureDue_waits {g : Gid} (hx : s.sup.graceNext.get g = true) : s.redFailureDue g = false := by
  unfold State.redFailureDue
  rw [hx]
  simp

/-- The state in which a red failure's soft fault with attempts left meets the cabinet. -/
def failing (s : State) (g : Gid) : State := attempted (graceStopped s g)

theorem acts_failing {g : Gid} {n : Nat} (h : s.sup.grace.get g = .running n) : Acts G [.sup, .grace] s (failing s g) :=
  (acts_graceStopped h).trans acts_attempted.up

/-- An unlatched FLASH cause of a red failure, marked as on its way to a holdoff. -/
def softMarked (s : State) : State := s.onSup fun u => { u with holdoffPending := true }

theorem unlatchedFlash_normal (hm : s.sup.mode = .normal) :
    s.takeUnlatchedFlash .redFail = (softMarked s).enterClearing .redFail false := by
  unfold State.takeUnlatchedFlash softMarked
  simp [hm]

theorem unlatchedFlash_startupFlash (hm : s.sup.mode = .startupFlash) :
    s.takeUnlatchedFlash .redFail = (softMarked s).enterFlash (some .redFail) false := by
  unfold State.takeUnlatchedFlash softMarked
  simp [hm]

theorem unlatchedFlash_startupRed (hm : s.sup.mode = .startupRed) (hw : s.sup.latchedWaits = false) :
    s.takeUnlatchedFlash .redFail =
      (softMarked s).onSup fun u => { u with flashNext := some (some .redFail, false) } := by
  unfold State.takeUnlatchedFlash softMarked
  simp [hm, hw]

theorem unlatchedFlash_startupCheck (hm : s.sup.mode = .startupCheck) (he : s.sup.exit = .startupFlash) :
    s.takeUnlatchedFlash .redFail =
      (softMarked s).onSup fun u => { u with exit := .flash (some .redFail) false } := by
  unfold State.takeUnlatchedFlash softMarked
  simp [hm, he]

theorem waitingSupply_failing (g : Gid) : (failing s g).waitingSupply = s.waitingSupply := by
  unfold State.waitingSupply failing
  rw [sup_attempted]
  rfl

/-- A red failure with attempts left is an unlatched FLASH cause. -/
theorem takeRedFailure_falls {g : Gid} (hw : s.waitingSupply = false)
    (hleft : s.sup.recovering = false ∨ s.sup.attempts + 1 < s.cabinet.attempts ∧ s.sup.attempts < 5) :
    s.takeRedFailure g = (failing s g).takeUnlatchedFlash .redFail := by
  have hcount : (graceStopped s g).attemptCounts = false ∨
      min 5 ((graceStopped s g).sup.attempts + 1) < (graceStopped s g).cabinet.attempts := by
    rcases hleft with hr | ⟨ha, -⟩
    · left
      show (s.sup.recovering && s.sup.mode.runs) = false
      rw [hr]; rfl
    · exact .inr ((Nat.min_le_right 5 _).trans_lt ha)
  rw [takeRedFailure_eq, softFault_of_left hcount]
  exact takeCause_unlatchedFlash .redFail ((waitingSupply_failing g).trans hw)

/-- The end of a step that takes a red failure, with no commit pending. -/
theorem finish_failing {g : Gid} {n : Nat} (hg : s.sup.grace.get g = .running n) (hc : s.cfg.pendingCommit = none)
    (hv : Acts (fun _ => True) K (failing s g) v)
    (hK : Part.health ∉ K ∧ Part.cfg ∉ K := by decide) : State.finish s v = State.closeAdditions s v := by
  have hacts : Acts (fun _ => True) (K ++ [.sup, .grace]) s v :=
    ((acts_failing hg).up (List.subset_append_right _ _)).trans (hv.up (List.subset_append_left _ _))
  obtain ⟨hh, hcfg⟩ := hK
  refine finish_closes (fun _ => ?_) (inhibited_of_acts hacts (by simp [hh]))
  rw [hacts.cfg_eq (by simp [hcfg]), hc]

/-- The state of a red failure before its cause: the attempt is counted and the grace time stopped. -/
theorem failing_sup (g : Gid) (hr : s.sup.mode.runs = true) (ha : s.sup.recovering = false ∨ s.sup.attempts < 5) :
    (failing s g).sup = { s.sup with
      grace := s.sup.grace.put g .stopped
      attempts := if s.sup.recovering then s.sup.attempts + 1 else s.sup.attempts } := by
  have hcount : (graceStopped s g).attemptCounts = s.sup.recovering := by
    show (s.sup.recovering && s.sup.mode.runs) = _
    rw [hr, Bool.and_true]
  unfold failing
  rw [sup_attempted, hcount]
  cases h : s.sup.recovering with
  | false => rfl
  | true =>
    have hlt : s.sup.attempts < 5 := ha.resolve_left (by rw [h]; decide)
    have hmin : min 5 (s.sup.attempts + 1) = s.sup.attempts + 1 := Nat.min_eq_right hlt
    show ({ s.sup with grace := _, attempts := if true = true then min 5 (s.sup.attempts + 1) else _ } : Sup) = _
    rw [hmin]
    rfl

theorem seq_failing (g : Gid) : (failing s g).seq = s.seq := by
  unfold failing attempted
  split
  · rfl
  · rfl

theorem flashNext_of_latchedWaits {u : Sup} (h : u.latchedWaits = true) : ∃ r, u.flashNext = some (r, true) := by
  unfold Sup.latchedWaits at h
  obtain ⟨-, h⟩ := Bool.and_eq_true_iff.mp h
  cases hf : u.flashNext with
  | none => rw [hf] at h; exact absurd h nofun
  | some x =>
    obtain ⟨r, l⟩ := x
    rw [hf] at h
    exact ⟨r, by rw [show l = true from h]⟩

end Causes

open Acts Ending Modes Parked Causes

/-- Settles O59. A conflict is a hard fault; a red failure is a soft one by mode, by the recovery and by the attempts left. -/
theorem conflictsAndRedFailuresTakeCabinet : Obligations.ConflictsAndRedFailuresTakeCabinet := by
  unfold Obligations.ConflictsAndRedFailuresTakeCabinet
  refine ⟨fun s i j lo hi p hb hw hm hlo hhi hp hpl hph hf hms hroom => ?_,
    fun s g n hb hw ht hc hk hd ha hg h1 hn => ⟨fun hx => ?_, fun hx hleft => ?_, fun hx hm hr hspent hroom => ?_⟩⟩
  · have hpair : lowerFirst i j = (lo, hi) := by rw [lowerFirst_eq, hlo, hhi]
    have hexec : exec (.conflictFound i j) s =
        .next (State.finish s ((conflictReported s i j).hardFault .conflict)) := by
      show Host.Outcome.next (if s.conflictDue i j = true then _ else s) = _
      rw [if_pos (conflictDue_of hp (by rw [hpl, hpair]) (by rw [hph, hpair]) hf hms), findConflict_eq]
    obtain ⟨v, hfin, vm, vr, vl, vrec, vh, vd, vc, vcol, vchange, hv⟩ :=
      hardFault_finishes (before := s) (s := conflictReported s i j) .conflict hw hm
    refine ⟨_, hexec.trans (by rw [hfin]), ?_⟩
    simp only [closeAdditions_sup, closeAdditions_out, closeAdditions_group, closeAdditions_entries, closeAdditions_pendingSet]
    refine ⟨vm, vr, vl, vrec, vh, vd, vc, vcol, ?_, vchange⟩
    obtain ⟨e, he, hek, hes, hea, -, hesaf, -⟩ :=
      Laws.report_active s.flt .conflict (.pair (lowerFirst i j).1 (lowerFirst i j).2) true s.stamp hroom
    rw [hpair] at hes
    exact ⟨e, hv.entry_stays he hea (by rw [hek]; decide) (.inl hesaf), hek, hes, hea, hesaf⟩
  · show Host.Outcome.next (if s.redFailureDue g = true then _ else s) = _
    rw [if_neg (ne_true_of_eq_false (redFailureDue_waits hx))]
  · have hexec (hm : s.sup.mode.runs = true) : exec (.redFailure g) s =
        .next (State.finish s ((failing s g).takeUnlatchedFlash .redFail)) := by
      show Host.Outcome.next (if s.redFailureDue g = true then _ else s) = _
      rw [if_pos (redFailureDue_of ht hk hd ha hg h1 hn hm hx), takeRedFailure_falls hw hleft]
    have hsup (hm : s.sup.mode.runs = true) := failing_sup g hm (hleft.imp id And.right)
    have hbase : Acts (fun _ => True) [.sup, .grace] s (failing s g) := acts_failing hg
    have hmark : Acts (fun _ => True) [.sup] (failing s g) (softMarked (failing s g)) := acts_sup _ rfl rfl rfl
    refine ⟨fun hm => ?_, fun hm => ?_, fun hm => ?_, fun hm he => ?_⟩
    · have hruns : s.sup.mode.runs = true := by rw [hm]; rfl
      have hsup := hsup hruns
      have henter : Acts (fun _ => True) (.sup :: enterParts) (failing s g)
          ((softMarked (failing s g)).enterClearing .redFail false) := hmark.up.trans (acts_enterClearing _ _).up
      have hall := (hbase.up (L := [.grace] ++ .sup :: enterParts)).trans henter.up
      have hcore := core_enterClearing (s := softMarked (failing s g)) .redFail false
      rw [hexec hruns, unlatchedFlash_normal (by rw [hsup]; exact hm), finish_failing hg hc henter]
      refine ⟨_, rfl, ?_⟩
      simp only [closeAdditions_sup, closeAdditions_out, closeAdditions_group, closeAdditions_seq, closeAdditions_cfg,
        closeAdditions_clk]
      refine ⟨core_field Sup.mode hcore, core_field Sup.reason hcore, core_field Sup.latched hcore,
        (core_field Sup.holdoffPending hcore).trans rfl, rfl, (core_field Sup.attempts hcore).trans ?_, fun k => ?_,
        hall.cfg_eq, hall.clk_eq, hall.out_eq⟩
      · show (failing s g).sup.attempts = _
        rw [hsup]
      · exact hall.colour_eq k
    · have hruns : s.sup.mode.runs = true := by rw [hm]; rfl
      have hsup := hsup hruns
      have henter : Acts (fun _ => True) (.sup :: enterParts) (failing s g)
          ((softMarked (failing s g)).enterFlash (some .redFail) false) := hmark.up.trans (acts_enterFlash _ _).up
      have hall := (hbase.up (L := [.grace] ++ .sup :: enterParts)).trans henter.up
      have hcore := core_enterFlash (s := softMarked (failing s g)) (some .redFail) false
      obtain ⟨fm, fr, fl, -⟩ := toFlash_fields (failing s g).cabinet.attempts (some .redFail) false (softMarked (failing s g)).sup
      have hcab : (failing s g).cabinet = s.cabinet := by unfold State.cabinet; rw [hbase.cfg_eq]
      rw [hexec hruns, unlatchedFlash_startupFlash (by rw [hsup]; exact hm), finish_failing hg hc henter]
      refine ⟨_, rfl, ?_⟩
      simp only [closeAdditions_sup, closeAdditions_out, closeAdditions_group, closeAdditions_seq, closeAdditions_cfg,
        closeAdditions_clk]
      refine ⟨(core_field Sup.mode hcore).trans fm, (core_field Sup.reason hcore).trans fr,
        (core_field Sup.latched hcore).trans fl, (core_field Sup.holdoff hcore).trans ?_, rfl, fun k => hall.colour_eq k,
        hall.cfg_eq, hall.clk_eq, hall.out_eq⟩
      show (if 0 < (failing s g).cabinet.attempts then some 0 else (failing s g).sup.holdoff) = _
      rw [hcab, hsup]
    · have hruns : s.sup.mode.runs = true := by rw [hm]; rfl
      have hsup := hsup hruns
      have hstop : (failing s g).sup.grace.get g = .stopped := by rw [hsup]; exact Tab.get_put_self _ _ _
      have hwaits : (failing s g).sup.latchedWaits = s.sup.latchedWaits := by rw [hsup]; rfl
      rw [hexec hruns]
      cases hlw : s.sup.latchedWaits with
      | true =>
        rw [Laws.takeUnlatchedFlash_of_latchedWaits (hwaits.trans hlw) .redFail, finish_failing hg hc (Acts.refl (K := []) _)]
        refine ⟨_, rfl, ?_⟩
        simp only [closeAdditions_sup, closeAdditions_out, closeAdditions_seq, closeAdditions_cfg, closeAdditions_clk]
        obtain ⟨r, hr⟩ := flashNext_of_latchedWaits hlw
        exact ⟨by rw [hsup]; exact hm, fun hno => absurd hr (hno r), fun r' hr' => by rw [hsup]; exact hr', hstop,
          seq_failing g, hbase.cfg_eq, hbase.clk_eq, hbase.out_eq⟩
      | false =>
        have hset : Acts (fun _ => True) [.sup] (failing s g)
            ((softMarked (failing s g)).onSup fun u => { u with flashNext := some (some .redFail, false) }) :=
          hmark.trans (acts_sup _ rfl rfl rfl)
        rw [unlatchedFlash_startupRed (by rw [hsup]; exact hm) (hwaits.trans hlw), finish_failing hg hc hset]
        refine ⟨_, rfl, ?_⟩
        simp only [closeAdditions_sup, closeAdditions_out, closeAdditions_seq, closeAdditions_cfg, closeAdditions_clk]
        refine ⟨by show (failing s g).sup.mode = _; rw [hsup]; exact hm, fun _ => rfl, fun r hr => ?_, hstop,
          seq_failing g, hbase.cfg_eq, hbase.clk_eq, hbase.out_eq⟩
        exact absurd hlw (by unfold Sup.latchedWaits; rw [hm, hr]; exact nofun)
    · have hruns : s.sup.mode.runs = true := by rw [hm]; rfl
      have hsup := hsup hruns
      have hset : Acts (fun _ => True) [.sup] (failing s g)
          ((softMarked (failing s g)).onSup fun u => { u with exit := .flash (some .redFail) false }) :=
        hmark.trans (acts_sup _ rfl rfl rfl)
      rw [hexec hruns, unlatchedFlash_startupCheck (by rw [hsup]; exact hm) (by rw [hsup]; exact he),
        finish_failing hg hc hset]
      refine ⟨_, rfl, ?_⟩
      simp only [closeAdditions_sup, closeAdditions_out, closeAdditions_seq, closeAdditions_cfg, closeAdditions_clk]
      refine ⟨by show (failing s g).sup.mode = _; rw [hsup]; exact hm, rfl, ?_, seq_failing g, hbase.cfg_eq, hbase.clk_eq,
        hbase.out_eq⟩
      show (failing s g).sup.grace.get g = _
      rw [hsup]; exact Tab.get_put_self _ _ _
  · obtain ⟨w, hwdef⟩ : ∃ w, w = ((failing s g).report .recoveryLockout .nothing).onSup fun u =>
        { u with recovering := false, probation := 0 } := ⟨_, rfl⟩
    have hruns : s.sup.mode.runs = true := by rw [hm]; rfl
    have hcount : (graceStopped s g).attemptCounts = true := by
      show (s.sup.recovering && s.sup.mode.runs) = true
      rw [hr, hruns]; rfl
    have hexec : exec (.redFailure g) s = .next (State.finish s (w.takeCause .latchedFlash .lockout)) := by
      show Host.Outcome.next (if s.redFailureDue g = true then _ else s) = _
      rw [if_pos (redFailureDue_of ht hk hd ha hg h1 hn hruns hx), takeRedFailure_eq,
        softFault_of_spent hcount (Nat.not_lt.mpr hspent), hwdef]
      rfl
    have hreport : Acts (fun _ => True) [.flt, .lockout, .sup] (failing s g) w :=
      hwdef ▸ Acts.trans (of_edits (edits_report .recoveryLockout .nothing)) (acts_sup _ rfl rfl rfl).up
    have hwm : w.sup.mode = .normal := by
      rw [hreport.modes_eq]; exact (acts_failing (G := fun _ => True) hg).modes_eq.trans hm
    have hww : w.waitingSupply = false := by
      rw [hwdef]; exact (waitingSupply_failing g).trans hw
    have hcore := core_latchedFlash_normal (r := .lockout) hwm
    have henter : Acts (fun _ => True) flashParts w (w.takeLatchedFlash .lockout) := acts_takeLatchedFlash _
    have hall : Acts (fun _ => True) (.lockout :: flashParts) (failing s g) (w.takeLatchedFlash .lockout) :=
      hreport.up.trans henter.up
    rw [hexec, takeCause_latchedFlash _ hww, finish_failing hg hc hall]
    refine ⟨_, rfl, ?_⟩
    simp only [closeAdditions_sup, closeAdditions_entries]
    refine ⟨core_field Sup.mode hcore, core_field Sup.reason hcore, core_field Sup.latched hcore,
      (core_field Sup.recovering hcore).trans rfl, (core_field Sup.holdoff hcore).trans rfl,
      (core_field Sup.probation hcore).trans (by rw [hwdef]; rfl), ?_⟩
    have hflt : (failing s g).flt = s.flt := (acts_failing (G := fun _ => True) hg).flt_eq
    obtain ⟨e, he, hek, hes, hea, -⟩ := Laws.report_active (failing s g).flt .recoveryLockout .nothing
      FaultKind.recoveryLockout.listedSafety (failing s g).stamp (by rw [hflt]; exact hroom)
    refine ⟨e, henter.entry_stays (by rw [hwdef]; exact he) hea (by rw [hek]; decide) (.inr (by decide)), hek, hes, hea⟩

end Sys2Proof.Machine
end

section
/-! SUPPORT. What the colour states, the mode entries and the end of CLEARING leave of each group's runtime record. PROOFS. The
ends of ambers and clearances and the completion of a change (O50), and the colours of the modes (O54). -/

namespace Sys2Proof.Machine

set_option Elab.async false

namespace Stages

open Acts Ending

variable {G : Gid → Prop} {K : List Part} {before s t u v : State}

theorem line_field {α : Type} {a b : Seq} (p : Seq → α) (h : Acts.Seq.line a = Acts.Seq.line b)
    (hp : ∀ q, p q = p (Acts.Seq.line q) := by intros; rfl) : p a = p b := by rw [hp, h, ← hp]

/-! ### One group -/

/-- A group's record as it enters a colour state now. -/
def entered (s : State) (g : Gid) (col : Colour) : GroupRun :=
  (s.group g).enter col (s.gt g) (s.standing g) s.seq.endInstant

theorem group_putColour_self {g : Gid} {col : Colour} (h : (s.group g).colour ≠ col) :
    (s.putColour g col).group g = entered s g col := by
  unfold State.putColour
  rw [if_neg h]
  exact State.onGroup_self _ _ _

theorem putColour_same {g : Gid} {col : Colour} (h : (s.group g).colour = col) : s.putColour g col = s := if_pos h

theorem group_putColour_other {g k : Gid} (col : Colour) (h : g ≠ k) : (s.putColour g col).group k = s.group k := by
  unfold State.putColour
  split
  · rfl
  · exact State.onGroup_other _ _ h

theorem enter_colour (r : GroupRun) (col : Colour) (t : GroupTiming) (b : Bool) (n : Nat) : (r.enter col t b n).colour = col := by
  cases col <;> rfl

theorem enter_timeIn (r : GroupRun) (col : Colour) (t : GroupTiming) (b : Bool) (n : Nat) : (r.enter col t b n).timeIn = 0 := by
  cases col <;> rfl

theorem enter_greenEnd (r : GroupRun) (col : Colour) (t : GroupTiming) (b : Bool) (n : Nat) :
    (r.enter col t b n).greenEnd = if r.colour = .green then some n else r.greenEnd := by
  cases col <;> rfl

/-! ### The channels that follow -/

theorem acts_syncCommands : Acts G electric s s.syncCommands := of_edits edits_syncCommands

theorem phase_syncCommands (k : Gid) : phaseOf s.syncCommands k = phaseOf s k :=
  (acts_syncCommands (G := fun _ => True)).phase_eq k

theorem setColour_rest {g : Gid} {col : Colour} (h : col ≠ .green) : s.setColour g col = (s.putColour g col).syncCommands := if_neg h

theorem phase_setColour_rest {g : Gid} {col : Colour} (h : col ≠ .green) (k : Gid) :
    phaseOf (s.setColour g col) k = phaseOf (s.putColour g col) k := by rw [setColour_rest h, phase_syncCommands]

/-- A group's colour with its time and its green end instant. -/
def shade (s : State) (g : Gid) : Colour × Nat × Option Nat := ((s.group g).colour, (s.group g).timeIn, (s.group g).greenEnd)

theorem shade_of_phase {g : Gid} (h : phaseOf t g = phaseOf s g) : shade t g = shade s g := by
  unfold phaseOf at h
  obtain ⟨hc, ht, hg, -⟩ := (Prod.mk.inj h).imp_right fun h => (Prod.mk.inj h).imp_right fun h => Prod.mk.inj h
  unfold shade
  rw [hc, ht, hg]

/-- A group that leaves its colour for another than GREEN. -/
theorem shade_setColour_self {g : Gid} {col : Colour} (h : col ≠ .green) (hc : (s.group g).colour ≠ col) :
    shade (s.setColour g col) g =
      (col, 0, if (s.group g).colour = .green then some s.seq.endInstant else (s.group g).greenEnd) := by
  rw [shade_of_phase (phase_setColour_rest h g)]
  unfold shade
  rw [group_putColour_self hc]
  unfold entered
  rw [enter_colour, enter_timeIn, enter_greenEnd]

theorem shade_setColour_other {g k : Gid} {col : Colour} (h : col ≠ .green) (hk : g ≠ k) :
    shade (s.setColour g col) k = shade s k := by
  rw [shade_of_phase (phase_setColour_rest h k)]
  unfold shade
  rw [group_putColour_other col hk]

/-! ### The entries to the lit modes -/

theorem seq_onMode (f : Sup → Sup) : (s.onMode f).seq = s.seq := by unfold State.onMode; dsimp only; split <;> rfl

theorem group_enterFlash (r : Option Reason) (l : Bool) (g : Gid) : (s.enterFlash r l).group g = s.group g := by
  show (s.onMode _).seq.groups.get g = _
  rw [seq_onMode]; rfl

theorem group_enterClearing (r : Reason) (l : Bool) (g : Gid) : (s.enterClearing r l).group g = s.group g := by
  show (s.onMode _).seq.groups.get g = _
  rw [seq_onMode]; rfl

/-! ### The end of CLEARING (R45, R161) -/

theorem noneClearing_iff : s.noneClearing = true ↔ ∀ g, (s.group g).colour ≠ .amber ∧ (s.group g).colour ≠ .clear := by
  unfold State.noneClearing
  rw [List.all_eq_true]
  simp only [Bool.and_eq_true, bne_iff_ne]
  exact ⟨fun h g => h g (List.mem_finRange g), fun h g _ => h g⟩

theorem clearingCheck_of_mode (h : s.sup.mode ≠ .clearing) : s.clearingCheck = s := if_neg fun hc => h hc.1

theorem group_clearingCheck (g : Gid) : s.clearingCheck.group g = s.group g := by
  unfold State.clearingCheck
  split
  · exact group_enterFlash _ _ g
  · rfl

/-- With no AMBER or CLEAR left the cabinet enters FLASH with its reason and its latched flag. -/
theorem clearingCheck_flash (hm : s.sup.mode = .clearing) (hd : s.seq.clearingDue = false) (hn : s.noneClearing = true) :
    s.clearingCheck.sup.mode = .flash ∧ s.clearingCheck.sup.reason = s.sup.reason ∧
      s.clearingCheck.sup.latched = s.sup.latched ∧ s.clearingCheck.seq.coloursDue = true ∧
      s.clearingCheck.seq.clearingDue = false := by
  unfold State.clearingCheck
  rw [if_pos ⟨hm, hd, hn⟩]
  have hcore := Modes.core_enterFlash (s := s) s.sup.reason s.sup.latched
  obtain ⟨fm, fr, fl, -⟩ := Causes.toFlash_fields s.cabinet.attempts s.sup.reason s.sup.latched s.sup
  exact ⟨(Causes.core_field Sup.mode hcore).trans fm, (Causes.core_field Sup.reason hcore).trans fr,
    (Causes.core_field Sup.latched hcore).trans fl, rfl, rfl⟩

/-! ### An amber or a clearance that ends (R27) -/

/-- A group whose amber or clearance has run enters RED, and CLEARING may end. -/
theorem enterRed_finishes {g : Gid} (hb : s.betweenSteps) (hm : s.sup.mode = .normal ∨ s.sup.mode = .clearing)
    (hc : (s.group g).colour = .amber ∨ (s.group g).colour = .clear) :
    ∃ t, State.finish s (s.setColour g .red).clearingCheck = t ∧ (t.group g).colour = .red ∧ (t.group g).timeIn = 0 ∧
        (t.group g).greenEnd = (s.group g).greenEnd ∧ (∀ k, k ≠ g → (t.group k).colour = (s.group k).colour) ∧
        t.cfg = s.cfg ∧ t.clk = s.clk ∧ t.det = s.det ∧ (s.sup.mode = .normal → t.sup.mode = .normal) ∧
        (s.sup.mode = .clearing → s.seq.clearingDue = false →
          (∀ k, k ≠ g → (s.group k).colour ≠ .amber ∧ (s.group k).colour ≠ .clear) →
          t.sup.mode = .flash ∧ t.sup.reason = s.sup.reason ∧ t.sup.latched = s.sup.latched) := by
  have hne : (s.group g).colour ≠ .red ∧ (s.group g).colour ≠ .darkAll ∧ (s.group g).colour ≠ .green := by
    rcases hc with h | h <;> rw [h] <;> decide
  obtain ⟨hred, hlit, hgreen⟩ := hne
  have hset : Acts (fun _ => True) colourParts s (s.setColour g .red) := acts_setColour_rest (by decide) (.inl hlit)
  have hall : Acts (fun _ => True) endParts s (s.setColour g .red).clearingCheck := acts_enterRed hlit
  have hpend : (s.setColour g .red).clearingCheck.sup.mode.drains = true →
      (s.setColour g .red).clearingCheck.cfg.pendingCommit = none := by
    intro hd
    rw [hall.cfg_eq]
    rcases hm with hm | hm
    · rw [clearingCheck_of_mode (by rw [hset.modes_eq, hm]; decide), hset.modes_eq, hm] at hd
      exact absurd hd nofun
    · exact hb.2 (by rw [hm]; rfl)
  have hself := shade_setColour_self (s := s) (g := g) (col := .red) (by decide) hred
  rw [if_neg hgreen] at hself
  obtain ⟨hcol, htime, hend⟩ := (Prod.mk.inj hself).imp_right Prod.mk.inj
  have hother {k : Gid} (hk : k ≠ g) : ((s.setColour g .red).group k).colour = (s.group k).colour :=
    (Prod.mk.inj (shade_setColour_other (s := s) (col := .red) (by decide) hk.symm)).1
  refine ⟨_, finish_closes hpend (Causes.inhibited_of_acts hall), ?_⟩
  simp only [closeAdditions_group, closeAdditions_cfg, closeAdditions_clk, closeAdditions_det, closeAdditions_sup,
    group_clearingCheck]
  refine ⟨hcol, htime, hend, fun k hk => hother hk, hall.cfg_eq, hall.clk_eq, hall.det_eq, fun hn => ?_, fun hcl hdue hrest => ?_⟩
  · rw [clearingCheck_of_mode (by rw [hset.modes_eq, hn]; decide), hset.modes_eq, hn]
  · have hnone : (s.setColour g .red).noneClearing = true := by
      refine noneClearing_iff.mpr fun k => ?_
      by_cases hk : k = g
      · subst hk; rw [hcol]; decide
      · rw [hother hk]; exact hrest k hk
    have hsup := hset.core_eq
    have hdue' : (s.setColour g .red).seq.clearingDue = false :=
      (line_field Seq.clearingDue hset.line_eq).trans hdue
    obtain ⟨fm, fr, fl, -⟩ := clearingCheck_flash (by rw [hset.modes_eq, hcl]) hdue' hnone
    exact ⟨fm, fr.trans (Causes.core_field Sup.reason hsup), fl.trans (Causes.core_field Sup.latched hsup)⟩

/-! ### The completion of a change (R29) -/

/-- The sequencer record as a change completes, before its allowance and the head request. -/
def completed (ch : StageChange) (q : Seq) : Seq :=
  { q with running := some ch.target, change := none, greenStart := q.pos.getD 0, stageMin := ch.minMax }

/-- The allowance computed afresh, where the change names the stage of the current or the decision entry. -/
def allowed (s : State) (target : Stg) : State :=
  if s.activePlan.coordinated && (s.entersCurrentEntry target || s.entersDecisionEntry target) then s.refreshAllowance else s

theorem completeChange_eq {ch : StageChange} (h : s.seq.change = some ch) :
    s.completeChange = ((allowed (s.onSeq (completed ch)) ch.target).serveHead).startMaxTimer := by
  unfold State.completeChange
  rw [h]
  rfl

/-- The allowance after a completion. -/
def allowanceAt (s : State) (target : Stg) : Nat :=
  if s.activePlan.coordinated && (s.entersCurrentEntry target || s.entersDecisionEntry target) then
    s.seq.allowanceFor s.activePlan
  else s.seq.allowance

theorem allowed_eq (target : Stg) : allowed s target = s.onSeq fun q => { q with allowance := allowanceAt s target } := by
  unfold allowed allowanceAt
  split
  · rfl
  · rfl

/-- The end due once the head request is served. -/
def headEnd (s : State) : Option EndDue :=
  match s.seq.priority with
  | [] => s.seq.endDue
  | h :: _ =>
    if s.seq.change.isSome then s.seq.endDue
    else if s.seq.running = some h.target then none
    else some ⟨h.target, s.activePlan.firstNaming h.target, none⟩

theorem serveHead_eq : s.serveHead = s.onSeq fun q => { q with endDue := headEnd s } := by
  unfold State.serveHead headEnd
  cases s.seq.priority with
  | nil => rfl
  | cons h rest =>
    dsimp only
    split
    · rfl
    · split
      · rfl
      · rfl

theorem headEnd_nil (h : s.seq.priority = []) : headEnd s = s.seq.endDue := by unfold headEnd; rw [h]

theorem headEnd_cons {h : PriorityReq} {rest : List PriorityReq} (hp : s.seq.priority = h :: rest) (hc : s.seq.change = none) :
    headEnd s = if s.seq.running = some h.target then none
      else some ⟨h.target, s.activePlan.firstNaming h.target, none⟩ := by
  unfold headEnd
  rw [hp, hc]
  rfl

theorem startMaxTimer_eq : ∃ m n, s.startMaxTimer = s.onSeq fun q => { q with maxTimer := m, maxLimit := n } := by
  unfold State.startMaxTimer
  split
  · exact ⟨_, _, rfl⟩
  · exact ⟨s.seq.maxTimer, s.seq.maxLimit, rfl⟩

theorem endOf_decision {p : PlanRec} {d : Option Nat} {e : PlanEntry} (h : d.bind p.entry? = some e) :
    p.endOf (d.getD 0) = e.endPos := by
  obtain ⟨k, rfl, hk⟩ := Option.bind_eq_some_iff.mp h
  unfold PlanRec.endOf
  rw [show p.entry? ((some k).getD 0) = some e from hk]

/-- The allowance is computed afresh where an entry names the stage that the change is into. -/
theorem allowanceAt_of_named {target : Stg} {ending : PlanEntry} (hc : s.activePlan.coordinated = true)
    (he : s.seq.decision.bind s.activePlan.entry? = some ending)
    (hn : ending.stage = target ∨ ∃ current, s.seq.entry.bind s.activePlan.entry? = some current ∧ current.stage = target) :
    allowanceAt s target = min s.seq.shorten (ending.endPos - s.seq.greenStart - s.seq.stageMin) := by
  have hcond : (s.activePlan.coordinated && (s.entersCurrentEntry target || s.entersDecisionEntry target)) = true := by
    rw [hc, Bool.true_and, Bool.or_eq_true, Laws.entersCurrentEntry_iff, Laws.entersDecisionEntry_iff]
    exact hn.elim (fun h => .inr ⟨ending, he, h⟩) .inl
  unfold allowanceAt
  rw [if_pos hcond]
  unfold Seq.allowanceFor
  rw [endOf_decision he]

theorem allowanceAt_of_unnamed {target : Stg}
    (hn : ∀ named, s.seq.entry.bind s.activePlan.entry? = some named ∨ s.seq.decision.bind s.activePlan.entry? = some named →
      named.stage ≠ target) : allowanceAt s target = s.seq.allowance := by
  refine if_neg fun h => ?_
  rw [Bool.and_eq_true, Bool.or_eq_true, Laws.entersCurrentEntry_iff, Laws.entersDecisionEntry_iff] at h
  rcases h.2 with ⟨e, he, hs⟩ | ⟨e, he, hs⟩
  · exact hn e (.inl he) hs
  · exact hn e (.inr he) hs

theorem waiting_iff {c : Colour} : c.waiting = true ↔ c = .red ∨ c = .dark := by cases c <;> simp [Colour.waiting]

theorem completeDue_of {ch : StageChange} (ht : s.seq.tickOpen = true) (hm : s.sup.mode = .normal)
    (hc : s.seq.change = some ch) (hg : ch.gaining = [])
    (hl : ∀ g ∈ ch.losing, (s.group g).colour = .red ∨ (s.group g).colour = .dark) : s.completeDue = true := by
  unfold State.completeDue State.changeComplete
  rw [Sequencing.normalTick_of ht hm, hc]
  exact Bool.and_eq_true_iff.mpr ⟨rfl, Bool.and_eq_true_iff.mpr
    ⟨List.all_eq_true.mpr fun g h => waiting_iff.mpr (hl g h), List.isEmpty_iff.mpr hg⟩⟩

end Stages

open Acts Ending Stages

/-- Settles O50. An amber or clearance that has run ends in RED, the last of CLEARING brings FLASH, and a change whose groups
have arrived completes. -/
theorem ambersEndAndChangeCompletes : Obligations.AmbersEndAndChangeCompletes := by
  unfold Obligations.AmbersEndAndChangeCompletes
  refine ⟨fun s g hb ht hm => ⟨fun hc hran => ?_, fun hc hran => ?_⟩, fun s ch hb ht hm hch hg hl => ?_⟩
  · obtain ⟨t, hfin, hrest⟩ := enterRed_finishes (g := g) hb hm (.inl hc)
    have hruns : s.clearingRuns = true := by
      unfold State.clearingRuns; rw [ht]; rcases hm with h | h <;> rw [h] <;> rfl
    have hdue : s.amberDue g = true := by unfold State.amberDue; rw [hruns, hc]; exact decide_eq_true hran
    refine ⟨t, ?_, hrest⟩
    show Host.Outcome.next (if s.amberDue g = true then _ else s) = _
    rw [if_pos hdue, hfin]
  · obtain ⟨t, hfin, hrest⟩ := enterRed_finishes (g := g) hb hm (.inr hc)
    have hruns : s.clearingRuns = true := by
      unfold State.clearingRuns; rw [ht]; rcases hm with h | h <;> rw [h] <;> rfl
    have hdue : s.clearanceDue g = true := by unfold State.clearanceDue; rw [hruns, hc]; exact decide_eq_true hran
    refine ⟨t, ?_, hrest⟩
    show Host.Outcome.next (if s.clearanceDue g = true then _ else s) = _
    rw [if_pos hdue, hfin]
  · obtain ⟨u, hu⟩ : ∃ u, u = s.onSeq (completed ch) := ⟨_, rfl⟩
    obtain ⟨m, n, hmax⟩ := startMaxTimer_eq (s := (allowed u ch.target).serveHead)
    have hacts : Acts (fun _ => True) [.seq] s s.completeChange := acts_completeChange
    have hfin : State.finish s s.completeChange = State.closeAdditions s s.completeChange :=
      finish_closes (noCommit_of_kept hb hacts.modes_eq hacts.cfg_eq) (Causes.inhibited_of_acts hacts)
    have hexec : exec .stageChangeComplete s = .next (State.closeAdditions s s.completeChange) := by
      show Host.Outcome.next (if s.completeDue = true then _ else s) = _
      rw [if_pos (completeDue_of ht hm hch hg hl), hfin]
    have hplan : u.activePlan = s.activePlan := by rw [hu]; rfl
    have hserved : (allowed u ch.target).serveHead = u.onSeq fun q =>
        { q with allowance := allowanceAt u ch.target, endDue := headEnd (allowed u ch.target) } := by
      rw [serveHead_eq, allowed_eq]; rfl
    have hpriority : (allowed u ch.target).seq.priority = s.seq.priority := by rw [allowed_eq, hu]; rfl
    have hchange : (allowed u ch.target).seq.change = none := by rw [allowed_eq, hu]; rfl
    have hrunning : (allowed u ch.target).seq.running = some ch.target := by rw [allowed_eq, hu]; rfl
    have hdue : (allowed u ch.target).seq.endDue = s.seq.endDue := by rw [allowed_eq, hu]; rfl
    have hplan' : (allowed u ch.target).activePlan = s.activePlan := by rw [allowed_eq, ← hplan]; rfl
    have hend : s.completeChange = u.onSeq fun q =>
        { q with allowance := allowanceAt u ch.target, endDue := headEnd (allowed u ch.target), maxTimer := m, maxLimit := n } := by
      rw [completeChange_eq hch, ← hu, hmax, hserved]; rfl
    refine ⟨_, hexec, ?_⟩
    simp only [closeAdditions_seq, closeAdditions_group, closeAdditions_cfg, closeAdditions_clk, closeAdditions_det,
      closeAdditions_out, closeAdditions_sup]
    rw [hend]
    refine ⟨by rw [hu]; rfl, by rw [hu]; rfl, by rw [hu]; rfl, by rw [hu]; rfl, by rw [hu]; rfl, fun g => by rw [hu]; rfl,
      by rw [hu]; rfl, by rw [hu]; rfl, by rw [hu]; rfl, by rw [hu]; rfl, by rw [hu]; rfl, fun ending hco he hn => ?_,
      fun hn => ?_, fun hp => ?_, fun h rest hp => ?_⟩
    · show allowanceAt u ch.target = _
      rw [← hplan] at hco he hn
      rw [hu] at hco he hn ⊢
      exact allowanceAt_of_named (s := s.onSeq (completed ch)) hco he hn
    · show allowanceAt u ch.target = _
      rw [← hplan] at hn
      rw [hu] at hn ⊢
      exact allowanceAt_of_unnamed (s := s.onSeq (completed ch)) hn
    · show headEnd (allowed u ch.target) = _
      rw [headEnd_nil (hpriority.trans hp), hdue]
    · show headEnd (allowed u ch.target) = _
      rw [headEnd_cons (hpriority.trans hp) hchange, hrunning, hplan']
      simp only [Option.some.injEq]

end Sys2Proof.Machine
end

section
/-! PROOFS. The colours of the cabinet modes and the greens that CLEARING ends (O54). -/

namespace Sys2Proof.Machine

set_option Elab.async false

namespace Stages

open Acts Ending

variable {G : Gid → Prop} {K : List Part} {before s t u v : State}

/-! ### The colours of a mode (R43) -/

/-- The state at whose tick the colours of the mode are taken. -/
def coloursTaken (s : State) : State := s.onSeq fun q => { q with coloursDue := false }

/-- Every group in the colour of its kind, at a tick of a lit mode. -/
theorem applied_setAll {f : GroupKind → Colour} (h : s.applyColours = (coloursTaken s).setAllColours f)
    (hf : ∀ k, f k ≠ .green ∧ f k ≠ .redAmber) (hu : s.sup.mode.unlit = false) (g : Gid) :
    s.applyColours.seq.coloursDue = false ∧
      (s.applyColours.group g).colour = (match s.kind g with | some k => f k | none => (s.group g).colour) := by
  have hset : Acts (fun _ => True) colourParts (coloursTaken s) ((coloursTaken s).setAllColours f) :=
    acts_setAllColours hf (.inr hu)
  rw [h]
  refine ⟨line_field Seq.coloursDue hset.line_eq, ?_⟩
  exact Modes.colour_setAllColours f g

theorem applyColours_flash (hm : s.sup.mode = .flash ∨ s.sup.mode = .startupFlash) :
    s.applyColours = (coloursTaken s).setAllColours flashColour := by
  unfold State.applyColours
  rcases hm with hm | hm <;> simp only [hm] <;> rfl

theorem applyColours_red (hm : s.sup.mode = .startupRed) :
    s.applyColours = (coloursTaken s).setAllColours restColour := by
  unfold State.applyColours
  simp only [hm]
  rfl

theorem applyColours_other (h : ¬(s.sup.mode = .flash ∨ s.sup.mode = .startupFlash)) (hr : s.sup.mode ≠ .startupRed) :
    s.applyColours = coloursTaken s := by
  unfold State.applyColours
  cases hm : s.sup.mode with
  | flash => exact absurd (.inl hm) h
  | startupFlash => exact absurd (.inr hm) h
  | startupRed => exact absurd hm hr
  | unconfigured | startupCheck | normal | clearing | dark => rfl

/-- The colour that a mode gives a group of a kind at its tick. -/
theorem applied_spec (g : Gid) : s.applyColours.seq.coloursDue = false ∧
    ((s.sup.mode = .flash ∨ s.sup.mode = .startupFlash) → ∀ k, s.kind g = some k →
      (s.applyColours.group g).colour = flashColour k) ∧
    (s.sup.mode = .startupRed → ∀ k, s.kind g = some k → (s.applyColours.group g).colour = restColour k) ∧
    (s.kind g = none → (s.applyColours.group g).colour = (s.group g).colour) := by
  by_cases hf : s.sup.mode = .flash ∨ s.sup.mode = .startupFlash
  · have hu : s.sup.mode.unlit = false := by rcases hf with h | h <;> rw [h] <;> rfl
    obtain ⟨hd, hc⟩ := applied_setAll (applyColours_flash hf) flashColour_rest hu g
    refine ⟨hd, fun _ k hk => by rw [hc, hk], fun hr => ?_, fun hk => by rw [hc, hk]⟩
    rcases hf with h | h <;> exact absurd (h.symm.trans hr) nofun
  · by_cases hr : s.sup.mode = .startupRed
    · have hu : s.sup.mode.unlit = false := by rw [hr]; rfl
      obtain ⟨hd, hc⟩ := applied_setAll (applyColours_red hr) restColour_rest hu g
      exact ⟨hd, fun h => absurd h hf, fun _ k hk => by rw [hc, hk], fun hk => by rw [hc, hk]⟩
    · rw [applyColours_other hf hr]
      exact ⟨rfl, fun h => absurd h hf, fun h => absurd h hr, fun _ => rfl⟩

/-! ### The greens that CLEARING ends (R45) -/

theorem endGreen_green {g : Gid} {k : GroupKind} (hk : s.kind g = some k) (hc : (s.group g).colour = .green) :
    s.endGreen g = s.putColour g (endColour k) := by
  unfold State.endGreen; simp only [hk, hc]

theorem endGreen_redAmber {g : Gid} {k : GroupKind} (hk : s.kind g = some k) (hc : (s.group g).colour = .redAmber) :
    s.endGreen g = s.putColour g .red := by
  unfold State.endGreen; simp only [hk, hc]

theorem endGreen_other {g : Gid} (h : s.kind g = none ∨ (s.group g).colour ≠ .green ∧ (s.group g).colour ≠ .redAmber) :
    s.endGreen g = s := by
  unfold State.endGreen
  rcases h with hk | ⟨hg, hr⟩
  · simp only [hk]
  · cases hc : (s.group g).colour with
    | green => exact absurd hc hg
    | redAmber => exact absurd hc hr
    | darkAll | red | amber | clear | dark | flashAmber | off => cases s.kind g <;> rfl

/-- What the end of the greens does to one group leaves the configuration, the tick and the other groups. -/
theorem endGreen_frame (g : Gid) : (s.endGreen g).cfg = s.cfg ∧ Seq.line (s.endGreen g).seq = Seq.line s.seq ∧
    ∀ k, g ≠ k → shade (s.endGreen g) k = shade s k := by
  have hput (col : Colour) : (s.putColour g col).cfg = s.cfg ∧ Seq.line (s.putColour g col).seq = Seq.line s.seq ∧
      ∀ k, g ≠ k → shade (s.putColour g col) k = shade s k := by
    refine ⟨Frames.cfg_of_base (Frames.base_putColour s g col), ?_, fun k hk => ?_⟩
    · unfold State.putColour
      split
      · rfl
      · rfl
    · unfold shade; rw [group_putColour_other col hk]
  unfold State.endGreen
  split
  · exact hput _
  · exact hput _
  · exact ⟨rfl, rfl, fun _ _ => rfl⟩

/-- Each group after the end of the greens. -/
theorem shade_endGreens (g : Gid) : ∃ w, (w.cfg = s.cfg ∧ Seq.line w.seq = Seq.line s.seq) ∧ shade w g = shade s g ∧
    shade (s.forAll State.endGreen) g = shade (w.endGreen g) g :=
  Maintenance.forAll_own (f := State.endGreen) (p := shade) (I := fun t => t.cfg = s.cfg ∧ Seq.line t.seq = Seq.line s.seq)
    (fun t i h => ⟨(endGreen_frame (s := t) i).1.trans h.1, (endGreen_frame (s := t) i).2.1.trans h.2⟩)
    (fun t i k h => (endGreen_frame (s := t) i).2.2 k h) s ⟨rfl, rfl⟩ g

theorem of_shade {g k : Gid} (h : shade t g = shade s k) : (t.group g).colour = (s.group k).colour ∧
    (t.group g).timeIn = (s.group k).timeIn ∧ (t.group g).greenEnd = (s.group k).greenEnd :=
  (Prod.mk.inj h).imp_right Prod.mk.inj

/-- The greens ended, before the channels follow. -/
def greensEnded (s : State) : State := (s.onSeq fun q => { q with clearingDue := false }).forAll State.endGreen

theorem endGreens_eq : s.endGreens = (greensEnded s).syncCommands.clearingCheck := rfl

theorem shade_greensEnded (g : Gid) (ht : s.seq.tickOpen = true) (hk : s.kind g ≠ none) :
    ((s.group g).colour = .green → ∀ k, s.kind g = some k →
      shade (greensEnded s) g = (endColour k, 0, some s.seq.tick)) ∧
    ((s.group g).colour = .redAmber → ((greensEnded s).group g).colour = .red) ∧
    ((s.group g).colour ≠ .green → (s.group g).colour ≠ .redAmber → shade (greensEnded s) g = shade s g) := by
  obtain ⟨w, ⟨hcfg, hline⟩, hsame, hshade⟩ := shade_endGreens (s := s.onSeq fun q => { q with clearingDue := false }) g
  have hkind : w.kind g = s.kind g := by unfold State.kind State.groupRec; rw [hcfg]; rfl
  have hsame' : shade w g = shade s g := hsame
  have hshade' : shade (greensEnded s) g = shade (w.endGreen g) g := by unfold greensEnded; exact hshade
  obtain ⟨hcol, htime, hend⟩ := of_shade hsame'
  have hinst : w.seq.endInstant = s.seq.tick := by
    unfold Seq.endInstant
    rw [line_field Seq.tickOpen hline, line_field Seq.tick hline]
    exact if_pos ht
  refine ⟨fun hg k hkk => ?_, fun hr => ?_, fun hg hr => ?_⟩
  · have hgreen : (w.group g).colour = .green := hcol.trans hg
    have hne : (w.group g).colour ≠ endColour k := by rw [hgreen]; cases k <;> decide
    rw [hshade', endGreen_green (hkind.trans hkk) hgreen]
    unfold shade
    rw [group_putColour_self hne]
    unfold entered
    rw [enter_colour, enter_timeIn, enter_greenEnd, if_pos hgreen, hinst]
  · obtain ⟨k, hkk⟩ := Option.ne_none_iff_exists'.mp hk
    have hra : (w.group g).colour = .redAmber := hcol.trans hr
    rw [(of_shade hshade').1, endGreen_redAmber (hkind.trans hkk) hra, group_putColour_self (by rw [hra]; decide)]
    exact enter_colour _ _ _ _ _
  · rw [hshade', endGreen_other (.inr ⟨by rw [hcol]; exact hg, by rw [hcol]; exact hr⟩)]
    exact hsame'

theorem clearingDue_clearingCheck (h : s.seq.clearingDue = false) : s.clearingCheck.seq.clearingDue = false := by
  unfold State.clearingCheck
  split
  · rfl
  · exact h

end Stages

open Acts Ending Stages

/-- Settles O54. The colours of a lit mode by each group's kind, and the greens of CLEARING ended group by group. -/
theorem modeColoursAndClearing : Obligations.ModeColoursAndClearing := by
  unfold Obligations.ModeColoursAndClearing
  refine ⟨fun s hb ht hd => ?_, fun s hb ht hd hm => ?_⟩
  · have hacts : Acts (fun _ => True) greenParts s s.applyColours := acts_applyColours
    have hfin : State.finish s s.applyColours = State.closeAdditions s s.applyColours :=
      finish_closes (noCommit_of_kept hb hacts.modes_eq hacts.cfg_eq) (Causes.inhibited_of_acts hacts)
    have hdue : s.coloursDue = true := by unfold State.coloursDue; rw [ht, hd]; rfl
    refine ⟨State.closeAdditions s s.applyColours, ?_, ?_⟩
    · show Host.Outcome.next (if s.coloursDue = true then _ else s) = _
      rw [if_pos hdue, hfin]
    · simp only [closeAdditions_seq, closeAdditions_sup, closeAdditions_cfg, closeAdditions_clk, closeAdditions_det,
        closeAdditions_group]
      refine ⟨(applied_spec 0).1, hacts.modes_eq, hacts.cfg_eq, hacts.clk_eq, hacts.det_eq, fun g => ?_⟩
      obtain ⟨-, hf, hr, hn⟩ := applied_spec (s := s) g
      exact ⟨fun hm => ⟨hf hm .traffic, hf hm .pedestrian, hf hm .arrow⟩,
        fun hm => ⟨hr hm .traffic, hr hm .pedestrian, hr hm .arrow⟩, hn⟩
  · have hacts : Acts (fun _ => True) endParts s s.endGreens := acts_endGreens
    have hfin : State.finish s s.endGreens = State.closeAdditions s s.endGreens :=
      finish_closes (fun _ => by rw [hacts.cfg_eq]; exact hb.2 (by rw [hm]; rfl)) (Causes.inhibited_of_acts hacts)
    have hdue : s.greensEndDue = true := by unfold State.greensEndDue; rw [ht, hd, hm]; rfl
    have hshade (g : Gid) : shade s.endGreens g = shade (greensEnded s) g := by
      rw [endGreens_eq, ← shade_of_phase (phase_syncCommands (s := greensEnded s) g)]
      unfold shade
      rw [group_clearingCheck]
    have hpaint : Acts (fun _ => True) colourParts (s.onSeq fun q => { q with clearingDue := false })
        (greensEnded s).syncCommands := one (.paint paints_endGreens (by decide) (by decide))
    have hended : Acts (fun _ => True) (.seq :: colourParts) s (greensEnded s).syncCommands :=
      (acts_seq (fun q => { q with clearingDue := false }) rfl rfl).up.trans hpaint.up
    have hline : (greensEnded s).syncCommands.seq.clearingDue = false := line_field Seq.clearingDue hpaint.line_eq
    have hmode : (greensEnded s).syncCommands.sup.mode = .clearing := hended.modes_eq.trans hm
    have hnone : s.endGreens.noneClearing = (greensEnded s).syncCommands.noneClearing := by
      unfold State.noneClearing
      simp only [endGreens_eq, group_clearingCheck]
    have hsup := hended.core_eq
    refine ⟨State.closeAdditions s s.endGreens, ?_, ?_⟩
    · show Host.Outcome.next (if s.greensEndDue = true then _ else s) = _
      rw [if_pos hdue, hfin]
    · simp only [closeAdditions_seq, closeAdditions_sup, closeAdditions_cfg, closeAdditions_clk, closeAdditions_det,
        closeAdditions_group]
      refine ⟨?_, hacts.cfg_eq, hacts.clk_eq, hacts.det_eq, fun g hk => ?_, fun ⟨g, hg⟩ => ?_, fun hall => ?_⟩
      · rw [endGreens_eq]; exact clearingDue_clearingCheck hline
      · obtain ⟨hgreen, hra, hrest⟩ := shade_greensEnded g ht hk
        obtain ⟨hc, htime, hend⟩ := of_shade (hshade g)
        refine ⟨fun hg => ?_, fun hr => hc.trans (hra hr), fun hg hr => ?_⟩
        · obtain ⟨k, hkk⟩ := Option.ne_none_iff_exists'.mp hk
          obtain ⟨ec, -, ee⟩ := (Prod.mk.inj (hgreen hg k hkk)).imp_right Prod.mk.inj
          refine ⟨hc.trans (ec.trans ?_), hend.trans ee⟩
          rw [hkk]
          cases k <;> rfl
        · obtain ⟨rc, rt, re⟩ := of_shade (hrest hg hr)
          exact ⟨hc.trans rc, htime.trans rt, hend.trans re⟩
      · have hn : (greensEnded s).syncCommands.noneClearing ≠ true := by
          rw [← hnone, Ne, noneClearing_iff]
          exact fun h => hg.elim (h g).1 (h g).2
        rw [endGreens_eq, show (greensEnded s).syncCommands.clearingCheck = _ from if_neg fun h => hn h.2.2, hmode]
      · obtain ⟨fm, fr, fl, fd, -⟩ := clearingCheck_flash hmode hline (by rw [← hnone]; exact noneClearing_iff.mpr hall)
        rw [endGreens_eq]
        exact ⟨fm, fr.trans (Causes.core_field Sup.reason hsup), fl.trans (Causes.core_field Sup.latched hsup), fd⟩

end Sys2Proof.Machine
end

section
/-! PROOFS. The start of a stage change (O48). -/

namespace Sys2Proof.Machine

set_option Elab.async false

namespace Stages

open Acts Ending

variable {G : Gid → Prop} {K : List Part} {before s t u v : State}

/-! ### The losing groups leave GREEN (R27) -/

/-- One losing group leaves GREEN by its kind. -/
def endLosing (t : State) (g : Gid) : State :=
  match t.kind g with | some k => t.setColour g (endColour k) | none => t

theorem endLosing_fitted {g : Gid} {k : GroupKind} (h : s.kind g = some k) : endLosing s g = s.setColour g (endColour k) := by
  unfold endLosing; rw [h]

theorem endLosing_unfitted {g : Gid} (h : s.kind g = none) : endLosing s g = s := by unfold endLosing; rw [h]

/-- The losing groups at t0. -/
def losingOf (s : State) (members : List Gid) : List Gid := (allFin 16).filter fun g => s.isGreen g && !members.contains g

/-- The losing groups out of GREEN. -/
def lost (s : State) (members : List Gid) : State := (losingOf s members).foldl endLosing s

theorem mem_losingOf {members : List Gid} {g : Gid} :
    g ∈ losingOf s members ↔ (s.group g).colour = .green ∧ g ∉ members := by
  unfold losingOf State.isGreen
  rw [List.mem_filter, Bool.and_eq_true, beq_iff_eq, Bool.not_eq_true', List.contains_eq_mem, decide_eq_false_iff_not]
  exact and_iff_right (List.mem_finRange g)

theorem endColour_ne (k : GroupKind) : endColour k ≠ .green ∧ endColour k ≠ .redAmber := by cases k <;> decide

/-- What the ending of one green leaves alone. -/
theorem endLosing_frame (g : Gid) : (endLosing s g).cfg = s.cfg ∧ (endLosing s g).seq.endInstant = s.seq.endInstant ∧
    ∀ k, g ≠ k → shade (endLosing s g) k = shade s k := by
  cases hk : s.kind g with
  | none => rw [endLosing_unfitted hk]; exact ⟨rfl, rfl, fun _ _ => rfl⟩
  | some k =>
    rw [endLosing_fitted hk]
    refine ⟨Frames.cfg_of_base (Frames.base_setColour s g _), ?_, fun j hj => shade_setColour_other (endColour_ne k).1 hj⟩
    rw [setColour_rest (endColour_ne k).1]
    have hline : Seq.line (s.putColour g (endColour k)).syncCommands.seq = Seq.line s.seq := by
      rw [(acts_syncCommands (G := fun _ => True)).line_eq]
      unfold State.putColour
      split
      · rfl
      · rfl
    exact line_field Seq.endInstant hline

/-- One losing group, and no other, of those that a state loses. -/
def endIfLosing (s : State) (members : List Gid) (t : State) (g : Gid) : State :=
  if s.isGreen g && !members.contains g then endLosing t g else t

theorem lost_eq (members : List Gid) : lost s members = s.forAll (endIfLosing s members) := by
  unfold lost losingOf State.forAll
  rw [List.foldl_filter]
  rfl

/-- Each group after the losing groups have left GREEN. -/
theorem shade_lost (members : List Gid) (g : Gid) :
    ((s.group g).colour = .green ∧ g ∉ members → ∀ k, s.kind g = some k →
      shade (lost s members) g = (endColour k, 0, some s.seq.endInstant)) ∧
    (¬((s.group g).colour = .green ∧ g ∉ members) ∨ s.kind g = none → shade (lost s members) g = shade s g) := by
  have hframe (t : State) (i : Gid) : (endIfLosing s members t i).cfg = t.cfg ∧
      (endIfLosing s members t i).seq.endInstant = t.seq.endInstant ∧
        ∀ k, i ≠ k → shade (endIfLosing s members t i) k = shade t k := by
    unfold endIfLosing
    split
    · exact endLosing_frame i
    · exact ⟨rfl, rfl, fun _ _ => rfl⟩
  obtain ⟨w, ⟨hcfg, hinst⟩, hsame, hshade⟩ := Maintenance.forAll_own (f := endIfLosing s members) (p := shade)
    (I := fun t => t.cfg = s.cfg ∧ t.seq.endInstant = s.seq.endInstant)
    (fun t i h => ⟨(hframe t i).1.trans h.1, (hframe t i).2.1.trans h.2⟩) (fun t i k h => (hframe t i).2.2 k h) s ⟨rfl, rfl⟩ g
  have hkind : w.kind g = s.kind g := by unfold State.kind State.groupRec; rw [hcfg]
  have hcond : (s.isGreen g && !members.contains g) = true ↔ (s.group g).colour = .green ∧ g ∉ members := by
    unfold State.isGreen
    rw [Bool.and_eq_true, beq_iff_eq, Bool.not_eq_true', List.contains_eq_mem, decide_eq_false_iff_not]
  rw [lost_eq, hshade]
  unfold endIfLosing
  refine ⟨fun hl k hk => ?_, fun hl => ?_⟩
  · have hgreen : (w.group g).colour = .green := (of_shade hsame).1.trans hl.1
    have hne : (w.group g).colour ≠ endColour k := by rw [hgreen]; cases k <;> decide
    rw [if_pos (hcond.mpr hl), endLosing_fitted (hkind.trans hk), shade_setColour_self (endColour_ne k).1 hne,
      if_pos hgreen, hinst]
  · rcases hl with hl | hn
    · rw [if_neg fun h => hl (hcond.mp h), hsame]
    · rw [endLosing_unfitted (hkind.trans hn), ite_self, hsame]

/-! ### The green instants (R28) -/

/-- The green instant moved on by one conflicting green end. -/
def pushed (s : State) (j : Gid) (m : Nat) (i : Gid) : Nat :=
  match (s.group i).greenEnd with
  | some e => if s.conflicting i j then max m (e + s.intergreen i j) else m
  | none => m

theorem greenInstantOf_eq (j : Gid) : s.greenInstantOf j = (allFin 16).foldl (pushed s j) (s.seq.tick + s.redAmberOf j) := rfl

/-- A conflicting green end with its intergreen. -/
def Pushes (s : State) (j i : Gid) (n : Nat) : Prop :=
  ∃ e, s.conflicting i j = true ∧ (s.group i).greenEnd = some e ∧ n = e + s.intergreen i j

theorem pushed_cases (j : Gid) (m : Nat) (i : Gid) :
    (∃ n, Pushes s j i n ∧ pushed s j m i = max m n) ∨ (∀ n, ¬Pushes s j i n) ∧ pushed s j m i = m := by
  unfold pushed Pushes
  cases he : (s.group i).greenEnd with
  | none =>
    exact .inr ⟨fun n ⟨_, _, hx, _⟩ => absurd hx nofun, rfl⟩
  | some e =>
    by_cases hc : s.conflicting i j = true
    · exact .inl ⟨_, ⟨e, hc, rfl, rfl⟩, if_pos hc⟩
    · exact .inr ⟨by rintro n ⟨x, h, -⟩; exact hc h, if_neg hc⟩

theorem foldl_pushed (j : Gid) (l : List Gid) (m : Nat) :
    m ≤ l.foldl (pushed s j) m ∧ (∀ i ∈ l, ∀ n, Pushes s j i n → n ≤ l.foldl (pushed s j) m) ∧
      (l.foldl (pushed s j) m = m ∨ ∃ i ∈ l, ∃ n, Pushes s j i n ∧ l.foldl (pushed s j) m = n) := by
  induction l generalizing m with
  | nil => exact ⟨le_rfl, fun _ h => absurd h List.not_mem_nil, .inl rfl⟩
  | cons a l ih =>
    obtain ⟨hle, hall, hsome⟩ := ih (pushed s j m a)
    rcases pushed_cases (s := s) j m a with ⟨n, hn, he⟩ | ⟨hn, he⟩
    · refine ⟨(he ▸ le_max_left m n : m ≤ _).trans hle, fun i hi k hk => ?_, ?_⟩
      · rcases List.mem_cons.mp hi with rfl | hi
        · obtain ⟨x, -, hx, rfl⟩ := hk
          obtain ⟨y, -, hy, rfl⟩ := hn
          have hxy : x = y := Option.some.inj (hx.symm.trans hy)
          exact (hxy ▸ he ▸ le_max_right m _ : _ ≤ pushed s j m i).trans hle
        · exact hall i hi k hk
      · rcases hsome with h | ⟨i, hi, k, hk, h⟩
        · rw [List.foldl_cons, h, he]
          rcases max_choice m n with h' | h'
          · exact .inl h'
          · exact .inr ⟨a, List.mem_cons_self, n, hn, h'⟩
        · exact .inr ⟨i, List.mem_cons_of_mem _ hi, k, hk, h⟩
    · rw [he] at hle hall hsome
      rw [List.foldl_cons, he]
      refine ⟨hle, fun i hi k hk => ?_, ?_⟩
      · rcases List.mem_cons.mp hi with rfl | hi
        · exact absurd hk (hn k)
        · exact hall i hi k hk
      · exact hsome.imp id fun ⟨i, hi, k, hk, h⟩ => ⟨i, List.mem_cons_of_mem _ hi, k, hk, h⟩

/-- A green instant is the latest of the red-amber after t0 and of every conflicting green end plus its intergreen. -/
theorem greenInstantOf_spec (j : Gid) :
    s.seq.tick + s.redAmberOf j ≤ s.greenInstantOf j ∧ (∀ i n, Pushes s j i n → n ≤ s.greenInstantOf j) ∧
      (s.greenInstantOf j = s.seq.tick + s.redAmberOf j ∨ ∃ i n, Pushes s j i n ∧ s.greenInstantOf j = n) := by
  rw [greenInstantOf_eq]
  obtain ⟨hle, hall, hsome⟩ := foldl_pushed (s := s) j (allFin 16) (s.seq.tick + s.redAmberOf j)
  exact ⟨hle, fun i => hall i (List.mem_finRange i), hsome.imp id fun ⟨i, _, n, hn, h⟩ => ⟨i, n, hn, h⟩⟩

/-! ### The inhibited gaining groups dropped (R31) -/

/-- A change record without the gaining groups that a test picks out. -/
def without (p : Gid → Bool) (ch : StageChange) : StageChange :=
  { ch with gaining := ch.gaining.filter fun x => !p x.1 }

theorem without_none {ch : StageChange} {p : Gid → Bool} (h : ∀ x ∈ ch.gaining, p x.1 = false) : without p ch = ch := by
  unfold without
  rw [List.filter_eq_self.mpr fun x hx => by rw [h x hx]; rfl]

theorem gainingInstant_none_iff {q : Seq} {g : Gid} :
    q.gainingInstant g = none ↔ ∀ ch, q.change = some ch → ∀ x ∈ ch.gaining, x.1 ≠ g := by
  unfold Seq.gainingInstant
  cases q.change with
  | none => exact ⟨fun _ _ h => absurd h nofun, fun _ => rfl⟩
  | some ch =>
    simp only [Option.map_eq_none_iff, List.find?_eq_none, beq_iff_eq, Option.some.injEq]
    exact ⟨fun h c hc => hc ▸ h, fun h => h ch rfl⟩

/-- One group dropped where it is inhibited, none being in RED_AMBER. -/
theorem change_dropIfInhibited {g : Gid} (h : (s.group g).colour ≠ .redAmber) :
    (s.dropIfInhibited g).seq.change = s.seq.change.map (without fun k => k == g && (s.group g).inhibited) := by
  have hsame (hi : (s.group g).inhibited = false ∨ s.seq.gainingInstant g = none) :
      s.seq.change = s.seq.change.map (without fun k => k == g && (s.group g).inhibited) := by
    cases hc : s.seq.change with
    | none => rfl
    | some ch =>
      refine congrArg some (without_none fun x hx => ?_).symm
      rcases hi with hi | hi
      · rw [hi, Bool.and_false]
      · rw [beq_eq_false_iff_ne.mpr (gainingInstant_none_iff.mp hi ch hc x hx), Bool.false_and]
  unfold State.dropIfInhibited
  split
  · next hi =>
    split
    · unfold State.dropGroup
      rw [if_neg h, hi, State.onSeq_seq]
      cases s.seq.change with
      | none => rfl
      | some ch =>
        refine congrArg some ?_
        unfold without
        simp only [Bool.and_true, bne]
    · next hn => exact hsame (.inr hn)
  · next hi => exact hsame (.inl (by simpa using hi))

/-- Every inhibited gaining group dropped, none being in RED_AMBER. -/
theorem dropInhibited_spec (h : ∀ g, (s.group g).colour ≠ .redAmber) :
    Drops s s.dropInhibited ∧
      s.dropInhibited.seq.change = s.seq.change.map (without fun k => (s.group k).inhibited) := by
  have hfold (l : List Gid) : ∀ t : State, Drops s t → Drops s (l.foldl State.dropIfInhibited t) ∧
      (l.foldl State.dropIfInhibited t).seq.change =
        t.seq.change.map (without fun k => l.contains k && (s.group k).inhibited) := by
    induction l with
    | nil =>
      intro t ht
      refine ⟨ht, ?_⟩
      cases hc : t.seq.change with
      | none => exact hc
      | some ch => exact hc.trans (congrArg some (without_none fun _ _ => rfl).symm)
    | cons a l ih =>
      intro t ht
      have hca : (t.group a).colour ≠ .redAmber := by rw [ht.group]; exact h a
      obtain ⟨hd, hc⟩ := ih _ (ht.trans (drops_dropIfInhibited hca))
      refine ⟨hd, hc.trans ?_⟩
      rw [change_dropIfInhibited hca, ht.group, Option.map_map]
      refine congrArg (fun f => t.seq.change.map f) (funext fun ch => ?_)
      show without _ (without _ ch) = _
      unfold without
      rw [List.filter_filter]
      refine congrArg (fun l => ({ ch with gaining := l } : StageChange)) (List.filter_congr fun x _ => ?_)
      by_cases hx : x.1 = a
      · subst hx; cases hi : (s.group x.1).inhibited <;> simp [hi]
      · simp [hx]
  have heq : s.dropInhibited = (allFin 16).foldl State.dropIfInhibited s := rfl
  obtain ⟨hd, hc⟩ := hfold (allFin 16) s (Drops.refl s)
  rw [heq]
  refine ⟨hd, hc.trans (congrArg (fun f => s.seq.change.map f) (funext fun ch => ?_))⟩
  refine congrArg (fun p => without p ch) (funext fun k => ?_)
  have hk : (allFin 16).contains k = true := List.contains_iff_mem.mpr (List.mem_finRange k)
  rw [hk, Bool.true_and]

/-! ### The start of a change (R26) -/

/-- The change record of a change that starts. -/
def recordOf (s : State) (e : EndDue) : StageChange :=
  ⟨e.target, (lost s (s.stage e.target)).seq.tick, losingOf s (s.stage e.target),
    ((allFin 16).filter fun g => (s.stage e.target).contains g && (s.group g).colour.waiting).map fun g =>
      (g, (lost s (s.stage e.target)).greenInstantOf g), 0⟩

/-- The state with the change record, before the inhibited gaining groups are dropped. -/
def begun (s : State) (e : EndDue) : State :=
  (lost s (s.stage e.target)).onSeq fun q =>
    { q.jumped s.activePlan.cycle e with
      change := some (recordOf s e)
      dropped := [], joined := [], endDue := none, maxTimer := none, gap := 0, entry := e.entry }

theorem startChange_shown {e : EndDue} (h : s.seq.running = some e.target ∧ s.allGreen e.target = true) :
    s.startChange e = s.onSeq fun q => { q with endDue := none, entry := e.entry, maxTimer := none, gap := 0 } := if_pos h

theorem startChange_changes {e : EndDue} (h : ¬(s.seq.running = some e.target ∧ s.allGreen e.target = true)) :
    s.startChange e = (begun s e).dropInhibited := if_neg h

theorem acts_lost (members : List Gid) (h : s.sup.mode.unlit = false) : Acts G colourParts s (lost s members) :=
  acts_endLitGreens _ h

theorem groups_jumped (q : Seq) (c : Nat) (e : EndDue) : (q.jumped c e).groups = q.groups := by
  unfold Seq.jumped
  split
  · dsimp only; split_ifs <;> rfl
  · rfl

/-- A jump leaves the running stage, and moves the position only where the end position lies ahead (R58). -/
theorem jumped_spec (q : Seq) (c : Nat) (e : EndDue) :
    (q.jumped c e).running = q.running ∧
      (∀ l j, q.pos = some l → e.jump = some j → l < j →
        (q.jumped c e).shorten = q.shorten - (j - l) ∧
          (j ≠ c → (q.jumped c e).pos = some j ∧ (q.jumped c e).cycleStart = q.cycleStart ∧
            (q.jumped c e).changePoint = q.changePoint) ∧
          (j = c → (q.jumped c e).pos = some 0 ∧ (q.jumped c e).cycleStart = true ∧ (q.jumped c e).changePoint = true)) ∧
      ((∀ l j, q.pos = some l → e.jump = some j → j ≤ l) →
        (q.jumped c e).pos = q.pos ∧ (q.jumped c e).shorten = q.shorten ∧ (q.jumped c e).cycleStart = q.cycleStart ∧
          (q.jumped c e).changePoint = q.changePoint) := by
  unfold Seq.jumped
  cases hj : e.jump with
  | none => exact ⟨rfl, fun _ _ _ h => absurd h nofun, fun _ => ⟨rfl, rfl, rfl, rfl⟩⟩
  | some j =>
    cases hl : q.pos with
    | none => exact ⟨rfl, fun _ _ h => absurd h nofun, fun _ => ⟨hl, rfl, rfl, rfl⟩⟩
    | some l =>
      dsimp only
      by_cases hlt : l < j
      · rw [if_pos hlt]
        refine ⟨by split <;> rfl, fun l' j' h h' _ => ?_, fun h => absurd (h l j rfl rfl) (Nat.not_le.mpr hlt)⟩
        obtain rfl := Option.some.inj h
        obtain rfl := Option.some.inj h'
        split
        · next hc => exact ⟨rfl, fun hne => absurd hc hne, fun _ => ⟨rfl, rfl, rfl⟩⟩
        · next hc => exact ⟨rfl, fun _ => ⟨rfl, rfl, rfl⟩, fun he => absurd he hc⟩
      · rw [if_neg hlt]
        refine ⟨rfl, fun l' j' h h' hlt' => ?_, fun _ => ⟨hl, rfl, rfl, rfl⟩⟩
        obtain rfl := Option.some.inj h
        obtain rfl := Option.some.inj h'
        exact absurd hlt' hlt

theorem group_begun (e : EndDue) (g : Gid) : (begun s e).group g = (lost s (s.stage e.target)).group g :=
  group_onSeq (groups_jumped _ _ _) g

theorem noRedAmber_begun {e : EndDue} (h : ∀ g, (s.group g).colour ≠ .redAmber) (g : Gid) :
    ((begun s e).group g).colour ≠ .redAmber := by
  rw [group_begun]
  obtain ⟨hlose, hkeep⟩ := shade_lost (s := s) (s.stage e.target) g
  by_cases hl : (s.group g).colour = .green ∧ g ∉ s.stage e.target
  · cases hk : s.kind g with
    | none => rw [(of_shade (hkeep (.inr hk))).1]; exact h g
    | some k => rw [(Prod.mk.inj (hlose hl k hk)).1]; exact (endColour_ne k).2
  · rw [(of_shade (hkeep (.inl hl))).1]; exact h g

theorem changeStartDue_of {e : EndDue} (ht : s.seq.tickOpen = true) (hm : s.sup.mode = .normal) (he : s.seq.endDue = some e)
    (hc : s.seq.change = none) (hr : ∀ g, (s.group g).colour ≠ .redAmber)
    (hmin : ∀ g, (s.group g).colour = .green → g ∉ s.stage e.target → (s.group g).minInForce ≤ (s.group g).timeIn) :
    s.changeStartDue = true := by
  unfold State.changeStartDue State.startReady
  rw [Sequencing.normalTick_of ht hm, he, hc, Sequencing.noRedAmber_iff.mpr hr]
  exact Sequencing.minimumsDone_iff.mpr hmin

theorem mem_recordOf {e : EndDue} {g : Gid} {i : Nat} : (g, i) ∈ (recordOf s e).gaining ↔
    (g ∈ s.stage e.target ∧ ((s.group g).colour = .red ∨ (s.group g).colour = .dark)) ∧
      i = (lost s (s.stage e.target)).greenInstantOf g := by
  unfold recordOf
  dsimp only
  rw [List.mem_map]
  constructor
  · rintro ⟨k, hk, hki⟩
    obtain ⟨rfl, rfl⟩ := Prod.mk.inj hki
    obtain ⟨-, h⟩ := List.mem_filter.mp hk
    rw [Bool.and_eq_true, waiting_iff] at h
    exact ⟨⟨List.contains_iff_mem.mp h.1, h.2⟩, rfl⟩
  · rintro ⟨⟨hg, hc⟩, rfl⟩
    refine ⟨g, List.mem_filter.mpr ⟨List.mem_finRange g, ?_⟩, rfl⟩
    rw [Bool.and_eq_true, waiting_iff]
    exact ⟨List.contains_iff_mem.mpr hg, hc⟩

theorem mem_without {p : Gid → Bool} {ch : StageChange} {g : Gid} {i : Nat} :
    (g, i) ∈ (without p ch).gaining ↔ (g, i) ∈ ch.gaining ∧ p g = false := by
  unfold without
  rw [List.mem_filter, Bool.not_eq_true']

end Stages

open Acts Ending Stages

/-- Settles O48. The losing groups leave GREEN, the gaining groups have their instants, and the inhibited ones are dropped. -/
theorem stageChangeStartsAtT0 : Obligations.StageChangeStartsAtT0 := by
  unfold Obligations.StageChangeStartsAtT0
  intro s e hb ht hm he hc hr hmin
  have hlit : s.sup.mode.unlit = false := by rw [hm]; rfl
  have hacts : Acts (fun _ => True) greenParts s (s.startChange e) := acts_startChange e hlit
  have hfin : State.finish s (s.startChange e) = State.closeAdditions s (s.startChange e) :=
    finish_closes (noCommit_of_kept hb hacts.modes_eq hacts.cfg_eq) (Causes.inhibited_of_acts hacts)
  have hexec : exec .stageChangeStart s = .next (State.closeAdditions s (s.startChange e)) := by
    have hstart : s.startDueChange = s.startChange e := by unfold State.startDueChange; rw [he]
    show Host.Outcome.next (if s.changeStartDue = true then _ else s) = _
    rw [if_pos (changeStartDue_of ht hm he hc hr hmin), hstart, hfin]
  refine ⟨_, hexec, ?_⟩
  simp only [closeAdditions_seq, closeAdditions_group, closeAdditions_cfg, closeAdditions_clk, closeAdditions_det,
    closeAdditions_sch, closeAdditions_sup]
  by_cases hshown : s.seq.running = some e.target ∧ s.allGreen e.target = true
  · have hgreen : ∀ g ∈ s.stage e.target, (s.group g).colour = .green := Sequencing.allGreen_iff.mp hshown.2
    rw [startChange_shown hshown]
    refine ⟨rfl, rfl, rfl, rfl, rfl, rfl, rfl, rfl, rfl, hm, fun _ _ => ⟨hc, fun _ => rfl⟩, fun h => ?_⟩
    rcases h with h | ⟨g, hg, hne⟩
    · exact absurd hshown.1 h
    · exact absurd (hgreen g hg) hne
  · have hstart := startChange_changes hshown
    obtain ⟨hdrops, hchange⟩ := dropInhibited_spec (noRedAmber_begun (e := e) hr)
    have hlost : Acts (fun _ => True) colourParts s (lost s (s.stage e.target)) := acts_lost _ hlit
    obtain ⟨jr, jahead, jbehind⟩ := jumped_spec (lost s (s.stage e.target)).seq s.activePlan.cycle e
    have hline := hlost.line_eq
    have hpos := line_field Seq.pos hline
    have hshorten := line_field Seq.shorten hline
    have hstarts := line_field Seq.cycleStart hline
    have hpoints := line_field Seq.changePoint hline
    obtain ⟨q, hq, hstate⟩ := hdrops
    have hgroup (g : Gid) : (s.startChange e).group g = (lost s (s.stage e.target)).group g := by
      rw [hstart, (dropInhibited_spec (noRedAmber_begun (e := e) hr)).1.group, group_begun]
    have hseq : (s.startChange e).seq = q := by rw [hstart, hstate]; rfl
    have field {α : Type} (p : Seq → α) := congrArg p hq
    have hqchange : q.change = some (without (fun k => ((begun s e).group k).inhibited) (recordOf s e)) := by
      rw [← hseq, hstart, hchange]; rfl
    have hinhibited (g : Gid) : ((begun s e).group g).inhibited = (s.group g).inhibited := by
      rw [group_begun]; exact (hlost.health_eq g).2
    have hmoved : q.pos = ((lost s (s.stage e.target)).seq.jumped s.activePlan.cycle e).pos ∧
        q.shorten = ((lost s (s.stage e.target)).seq.jumped s.activePlan.cycle e).shorten ∧
        q.cycleStart = ((lost s (s.stage e.target)).seq.jumped s.activePlan.cycle e).cycleStart ∧
        q.changePoint = ((lost s (s.stage e.target)).seq.jumped s.activePlan.cycle e).changePoint :=
      ⟨field Seq.pos, field Seq.shorten, field Seq.cycleStart, field Seq.changePoint⟩
    obtain ⟨mp, ms, mc, mcp⟩ := hmoved
    have hinst : s.seq.endInstant = s.seq.tick := if_pos ht
    have hrunning : q.running = s.seq.running := (field Seq.running).trans (jr.trans (line_field Seq.running hline))
    rw [hseq, mp, ms, mc, mcp]
    refine ⟨field Seq.endDue, field Seq.maxTimer, field Seq.gap, field Seq.entry, hrunning, hacts.cfg_eq, hacts.clk_eq,
      hacts.sch_eq, hacts.det_eq, hacts.modes_eq.trans hm, fun hrun hall => ?_, fun _ => ⟨?_, fun l j hl hj hlt => ?_,
        fun hno => ?_, fun g hg hmem => ?_, fun g hn => ?_⟩⟩
    · exact absurd ⟨hrun, Sequencing.allGreen_iff.mpr hall⟩ hshown
    · refine ⟨_, hqchange, rfl, line_field Seq.tick hline, fun g => mem_losingOf, fun g => ?_, fun g i hgi => ?_⟩
      · simp only [mem_without, mem_recordOf, hinhibited, and_assoc]
        exact ⟨fun ⟨_, h1, h2, _, h4⟩ => ⟨h1, h2, h4⟩, fun ⟨h1, h2, h4⟩ => ⟨_, h1, h2, rfl, h4⟩⟩
      · obtain ⟨hin, -⟩ := mem_without.mp hgi
        obtain ⟨-, rfl⟩ := mem_recordOf.mp hin
        obtain ⟨hle, hall, hsome⟩ := greenInstantOf_spec (s := lost s (s.stage e.target)) g
        have hbase : (lost s (s.stage e.target)).seq.tick + (lost s (s.stage e.target)).redAmberOf g =
            s.seq.tick + s.redAmberOf g := by
          rw [line_field Seq.tick hline]
          unfold State.redAmberOf State.kind State.groupRec State.gt
          rw [hlost.cfg_eq]
        have hconf (k : Gid) : (lost s (s.stage e.target)).conflicting k g = s.conflicting k g ∧
            (lost s (s.stage e.target)).intergreen k g = s.intergreen k g := by
          unfold State.conflicting State.intergreen; rw [hlost.cfg_eq]; exact ⟨rfl, rfl⟩
        rw [hbase] at hle hsome
        refine ⟨hle, fun k x hk hx => hall k _ ⟨x, (hconf k).1.trans hk, by rw [← hgroup k]; exact hx, ?_⟩,
          hsome.imp id ?_⟩
        · rw [(hconf k).2]
        · rintro ⟨k, n, ⟨x, hk, hx, rfl⟩, he⟩
          exact ⟨k, x, (hconf k).1.symm.trans hk, by rw [hgroup k]; exact hx, he.trans (by rw [(hconf k).2])⟩
    · obtain ⟨h1, h2, h3⟩ := jahead l j (hpos.trans hl) hj hlt
      rw [hshorten, hstarts, hpoints] at *
      exact ⟨h1, h2, h3⟩
    · obtain ⟨h1, h2, h3, h4⟩ := jbehind fun l j hl hj => hno l j (hpos.symm.trans hl) hj
      exact ⟨h1.trans hpos, h2.trans hshorten, h3.trans hstarts, h4.trans hpoints⟩
    · have hlose := (shade_lost (s := s) (s.stage e.target) g).1 ⟨hg, hmem⟩
      rw [hgroup g]
      refine ⟨fun hk => (Prod.mk.inj (hlose _ hk)).1, fun hk => (Prod.mk.inj (hlose _ hk)).1,
        fun hk => (Prod.mk.inj (hlose _ hk)).1, fun hk => ?_⟩
      obtain ⟨k, hk⟩ := Option.ne_none_iff_exists'.mp hk
      obtain ⟨-, htime, hend⟩ := (Prod.mk.inj (hlose k hk)).imp_right Prod.mk.inj
      exact ⟨hend.trans (congrArg some hinst), htime⟩
    · rw [hgroup g]
      exact (of_shade ((shade_lost (s := s) (s.stage e.target) g).2 (.inl hn))).1

end Sys2Proof.Machine
end

section
/-! PROOFS. The gaining groups and the joiners at their instants (O49). -/

namespace Sys2Proof.Machine

set_option Elab.async false

namespace Stages

open Acts Ending

variable {G : Gid → Prop} {K : List Part} {before s t u v : State} {g k : Gid} {col : Colour}

/-! ### A group that enters a colour state, with its channels and the gap timer -/

theorem group_holdGapFor : (s.holdGapFor g).group k = s.group k := by
  unfold State.holdGapFor State.holdGap
  split
  · split
    · rfl
    · rfl
  · rfl

/-- The fields of a group's record that its own colour state and demand make up. -/
def ownOf (s : State) (g : Gid) := (phaseOf s g, (s.group g).demand, (s.group g).latch)

theorem ownOf_syncCommands : ownOf s.syncCommands k = ownOf s k := by
  have h : Acts (fun _ => True) electric s s.syncCommands := acts_syncCommands
  unfold ownOf
  rw [h.phase_eq, (h.demand_eq k).1, (h.demand_eq k).2]

theorem ownOf_setColour : ownOf (s.setColour g col) k = ownOf (s.putColour g col) k := by
  unfold State.setColour
  dsimp only
  split
  · refine Eq.trans ?_ (ownOf_syncCommands (s := s.putColour g col))
    unfold ownOf phaseOf
    rw [group_holdGapFor]
  · exact ownOf_syncCommands

theorem ownOf_setColour_other (h : g ≠ k) : ownOf (s.setColour g col) k = ownOf s k := by
  rw [ownOf_setColour]
  unfold ownOf phaseOf
  rw [group_putColour_other col h]

theorem colour_setColour_other (h : k ≠ g) : ((s.setColour g col).group k).colour = (s.group k).colour :=
  congrArg (fun x => x.1.1) (ownOf_setColour_other (s := s) (col := col) h.symm)

/-- A group's own fields as it enters another colour state. -/
theorem ownOf_setColour_self (h : (s.group g).colour ≠ col) :
    ((s.setColour g col).group g).colour = col ∧ ((s.setColour g col).group g).timeIn = 0 ∧
      ((s.setColour g col).group g).minInForce = (entered s g col).minInForce ∧
      ((s.setColour g col).group g).redAmberInForce = (entered s g col).redAmberInForce ∧
      ((s.setColour g col).group g).demand = (entered s g col).demand ∧
      ((s.setColour g col).group g).latch = (entered s g col).latch := by
  have hown := ownOf_setColour (s := s) (g := g) (k := g) (col := col)
  unfold ownOf phaseOf at hown
  rw [group_putColour_self h] at hown
  simp only [Prod.mk.injEq] at hown
  obtain ⟨⟨hc, ht, -, hm, -, -, hr⟩, hd, hl⟩ := hown
  exact ⟨hc.trans (enter_colour _ _ _ _ _), ht.trans (enter_timeIn _ _ _ _ _), hm, hr, hd, hl⟩

/-- The records of the groups on their way, with the tick. -/
def Seq.ways (q : Seq) := (q.change, q.dropped, q.joined, q.tick, q.endDue)

theorem ways_setColour : Seq.ways (s.setColour g col).seq = Seq.ways s.seq := by
  have hput : Seq.line (s.putColour g col).seq = Seq.line s.seq := by
    unfold State.putColour
    split
    · rfl
    · rfl
  have hsync : Seq.ways (s.putColour g col).syncCommands.seq = Seq.ways s.seq :=
    line_field Seq.ways ((acts_syncCommands (G := fun _ => True)).line_eq.trans hput)
  have hgap (t : State) : Seq.ways (t.holdGapFor g).seq = Seq.ways t.seq := by
    unfold State.holdGapFor State.holdGap
    split
    · split
      · rfl
      · rfl
    · rfl
  unfold State.setColour
  dsimp only
  split
  · exact (hgap _).trans hsync
  · exact hsync

theorem change_setColour : (s.setColour g col).seq.change = s.seq.change ∧ (s.setColour g col).seq.dropped = s.seq.dropped ∧
    (s.setColour g col).seq.joined = s.seq.joined ∧ (s.setColour g col).seq.tick = s.seq.tick := by
  have h := ways_setColour (s := s) (g := g) (col := col)
  simp only [Seq.ways, Prod.mk.injEq] at h
  exact ⟨h.1, h.2.1, h.2.2.1, h.2.2.2.1⟩

/-! ### A group dropped (R31) -/

/-- A group that leaves the gaining groups has no green instant among them. -/
theorem gainingInstant_filtered {q : Seq} {f : StageChange → StageChange}
    (hf : ∀ ch, (f ch).gaining = ch.gaining.filter fun p => p.1 != g) (h : q.change = s.seq.change.map f) :
    q.gainingInstant g = none := by
  refine gainingInstant_none_iff.mpr fun ch hch x hx => ?_
  rw [h] at hch
  obtain ⟨c, -, rfl⟩ := Option.map_eq_some_iff.mp hch
  rw [hf] at hx
  exact bne_iff_ne.mp (List.mem_filter.mp hx).2

/-- One group out of the gaining groups and into the dropped ones. -/
def leaves (g : Gid) (i : Nat) (q : Seq) : Seq :=
  { q with
    change := q.change.map fun ch => { ch with gaining := ch.gaining.filter fun p => p.1 != g }
    dropped := q.dropped ++ [(g, i)]
    joined := q.joined.filter fun p => p.1 != g }

theorem leaves_spec (i : Nat) : (∀ k, (s.onSeq (leaves g i)).group k = s.group k) ∧
    (s.onSeq (leaves g i)).seq.dropped = s.seq.dropped ++ [(g, i)] ∧ (s.onSeq (leaves g i)).seq.gainingInstant g = none :=
  ⟨fun _ => rfl, rfl, gainingInstant_filtered (s := s) (fun _ => rfl) rfl⟩

theorem dropGroup_redAmber (i : Nat) (h : (s.group g).colour = .redAmber) :
    s.dropGroup g i = (s.setColour g .red).onSeq (leaves g i) := by
  unfold State.dropGroup; rw [if_pos h]; rfl

theorem dropGroup_waiting (i : Nat) (h : (s.group g).colour ≠ .redAmber) : s.dropGroup g i = s.onSeq (leaves g i) := by
  unfold State.dropGroup; rw [if_neg h]; rfl

/-- A dropped group's RED_AMBER is turned back to RED. -/
theorem dropGroup_spec (i : Nat) :
    ((s.dropGroup g i).group g).colour = (if (s.group g).colour = .redAmber then .red else (s.group g).colour) ∧
      ((s.dropGroup g i).group g).demand = (s.group g).demand ∧
      (s.dropGroup g i).seq.dropped = s.seq.dropped ++ [(g, i)] ∧ (s.dropGroup g i).seq.gainingInstant g = none ∧
      ∀ k, k ≠ g → ((s.dropGroup g i).group k).colour = (s.group k).colour := by
  by_cases h : (s.group g).colour = .redAmber
  · rw [dropGroup_redAmber i h, if_pos h]
    obtain ⟨hgroup, hdropped, hgain⟩ := leaves_spec (s := s.setColour g .red) (g := g) i
    obtain ⟨hc, -, -, -, hd, -⟩ := ownOf_setColour_self (s := s) (g := g) (col := .red) (by rw [h]; decide)
    obtain ⟨-, hdr, -⟩ := change_setColour (s := s) (g := g) (col := .red)
    rw [hdr] at hdropped
    refine ⟨by rw [hgroup, hc], by rw [hgroup, hd]; rfl, hdropped, hgain, fun k hk => ?_⟩
    rw [hgroup]; exact colour_setColour_other hk
  · rw [dropGroup_waiting i h, if_neg h]
    obtain ⟨hgroup, hdropped, hgain⟩ := leaves_spec (s := s) (g := g) i
    exact ⟨by rw [hgroup], by rw [hgroup], hdropped, hgain, fun k _ => by rw [hgroup]⟩

theorem dropIfInhibited_gaining {i : Nat} (hi : (s.group g).inhibited = true) (hg : s.seq.gainingInstant g = some i) :
    s.dropIfInhibited g = s.dropGroup g ((s.seq.joinedInstant g).getD i) := by
  unfold State.dropIfInhibited
  rw [if_pos hi, hg]

theorem dropIfInhibited_joiner (hi : (s.group g).inhibited = true) (hg : s.seq.gainingInstant g = none)
    (hc : (s.group g).colour = .redAmber) :
    s.dropIfInhibited g = s.dropGroup g ((s.seq.joinedInstant g).getD s.seq.tick) := by
  unfold State.dropIfInhibited
  rw [if_pos hi, hg]
  exact if_pos hc

/-! ### The entry to GREEN (R28) -/

/-- A group out of the gaining groups that counts its minimum to the stage minimum. -/
def arrives (g : Gid) (n : Nat) (q : Seq) : Seq :=
  { q with
    joined := q.joined.filter fun p => p.1 != g
    change := q.change.map fun ch =>
      { ch with gaining := ch.gaining.filter fun p => p.1 != g, minMax := max ch.minMax n } }

theorem arrives_spec (n : Nat) : (∀ k, (s.onSeq (arrives g n)).group k = s.group k) ∧
    (s.onSeq (arrives g n)).seq.dropped = s.seq.dropped ∧ (s.onSeq (arrives g n)).seq.gainingInstant g = none ∧
    (s.onSeq (arrives g n)).seq.change = s.seq.change.map fun ch =>
      { ch with gaining := ch.gaining.filter fun p => p.1 != g, minMax := max ch.minMax n } :=
  ⟨fun _ => rfl, rfl, gainingInstant_filtered (s := s)
    (f := fun ch => { ch with gaining := ch.gaining.filter fun p => p.1 != g, minMax := max ch.minMax n }) (fun _ => rfl) rfl, rfl⟩

theorem enterGreen_eq : s.enterGreen g =
    (s.setColour g .green).onSeq (arrives g ((s.setColour g .green).group g).minInForce) := rfl

/-- A group that enters GREEN, with its timing in force, its demand and latch, and the change it belongs to. -/
theorem enterGreen_spec (h : (s.group g).colour ≠ .green) :
    ((s.enterGreen g).group g).colour = .green ∧ ((s.enterGreen g).group g).timeIn = 0 ∧
      ((s.enterGreen g).group g).minInForce = (s.gt g).minGreen ∧ ((s.enterGreen g).group g).latch = false ∧
      ((s.enterGreen g).group g).demand = s.standing g ∧ (s.enterGreen g).seq.dropped = s.seq.dropped ∧
      (s.enterGreen g).seq.gainingInstant g = none ∧
      (s.enterGreen g).seq.change = s.seq.change.map (fun ch =>
        { ch with gaining := ch.gaining.filter fun p => p.1 != g, minMax := max ch.minMax (s.gt g).minGreen }) ∧
      ∀ k, k ≠ g → ((s.enterGreen g).group k).colour = (s.group k).colour := by
  obtain ⟨hc, ht, hm, -, hd, hl⟩ := ownOf_setColour_self (s := s) (g := g) (col := .green) h
  obtain ⟨hch, hdr, -⟩ := change_setColour (s := s) (g := g) (col := .green)
  have hmin : ((s.setColour g .green).group g).minInForce = (s.gt g).minGreen := hm
  obtain ⟨hgroup, hdropped, hgain, hchange⟩ := arrives_spec (s := s.setColour g .green) (g := g) (s.gt g).minGreen
  rw [enterGreen_eq, hmin]
  rw [hdr] at hdropped
  rw [hch] at hchange
  refine ⟨by rw [hgroup, hc], by rw [hgroup, ht], by rw [hgroup, hmin], by rw [hgroup, hl]; rfl, by rw [hgroup, hd]; rfl,
    hdropped, hgain, hchange, fun k hk => ?_⟩
  rw [hgroup]; exact colour_setColour_other hk

/-! ### The late join (R32) -/

/-- A dropped group out of the dropped list. -/
def undropped (g : Gid) (q : Seq) : Seq := { q with dropped := q.dropped.filter fun p => p.1 != g }

/-- A late joiner among the gaining groups, with the instant it keeps. -/
def joins (g : Gid) (ra : Nat) (i : Option Nat) (q : Seq) : Seq :=
  { q with
    change := q.change.map fun ch => { ch with gaining := ch.gaining ++ [(g, q.tick + ra)] }
    joined := q.joined ++ [(g, i.getD q.tick)] }

theorem joinLate_redAmber (h : 0 < s.redAmberOf g) :
    s.joinLate g = ((s.onSeq (undropped g)).setColour g .redAmber).onSeq (joins g (s.redAmberOf g) (s.seq.droppedInstant g)) :=
  if_pos h

theorem joinLate_green (h : s.redAmberOf g = 0) : s.joinLate g = (s.onSeq (undropped g)).enterGreen g :=
  if_neg (by rw [h]; exact Nat.lt_irrefl 0)

theorem undropped_spec : (∀ k, (s.onSeq (undropped g)).group k = s.group k) ∧
    ∀ p ∈ (s.onSeq (undropped g)).seq.dropped, p.1 ≠ g :=
  ⟨fun _ => rfl, fun _ hp => bne_iff_ne.mp (List.mem_filter.mp hp).2⟩

theorem joins_spec (n : Nat) (i : Option Nat) : (∀ k, (s.onSeq (joins g n i)).group k = s.group k) ∧
    (s.onSeq (joins g n i)).seq.dropped = s.seq.dropped ∧
    (s.onSeq (joins g n i)).seq.joined = s.seq.joined ++ [(g, i.getD s.seq.tick)] ∧
    (s.onSeq (joins g n i)).seq.change =
      s.seq.change.map (fun ch => { ch with gaining := ch.gaining ++ [(g, s.seq.tick + n)] }) :=
  ⟨fun _ => rfl, rfl, rfl, rfl⟩

/-- A late joiner that starts with a RED_AMBER. -/
theorem joinLate_redAmber_spec (h : 0 < s.redAmberOf g) (hc : (s.group g).colour ≠ .redAmber) :
    (∀ p ∈ (s.joinLate g).seq.dropped, p.1 ≠ g) ∧ ((s.joinLate g).group g).colour = .redAmber ∧
      ((s.joinLate g).group g).timeIn = 0 ∧
      (s.joinLate g).seq.joined = s.seq.joined ++ [(g, (s.seq.droppedInstant g).getD s.seq.tick)] ∧
      (s.seq.change ≠ none →
        ∃ ch, (s.joinLate g).seq.change = some ch ∧ (g, s.seq.tick + s.redAmberOf g) ∈ ch.gaining) ∧
      ∀ k, k ≠ g → ((s.joinLate g).group k).colour = (s.group k).colour := by
  rw [joinLate_redAmber h]
  obtain ⟨ugroup, udropped⟩ := undropped_spec (s := s) (g := g)
  obtain ⟨hcol, htime, -⟩ := ownOf_setColour_self (s := s.onSeq (undropped g)) (g := g) (col := .redAmber) hc
  obtain ⟨hch, hdr, hjo, htick⟩ := change_setColour (s := s.onSeq (undropped g)) (g := g) (col := .redAmber)
  obtain ⟨jgroup, jdropped, jjoined, jchange⟩ := joins_spec (s := (s.onSeq (undropped g)).setColour g .redAmber) (g := g)
    (s.redAmberOf g) (s.seq.droppedInstant g)
  rw [jgroup, jdropped, jjoined, jchange, hch, hdr, hjo, htick]
  refine ⟨udropped, hcol, htime, rfl, fun hn => ?_, fun k hk => ?_⟩
  · obtain ⟨ch, hs⟩ := Option.ne_none_iff_exists'.mp hn
    have hs' : (s.onSeq (undropped g)).seq.change = some ch := hs
    exact ⟨_, by rw [hs']; rfl, List.mem_append.mpr (.inr (List.mem_singleton.mpr rfl))⟩
  · rw [jgroup]; exact colour_setColour_other hk

/-- A late joiner without a red-amber. -/
theorem joinLate_green_spec (h : s.redAmberOf g = 0) (hc : (s.group g).colour ≠ .green) :
    (∀ p ∈ (s.joinLate g).seq.dropped, p.1 ≠ g) ∧ ((s.joinLate g).group g).colour = .green ∧
      ((s.joinLate g).group g).minInForce = (s.gt g).minGreen ∧ ((s.joinLate g).group g).demand = s.standing g ∧
      ∀ k, k ≠ g → ((s.joinLate g).group k).colour = (s.group k).colour := by
  rw [joinLate_green h]
  obtain ⟨hcol, -, hmin, -, hdem, hdrop, -, -, hrest⟩ := enterGreen_spec (s := s.onSeq (undropped g)) (g := g) hc
  rw [hdrop]
  exact ⟨undropped_spec.2, hcol, hmin, hdem, hrest⟩

/-! ### The events of the groups on their way -/

/-- Such an event ends its step with the additions counted, and touches no configuration, clock or input. -/
theorem finish_greens (hb : s.betweenSteps) (h : Acts G greenParts s u) :
    State.finish s u = State.closeAdditions s u ∧ u.cfg = s.cfg ∧ u.clk = s.clk ∧ u.det = s.det ∧ u.cabinet = s.cabinet :=
  ⟨finish_closes (noCommit_of_kept hb h.modes_eq h.cfg_eq) (Causes.inhibited_of_acts h), h.cfg_eq, h.clk_eq, h.det_eq,
    by unfold State.cabinet; rw [h.cfg_eq]⟩

theorem redAmberOf_traffic (h : s.kind g = some .traffic) : s.redAmberOf g = (s.gt g).redAmber := by
  unfold State.redAmberOf; rw [h]

theorem redAmberDue_of {i : Nat} (ht : s.seq.tickOpen = true) (hm : s.sup.mode = .normal)
    (hg : s.seq.gainingInstant g = some i) (hk : s.kind g = some .traffic) (hr : 0 < (s.gt g).redAmber)
    (hc : (s.group g).colour = .red) (hi : i ≤ s.seq.tick + (s.gt g).redAmber) : s.redAmberDue g = true := by
  unfold State.redAmberDue
  rw [Sequencing.normalTick_of ht hm, hk, redAmberOf_traffic hk, hc, hg, decide_eq_true hr]
  exact decide_eq_true hi

theorem greenDue_gaining {i : Nat} (ht : s.seq.tickOpen = true) (hm : s.sup.mode = .normal)
    (hg : s.seq.gainingInstant g = some i) (hi : i ≤ s.seq.tick) (hc : s.beforeGreen g = true) : s.greenDue g = true := by
  unfold State.greenDue
  rw [Sequencing.normalTick_of ht hm, hg]
  show (decide (i ≤ s.seq.tick) && s.beforeGreen g) = true
  rw [hc, decide_eq_true hi]
  rfl

theorem greenDue_joiner (ht : s.seq.tickOpen = true) (hm : s.sup.mode = .normal) (hg : s.seq.gainingInstant g = none)
    (hc : (s.group g).colour = .redAmber) (hi : (s.group g).redAmberInForce ≤ (s.group g).timeIn) : s.greenDue g = true := by
  unfold State.greenDue
  rw [Sequencing.normalTick_of ht hm, hg]
  show ((s.group g).colour == Colour.redAmber && decide ((s.group g).redAmberInForce ≤ (s.group g).timeIn)) = true
  rw [hc, decide_eq_true hi]
  rfl

theorem joinDue_of {i : Nat} {b : Stg} (ht : s.seq.tickOpen = true) (hm : s.sup.mode = .normal) (he : s.seq.endDue = none)
    (hn : (s.group g).inhibited = false) (hc : (s.group g).colour = .red ∨ (s.group g).colour = .dark)
    (hj : s.seq.joinable = some b) (hb : g ∈ s.stage b) (hd : s.seq.droppedInstant g = some i) (hi : i ≤ s.seq.tick) :
    s.joinDue g = true := by
  unfold State.joinDue
  rw [Sequencing.normalTick_of ht hm, he, hn, waiting_iff.mpr hc, hj, hd]
  show ((s.stage b).contains g && decide (i ≤ s.seq.tick)) = true
  rw [List.contains_iff_mem.mpr hb, decide_eq_true hi]
  rfl

/-- A group that stands before GREEN is not in GREEN. -/
theorem beforeGreen_ne (h : s.beforeGreen g = true) : (s.group g).colour ≠ .green := by
  intro hc
  unfold State.beforeGreen at h
  rw [hc] at h
  split at h <;> exact absurd h (by decide)

theorem auxLit_unlatched {x : Fin 8} (hx : s.cabinet.aux.get x = some g) (hl : (s.group g).latch = false) :
    s.auxLit x = false := by
  unfold State.auxLit; rw [hx]; simp only [hl, Bool.false_and]

end Stages

open Acts Ending Stages

/-- Settles O49. Each event has its instant, and a group that is inhibited is dropped instead. -/
theorem gainingGroupsEnterGreenOrAreDropped : Obligations.GainingGroupsEnterGreenOrAreDropped := by
  unfold Obligations.GainingGroupsEnterGreenOrAreDropped
  intro s g hb ht hm
  refine ⟨fun i hg hk hr hc hi => ?_, fun i hg hi hc => ?_, fun hg hc hi => ?_, fun i b he hn hc hj hmem hd hi => ?_⟩
  · have hdue := redAmberDue_of ht hm hg hk hr hc hi
    have hacts : Acts (fun _ => True) greenParts s (s.startRedAmber g) := acts_startRedAmber (fun _ => trivial) hdue
    obtain ⟨hfin, hcfg, hclk, hdet, -⟩ := finish_greens hb hacts
    have hexec : exec (.redAmberStart g) s = .next (State.closeAdditions s (s.startRedAmber g)) := by
      show Host.Outcome.next (if s.redAmberDue g = true then _ else s) = _
      rw [if_pos hdue, hfin]
    refine ⟨_, hexec, ?_⟩
    simp only [closeAdditions_seq, closeAdditions_group, closeAdditions_cfg, closeAdditions_clk, closeAdditions_det]
    cases hin : (s.group g).inhibited with
    | false =>
      have heq : s.startRedAmber g = s.setColour g .redAmber := if_neg (by rw [hin]; decide)
      rw [heq] at hcfg hclk hdet ⊢
      obtain ⟨hcol, htime, -, hred, -⟩ := ownOf_setColour_self (s := s) (g := g) (col := .redAmber) (by rw [hc]; decide)
      obtain ⟨hch, hdr, -⟩ := change_setColour (s := s) (g := g) (col := .redAmber)
      exact ⟨fun _ => ⟨hcol, htime, hred, hch, hdr⟩, fun h => absurd h (by decide),
        fun k hk => colour_setColour_other hk, hcfg, hclk, hdet⟩
    | true =>
      have heq : s.startRedAmber g = _ := (if_pos hin).trans (dropIfInhibited_gaining hin hg)
      rw [heq] at hcfg hclk hdet ⊢
      obtain ⟨hcol, -, hdr, hgain, hrest⟩ := dropGroup_spec (s := s) (g := g) ((s.seq.joinedInstant g).getD i)
      rw [if_neg (by rw [hc]; decide), hc] at hcol
      exact ⟨fun h => absurd h (by decide), fun _ => ⟨hcol, hgain, hdr⟩, hrest, hcfg, hclk, hdet⟩
  · have hdue := greenDue_gaining ht hm hg hi hc
    have hacts : Acts (fun _ => True) greenParts s (s.takeGreen g) := acts_takeGreen (fun _ => trivial) hdue
    obtain ⟨hfin, hcfg, hclk, hdet, hcab⟩ := finish_greens hb hacts
    have hexec : exec (.greenInstant g) s = .next (State.closeAdditions s (s.takeGreen g)) := by
      show Host.Outcome.next (if s.greenDue g = true then _ else s) = _
      rw [if_pos hdue, hfin]
    refine ⟨_, hexec, ?_⟩
    have hunlit (x : Fin 8) (hx : s.cabinet.aux.get x = some g) (hl : ((s.takeGreen g).group g).latch = false) :
        (State.closeAdditions s (s.takeGreen g)).auxLit x = false := by
      refine auxLit_unlatched (g := g) ?_ (by rw [closeAdditions_group]; exact hl)
      rw [← hx, ← hcab]
      unfold State.cabinet
      rw [closeAdditions_cfg]
    simp only [closeAdditions_seq, closeAdditions_group, closeAdditions_cfg, closeAdditions_clk, closeAdditions_det]
    cases hin : (s.group g).inhibited with
    | false =>
      have heq : s.takeGreen g = s.enterGreen g := if_neg (by rw [hin]; decide)
      rw [heq] at hcfg hclk hdet hunlit ⊢
      obtain ⟨hcol, htime, hmin, hlatch, hdem, hdr, hgain, -, hrest⟩ := enterGreen_spec (beforeGreen_ne hc)
      exact ⟨fun _ => ⟨hcol, htime, hmin, hlatch, hdem, hgain, hdr, fun x hx => hunlit x hx hlatch⟩,
        fun h => absurd h (by decide), hrest, hcfg, hclk, hdet⟩
    | true =>
      have heq : s.takeGreen g = _ := (if_pos hin).trans (dropIfInhibited_gaining hin hg)
      rw [heq] at hcfg hclk hdet ⊢
      obtain ⟨hcol, hdem, hdr, hgain, hrest⟩ := dropGroup_spec (s := s) (g := g) ((s.seq.joinedInstant g).getD i)
      refine ⟨fun h => absurd h (by decide), fun _ => ⟨?_, ?_, hdem, hgain, hdr⟩, hrest, hcfg, hclk, hdet⟩
      · rw [hcol]
        split
        · decide
        · exact beforeGreen_ne hc
      · rw [hcol]
        split
        · decide
        · next h => exact h
  · have hdue := greenDue_joiner ht hm hg hc hi
    have hacts : Acts (fun _ => True) greenParts s (s.takeGreen g) := acts_takeGreen (fun _ => trivial) hdue
    obtain ⟨hfin, hcfg, hclk, hdet, -⟩ := finish_greens hb hacts
    have hexec : exec (.greenInstant g) s = .next (State.closeAdditions s (s.takeGreen g)) := by
      show Host.Outcome.next (if s.greenDue g = true then _ else s) = _
      rw [if_pos hdue, hfin]
    refine ⟨_, hexec, ?_⟩
    simp only [closeAdditions_seq, closeAdditions_group, closeAdditions_cfg, closeAdditions_clk, closeAdditions_det]
    cases hin : (s.group g).inhibited with
    | false =>
      have heq : s.takeGreen g = s.enterGreen g := if_neg (by rw [hin]; decide)
      rw [heq] at hcfg hclk hdet ⊢
      obtain ⟨hcol, htime, hmin, hlatch, hdem, hdr, -, hch, hrest⟩ := enterGreen_spec (s := s) (g := g) (by rw [hc]; decide)
      exact ⟨fun _ => ⟨hcol, htime, hmin, hlatch, hdem, hdr, hch⟩, fun h => absurd h (by decide), hrest, hcfg, hclk, hdet⟩
    | true =>
      have heq : s.takeGreen g = _ := (if_pos hin).trans (dropIfInhibited_joiner hin hg hc)
      rw [heq] at hcfg hclk hdet ⊢
      obtain ⟨hcol, hdem, hdr, -, hrest⟩ := dropGroup_spec (s := s) (g := g) ((s.seq.joinedInstant g).getD s.seq.tick)
      rw [if_pos hc] at hcol
      refine ⟨fun h => absurd h (by decide), fun _ => ⟨hcol, hdem, fun i hj => ?_⟩, hrest, hcfg, hclk, hdet⟩
      rw [hdr, hj]; rfl
  · have hdue := joinDue_of ht hm he hn hc hj hmem hd hi
    have hacts : Acts (fun _ => True) greenParts s (s.joinLate g) := acts_joinLate (fun _ => trivial) hdue
    obtain ⟨hfin, hcfg, hclk, hdet, -⟩ := finish_greens hb hacts
    have hexec : exec (.lateJoin g) s = .next (State.closeAdditions s (s.joinLate g)) := by
      show Host.Outcome.next (if s.joinDue g = true then _ else s) = _
      rw [if_pos hdue, hfin]
    refine ⟨_, hexec, ?_⟩
    simp only [closeAdditions_seq, closeAdditions_group, closeAdditions_cfg, closeAdditions_clk, closeAdditions_det]
    rcases Nat.eq_zero_or_pos (s.redAmberOf g) with hz | hpos
    · obtain ⟨hdrop, hcol, hmin, hdem, hrest⟩ := joinLate_green_spec hz (by rcases hc with h | h <;> rw [h] <;> decide)
      exact ⟨hdrop, fun h => absurd hz h.ne', fun _ => ⟨hcol, hmin, hdem⟩, hrest, hcfg, hclk, hdet⟩
    · obtain ⟨hdrop, hcol, htime, hjoined, hch, hrest⟩ :=
        joinLate_redAmber_spec hpos (by rcases hc with h | h <;> rw [h] <;> decide)
      rw [hd] at hjoined
      exact ⟨hdrop, fun _ => ⟨hcol, htime, hjoined, hch⟩, fun h => absurd h hpos.ne', hrest, hcfg, hclk, hdet⟩

end Sys2Proof.Machine
end

section
/-! PROOFS. The inputs: pin changes, accepted changes, stuck faults and overstays (O46, O47). -/

namespace Sys2Proof.Machine

set_option Elab.async false

namespace Inputs

open Acts Ending

variable {G : Gid → Prop} {K : List Part} {before s t u : State} {d : Det} {g : Gid}

/-! ### Fields that actions of other parts leave -/

theorem line_of {α : Type} (p : Seq → α) (h : Seq.line t.seq = Seq.line s.seq)
    (hp : ∀ q, p (Seq.line q) = p q := by intros; rfl) : p t.seq = p s.seq := by rw [← hp t.seq, h, hp]

/-- What an event of an input leaves alone: every block but the inputs, the fault table, and in the groups' records all
but demand and latch. -/
theorem rests_of (h : Acts G inputParts s t) : t.cfg = s.cfg ∧ t.clk = s.clk ∧ t.sch = s.sch ∧ t.out = s.out ∧
    t.lmp = s.lmp ∧ t.cbt = s.cbt ∧ t.sup = s.sup ∧ ∀ g, (t.group g).colour = (s.group g).colour :=
  ⟨h.cfg_eq, h.clk_eq, h.sch_eq, h.out_eq, h.lmp_eq, h.cbt_eq, h.sup_eq, fun g => h.colour_eq g⟩

/-- An event of an input ends its step with the additions counted. -/
theorem finish_inputs (hb : s.betweenSteps) (h : Acts G inputParts s t) : State.finish s t = State.closeAdditions s t :=
  finish_closes (noCommit_of_kept hb h.modes_eq h.cfg_eq) (Causes.inhibited_of_acts h)

/-! ### The gap timer (R34) -/

/-- What the hold value of the gap timer rests on. -/
def Grounds (s t : State) : Prop :=
  t.cfg = s.cfg ∧ t.seq.running = s.seq.running ∧ t.seq.change = s.seq.change ∧
    ∀ g, (t.group g).colour = (s.group g).colour

theorem Grounds.greenMember (h : Grounds s t) (g : Gid) : t.greenMember g = s.greenMember g := by
  obtain ⟨hcfg, hrun, hch, hcol⟩ := h
  unfold State.greenMember State.stageMembers State.stage
  rw [hcol, hrun, hch, hcfg]

theorem Grounds.extensionOf (h : Grounds s t) (d : Det) : t.extensionOf d = s.extensionOf d := by
  have hf : t.greenMember = s.greenMember := funext h.greenMember
  unfold State.extensionOf State.detector State.gt
  rw [hf, h.1]

theorem Grounds.gapHold (h : Grounds s t) (hd : t.det = s.det) : t.gapHold = s.gapHold := by
  have he : t.extensionOf = s.extensionOf := funext h.extensionOf
  unfold State.gapHold State.activeDetector State.detector State.input
  rw [he, h.1, hd]

theorem grounds_of (h : Acts G K s t) (hK : Part.colour ∉ K ∧ Part.seq ∉ K ∧ Part.cfg ∉ K := by decide) : Grounds s t :=
  ⟨h.cfg_eq hK.2.2, line_of Seq.running (h.line_eq hK.2.1), line_of Seq.change (h.line_eq hK.2.1), fun g => h.colour_eq g hK.1⟩

theorem grounds_gap (v : Nat) : Grounds s (s.onSeq fun q => { q with gap := v }) := ⟨rfl, rfl, rfl, fun _ => rfl⟩

theorem holdGap_some {v : Nat} (h : s.gapHold = some v) : s.holdGap = s.onSeq fun q => { q with gap := v } := by
  unfold State.holdGap; rw [h]

theorem holdGap_none (h : s.gapHold = none) : s.holdGap = s := by unfold State.holdGap; rw [h]

/-- The gap timer is at the hold value where it is held, and else as it was. -/
theorem holdGap_spec : s.holdGap.gapHold = s.gapHold ∧ (∀ v, s.gapHold = some v → s.holdGap.seq.gap = v) ∧
    (s.gapHold = none → s.holdGap.seq.gap = s.seq.gap) := by
  cases h : s.gapHold with
  | none => rw [holdGap_none h]; exact ⟨h, fun _ hv => absurd hv nofun, fun _ => rfl⟩
  | some v =>
    rw [holdGap_some h, (grounds_gap v).gapHold rfl]
    exact ⟨h, fun w hw => Option.some.inj hw, fun hn => absurd hn nofun⟩

/-- A gap timer brought to its hold value stands there, whatever is counted and answered afterwards. -/
theorem held_closeAdditions (u : State) : (∀ v, (State.closeAdditions before u.holdGap).gapHold = some v →
      (State.closeAdditions before u.holdGap).seq.gap = v) ∧
    ((State.closeAdditions before u.holdGap).gapHold = none → (State.closeAdditions before u.holdGap).seq.gap = u.seq.gap) := by
  have hg : Grounds u.holdGap (State.closeAdditions before u.holdGap) :=
    ⟨closeAdditions_cfg _ _, by rw [closeAdditions_seq], by rw [closeAdditions_seq], fun g => by rw [closeAdditions_group]⟩
  obtain ⟨hhold, hsome, hnone⟩ := holdGap_spec (s := u)
  rw [hg.gapHold (closeAdditions_det _ _), closeAdditions_seq, hhold]
  exact ⟨hsome, hnone⟩

/-! ### Demand (R19 to R21) -/

theorem placeDemand_demand (hm : s.sup.mode ≠ .unconfigured) (hk : s.kind g ≠ none) (hc : (s.group g).colour ≠ .green) :
    ((s.placeDemand g).group g).demand = true := by
  have hf : s.fitted g = true := Option.isSome_iff_ne_none.mpr hk
  unfold State.placeDemand
  rw [if_neg (by rw [hf]; simp [hm, hc])]
  unfold State.group State.onGroup
  rw [State.onSeq_seq, Tab.get_modify_self]

/-- A demand or a latch that stands is not taken away. -/
def Grows (s t : State) : Prop := t.sup.mode = s.sup.mode ∧ t.cfg = s.cfg ∧ ∀ g, (t.group g).colour = (s.group g).colour ∧
  ((s.group g).demand = true → (t.group g).demand = true) ∧ ((s.group g).latch = true → (t.group g).latch = true)

theorem Grows.refl (s : State) : Grows s s := ⟨rfl, rfl, fun _ => ⟨rfl, id, id⟩⟩

theorem Grows.trans (h : Grows s t) (h' : Grows t u) : Grows s u :=
  ⟨h'.1.trans h.1, h'.2.1.trans h.2.1, fun g => ⟨(h'.2.2 g).1.trans (h.2.2 g).1, fun x => (h'.2.2 g).2.1 ((h.2.2 g).2.1 x),
    fun x => (h'.2.2 g).2.2 ((h.2.2 g).2.2 x)⟩⟩

theorem grows_onGroup {f : GroupRun → GroupRun} (hf : ∀ r, (f r).colour = r.colour ∧
    (r.demand = true → (f r).demand = true) ∧ (r.latch = true → (f r).latch = true)) : Grows s (s.onGroup g f) := by
  refine ⟨rfl, rfl, fun k => ?_⟩
  unfold State.group State.onGroup
  rw [State.onSeq_seq, Tab.get_modify]
  split
  · exact hf _
  · exact ⟨rfl, id, id⟩

theorem grows_placeDemand : Grows s (s.placeDemand g) := by
  unfold State.placeDemand
  split
  · exact Grows.refl s
  · exact grows_onGroup fun _ => ⟨rfl, fun _ => rfl, id⟩

theorem grows_latch : Grows s (s.onGroup g fun r => { r with latch := true }) :=
  grows_onGroup fun _ => ⟨rfl, id, fun _ => rfl⟩

theorem grows_pressButton : Grows s (s.pressButton g) := by
  unfold State.pressButton
  split
  · exact Grows.refl s
  · exact grows_latch.trans grows_placeDemand

/-- A button actuation sets the latch and the demand of a pedestrian group out of GREEN. -/
theorem pressButton_spec (hm : s.sup.mode ≠ .unconfigured) (hk : s.kind g = some .pedestrian)
    (hc : (s.group g).colour ≠ .green) :
    ((s.pressButton g).group g).latch = true ∧ ((s.pressButton g).group g).demand = true := by
  have hlatched : ((s.onGroup g fun r => { r with latch := true }).group g).latch = true := by
    unfold State.group State.onGroup
    rw [State.onSeq_seq, Tab.get_modify_self]
  have hcolour : ((s.onGroup g fun r => { r with latch := true }).group g).colour ≠ .green := by
    rw [(grows_latch.2.2 g).1]; exact hc
  have heq : s.pressButton g = (s.onGroup g fun r => { r with latch := true }).placeDemand g := by
    unfold State.pressButton; rw [if_neg (by simp [hm, hk, hc])]
  rw [heq]
  refine ⟨(grows_placeDemand.2.2 g).2.2 hlatched, placeDemand_demand hm ?_ hcolour⟩
  show s.kind g ≠ none
  rw [hk]; exact nofun

/-- What one step over a group's list does for its own group, the whole list does for each. -/
theorem grows_foldl {f : State → Gid → State} (hf : ∀ s g, Grows s (f s g)) (l : List Gid) (s : State) :
    Grows s (l.foldl f s) := by
  induction l generalizing s with
  | nil => exact Grows.refl s
  | cons a l ih => exact (hf s a).trans (ih _)

theorem foldl_reaches {f : State → Gid → State} (hf : ∀ s g, Grows s (f s g)) {l : List Gid} (hg : g ∈ l) (s : State) :
    ∃ w, Grows s w ∧ Grows (f w g) (l.foldl f s) := by
  induction l generalizing s with
  | nil => exact absurd hg List.not_mem_nil
  | cons a l ih =>
    rcases List.mem_cons.mp hg with rfl | hg
    · exact ⟨s, Grows.refl s, grows_foldl hf l _⟩
    · obtain ⟨w, hw, hw'⟩ := ih hg (f s a)
      exact ⟨w, (hf s a).trans hw, hw'⟩

theorem foldl_placeDemand (hm : s.sup.mode ≠ .unconfigured) {l : List Gid} (hg : g ∈ l) (hk : s.kind g ≠ none)
    (hc : (s.group g).colour ≠ .green) : ((l.foldl State.placeDemand s).group g).demand = true := by
  obtain ⟨w, ⟨wm, wcfg, wg⟩, hw'⟩ := foldl_reaches (fun _ _ => grows_placeDemand) hg s
  refine (hw'.2.2 g).2.1 (placeDemand_demand (by rw [wm]; exact hm) ?_ (by rw [(wg g).1]; exact hc))
  unfold State.kind State.groupRec at hk ⊢
  rw [wcfg]; exact hk

theorem foldl_pressButton (hm : s.sup.mode ≠ .unconfigured) {l : List Gid} (hg : g ∈ l) (hk : s.kind g = some .pedestrian)
    (hc : (s.group g).colour ≠ .green) :
    ((l.foldl State.pressButton s).group g).latch = true ∧ ((l.foldl State.pressButton s).group g).demand = true := by
  obtain ⟨w, ⟨wm, wcfg, wg⟩, hw'⟩ := foldl_reaches (fun _ _ => grows_pressButton) hg s
  have hkind : w.kind g = some .pedestrian := by
    unfold State.kind State.groupRec at hk ⊢
    rw [wcfg]; exact hk
  obtain ⟨hl, hd⟩ := pressButton_spec (by rw [wm]; exact hm) hkind (by rw [(wg g).1]; exact hc)
  exact ⟨(hw'.2.2 g).2.2 hl, (hw'.2.2 g).2.1 hd⟩

/-- A standing cause that holds now is a demand after the causes were judged again (R20). -/
theorem refreshStanding_demand (h : s.standing g = true) : ((State.refreshStanding before s).group g).demand = true := by
  unfold State.group State.refreshStanding
  rw [State.onSeq_seq, Tab.get_ofFn]
  show GroupRun.demandAfter _ _ (s.standing g) = true
  rw [h]; rfl

/-! ### The priority list (R38 to R41) -/

/-- The fields that the service of the priority list leaves alone. -/
def Seq.sides (q : Seq) := (q.priority, q.barred, q.gap, q.groups)

theorem sides_serveHead : Seq.sides s.serveHead.seq = Seq.sides s.seq := by
  unfold State.serveHead
  split
  · rfl
  · split
    · rfl
    · split
      · rfl
      · rfl

theorem sides_returnToPlan (b : Stg) : Seq.sides (s.returnToPlan b).seq = Seq.sides s.seq := by
  unfold State.returnToPlan
  dsimp only
  split
  · split
    · split
      · rfl
      · rfl
    · rfl
  · rfl

theorem sides_beginService : Seq.sides s.beginService.seq = Seq.sides s.seq := by
  unfold State.beginService
  rw [State.onSeq_seq]
  dsimp only
  split
  · rfl
  · rfl

/-- A list without the first request. -/
def listed (l : List PriorityReq) (q : Seq) : Seq := { q with priority := l }

theorem removeRequest_none (h : s.seq.priority = []) : s.removeRequest d = s := by unfold State.removeRequest; rw [h]

theorem removeRequest_behind {r : PriorityReq} {l : List PriorityReq} (h : s.seq.priority = r :: l) (hd : r.input ≠ d) :
    s.removeRequest d = s.onSeq (listed (r :: l.filter fun r => r.input != d)) := by
  unfold State.removeRequest; rw [h]; exact if_neg hd

theorem removeRequest_last {r : PriorityReq} (h : s.seq.priority = [r]) (hd : r.input = d) :
    s.removeRequest d = (s.onSeq (listed [])).returnToPlan r.target := hd ▸ Laws.removeRequest_last h

theorem removeRequest_head {r r' : PriorityReq} {l : List PriorityReq} (h : s.seq.priority = r :: r' :: l) (hd : r.input = d) :
    s.removeRequest d = (s.onSeq (listed (r' :: l))).serveHead := by
  unfold State.removeRequest; rw [h]; exact if_pos hd

theorem sides_removeHead {r : PriorityReq} {l : List PriorityReq} (h : s.seq.priority = r :: l) (hd : r.input = d) :
    Seq.sides (s.removeRequest d).seq = Seq.sides (listed l s.seq) := by
  cases l with
  | nil => rw [removeRequest_last h hd]; exact sides_returnToPlan _
  | cons r' l => rw [removeRequest_head h hd]; exact sides_serveHead

/-- The list after an input's request has left it, with what the service leaves alone. -/
theorem sides_removeRequest (h : (s.seq.priority.map (·.input)).Nodup) :
    Seq.sides (s.removeRequest d).seq = Seq.sides (listed (s.seq.priority.filter fun r => r.input != d) s.seq) := by
  cases hp : s.seq.priority with
  | nil => rw [removeRequest_none hp]; unfold Seq.sides listed; rw [hp]; rfl
  | cons r l =>
    rw [hp, List.map_cons, List.nodup_cons] at h
    by_cases hd : r.input = d
    · have hrest : (r :: l).filter (fun r => r.input != d) = l := by
        rw [List.filter_cons_of_neg (by simp [hd])]
        exact List.filter_eq_self.mpr fun x hx => bne_iff_ne.mpr fun he => h.1 (hd ▸ he ▸ List.mem_map_of_mem hx)
      rw [hrest]; exact sides_removeHead hp hd
    · rw [removeRequest_behind hp hd, List.filter_cons_of_pos (p := fun r : PriorityReq => r.input != d) (bne_iff_ne.mpr hd)]
      rfl

theorem removeRequest_spec (h : (s.seq.priority.map (·.input)).Nodup) :
    (s.removeRequest d).seq.priority = s.seq.priority.filter (fun r => r.input != d) ∧
      (s.removeRequest d).seq.barred = s.seq.barred ∧ (s.removeRequest d).seq.gap = s.seq.gap ∧
      ∀ g, (s.removeRequest d).group g = s.group g := by
  have hsides := sides_removeRequest (d := d) h
  simp only [Seq.sides, Prod.mk.injEq] at hsides
  obtain ⟨hp, hb, hg, hgroups⟩ := hsides
  exact ⟨hp, hb, hg, fun g => by unfold State.group; rw [hgroups]; rfl⟩

theorem absent_filter {l : List PriorityReq} : ∀ r ∈ l.filter (fun r => r.input != d), r.input ≠ d :=
  fun _ hr => bne_iff_ne.mp (List.mem_filter.mp hr).2

/-! ### A stuck input (R95 to R97) -/

theorem stuckServes_of (hk : (s.detector d).kind ≠ none) (hf : (s.input d).fault ≠ .none) (hg : g ∈ (s.detector d).served) :
    s.stuckServes g = true := by
  unfold State.stuckServes
  refine List.any_eq_true.mpr ⟨d, List.mem_finRange d, ?_⟩
  have hu : s.inputUsed d = true := Option.isSome_iff_ne_none.mpr hk
  rw [hu, bne_iff_ne.mpr hf, List.contains_iff_mem.mpr hg]
  rfl

theorem standing_of_stuck (hk : (s.detector d).kind ≠ none) (hf : (s.input d).fault ≠ .none) (hg : g ∈ (s.detector d).served)
    (hfit : s.kind g ≠ none) : s.standing g = true := by
  have hfitted : s.fitted g = true := Option.isSome_iff_ne_none.mpr hfit
  unfold State.standing
  rw [hfitted, stuckServes_of hk hf hg, Bool.or_true]
  rfl

theorem declareStuck_spec {f : DetFault} {k : FaultKind} (hf : f ≠ .none) (hk : (s.detector d).kind ≠ none)
    (hroom : s.flt.entries.length < 64) :
    ((s.declareStuck d f k).input d).fault = f ∧ (∀ j, j ≠ d → (s.declareStuck d f k).input j = s.input j) ∧
      (∀ g ∈ (s.detector d).served, s.kind g ≠ none → ((s.declareStuck d f k).group g).demand = true) ∧
      (∃ e ∈ (s.declareStuck d f k).flt.entries, e.kind = k ∧ e.subject = .input d ∧ e.active = true ∧
        e.safety = k.listedSafety) ∧
      Seq.line (s.declareStuck d f k).seq = Seq.line s.seq := by
  refine ⟨?_, fun j hj => State.onInput_other s _ (Ne.symm hj), fun g hg hfit => ?_, ?_, rfl⟩
  · show ((s.onInput d fun r => { r with fault := f }).input d).fault = f
    rw [State.onInput_self]
  · refine refreshStanding_demand (standing_of_stuck (d := d) hk ?_ hg hfit)
    show ((s.onInput d fun r => { r with fault := f }).input d).fault ≠ .none
    rw [State.onInput_self]; exact hf
  · obtain ⟨e, he, h1, h2, h3, -, h4, -⟩ := Laws.report_active s.flt k (.input d) k.listedSafety s.stamp hroom
    exact ⟨e, he, h1, h2, h3, h4⟩

theorem stuckOnDue_of (ht : s.seq.tickOpen = true) (hk : (s.detector d).kind ≠ none) (hf : (s.input d).fault = .none)
    (ha : (s.input d).accepted = true) (hp : 0 < (s.detector d).maxPresence)
    (hl : (s.detector d).maxPresence * 600 ≤ (s.input d).stateTime) : s.stuckOnDue d = true := by
  have hu : s.inputUsed d = true := Option.isSome_iff_ne_none.mpr hk
  unfold State.stuckOnDue
  rw [ht, hu, ha, hf, bne_iff_ne.mpr hp.ne', decide_eq_true hl]
  rfl

theorem stuckOffDue_of (ht : s.seq.tickOpen = true) (hk : (s.detector d).kind ≠ none) (hf : (s.input d).fault = .none)
    (ha : (s.input d).accepted = false) (hp : 0 < (s.detector d).maxAbsence)
    (hl : (s.detector d).maxAbsence * 36000 ≤ (s.input d).stateTime) : s.stuckOffDue d = true := by
  have hu : s.inputUsed d = true := Option.isSome_iff_ne_none.mpr hk
  unfold State.stuckOffDue
  rw [ht, hu, ha, hf, bne_iff_ne.mpr hp.ne', decide_eq_true hl]
  rfl

theorem overstayDue_of {r : PriorityReq} {l : List PriorityReq} (ht : s.seq.tickOpen = true) (hl : s.seq.priority = r :: l)
    (hp : 0 < (s.detector r.input).priorityMax) (hs : 10 * (s.detector r.input).priorityMax ≤ r.service) :
    s.overstayDue = true := by
  unfold State.overstayDue
  rw [ht, hl]
  show ((s.detector r.input).priorityMax != 0 && decide (10 * (s.detector r.input).priorityMax ≤ r.service)) = true
  rw [bne_iff_ne.mpr hp.ne', decide_eq_true hs]
  rfl

/-! ### An input that is stuck on, by its kind -/

theorem declareStuckOn_priority (h : (s.detector d).kind = some .priority) :
    s.declareStuckOn d = (s.declareStuck d .stuckOn .detectorStuckOn).removeRequest d := by
  unfold State.declareStuckOn; rw [h]

theorem declareStuckOn_presence (h : (s.detector d).kind = some .presence) :
    s.declareStuckOn d = (s.declareStuck d .stuckOn .detectorStuckOn).holdGap := by
  unfold State.declareStuckOn; rw [h]

theorem declareStuckOn_other (h : (s.detector d).kind ≠ some .priority) (h' : (s.detector d).kind ≠ some .presence) :
    s.declareStuckOn d = s.declareStuck d .stuckOn .detectorStuckOn := by
  unfold State.declareStuckOn
  dsimp only
  split
  · next hk => exact absurd hk h
  · next hk => exact absurd hk h'
  · rfl

/-- The request list and the gap timer after an input is stuck on. -/
theorem declareStuckOn_spec (hs : (s.seq.priority.map (·.input)).Nodup) :
    (s.declareStuckOn d).det = (s.declareStuck d .stuckOn .detectorStuckOn).det ∧
      (s.declareStuckOn d).flt = (s.declareStuck d .stuckOn .detectorStuckOn).flt ∧
      (∀ g, (s.declareStuckOn d).group g = (s.declareStuck d .stuckOn .detectorStuckOn).group g) ∧
      (s.declareStuckOn d).seq.barred = s.seq.barred ∧
      ((s.detector d).kind = some .priority → ∀ r ∈ (s.declareStuckOn d).seq.priority, r.input ≠ d) := by
  have hline : Seq.line (s.declareStuck d .stuckOn .detectorStuckOn).seq = Seq.line s.seq := rfl
  have hlist := line_of Seq.priority hline
  by_cases hp : (s.detector d).kind = some .priority
  · rw [declareStuckOn_priority hp]
    have hacts : Acts (fun _ => True) [.seq] _ _ := acts_removeRequest (s := s.declareStuck d .stuckOn .detectorStuckOn) d
    obtain ⟨hl, hb, -, hg⟩ := removeRequest_spec (s := s.declareStuck d .stuckOn .detectorStuckOn) (d := d) (by rw [hlist]; exact hs)
    exact ⟨hacts.det_eq, hacts.flt_eq, hg, hb, fun _ => hl ▸ absent_filter⟩
  · by_cases hq : (s.detector d).kind = some .presence
    · rw [declareStuckOn_presence hq]
      have hacts : Acts (fun _ => True) [.seq] _ _ := acts_holdGap (s := s.declareStuck d .stuckOn .detectorStuckOn)
      have hheld : ∀ w : State, w.holdGap.seq.barred = w.seq.barred ∧ ∀ g, w.holdGap.group g = w.group g := by
        intro w
        unfold State.holdGap
        split
        · exact ⟨rfl, fun _ => rfl⟩
        · exact ⟨rfl, fun _ => rfl⟩
      exact ⟨hacts.det_eq, hacts.flt_eq, (hheld _).2, (hheld _).1, fun h => absurd h hp⟩
    · rw [declareStuckOn_other hp hq]
      exact ⟨rfl, rfl, fun _ => rfl, rfl, fun h => absurd h hp⟩

end Inputs

open Acts Ending Inputs

/-- Settles O47. -/
theorem stuckInputsAndOverstays : Obligations.StuckInputsAndOverstays := by
  unfold Obligations.StuckInputsAndOverstays
  refine ⟨fun s d hb hs ht hk hf hroom => ⟨fun ha hp hl => ?_, fun ha hp hl => ?_⟩, fun s r l hb ht hl hp hm hroom => ?_⟩
  · have hacts : Acts (fun _ => True) inputParts s (s.declareStuckOn d) := acts_declareStuckOn d
    obtain ⟨hcfg, hclk, -, hout, -, -, hsup, -⟩ := rests_of hacts
    obtain ⟨hdet, hflt, hgroup, hbarred, hlist⟩ := declareStuckOn_spec (s := s) (d := d) hs.2.1
    obtain ⟨hstuck, hother, hdemand, hentry, -⟩ :=
      declareStuck_spec (s := s) (d := d) (f := .stuckOn) (k := .detectorStuckOn) (by decide) hk hroom
    have hexec : exec (.stuckOn d) s = .next (State.closeAdditions s (s.declareStuckOn d)) := by
      show Host.Outcome.next (if s.stuckOnDue d = true then _ else s) = _
      rw [if_pos (stuckOnDue_of ht hk hf ha hp hl), finish_inputs hb hacts]
    have hinput (j : Det) : (s.declareStuckOn d).input j = (s.declareStuck d .stuckOn .detectorStuckOn).input j := by
      unfold State.input; rw [hdet]
    have hheld (hq : (s.detector d).kind = some .presence) :=
      declareStuckOn_presence hq ▸ held_closeAdditions (before := s) (s.declareStuck d .stuckOn .detectorStuckOn)
    refine ⟨_, hexec, ?_, fun j hj => ?_, fun g hg hfit => ?_, ?_, fun hq => ?_, fun hq => hheld hq, ?_, ?_, ?_, ?_, ?_⟩
    · rw [closeAdditions_input, hinput]; exact hstuck
    · rw [closeAdditions_input, hinput]; exact hother j hj
    · rw [closeAdditions_group, hgroup]; exact hdemand g hg hfit
    · rw [closeAdditions_entries, hflt]; exact hentry
    · rw [closeAdditions_seq]; exact hlist hq
    · rw [closeAdditions_seq]; exact hbarred
    · rw [closeAdditions_cfg]; exact hcfg
    · rw [closeAdditions_clk]; exact hclk
    · rw [closeAdditions_out]; exact hout
    · rw [closeAdditions_sup]; exact hsup
  · have hacts : Acts (fun _ => True) inputParts s (s.declareStuck d .stuckOff .detectorStuckOff) := acts_declareStuck d _ rfl
    obtain ⟨hcfg, hclk, -, hout, -, -, hsup, -⟩ := rests_of hacts
    obtain ⟨hstuck, hother, hdemand, hentry, hline⟩ :=
      declareStuck_spec (s := s) (d := d) (f := .stuckOff) (k := .detectorStuckOff) (by decide) hk hroom
    have hexec : exec (.stuckOff d) s = .next (State.closeAdditions s (s.declareStuck d .stuckOff .detectorStuckOff)) := by
      show Host.Outcome.next (if s.stuckOffDue d = true then _ else s) = _
      rw [if_pos (stuckOffDue_of ht hk hf ha hp hl), finish_inputs hb hacts]
    refine ⟨_, hexec, ?_⟩
    simp only [closeAdditions_input, closeAdditions_group, closeAdditions_entries, closeAdditions_seq, closeAdditions_cfg,
      closeAdditions_clk, closeAdditions_out, closeAdditions_sup]
    exact ⟨hstuck, hother, hdemand, hentry, line_of Seq.priority hline, hcfg, hclk, hout, hsup⟩
  · have hacts : Acts (fun _ => True) inputParts s s.overstay := acts_overstay
    obtain ⟨hcfg, hclk, -, hout, -, -, hsup, -⟩ := rests_of hacts
    have hrem : Acts (fun _ => True) [.seq] s (s.removeRequest r.input) := acts_removeRequest r.input
    have hsides := sides_removeHead hl rfl
    simp only [Seq.sides, Prod.mk.injEq] at hsides
    obtain ⟨hlist, hbarred, -, hgroups⟩ := hsides
    have hover : s.overstay = ((s.removeRequest r.input).onSeq fun q => { q with barred := q.barred ++ [r.input] }).report
        .priorityOverstay (.input r.input) := by
      unfold State.overstay; rw [hl]
    obtain ⟨e, he, h1, h2, h3, -⟩ := Laws.report_active (s.removeRequest r.input).flt .priorityOverstay (.input r.input) false
      (s.removeRequest r.input).stamp (by rw [hrem.flt_eq]; exact hroom)
    have hexec : exec .priorityOverstay s = .next (State.closeAdditions s s.overstay) := by
      show Host.Outcome.next (if s.overstayDue = true then _ else s) = _
      rw [if_pos (overstayDue_of ht hl hp hm), finish_inputs hb hacts]
    refine ⟨_, hexec, ?_⟩
    simp only [closeAdditions_group, closeAdditions_entries, closeAdditions_seq, closeAdditions_cfg,
      closeAdditions_clk, closeAdditions_out, closeAdditions_sup, closeAdditions_det]
    refine ⟨?_, ?_, ?_, fun g => ?_, hcfg, hclk, hout, hsup, ?_⟩
    · rw [hover]; exact hlist
    · rw [hover]
      show (s.removeRequest r.input).seq.barred ++ _ = _
      rw [hbarred]; rfl
    · rw [hover]; exact ⟨e, he, h1, h2, h3⟩
    · rw [hover]
      show (s.removeRequest r.input).seq.groups.get g = _
      rw [hgroups]; rfl
    · rw [hover]; exact hrem.det_eq

end Sys2Proof.Machine
end

section
/-! PROOFS. The pin changes and the accepted changes of the inputs (O46). -/

namespace Sys2Proof.Machine

set_option Elab.async false

namespace Inputs

open Acts Ending

variable {G : Gid → Prop} {K : List Part} {before s t u : State} {d : Det} {g : Gid} {b : Stg}

/-! ### The record of an accepted change (R88, R90, R97) -/

theorem endStuck_fault {k : FaultKind} (h : (s.input d).fault.kind = some k) :
    s.endStuck d = (s.onInput d fun r => { r with fault := .none }).clearFault k (.input d) := by
  unfold State.endStuck; rw [h]

theorem endStuck_sound (h : (s.input d).fault.kind = none) : s.endStuck d = s := by unfold State.endStuck; rw [h]

theorem endStuck_input : (s.endStuck d).input d = { s.input d with fault := .none } ∧
    ∀ j, j ≠ d → (s.endStuck d).input j = s.input j := by
  cases hk : (s.input d).fault.kind with
  | none =>
    rw [endStuck_sound hk]
    have hnone : (s.input d).fault = .none := by
      cases hf : (s.input d).fault with
      | none => rfl
      | stuckOn => rw [hf] at hk; exact absurd hk nofun
      | stuckOff => rw [hf] at hk; exact absurd hk nofun
    exact ⟨by rw [← hnone], fun _ _ => rfl⟩
  | some k =>
    rw [endStuck_fault hk]
    exact ⟨State.onInput_self s d _, fun j hj => State.onInput_other s _ (Ne.symm hj)⟩

/-- The state with the change accepted, before it is handed over. -/
def accepted (s : State) (d : Det) : State := (State.refreshStanding s (s.endStuck d)).onInput d DetRun.accept

abbrev acceptParts : List Part := [.det, .flt, .stuck, .demand]

theorem acts_accepted : Acts G acceptParts s (accepted s d) :=
  Acts.trans (Acts.trans (acts_endStuck d).up (of_edits (edits_refreshStanding _)).up) (acts_onInput _ _).up

theorem accepted_input : (accepted s d).input d = { DetRun.accept (s.input d) with fault := .none } ∧
    ∀ j, j ≠ d → (accepted s d).input j = s.input j := by
  obtain ⟨hd, hj⟩ := endStuck_input (s := s) (d := d)
  refine ⟨?_, fun j hne => (State.onInput_other _ _ (Ne.symm hne)).trans (hj j hne)⟩
  refine (State.onInput_self _ _ _).trans ?_
  show DetRun.accept ((s.endStuck d).input d) = _
  rw [hd]; rfl

/-! ### The hand-overs -/

theorem acceptChange_unconfigured (h : s.sup.mode = .unconfigured) : s.acceptChange d = accepted s d := if_pos h

theorem acceptChange_on (h : s.sup.mode ≠ .unconfigured) (hr : (s.input d).reading = true) :
    s.acceptChange d = (accepted s d).handActivation d := by
  have ha : ((accepted s d).input d).accepted = true := by rw [accepted_input.1]; exact hr
  exact (if_neg h).trans (if_pos ha)

theorem acceptChange_off (h : s.sup.mode ≠ .unconfigured) (hr : (s.input d).reading = false) :
    s.acceptChange d = (accepted s d).handDeactivation d := by
  have ha : ¬((accepted s d).input d).accepted = true := by rw [accepted_input.1]; show ¬(s.input d).reading = true; rw [hr]; decide
  exact (if_neg h).trans (if_neg ha)

abbrev handParts : List Part := [.seq, .flt, .stuck, .demand]

theorem acts_presenceHanded : Acts G handParts s (s.presence d) := by
  unfold State.presence
  dsimp only
  exact either (fun _ => (acts_placeDemands _).up.trans acts_holdGap.up) fun _ => (acts_placeDemands _).up

/-- A hand-over changes no input. -/
theorem acts_handed : Acts G handParts s (s.handActivation d) ∧ Acts G handParts s (s.handDeactivation d) := by
  refine ⟨?_, ?_⟩
  · unfold State.handActivation
    split
    · exact acts_presenceHanded
    · exact foldl _ _ fun _ _ _ => (of_edits (edits_pressButton _)).up
    · exact (acts_takeRequest _ _).up
    · exact refl _
  · unfold State.handDeactivation
    split
    · exact (acts_releaseInput _).up
    · exact acts_holdGap.up
    · exact refl _

theorem det_acceptChange : (s.acceptChange d).det = (accepted s d).det := by
  by_cases hm : s.sup.mode = .unconfigured
  · rw [acceptChange_unconfigured hm]
  · cases hr : (s.input d).reading with
    | false => rw [acceptChange_off hm hr]; exact (acts_handed (G := fun _ => True)).2.det_eq
    | true => rw [acceptChange_on hm hr]; exact (acts_handed (G := fun _ => True)).1.det_eq

/-! ### A presence input (R34, R91) -/

theorem extensionOf_isSome : (s.extensionOf d).isSome = true ↔ ∃ g ∈ (s.detector d).served, s.greenMember g = true := by
  unfold State.extensionOf
  rw [Option.isSome_iff_ne_none, ne_eq, List.max?_eq_none_iff, List.map_eq_nil_iff, List.filter_eq_nil_iff]
  push Not
  rfl

theorem activeDetector_of (hcfg : t.cfg = s.cfg) (hdet : t.det = s.det) : t.activeDetector d = s.activeDetector d := by
  unfold State.activeDetector State.detector State.input
  rw [hcfg, hdet]

/-- An active detector with an extension holds the gap timer. -/
theorem gapHold_of_active (ha : s.activeDetector d = true) (he : (s.extensionOf d).isSome = true) : s.gapHold ≠ none := by
  obtain ⟨v, hv⟩ := Option.isSome_iff_exists.mp he
  unfold State.gapHold
  rw [ne_eq, List.max?_eq_none_iff, ← ne_eq]
  exact List.ne_nil_of_mem (List.mem_filterMap.mpr ⟨d, List.mem_finRange d, by rw [if_pos ha, hv]⟩)

theorem group_holdGap : s.holdGap.group g = s.group g := by
  unfold State.holdGap
  split
  · rfl
  · rfl

/-- A presence actuation: demand for the served groups, and the gap timer at its hold value where one is green. -/
theorem presence_spec (hm : s.sup.mode ≠ .unconfigured) (ha : s.activeDetector d = true) :
    (∀ g ∈ (s.detector d).served, s.kind g ≠ none → (s.group g).colour ≠ .green → ((s.presence d).group g).demand = true) ∧
      ((∃ g ∈ (s.detector d).served, s.greenMember g = true) → (s.presence d).gapHold = some (s.presence d).seq.gap) ∧
      ((∀ g ∈ (s.detector d).served, s.greenMember g = false) → (s.presence d).seq.gap = s.seq.gap) := by
  have hacts : Acts (fun _ => True) [.demand] s ((s.detector d).served.foldl State.placeDemand s) := acts_placeDemands _
  have hgrounds := grounds_of hacts
  have hactive : ((s.detector d).served.foldl State.placeDemand s).activeDetector d = true :=
    (activeDetector_of hacts.cfg_eq hacts.det_eq).trans ha
  have hdemand (g : Gid) (hg : g ∈ (s.detector d).served) := foldl_placeDemand (g := g) (s := s) hm hg
  unfold State.presence
  dsimp only
  rw [hgrounds.extensionOf]
  by_cases he : (s.extensionOf d).isSome = true
  · rw [if_pos he]
    refine ⟨fun g hg hk hc => by rw [group_holdGap]; exact hdemand g hg hk hc, fun _ => ?_, fun hno => ?_⟩
    · obtain ⟨hhold, hsome, -⟩ := holdGap_spec (s := (s.detector d).served.foldl State.placeDemand s)
      obtain ⟨v, hv⟩ := Option.ne_none_iff_exists'.mp (gapHold_of_active hactive (by rw [hgrounds.extensionOf]; exact he))
      rw [hhold, hv, hsome v hv]
    · obtain ⟨g, hg, hgreen⟩ := extensionOf_isSome.mp he
      rw [hno g hg] at hgreen; exact absurd hgreen (by decide)
  · rw [if_neg he]
    exact ⟨hdemand, fun hsome => absurd (extensionOf_isSome.mpr hsome) he, fun _ => line_of Seq.gap hacts.line_eq⟩

/-! ### A priority input (R38 to R40, R68) -/

/-- What a request's service rests on. -/
def Seq.service (q : Seq) := (q.running, q.change, q.endDue, q.active, q.priority)

theorem service_beginService : Seq.service s.beginService.seq = Seq.service s.seq := by
  unfold State.beginService
  rw [State.onSeq_seq]
  dsimp only
  split
  · rfl
  · rfl

theorem takeRequest_first (hm : s.sup.mode = .normal) (hb : d ∉ s.seq.barred) (hl : s.seq.priority = []) :
    s.takeRequest d b = (s.beginService.onSeq (listed [⟨d, b, 0⟩])).serveHead := by
  unfold State.takeRequest
  rw [if_pos ⟨hm, by rw [List.contains_eq_mem, decide_eq_false_iff_not]; exact hb, by rw [hl]; rfl, by rw [hl]; decide⟩, hl]
  rfl

theorem takeRequest_behind (hm : s.sup.mode = .normal) (hb : d ∉ s.seq.barred) (hin : ∀ r ∈ s.seq.priority, r.input ≠ d)
    (hlen : s.seq.priority.length < 4) (hl : s.seq.priority ≠ []) :
    s.takeRequest d b = s.onSeq (fun q => listed (q.priority ++ [⟨d, b, 0⟩]) q) := by
  unfold State.takeRequest
  rw [if_pos ⟨hm, by rw [List.contains_eq_mem, decide_eq_false_iff_not]; exact hb,
    List.any_eq_false.mpr fun r hr => by rw [beq_iff_eq]; exact hin r hr, hlen⟩, if_neg (by simpa using hl)]
  rfl

theorem takeRequest_refused (h : s.sup.mode ≠ .normal ∨ d ∈ s.seq.barred ∨ (∃ r ∈ s.seq.priority, r.input = d) ∨
    4 ≤ s.seq.priority.length) : s.takeRequest d b = s := by
  unfold State.takeRequest
  refine if_neg fun ⟨hm, hb, hin, hlen⟩ => ?_
  rcases h with h | h | ⟨r, hr, h⟩ | h
  · exact h hm
  · rw [List.contains_iff_mem.mpr h] at hb; exact absurd hb (by decide)
  · exact List.any_eq_false.mp hin r hr (beq_iff_eq.mpr h)
  · exact absurd hlen (Nat.not_lt.mpr h)

/-- The end due of the head's service. -/
theorem serveHead_endDue {r : PriorityReq} {l : List PriorityReq} (h : s.seq.priority = r :: l) :
    (s.seq.change = none → s.serveHead.seq.endDue =
      if s.seq.running = some r.target then none else some ⟨r.target, s.activePlan.firstNaming r.target, none⟩) ∧
    (s.seq.change ≠ none → s.serveHead.seq.endDue = s.seq.endDue) := by
  unfold State.serveHead
  rw [h]
  dsimp only
  refine ⟨fun hc => ?_, fun hc => ?_⟩
  · rw [if_neg (by rw [hc]; decide)]
    split
    · rfl
    · rfl
  · rw [if_pos (Option.isSome_iff_ne_none.mpr hc)]

/-- A request that joins the list: the first is served at once. -/
theorem takeRequest_spec (hm : s.sup.mode = .normal) (hb : d ∉ s.seq.barred) (hin : ∀ r ∈ s.seq.priority, r.input ≠ d)
    (hlen : s.seq.priority.length < 4) :
    (s.takeRequest d b).seq.priority = s.seq.priority ++ [⟨d, b, 0⟩] ∧
      (s.seq.priority = [] → s.seq.change = none → (s.takeRequest d b).seq.endDue =
        if s.seq.running = some b then none else some ⟨b, s.activePlan.firstNaming b, none⟩) ∧
      (s.seq.priority ≠ [] ∨ s.seq.change ≠ none → (s.takeRequest d b).seq.endDue = s.seq.endDue) := by
  by_cases hl : s.seq.priority = []
  · rw [takeRequest_first hm hb hl]
    have hservice := service_beginService (s := s)
    simp only [Seq.service, Prod.mk.injEq] at hservice
    obtain ⟨hrun, hch, hend, hactive, -⟩ := hservice
    have hplan : (s.beginService.onSeq (listed [⟨d, b, 0⟩])).activePlan = s.activePlan := by
      unfold State.activePlan State.plan
      show (match s.beginService.seq.active with | some p => _ | none => _) = _
      rw [hactive]; rfl
    obtain ⟨hfree, hbusy⟩ := serveHead_endDue (s := s.beginService.onSeq (listed [⟨d, b, 0⟩])) (r := ⟨d, b, 0⟩) (l := []) rfl
    have hsides := sides_serveHead (s := s.beginService.onSeq (listed [⟨d, b, 0⟩]))
    refine ⟨(congrArg Prod.fst hsides).trans (by rw [hl]; rfl), fun _ hc => ?_, fun h => ?_⟩
    · refine (hfree (hch.trans hc)).trans ?_
      rw [hplan]
      show (if s.beginService.seq.running = some b then _ else _) = _
      rw [hrun]
    · exact (hbusy (by rcases h with h | h; exact absurd hl h; exact fun hc => h (hch.symm.trans hc))).trans hend
  · rw [takeRequest_behind hm hb hin hlen hl]
    exact ⟨rfl, fun h => absurd h hl, fun _ => rfl⟩

/-- The sequencer record after an input's release: its request and its bar are gone. -/
theorem seq_releaseInput :
    (s.releaseInput d).seq = { (s.removeRequest d).seq with barred := (s.removeRequest d).seq.barred.erase d } := by
  unfold State.releaseInput
  dsimp only
  split
  · rfl
  · next h => rw [List.erase_of_not_mem fun hm => h (List.contains_iff_mem.mpr hm)]

/-- The return to a coordinated plan, at the entry whose window holds the position. -/
theorem returnToPlan_coordinated {l k : Nat} {e : PlanEntry} (hc : s.activePlan.coordinated = true) (hpos : s.seq.pos = some l)
    (hk : s.activePlan.entry? k = some e) (hw : s.activePlan.windowOf l = some k) :
    (s.returnToPlan b).seq.decision = some k ∧
      (s.seq.running = some e.stage → s.seq.change = none →
        (s.returnToPlan b).seq.entry = some k ∧ (s.returnToPlan b).seq.endDue = none) ∧
      (s.seq.running ≠ some e.stage ∨ s.seq.change ≠ none →
        (s.returnToPlan b).seq.entry = s.seq.entry ∧ (s.returnToPlan b).seq.endDue = some ⟨e.stage, some k, none⟩) := by
  rw [Laws.returnToPlan_coordinated hc (by rw [hpos]; exact hw) hk]
  by_cases hr : s.seq.running = some e.stage ∧ s.seq.change = none
  · rw [if_pos (by rw [hr.2]; exact ⟨hr.1, rfl⟩)]
    exact ⟨rfl, fun _ _ => ⟨rfl, rfl⟩, fun h => by rcases h with h | h; exact absurd hr.1 h; exact absurd hr.2 h⟩
  · rw [if_neg (by rw [Option.isNone_iff_eq_none]; exact hr)]
    exact ⟨rfl, fun h h' => absurd ⟨h, h'⟩ hr, fun _ => ⟨rfl, rfl⟩⟩

theorem returnToPlan_isolated (h : s.activePlan.isolated = true) :
    s.returnToPlan b = s.onSeq fun q => { q with endDue := none, entry := s.activePlan.firstNaming b, maxTimer := none } := by
  have hc : ¬s.activePlan.coordinated = true := by
    unfold PlanRec.isolated PlanRec.coordinated at *
    simp only [Bool.and_eq_true, beq_iff_eq, bne_iff_ne] at h ⊢
    exact fun hn => hn.2 h.2
  exact if_neg hc

theorem removeRequest_alone {r : PriorityReq} (hl : s.seq.priority = [r]) (hd : r.input = d) :
    (∀ l k e, s.activePlan.coordinated = true → s.seq.pos = some l → s.activePlan.entry? k = some e → l < e.endPos →
      (∀ j x, j < k → s.activePlan.entry? j = some x → x.endPos ≤ l) →
      (s.removeRequest d).seq.decision = some k ∧
      (s.seq.running = some e.stage → s.seq.change = none →
        (s.removeRequest d).seq.entry = some k ∧ (s.removeRequest d).seq.endDue = none) ∧
      (s.seq.running ≠ some e.stage ∨ s.seq.change ≠ none →
        (s.removeRequest d).seq.entry = s.seq.entry ∧ (s.removeRequest d).seq.endDue = some ⟨e.stage, some k, none⟩)) ∧
    (s.activePlan.isolated = true →
      (s.removeRequest d).seq.entry = s.activePlan.firstNaming r.target ∧ (s.removeRequest d).seq.maxTimer = none ∧
        (s.removeRequest d).seq.endDue = none ∧ (s.removeRequest d).seq.gap = s.seq.gap) := by
  rw [removeRequest_last hl hd]
  refine ⟨fun l k e hc hpos hk hlt hlow => ?_, fun hi => ?_⟩
  · exact returnToPlan_coordinated (s := s.onSeq (listed [])) hc hpos hk (Laws.windowOf_eq hk hlt hlow)
  · rw [returnToPlan_isolated (s := s.onSeq (listed [])) hi]
    exact ⟨rfl, rfl, rfl, rfl⟩

/-! ### The hand-overs by kind -/

theorem handActivation_presence (h : (s.detector d).kind = some .presence) : s.handActivation d = s.presence d := by
  unfold State.handActivation; rw [h]

theorem handActivation_button (h : (s.detector d).kind = some .button) :
    s.handActivation d = (s.detector d).served.foldl State.pressButton s := by
  unfold State.handActivation; rw [h]

theorem handActivation_priority (h : (s.detector d).kind = some .priority) (ht : (s.detector d).target = some b) :
    s.handActivation d = s.takeRequest d b := by
  unfold State.handActivation; rw [h, ht]

theorem handActivation_aimless (h : (s.detector d).kind = some .priority) (ht : (s.detector d).target = none) :
    s.handActivation d = s := by
  unfold State.handActivation; rw [h, ht]

theorem handDeactivation_priority (h : (s.detector d).kind = some .priority) : s.handDeactivation d = s.releaseInput d := by
  unfold State.handDeactivation; rw [h]

theorem handDeactivation_presence (h : (s.detector d).kind = some .presence) : s.handDeactivation d = s.holdGap := by
  unfold State.handDeactivation; rw [h]

/-! ### The events -/

theorem acceptDue_of (hk : (s.detector d).kind ≠ none) (hr : (s.input d).reading ≠ (s.input d).accepted)
    (hd : (s.detector d).debounce ≤ (s.input d).debounceTime) (hn : (s.input d).nextMs = false) : s.acceptDue d = true := by
  have hu : s.inputUsed d = true := Option.isSome_iff_ne_none.mpr hk
  unfold State.acceptDue
  rw [hu, bne_iff_ne.mpr hr, decide_eq_true hd, hn]
  rfl

theorem setPin_unused (high : Bool) (h : (s.detector d).kind = none) :
    s.setPin d high = { s with det := s.det.put d { s.input d with pin := high } } := by
  unfold State.setPin
  rw [h]
  rfl

theorem setPin_used (high v : Bool) (h : (s.detector d).kind ≠ none) (hv : (s.detector d).polarity.active high = v) :
    s.setPin d high =
      { s with
        det :=
          s.det.put d
            { s.input d with
              pin := high
              reading := v
              debounceTime := if v = (s.input d).accepted then 0 else (s.input d).debounceTime } } := by
  unfold State.setPin
  simp only [if_pos (Option.isSome_iff_ne_none.mpr h), hv]
  rfl

theorem active_iff {p : Polarity} {high : Bool} : p.active high = true ↔ (p = .activeHigh ↔ high = true) := by
  cases p <;> cases high <;> decide

theorem grounds_closeAdditions (u : State) : Grounds u (State.closeAdditions before u) :=
  ⟨closeAdditions_cfg _ _, by rw [closeAdditions_seq], by rw [closeAdditions_seq], fun g => by rw [closeAdditions_group]⟩

/-- An auxiliary output is lit by the latch of its group in the modes that show it (R93). -/
theorem auxLit_latched {x : Fin 8} (hx : s.cabinet.aux.get x = some g) (hl : (s.group g).latch = true)
    (hm : s.sup.mode = .startupRed ∨ s.sup.mode = .normal ∨ s.sup.mode = .clearing) : s.auxLit x = true := by
  unfold State.auxLit
  rw [hx]
  rcases hm with h | h | h <;> simp only [hl, h, Bool.true_and]

end Inputs

open Acts Ending Inputs

/-- Settles O46. The record of the accepted change is the same for every kind; the sequencer's part is each kind's own. -/
theorem detectorChangesAreAcceptedAndHandedOver : Obligations.DetectorChangesAreAcceptedAndHandedOver := by
  unfold Obligations.DetectorChangesAreAcceptedAndHandedOver
  refine ⟨fun s d high => ⟨fun hk => congrArg Host.Outcome.next (setPin_unused high hk), fun hk v hv => ?_⟩,
    fun s d hb hlists hk hr hdeb hn => ?_⟩
  · exact congrArg Host.Outcome.next (setPin_used high v hk (Bool.eq_iff_iff.mpr (active_iff.trans hv.symm)))
  have hacts : Acts (fun _ => True) inputParts s (s.acceptChange d) := acts_acceptChange d
  obtain ⟨hcfg, hclk, hsch, hout, hlmp, hcbt, hsup, hcolour⟩ := rests_of hacts
  have hexec : exec (.detectorAcceptedChange d) s = .next (State.closeAdditions s (s.acceptChange d)) := by
    show Host.Outcome.next (if s.acceptDue d = true then _ else s) = _
    rw [if_pos (acceptDue_of hk hr hdeb hn), finish_inputs hb hacts]
  have haccepted : Acts (fun _ => True) acceptParts s (accepted s d) := acts_accepted
  have hgrounds := grounds_of haccepted
  have hline := haccepted.line_eq
  have hlist : (accepted s d).seq.priority = s.seq.priority := line_of Seq.priority hline
  have hrunning : (accepted s d).seq.running = s.seq.running := line_of Seq.running hline
  have hchange : (accepted s d).seq.change = s.seq.change := line_of Seq.change hline
  have hgap : (accepted s d).seq.gap = s.seq.gap := line_of Seq.gap hline
  have hplan : (accepted s d).activePlan = s.activePlan := by
    unfold State.activePlan State.plan
    rw [haccepted.cfg_eq, line_of Seq.active hline]
  have hmode := haccepted.modes_eq
  have hdet : (accepted s d).detector d = s.detector d := by unfold State.detector; rw [haccepted.cfg_eq]
  have hkind (g : Gid) : (accepted s d).kind g = s.kind g := by unfold State.kind State.groupRec; rw [haccepted.cfg_eq]
  have hcol (g : Gid) : ((accepted s d).group g).colour = (s.group g).colour := haccepted.colour_eq g
  obtain ⟨hself, hother⟩ := accepted_input (s := s) (d := d)
  have hinput (j : Det) : (s.acceptChange d).input j = (accepted s d).input j := by
    unfold State.input; rw [det_acceptChange]
  have hclosed := grounds_closeAdditions (before := s) (s.acceptChange d)
  have hhold := hclosed.gapHold (closeAdditions_det _ _)
  refine ⟨_, hexec, ?_⟩
  rw [hhold]
  simp only [closeAdditions_input, closeAdditions_cfg, closeAdditions_clk, closeAdditions_sch, closeAdditions_out,
    closeAdditions_lmp, closeAdditions_cbt, closeAdditions_sup, closeAdditions_group, closeAdditions_seq, hinput, hself]
  refine ⟨rfl, rfl, rfl, rfl, trivial, rfl, hother, hcfg, hclk, hsch, hout, hlmp, hcbt, hsup, hcolour, fun hm hread => ?_,
    fun hm hread => ?_⟩
  · have hmode' : (accepted s d).sup.mode ≠ .unconfigured := by rw [hmode]; exact hm
    have hhand := acceptChange_on hm hread
    refine ⟨fun hp => ?_, fun hp g hg hk hc => ?_, fun b hp ht hnormal hbar hin hlen => ?_, fun hp hno => ?_⟩
    · have hactive : (accepted s d).activeDetector d = true := by
        unfold State.activeDetector
        rw [hdet, hp, hself]
        show ((s.input d).reading && true) = true
        rw [hread]; rfl
      obtain ⟨hdemand, hheld, hfree⟩ := presence_spec hmode' hactive
      simp only [hdet, hkind, hcol, hgrounds.greenMember, hgap] at hdemand hheld hfree
      rw [hhand, handActivation_presence (by rw [hdet]; exact hp)]
      exact ⟨hdemand, hheld, hfree⟩
    · have hpress := foldl_pressButton (g := g) (l := (s.detector d).served) hmode' hg ((hkind g).trans hk)
        (by rw [hcol]; exact hc)
      have heq : s.acceptChange d = (s.detector d).served.foldl State.pressButton (accepted s d) := by
        rw [hhand, handActivation_button (by rw [hdet]; exact hp), hdet]
      rw [← heq] at hpress
      refine ⟨hpress.1, hpress.2, fun hshown x hx => auxLit_latched (g := g) ?_ ?_ ?_⟩
      · unfold State.cabinet at hx ⊢
        rw [closeAdditions_cfg, hcfg]; exact hx
      · rw [closeAdditions_group]; exact hpress.1
      · rw [closeAdditions_sup, hsup]; exact hshown
    · obtain ⟨hl, hfirst, hbehind⟩ := takeRequest_spec (s := accepted s d) (d := d) (b := b) (hmode.trans hnormal)
        (by rw [line_of Seq.barred hline]; exact hbar) (by rw [hlist]; exact hin) (by rw [hlist]; exact hlen)
      rw [hhand, handActivation_priority (by rw [hdet]; exact hp) (by rw [hdet]; exact ht)]
      simp only [hlist, hchange, hrunning, hplan, line_of Seq.endDue hline] at hl hfirst hbehind
      exact ⟨hl, hfirst, hbehind⟩
    · rw [hhand]
      cases ht : (s.detector d).target with
      | none => rw [handActivation_aimless (by rw [hdet]; exact hp) (by rw [hdet]; exact ht)]; exact hlist
      | some b =>
        rw [handActivation_priority (by rw [hdet]; exact hp) (by rw [hdet]; exact ht), takeRequest_refused]
        · exact hlist
        · rw [hmode, line_of Seq.barred hline, hlist]; exact hno
  · have hhand := acceptChange_off hm hread
    refine ⟨fun hp => ?_, fun r _ hp hl hd => ?_, fun hp => ?_⟩
    · obtain ⟨hl, hbarred, -, -⟩ := removeRequest_spec (s := accepted s d) (d := d) (by rw [hlist]; exact hlists.2.1)
      rw [hhand, handDeactivation_priority (by rw [hdet]; exact hp), seq_releaseInput]
      refine ⟨?_, ?_⟩
      · show ∀ r ∈ ((accepted s d).removeRequest d).seq.priority, r.input ≠ d
        rw [hl]; exact absent_filter
      · show ((accepted s d).removeRequest d).seq.barred.erase d = _
        rw [hbarred, line_of Seq.barred hline]
    · obtain ⟨hcoord, hisol⟩ := removeRequest_alone (s := accepted s d) (hlist.trans hl) hd
      rw [hhand, handDeactivation_priority (by rw [hdet]; exact hp), seq_releaseInput]
      simp only [hplan, hrunning, hchange, hgap, line_of Seq.pos hline, line_of Seq.entry hline] at hcoord hisol
      exact ⟨hcoord, hisol⟩
    · obtain ⟨hsame, hsome, hnone⟩ := holdGap_spec (s := accepted s d)
      rw [hhand, handDeactivation_presence (by rw [hdet]; exact hp), hsame, ← hgap]
      exact ⟨hsome, hnone⟩

end Sys2Proof.Machine
end

section
/-! PROOFS. The inhibitions taken at a step's end (R31), and the current samples (O57). -/

namespace Sys2Proof.Machine

set_option Elab.async false

namespace Samples

open Acts Ending Stages

variable {G : Gid → Prop} {K : List Part} {before s t u : State} {g k : Gid} {c : Ch}

/-! ### What a drop leaves of another group (R31) -/

/-- A group's way to GREEN: its colour, its inhibition, its instants, and where it was dropped. -/
def wayOf (s : State) (g : Gid) :=
  ((s.group g).colour, (s.group g).inhibited, s.seq.gainingInstant g, s.seq.joinedInstant g,
    s.seq.dropped.filter fun p => p.1 == g)

theorem find_filtered {l : List (Gid × Nat)} (h : g ≠ k) :
    (l.filter fun p => p.1 != g).find? (fun p => p.1 == k) = l.find? fun p => p.1 == k := by
  rw [List.find?_filter]
  refine congrArg (fun f => List.find? f l) (funext fun p => ?_)
  by_cases hp : p.1 = k
  · simp [hp, Ne.symm h]
  · simp [hp]

theorem instants_leaves (q : Seq) (i : Nat) (h : g ≠ k) :
    (leaves g i q).gainingInstant k = q.gainingInstant k ∧ (leaves g i q).joinedInstant k = q.joinedInstant k ∧
      ((leaves g i q).dropped.filter fun p => p.1 == k) = q.dropped.filter fun p => p.1 == k := by
  refine ⟨?_, congrArg (Option.map _) (find_filtered h), ?_⟩
  · unfold Seq.gainingInstant leaves
    cases q.change with
    | none => rfl
    | some ch => exact congrArg (Option.map _) (find_filtered h)
  · show (q.dropped ++ [(g, i)]).filter _ = _
    rw [List.filter_append, List.filter_cons_of_neg (by simp [h]), List.filter_nil, List.append_nil]

theorem wayOf_leaves (i : Nat) (h : g ≠ k) : wayOf (s.onSeq (leaves g i)) k = wayOf s k := by
  obtain ⟨hg, hj, hd⟩ := instants_leaves s.seq i h
  unfold wayOf
  rw [(leaves_spec i).1, State.onSeq_seq, hg, hj, hd]

theorem wayOf_setRed (hr : (s.group g).colour = .redAmber) (h : g ≠ k) : wayOf (s.setColour g .red) k = wayOf s k := by
  obtain ⟨hch, hdr, hjo, -⟩ := change_setColour (s := s) (g := g) (col := .red)
  have hacts : Acts (fun _ => True) greenParts s (s.dropGroup g 0) := acts_dropGroup g 0
  have hinhibited : ((s.setColour g .red).group k).inhibited = (s.group k).inhibited := by
    rw [← (hacts.health_eq k).2, dropGroup_redAmber 0 hr, (leaves_spec 0).1]
  unfold wayOf Seq.gainingInstant Seq.joinedInstant
  rw [hch, hdr, hjo, colour_setColour_other h.symm, hinhibited]

theorem wayOf_dropGroup (i : Nat) (h : g ≠ k) : wayOf (s.dropGroup g i) k = wayOf s k := by
  by_cases hr : (s.group g).colour = .redAmber
  · rw [dropGroup_redAmber i hr, wayOf_leaves i h, wayOf_setRed hr h]
  · rw [dropGroup_waiting i hr, wayOf_leaves i h]

theorem wayOf_dropIfInhibited (h : g ≠ k) : wayOf (s.dropIfInhibited g) k = wayOf s k := by
  unfold State.dropIfInhibited
  split
  · split
    · exact wayOf_dropGroup _ h
    · split
      · exact wayOf_dropGroup _ h
      · rfl
  · rfl

/-! ### The inhibitions taken at the end of a step -/

/-- A group whose inhibition arose, dropped at once unless it is in RED_AMBER since an earlier tick. -/
def dropsArisen (before u t : State) (g : Gid) : State :=
  if !(before.group g).inhibited && ((u.group g).colour != Colour.redAmber || (u.group g).timeIn == 0) then
    t.dropIfInhibited g
  else t

theorem takeInhibition_eq (h : u.normalTick = true) : State.takeInhibition before u = u.forAll (dropsArisen before u) := if_pos h

/-- Each group's way after the inhibitions were taken is its own drop's. -/
theorem wayOf_takeInhibition (h : u.normalTick = true) (g : Gid) :
    ∃ w, wayOf w g = wayOf u g ∧ wayOf (State.takeInhibition before u) g = wayOf (dropsArisen before u w g) g := by
  obtain ⟨w, -, hw, he⟩ := Maintenance.forAll_own (f := dropsArisen before u) (p := wayOf) (I := fun _ => True)
    (fun _ _ _ => trivial)
    (fun t i k hne => by
      unfold dropsArisen
      split
      · exact wayOf_dropIfInhibited hne
      · rfl)
    u trivial g
  exact ⟨w, hw, by rw [takeInhibition_eq h, he]⟩

/-- A drop at most turns a RED_AMBER back, of a group that is inhibited. -/
theorem colour_dropIfInhibited : ((s.dropIfInhibited g).group g).colour = (s.group g).colour ∨
    (s.group g).colour = .redAmber ∧ ((s.dropIfInhibited g).group g).colour = .red ∧ (s.group g).inhibited = true := by
  have hdrop (i : Nat) (hi : (s.group g).inhibited = true) : ((s.dropGroup g i).group g).colour = (s.group g).colour ∨
      (s.group g).colour = .redAmber ∧ ((s.dropGroup g i).group g).colour = .red ∧ (s.group g).inhibited = true := by
    have hc := (dropGroup_spec (s := s) (g := g) i).1
    by_cases hr : (s.group g).colour = .redAmber
    · rw [if_pos hr] at hc; exact .inr ⟨hr, hc, hi⟩
    · rw [if_neg hr] at hc; exact .inl hc
  unfold State.dropIfInhibited
  split
  · next hi =>
    split
    · exact hdrop _ hi
    · split
      · exact hdrop _ hi
      · exact .inl rfl
  · exact .inl rfl

/-- The inhibitions taken at a step's end turn back at most a RED_AMBER (R31). -/
theorem colour_takeInhibition (g : Gid) : ((State.takeInhibition before u).group g).colour = (u.group g).colour ∨
    (u.group g).colour = .redAmber ∧ ((State.takeInhibition before u).group g).colour = .red ∧
      (u.group g).inhibited = true := by
  by_cases hn : u.normalTick = true
  · obtain ⟨w, hw, he⟩ := wayOf_takeInhibition (before := before) hn g
    simp only [wayOf, Prod.mk.injEq] at hw he
    rw [he.1, ← hw.1, ← hw.2.1]
    unfold dropsArisen
    split
    · exact colour_dropIfInhibited
    · exact .inl rfl
  · unfold State.takeInhibition
    rw [if_neg hn]
    exact .inl rfl

/-- A gaining group whose inhibition arose at an open tick is dropped with its instant (R31). -/
theorem dropped_takeInhibition {i : Nat} (hn : u.normalTick = true) (hb : (before.group g).inhibited = false)
    (hi : (u.group g).inhibited = true) (hg : u.seq.gainingInstant g = some i)
    (hc : (u.group g).colour ≠ .redAmber ∨ (u.group g).timeIn = 0) :
    (State.takeInhibition before u).seq.gainingInstant g = none ∧
      (g, (u.seq.joinedInstant g).getD i) ∈ (State.takeInhibition before u).seq.dropped := by
  obtain ⟨w, hw, he⟩ := wayOf_takeInhibition (before := before) hn g
  have hdrops : dropsArisen before u w g = w.dropGroup g ((w.seq.joinedInstant g).getD i) := by
    simp only [wayOf, Prod.mk.injEq] at hw
    unfold dropsArisen
    rw [if_pos (by rw [hb]; rcases hc with h | h <;> simp [h])]
    exact dropIfInhibited_gaining (hw.2.1.trans hi) (hw.2.2.1.trans hg)
  obtain ⟨-, -, hdropped, hgain, -⟩ := dropGroup_spec (s := w) (g := g) ((w.seq.joinedInstant g).getD i)
  rw [hdrops] at he
  simp only [wayOf, Prod.mk.injEq] at hw he
  refine ⟨he.2.2.1.trans hgain, ?_⟩
  have hmem : (g, (u.seq.joinedInstant g).getD i) ∈
      (State.takeInhibition before u).seq.dropped.filter fun p => p.1 == g := by
    rw [he.2.2.2.2, hdropped, ← hw.2.2.2.1]
    exact List.mem_filter.mpr ⟨List.mem_append_right _ (List.mem_singleton.mpr rfl), beq_self_eq_true g⟩
  exact (List.mem_filter.mp hmem).1

/-! ### A verdict (R126, R129) -/

theorem lmp_reportVerdict (v w : Verdict) : (s.reportVerdict c v w).lmp = s.lmp :=
  (of_edits (G := fun _ => True) (edits_reportVerdict c v w)).lmp_eq

theorem lamp_setVerdict (v : Verdict) (h : Option Nat) : (s.setVerdict c v h).lamp c = (s.lamp c).withVerdict v h ∧
    ∀ k, k ≠ c → (s.setVerdict c v h).lamp k = s.lamp k := by
  have hkept (k : Ch) : (s.setVerdict c v h).lamp k = (s.onLamp c fun l => l.withVerdict v h).lamp k := by
    unfold State.setVerdict
    rw [Maintenance.lamp_evalAllRedHealth]
    unfold State.lamp
    rw [lmp_reportVerdict]
  exact ⟨by rw [hkept, State.onLamp_self], fun k hk => by rw [hkept, State.onLamp_other _ _ hk.symm]⟩

theorem redHealth_onGroup_other {f : GroupRun → GroupRun} (h : g ≠ k) :
    ((s.onGroup g f).group k).redHealth = (s.group k).redHealth := by
  unfold State.group State.onGroup
  rw [State.onSeq_seq, Tab.get_modify_ne _ _ h]

theorem redHealth_refreshInhibited : (s.refreshInhibited.group k).redHealth = (s.group k).redHealth := by
  unfold State.group State.refreshInhibited
  rw [State.onSeq_seq, Tab.get_ofFn]

/-- A group's red health is that of its healthy red heads after it was evaluated, and another group's is as it was. -/
theorem redHealth_evalRedHealth : ((s.evalRedHealth g).group g).redHealth = s.redHealthOf g ∧
    ∀ k, g ≠ k → ((s.evalRedHealth g).group k).redHealth = (s.group k).redHealth := by
  have hwritten (w : State) (hw : w.seq = ((s.onGroup g fun r => { r with redHealth := s.redHealthOf g }).refreshInhibited).seq) :
      (w.group g).redHealth = s.redHealthOf g ∧ ∀ k, g ≠ k → (w.group k).redHealth = (s.group k).redHealth := by
    have hgroup (k : Gid) : w.group k =
        ((s.onGroup g fun r => { r with redHealth := s.redHealthOf g }).refreshInhibited).group k := by
      unfold State.group; rw [hw]
    refine ⟨?_, fun k hk => ?_⟩
    · rw [hgroup, redHealth_refreshInhibited]
      unfold State.group State.onGroup
      rw [State.onSeq_seq, Tab.get_modify_self]
    · rw [hgroup, redHealth_refreshInhibited, redHealth_onGroup_other hk]
  unfold State.evalRedHealth
  dsimp only
  split
  · next h => exact ⟨h, fun _ _ => rfl⟩
  · split
    · exact hwritten _ rfl
    · split
      · exact hwritten _ rfl
      · exact hwritten _ rfl

theorem redHealthOf_of (hcfg : t.cfg = s.cfg) (hlamp : ∀ c, (t.lamp c).healthy = (s.lamp c).healthy) :
    t.redHealthOf g = s.redHealthOf g := by
  unfold State.redHealthOf State.redSum State.kind State.groupRec State.gt
  simp only [hcfg, hlamp]

/-- Every group's red health is that of its healthy red heads once all were evaluated (R129). -/
theorem redHealth_evalAllRedHealth (g : Gid) : (s.evalAllRedHealth.group g).redHealth = s.evalAllRedHealth.redHealthOf g := by
  have hall : Acts (fun _ => True) redParts s s.evalAllRedHealth := of_edits edits_evalAllRedHealth
  have hone (t : State) (i : Gid) : Acts (fun _ => True) redParts t (t.evalRedHealth i) :=
    of_edits (.one (.health i (by decide) (by decide) (by decide) (by decide) (by decide)))
  obtain ⟨w, ⟨hcfg, hlmp⟩, -, he⟩ := Maintenance.forAll_own (f := State.evalRedHealth)
    (p := fun t k => (t.group k).redHealth) (I := fun t => t.cfg = s.cfg ∧ t.lmp = s.lmp)
    (fun t i h => ⟨(hone t i).cfg_eq.trans h.1, (hone t i).lmp_eq.trans h.2⟩)
    (fun t i k hne => redHealth_evalRedHealth.2 k hne) s ⟨rfl, rfl⟩ g
  refine he.trans (redHealth_evalRedHealth.1.trans ?_)
  refine redHealthOf_of (hcfg.trans hall.cfg_eq.symm) fun c => ?_
  unfold State.lamp
  rw [hlmp, hall.lmp_eq]

/-! ### A sample (R119 to R125) -/

theorem settle_eq (k : LampKind) : k.settle = if k = .filament then 200 else 500 := by cases k <;> rfl

theorem agrees_iff {l : LampRec} {cat : Category} {h : Nat} : l.agrees cat h = true ↔
    (l.verdict = .good ∧ cat = .good ∨ l.verdict = .partialFail ∧ cat = .partialFail ∧ l.healthy = some h ∨
      l.verdict = .failed ∧ cat = .dark ∨ l.verdict = .overcurrent ∧ cat = .over) := by
  unfold LampRec.agrees
  cases l.verdict <;> cases cat <;> simp

theorem runAfter_of {l : LampRec} {cat : Category} {h : Nat} {now : ConfirmRun}
    (hr : (∃ old, l.run = some old ∧ old.candidate = cat ∧ now = ⟨cat, old.count + 1, min old.lowest h⟩) ∨
      ((∀ old, l.run = some old → old.candidate ≠ cat) ∧ now = ⟨cat, 1, h⟩)) : l.runAfter cat h = now := by
  unfold LampRec.runAfter
  rcases hr with ⟨old, ho, hc, rfl⟩ | ⟨hno, rfl⟩
  · rw [ho]; exact if_pos hc
  · cases hl : l.run with
    | none => rfl
    | some old => exact if_neg (hno old hl)

/-- The reference written last. -/
theorem lamp_tracked (i : Nat) : (s.onLamp c fun l => { l with iref := some i }).lamp c = { s.lamp c with iref := some i } ∧
    ∀ k, k ≠ c → (s.onLamp c fun l => { l with iref := some i }).lamp k = s.lamp k :=
  ⟨State.onLamp_self _ _ _, fun _ hk => State.onLamp_other _ _ hk.symm⟩

/-- The state before a sample's reference is written. -/
def judged (s : State) (c : Ch) (i r : Nat) : State :=
  if (s.lamp c).agrees (sampleCategory i (s.chanRec c).heads r) (sampleEstimate i (s.chanRec c).heads r) then
    s.onLamp c fun l => { l with run := none }
  else if (s.settings c).confirm ≤ ((s.lamp c).runAfter (sampleCategory i (s.chanRec c).heads r)
      (sampleEstimate i (s.chanRec c).heads r)).count then
    s.setVerdict c (((s.lamp c).runAfter (sampleCategory i (s.chanRec c).heads r)
      (sampleEstimate i (s.chanRec c).heads r)).gives (s.chanRec c).heads).1
      (some (((s.lamp c).runAfter (sampleCategory i (s.chanRec c).heads r)
        (sampleEstimate i (s.chanRec c).heads r)).gives (s.chanRec c).heads).2)
  else s.onLamp c fun l => { l with run := some ((s.lamp c).runAfter (sampleCategory i (s.chanRec c).heads r)
    (sampleEstimate i (s.chanRec c).heads r)) }

theorem estimateSample_eq (i r : Nat) :
    s.estimateSample c i r = (judged s c i r).onLamp c fun l => { l with iref := some (trackReference (s.settings c).refMode i r) } := rfl

/-- What a sample leaves of its lamp record and of the others. -/
theorem judged_spec (i r : Nat) :
    (∀ k, k ≠ c → (judged s c i r).lamp k = s.lamp k) ∧
    ((s.lamp c).agrees (sampleCategory i (s.chanRec c).heads r) (sampleEstimate i (s.chanRec c).heads r) = true →
      (judged s c i r).lamp c = { s.lamp c with run := none }) ∧
    ((s.lamp c).agrees (sampleCategory i (s.chanRec c).heads r) (sampleEstimate i (s.chanRec c).heads r) = false →
      ∀ now, (s.lamp c).runAfter (sampleCategory i (s.chanRec c).heads r) (sampleEstimate i (s.chanRec c).heads r) = now →
        (now.count < (s.settings c).confirm → (judged s c i r).lamp c = { s.lamp c with run := some now }) ∧
        ((s.settings c).confirm ≤ now.count →
          (judged s c i r).lamp c = (s.lamp c).withVerdict (now.gives (s.chanRec c).heads).1 (some (now.gives (s.chanRec c).heads).2) ∧
            ∀ g, ((judged s c i r).group g).redHealth = (judged s c i r).redHealthOf g)) := by
  unfold judged
  refine ⟨fun k hk => ?_, fun ha => ?_, fun ha now hnow => ⟨fun hn => ?_, fun hn => ?_⟩⟩
  · split
    · exact State.onLamp_other _ _ hk.symm
    · split
      · exact (lamp_setVerdict _ _).2 k hk
      · exact State.onLamp_other _ _ hk.symm
  · rw [if_pos ha]; exact State.onLamp_self _ _ _
  · rw [if_neg (by rw [ha]; decide), hnow, if_neg (Nat.not_le.mpr hn)]
    exact State.onLamp_self _ _ _
  · rw [if_neg (by rw [ha]; decide), hnow, if_pos hn]
    exact ⟨(lamp_setVerdict _ _).1, fun g => redHealth_evalAllRedHealth g⟩

/-- An on-sample that is taken, by what the lamp has learned. -/
theorem takeSample_learned {i r : Nat} (h : s.onSample c = true) (hl : (s.lamp c).learn = .learned)
    (hr : (s.lamp c).iref = some r) : s.takeSample c i = s.estimateSample c i r := by
  unfold State.takeSample; rw [if_pos h, hl, hr]

theorem takeSample_learning {i : Nat} (h : s.onSample c = true) (hl : (s.lamp c).learn ≠ .learned) :
    s.takeSample c i = s.onLamp c fun l => l.learnSample i := by
  unfold State.takeSample
  rw [if_pos h]
  split
  · next hl' _ => exact absurd hl' hl
  · next hl' _ => exact absurd hl' hl
  · rfl

/-- A lamp record's leak time, which no sample touches. -/
theorem takeSample_frame (i : Nat) : (∀ k, k ≠ c → (s.takeSample c i).lamp k = s.lamp k) ∧
    ((s.takeSample c i).lamp c).leak = (s.lamp c).leak ∧
    ((s.takeSample c i).lamp c).maintenance = (s.lamp c).maintenance := by
  have hverdict (l : LampRec) (v : Verdict) (n : Option Nat) : (l.withVerdict v n).leak = l.leak ∧
      (l.withVerdict v n).maintenance = l.maintenance := by
    unfold LampRec.withVerdict
    split
    · exact ⟨rfl, rfl⟩
    · exact ⟨rfl, rfl⟩
  unfold State.takeSample
  split
  · split
    · next r _ _ =>
      rw [estimateSample_eq]
      obtain ⟨hown, hother⟩ := lamp_tracked (s := judged s c i r) (c := c) (trackReference (s.settings c).refMode i r)
      obtain ⟨jother, jagrees, jruns⟩ := judged_spec (s := s) (c := c) i r
      refine ⟨fun k hk => (hother k hk).trans (jother k hk), ?_⟩
      rw [hown]
      cases ha : (s.lamp c).agrees (sampleCategory i (s.chanRec c).heads r) (sampleEstimate i (s.chanRec c).heads r) with
      | true => rw [jagrees ha]; exact ⟨rfl, rfl⟩
      | false =>
        obtain ⟨hless, hmore⟩ := jruns ha _ rfl
        rcases Nat.lt_or_ge _ (s.settings c).confirm with hn | hn
        · rw [hless hn]; exact ⟨rfl, rfl⟩
        · rw [(hmore hn).1]; exact hverdict _ _ _
    · exact ⟨fun _ _ => rfl, rfl, rfl⟩
    · obtain ⟨-, -, hm, hl, -⟩ := learnSample_frame (s.lamp c) i
      refine ⟨fun k hk => State.onLamp_other _ _ hk.symm, ?_⟩
      rw [State.onLamp_self]
      exact ⟨hl, hm⟩
  · exact ⟨fun _ _ => rfl, rfl, rfl⟩

/-! ### Learning (R121) -/

theorem learnSample_saturated (l : LampRec) : l.learnSample 4000 = { l with learn := .learning 0, set := none, run := none } :=
  rfl

theorem learnSample_begins {l : LampRec} {i : Nat} (hi : i < 4000) (hl : l.learn = .unlearned ∨ l.learn = .learning 0)
    (hs : l.set = none) : l.learnSample i = { l with learn := .learning 1, set := some ⟨i, i, i⟩, run := none } := by
  unfold LampRec.learnSample
  dsimp only
  rw [if_neg hi.ne, hs]
  rcases hl with h | h <;> rw [h] <;> rfl

theorem learnSample_goesOn {l : LampRec} {i n : Nat} {t : LearnSet} (hi : i < 4000) (hl : l.learn = .learning n)
    (hs : l.set = some t) :
    (n < 7 → l.learnSample i =
      { l with learn := .learning (n + 1), set := some ⟨t.sum + i, min t.lowest i, max t.highest i⟩, run := none }) ∧
    (n = 7 →
      ((max t.highest i - min t.lowest i) * 4 ≤ (t.sum + i) / 8 → 20 ≤ (t.sum + i) / 8 →
        l.learnSample i = { l with learn := .learned, iref := some ((t.sum + i) / 8), set := none, run := none }) ∧
      ((t.sum + i) / 8 < (max t.highest i - min t.lowest i) * 4 ∨ (t.sum + i) / 8 < 20 →
        l.learnSample i = { l with learn := .learning 0, set := none, run := none })) := by
  unfold LampRec.learnSample
  dsimp only
  rw [if_neg hi.ne, hl, hs]
  dsimp only
  refine ⟨fun hn => if_pos (by omega), fun hn => ⟨fun h1 h2 => ?_, fun h => ?_⟩⟩
  · rw [if_neg (by omega)]; exact if_neg (by omega)
  · rw [if_neg (by omega)]; exact if_pos h

end Samples

open Acts Ending Samples

/-- Settles O57. -/
theorem currentSampleLearnsAndEstimates : Obligations.CurrentSampleLearnsAndEstimates := by
  unfold Obligations.CurrentSampleLearnsAndEstimates
  rintro s c mA i hb rfl
  refine ⟨fun hno => ?_, fun t0 hon hclosed hsince hsettled hm hdark => ?_⟩
  · have hoff : ¬s.onSample c = true := by
      rw [onSample_iff, settle_eq]
      rintro ⟨hon, hp, ⟨t0, ht, hle⟩, hm, hd⟩
      rcases hno with h | h | h | ⟨t0', ht', hlt⟩ | h | h
      · exact h hon
      · exact h hp
      · rw [h] at ht; exact absurd ht nofun
      · obtain rfl := Option.some.inj (ht.symm.trans ht'); exact absurd hlt (Nat.not_lt.mpr hle)
      · rw [h] at hm; exact absurd hm (by decide)
      · exact hd h
    have hsame : s.takeSample c (min 4000 mA) = s := if_neg hoff
    show Host.Outcome.next (State.finish s (s.takeSample c (min 4000 mA))) = _
    rw [hsame, Laws.finish_betweenSteps hb rfl]
  · have hon : s.onSample c = true := onSample_iff.mpr ⟨hon, hclosed, ⟨t0, hsince, by rw [settle_eq]; exact hsettled⟩, hm, hdark⟩
    generalize hi : min 4000 mA = i
    have hacts : Acts (fun _ => True) verdictParts s (s.takeSample c i) := of_edits (edits_takeSample c i)
    have hend : Acts (fun _ => True) greenParts (s.takeSample c i) (State.takeInhibition s (s.takeSample c i)) :=
      acts_takeInhibition_green s
    have hexec : exec (.currentSample c mA) s =
        .next (State.closeAdditions s (State.takeInhibition s (s.takeSample c i))) := by
      show Host.Outcome.next (State.finish s (s.takeSample c (min 4000 mA))) = _
      rw [hi, finish_of_noCommit (noCommit_of_kept hb hacts.modes_eq hacts.cfg_eq)]
    obtain ⟨hother, hleak, hmaint⟩ := takeSample_frame (s := s) (c := c) i
    have hcolour (g : Gid) : ((s.takeSample c i).group g).colour = (s.group g).colour := hacts.colour_eq g
    refine ⟨_, hexec, ?_⟩
    simp only [closeAdditions_cfg, closeAdditions_clk, closeAdditions_sch, closeAdditions_det, closeAdditions_sup,
      closeAdditions_lamp, closeAdditions_group, closeAdditions_seq, closeAdditions_out, closeAdditions_cbt]
    refine ⟨hend.cfg_eq.trans hacts.cfg_eq, hend.clk_eq.trans hacts.clk_eq, hend.sch_eq.trans hacts.sch_eq,
      hend.det_eq.trans hacts.det_eq, hend.modes_eq.trans hacts.modes_eq, ?_, fun g => ?_, fun ht hmode g at' hg hi0 hi1 hc => ?_,
      fun hs => ?_⟩
    · exact (hend.trails c).1.trans (hmaint.trans hm)
    · rcases colour_takeInhibition (before := s) (u := s.takeSample c i) g with h | ⟨h1, h2, h3⟩
      · exact .inl (h.trans (hcolour g))
      · exact .inr ⟨(hcolour g).symm.trans h1, h2, by rw [(hend.health_eq g).2]; exact h3⟩
    · have hphase := hacts.phase_eq g
      have hline := hacts.line_eq
      have hnormal : (s.takeSample c i).normalTick = true :=
        Sequencing.normalTick_of ((Inputs.line_of Seq.tickOpen hline).trans ht) (hacts.modes_eq.trans hmode)
      have hgain : (s.takeSample c i).seq.gainingInstant g = some at' :=
        (Inputs.line_of (fun q => q.gainingInstant g) hline).trans hg
      have hjoin := Inputs.line_of (fun q => q.joinedInstant g) hline
      have hdropped := dropped_takeInhibition (before := s) hnormal hi0 (by rw [← (hend.health_eq g).2]; exact hi1) hgain
        (by
          unfold phaseOf at hphase
          simp only [Prod.mk.injEq] at hphase
          rw [hphase.1, hphase.2.1]; exact hc)
      rw [hjoin] at hdropped
      exact hdropped
    · obtain ⟨q, hq, hdrop⟩ : Drops (s.takeSample c i) (State.takeInhibition s (s.takeSample c i)) := drops_of_settled hs hacts
      have hgroup (g : Gid) : (State.takeInhibition s (s.takeSample c i)).group g = (s.takeSample c i).group g :=
        Drops.group ⟨q, hq, hdrop⟩ g
      have hlamp (k : Ch) : (State.takeInhibition s (s.takeSample c i)).lamp k = (s.takeSample c i).lamp k := by
        rw [hdrop]; rfl
      have hlearning (hl : (s.lamp c).learn ≠ .learned) : (s.takeSample c i).lamp c = (s.lamp c).learnSample i := by
        rw [takeSample_learning hon hl, State.onLamp_self]
      simp only [hlamp, hgroup]
      refine ⟨hother, hleak, by rw [hdrop]; exact hacts.out_eq, by rw [hdrop]; exact hacts.cbt_eq, hcolour, fun hfull hl => ?_,
        fun hlt hl hset => ?_, fun n g hlt hl hset => ?_, fun r n h cat hl hr hv hn hh hcat => ?_⟩
      · rw [hlearning hl, hfull, learnSample_saturated]
      · rw [hlearning (by rcases hl with h | h <;> rw [h] <;> decide), learnSample_begins hlt hl hset]
      · rw [hlearning (by rw [hl]; exact nofun)]
        exact learnSample_goesOn hlt hl hset
      · obtain ⟨-, hagree, hruns⟩ := judged_spec (s := s) (c := c) i r
        have hwritten : (s.takeSample c i).lamp c =
            { (judged s c i r).lamp c with iref := some (trackReference (s.settings c).refMode i r) } := by
          rw [takeSample_learned hon hl hr, estimateSample_eq, State.onLamp_self]
        have hcategory : sampleCategory i (s.chanRec c).heads r = cat := by rw [hcat, hh, hn]; rfl
        have hestimate : sampleEstimate i (s.chanRec c).heads r = h := by rw [hh, hn]; rfl
        rw [hcategory, hestimate] at hagree hruns
        have hred (hj : ∀ g, ((judged s c i r).group g).redHealth = (judged s c i r).redHealthOf g) (g : Gid) :
            ((s.takeSample c i).group g).redHealth = (State.closeAdditions s (State.takeInhibition s (s.takeSample c i))).redHealthOf g := by
          have hsame : (s.takeSample c i).group g = (judged s c i r).group g := by
            rw [takeSample_learned hon hl hr, estimateSample_eq]; rfl
          rw [hsame, hj g]
          refine (redHealthOf_of ?_ fun k => ?_).symm
          · rw [closeAdditions_cfg, hdrop, takeSample_learned hon hl hr, estimateSample_eq]; rfl
          · rw [closeAdditions_lamp, hlamp, takeSample_learned hon hl hr, estimateSample_eq]
            by_cases hk : k = c
            · rw [hk, State.onLamp_self]
            · rw [State.onLamp_other _ _ (Ne.symm hk)]
        rw [hwritten]
        cases ha : (s.lamp c).agrees cat h with
        | true =>
          rw [hagree ha]
          exact ⟨hl, rfl, rfl, fun _ => ⟨rfl, rfl, rfl⟩, fun hno => absurd (agrees_iff.mp ha) hno⟩
        | false =>
          have hnone := mt agrees_iff.mpr (by rw [ha]; decide)
          obtain ⟨hless, hmore⟩ := hruns ha _ rfl
          rcases Nat.lt_or_ge ((s.lamp c).runAfter cat h).count (s.settings c).confirm with hlt | hge
          · rw [hless hlt]
            refine ⟨hl, rfl, rfl, fun hyes => absurd hyes hnone, fun _ now hnow => ?_⟩
            obtain rfl := runAfter_of hnow
            exact ⟨fun _ => ⟨rfl, rfl, rfl⟩, fun hge => absurd hlt (Nat.not_lt.mpr hge)⟩
          · obtain ⟨hlampc, hj⟩ := hmore hge
            rw [hlampc]
            have hverdict (v : Verdict) (e : Option Nat) : (s.lamp c).withVerdict v e =
                { s.lamp c with verdict := v, healthy := e, run := none } := if_neg hv
            rw [hverdict]
            refine ⟨hl, rfl, rfl, fun hyes => absurd hyes hnone, fun _ now hnow => ?_⟩
            have hrun := runAfter_of hnow
            have hcandidate : now.candidate = cat := by
              rcases hnow with ⟨old, -, -, rfl⟩ | ⟨-, rfl⟩
              · rfl
              · rfl
            rw [hrun] at hge ⊢
            refine ⟨fun hlt => absurd hlt (Nat.not_lt.mpr hge), fun _ => ⟨rfl, hred hj, ?_⟩⟩
            unfold ConfirmRun.gives
            rw [hcandidate, ← hn]
            refine ⟨fun hc => ?_, fun hc => ?_, fun hc => ?_, fun hc => ?_⟩ <;> rw [hc] <;> exact ⟨rfl, rfl⟩

end Sys2Proof.Machine
end

section
/-! PROOFS. One channel's relay: what an indication, a limit and a fault do to it. -/

namespace Sys2Proof.Machine

set_option Elab.async false

namespace Relays

open Acts Ending

variable {G : Gid → Prop} {K : List Part} {before s t u : State} {c k : Ch} {f : RelayFault}

/-! ### What the writing of one channel leaves of the others -/

/-- The channels and lamps but one, the configuration, the tester, the contactor and the generator as they were. -/
def Aside (c : Ch) (s t : State) : Prop :=
  (∀ k, k ≠ c → t.chan k = s.chan k ∧ t.lamp k = s.lamp k) ∧ t.cfg = s.cfg ∧ t.now = s.now ∧ t.cbt = s.cbt ∧
    t.out.contactor = s.out.contactor ∧ t.out.flash = s.out.flash

theorem Aside.refl (s : State) : Aside c s s := ⟨fun _ _ => ⟨rfl, rfl⟩, rfl, rfl, rfl, rfl, rfl⟩

theorem Aside.trans (h : Aside c s t) (h' : Aside c t u) : Aside c s u := by
  obtain ⟨a1, a2, a3, a4, a5, a6⟩ := h
  obtain ⟨b1, b2, b3, b4, b5, b6⟩ := h'
  exact ⟨fun k hk => ⟨(b1 k hk).1.trans (a1 k hk).1, (b1 k hk).2.trans (a1 k hk).2⟩, b2.trans a2, b3.trans a3, b4.trans a4,
    b5.trans a5, b6.trans a6⟩

theorem aside_onChan (c : Ch) (f : ChanRun → ChanRun) : Aside c s (s.onChan c f) :=
  ⟨fun _ hk => ⟨State.onChan_other s f (Ne.symm hk), rfl⟩, rfl, rfl, rfl, rfl, rfl⟩

theorem aside_onLamp (c : Ch) (f : LampRec → LampRec) : Aside c s (s.onLamp c f) :=
  ⟨fun _ hk => ⟨rfl, State.onLamp_other s f (Ne.symm hk)⟩, rfl, rfl, rfl, rfl, rfl⟩

theorem aside_onFlt (f : Flt → Flt) : Aside c s (s.onFlt f) := ⟨fun _ _ => ⟨rfl, rfl⟩, rfl, rfl, rfl, rfl, rfl⟩

/-- What the observed greens rest on is left as it is when they are judged again. -/
theorem refreshShowing_frame (k : Ch) : (s.refreshShowing k).out = s.out ∧ (s.refreshShowing k).lmp = s.lmp ∧
    (s.refreshShowing k).flt = s.flt ∧ (s.refreshShowing k).cfg = s.cfg ∧ (s.refreshShowing k).now = s.now ∧
    (s.refreshShowing k).cbt = s.cbt := by
  unfold State.refreshShowing
  split
  · unfold State.refreshGreen
    split
    · exact ⟨rfl, rfl, rfl, rfl, rfl, rfl⟩
    · exact ⟨rfl, rfl, rfl, rfl, rfl, rfl⟩
  · exact ⟨rfl, rfl, rfl, rfl, rfl, rfl⟩

theorem aside_refreshShowing (k : Ch) : Aside c s (s.refreshShowing k) := by
  obtain ⟨ho, hl, -, hc, hn, hb⟩ := refreshShowing_frame (s := s) k
  refine ⟨fun j _ => ⟨?_, ?_⟩, hc, hn, hb, by rw [ho], by rw [ho]⟩
  · unfold State.chan; rw [ho]
  · unfold State.lamp; rw [hl]

theorem refreshLeak_frame (c : Ch) : Aside c s (s.refreshLeak c) ∧ (s.refreshLeak c).flt = s.flt ∧
    (s.refreshLeak c).out = s.out := by
  unfold State.refreshLeak
  split
  · split
    · exact ⟨Aside.refl s, rfl, rfl⟩
    · exact ⟨aside_onLamp c _, rfl, rfl⟩
  · exact ⟨aside_onLamp c _, rfl, rfl⟩

/-! ### A channel's fields written -/

/-- The new fields stand, but for steady-on since, which follows from them. -/
theorem putChan_spec (c : Ch) (new : ChanRun) : (∃ x, (s.putChan c new).chan c = { new with steadySince := x }) ∧
    Aside c s (s.putChan c new) ∧ (s.putChan c new).flt = s.flt := by
  unfold State.putChan
  dsimp only
  obtain ⟨hleak, hflt, hout⟩ := refreshLeak_frame (s := ((s.onChan c fun _ => (s.chan c).settled new s.now).onLamp c fun l =>
    l.follow (s.chan c) new).refreshShowing c) c
  obtain ⟨hout', -, hflt', -⟩ := refreshShowing_frame (s := (s.onChan c fun _ => (s.chan c).settled new s.now).onLamp c fun l =>
    l.follow (s.chan c) new) c
  refine ⟨⟨((s.chan c).settled new s.now).steadySince, ?_⟩,
    ((aside_onChan c _).trans (aside_onLamp c _)).trans ((aside_refreshShowing c).trans hleak), hflt.trans hflt'⟩
  unfold State.chan at *
  rw [hout, hout']
  show ((s.out.chans.modify c _).get c) = _
  rw [Tab.get_modify_self]
  rfl

/-! ### Relay faults (R109) -/

theorem aside_clearRelayEntry (k : Ch) (f : RelayFault) : Aside c s (s.clearRelayEntry k f) := by
  unfold State.clearRelayEntry
  split
  · exact aside_onFlt _
  · exact Aside.refl s

theorem chan_clearRelayEntry (c : Ch) (f : RelayFault) (k : Ch) : (s.clearRelayEntry c f).chan k = s.chan k := by
  unfold State.clearRelayEntry
  split
  · rfl
  · rfl

/-- A fault value after the end of another. -/
def RelayFault.after (x f : RelayFault) : RelayFault := if x = f then .none else x

theorem endRelayFault_spec (c : Ch) (f : RelayFault) :
    (s.endRelayFault c f).chan c = { s.chan c with fault := RelayFault.after (s.chan c).fault f } ∧
      Aside c s (s.endRelayFault c f) ∧
      ((s.endRelayFault c f).flt = s.flt ∨ ∃ k, f.kind = some k ∧ (s.endRelayFault c f).flt = s.flt.clear k (.channel c)) := by
  unfold State.endRelayFault RelayFault.after
  split
  · next h =>
    refine ⟨by rw [chan_clearRelayEntry, State.onChan_self], (aside_onChan c _).trans (aside_clearRelayEntry c f), ?_⟩
    unfold State.clearRelayEntry
    split
    · next k hk => exact .inr ⟨k, hk, rfl⟩
    · exact .inl rfl
  · exact ⟨rfl, Aside.refl s, .inl rfl⟩

/-- An entry of another kind is left alone when one is cleared. -/
theorem mem_clear_other {t : Flt} {k : FaultKind} {x : Subject} {e : FaultEntry} (h : e.kind ≠ k) :
    e ∈ (t.clear k x).entries ↔ e ∈ t.entries := by
  unfold Flt.clear
  split
  · simp only [List.mem_map]
    constructor
    · rintro ⟨y, hy, he⟩
      split at he
      · next hk =>
        refine absurd ?_ h
        rw [← he]
        simp only [FaultEntry.hasKey, Bool.and_eq_true, beq_iff_eq] at hk
        exact hk.1
      · exact he ▸ hy
    · exact fun he => ⟨e, he, if_neg (by simp [FaultEntry.hasKey, h])⟩
  · exact Iff.rfl

theorem length_clearRelayEntry (c : Ch) (f : RelayFault) : (s.clearRelayEntry c f).flt.entries.length = s.flt.entries.length := by
  unfold State.clearRelayEntry
  split
  · exact Laws.clear_length _ _ _
  · rfl

/-- A fault value found, and the entry of the value it replaces made CLEARED. -/
def faulted (s : State) (c : Ch) (f : RelayFault) : State :=
  if (s.chan c).fault = f then s.onChan c fun r => { r with fault := f }
    else (s.onChan c fun r => { r with fault := f }).clearRelayEntry c (s.chan c).fault

/-- A finding with its report, before the cabinet acts on it. -/
def found (s : State) (c : Ch) (f : RelayFault) (k : FaultKind) (b : Bool) : State :=
  (faulted s c f).reportAs k (.channel c) b

theorem hardReason_of (h : t.cfg = s.cfg) : t.hardReason c f = s.hardReason c f := by
  unfold State.hardReason State.greenAspect State.chanRec
  rw [h]

theorem aside_faulted (c : Ch) (f : RelayFault) : Aside c s (faulted s c f) := by
  unfold faulted
  split
  · exact aside_onChan c _
  · exact (aside_onChan c _).trans (aside_clearRelayEntry c _)

theorem findRelayFault_advisory {k : FaultKind} (hk : f.kind = some k) (h : s.hardReason c f = none) :
    s.findRelayFault c f = found s c f k false := by
  have hr := (hardReason_of (aside_faulted (s := s) c f).2.1 (c := c) (f := f)).trans h
  show (faulted s c f).reportRelayFault c f = _
  unfold State.reportRelayFault found
  dsimp only
  rw [hk, hr]
  rfl

theorem findRelayFault_hard {k : FaultKind} {r : Reason} (hk : f.kind = some k) (h : s.hardReason c f = some r) :
    s.findRelayFault c f = (found s c f k true).hardFault r := by
  have hr := (hardReason_of (aside_faulted (s := s) c f).2.1 (c := c) (f := f)).trans h
  show (faulted s c f).reportRelayFault c f = _
  unfold State.reportRelayFault found
  dsimp only
  rw [hk, hr]
  rfl

/-- A finding is the channel's fault, with an ACTIVE entry of its class where the table has room. -/
theorem found_spec {kind : FaultKind} (b : Bool) : (found s c f kind b).chan c = { s.chan c with fault := f } ∧
    Aside c s (found s c f kind b) ∧
    (s.flt.entries.length < 64 →
      ∃ e ∈ (found s c f kind b).flt.entries, e.kind = kind ∧ e.subject = .channel c ∧ e.active = true ∧ e.safety = b) := by
  have hchan : (faulted s c f).chan c = { s.chan c with fault := f } := by
    unfold faulted
    split
    · exact State.onChan_self _ _ _
    · rw [chan_clearRelayEntry]; exact State.onChan_self _ _ _
  have hlength : (faulted s c f).flt.entries.length = s.flt.entries.length := by
    unfold faulted
    split
    · rfl
    · exact length_clearRelayEntry _ _
  refine ⟨hchan, (aside_faulted c f).trans (aside_onFlt _), fun hl => ?_⟩
  obtain ⟨e, he, h1, h2, h3, -, h4, -⟩ :=
    Laws.report_active (faulted s c f).flt kind (.channel c) b (faulted s c f).stamp (by rw [hlength]; exact hl)
  exact ⟨e, he, h1, h2, h3, h4⟩

abbrev findingParts : List Part := [.chan, .flt, .closeFault, .relayFault, .alarm]

theorem acts_found {kind : FaultKind} (hk : f.kind = some kind) (b : Bool) : Acts G findingParts s (found s c f kind b) := by
  have hchan : Acts G findingParts s (s.onChan c fun r => { r with fault := f }) := (of_edits (edits_onChan_fault c f)).up
  have hp := part_of_relayKind hk
  refine Acts.trans (t := faulted s c f) (either (fun _ => hchan) fun _ => hchan.trans (of_edits (edits_clearRelayEntry c _)).up) ?_
  exact of_edits (edits_reportAs kind _ _ (by rcases hp with e | e <;> rw [e] <;> decide))

/-! ### Wear and the completed pull-in (R103, R104, R110) -/

theorem countOperation_spec (c : Ch) :
    (s.countOperation c).chan c = { s.chan c with opCount := min 4294967295 ((s.chan c).opCount + 1) } ∧
      Aside c s (s.countOperation c) ∧
      (¬((s.chan c).opCount < (s.settings c).wear ∧ (s.settings c).wear ≤ min 4294967295 ((s.chan c).opCount + 1)) →
        (s.countOperation c).flt = s.flt) ∧
      ((s.chan c).opCount < (s.settings c).wear → (s.settings c).wear ≤ min 4294967295 ((s.chan c).opCount + 1) →
        s.flt.entries.length < 64 → ∃ e ∈ (s.countOperation c).flt.entries,
          e.kind = .relayWear ∧ e.subject = .channel c ∧ e.active = true ∧ e.safety = false) := by
  unfold State.countOperation
  dsimp only
  split
  · next h =>
    refine ⟨State.onChan_self _ _ _, (aside_onChan c _).trans (aside_onFlt _), fun hno => absurd ⟨h.2.1, h.2.2⟩ hno,
      fun _ _ hl => ?_⟩
    obtain ⟨e, he, h1, h2, h3, -, h4, -⟩ := Laws.report_active s.flt .relayWear (.channel c) false s.stamp hl
    exact ⟨e, he, h1, h2, h3, h4⟩
  · next h =>
    exact ⟨State.onChan_self _ _ _, aside_onChan c _, fun _ => rfl,
      fun hlt hle _ => absurd ⟨(Nat.zero_le _).trans_lt hlt, hlt, hle⟩ h⟩

/-- The count of a channel after a completed pull-in. -/
def countedOf (r : ChanRun) : Nat := if r.proof = .opened then min 4294967295 (r.opCount + 1) else r.opCount

/-- A completed pull-in: the relay is held and proven, one operation is counted, and a failure to close ends. -/
theorem completePullIn_spec (c : Ch) :
    (∃ x, (s.completePullIn c).chan c =
      { s.chan c with
        relay := .held, proof := .closed, limit := none, drive := if (s.chan c).fullTime.isSome then .full else .hold
        steadySince := x, opCount := countedOf (s.chan c), fault := RelayFault.after (s.chan c).fault .failToClose }) ∧
      Aside c s (s.completePullIn c) ∧
      ((s.chan c).opCount < (s.settings c).wear → (s.settings c).wear ≤ countedOf (s.chan c) → s.flt.entries.length < 64 →
        ∃ e ∈ (s.completePullIn c).flt.entries, e.kind = .relayWear ∧ e.subject = .channel c ∧ e.active = true ∧
          e.safety = false) ∧
      ((s.settings c).wear ≤ (s.chan c).opCount ∨ countedOf (s.chan c) < (s.settings c).wear →
        ∀ e : FaultEntry, e.kind = .relayWear → (e ∈ (s.completePullIn c).flt.entries ↔ e ∈ s.flt.entries)) := by
  unfold State.completePullIn countedOf
  dsimp only
  obtain ⟨⟨x, hput⟩, haside, hflt⟩ := putChan_spec (s := s) c
    { s.chan c with relay := .held, proof := .closed, limit := none, drive := if (s.chan c).fullTime.isSome then .full else .hold }
  generalize s.putChan c _ = w at hput haside hflt
  have hset : w.settings c = s.settings c := by unfold State.settings; rw [haside.2.1]
  have hends (v : State) (e : FaultEntry) (he : e.kind = .relayWear) :
      e ∈ (v.endRelayFault c .failToClose).flt.entries ↔ e ∈ v.flt.entries := by
    rcases (endRelayFault_spec (s := v) c .failToClose).2.2 with h | ⟨k, hk, h⟩
    · rw [h]
    · rw [h]
      refine mem_clear_other ?_
      rw [he, ← Option.some.inj hk]
      exact nofun
  by_cases hp : (s.chan c).proof = .opened
  · rw [if_pos hp, if_pos hp]
    obtain ⟨hcount, haside', hquiet, hworn⟩ := countOperation_spec (s := w) c
    obtain ⟨hfault, haside'', -⟩ := endRelayFault_spec (s := w.countOperation c) c .failToClose
    rw [hcount, hput] at hfault
    rw [hput, hset, hflt] at hquiet hworn
    refine ⟨⟨x, hfault⟩, (haside.trans haside').trans haside'', fun hlt hle hl => ?_, fun hno e he => ?_⟩
    · obtain ⟨e, he, h1, h2⟩ := hworn hlt hle hl
      exact ⟨e, (hends _ e h1).mpr he, h1, h2⟩
    · rw [hends _ e he, hquiet fun ⟨hlt, hle⟩ => hno.elim (fun h => absurd hlt (Nat.not_lt.mpr h)) fun h => absurd hle (Nat.not_le.mpr h)]
  · rw [if_neg hp, if_neg hp]
    obtain ⟨hfault, haside'', -⟩ := endRelayFault_spec (s := w) c .failToClose
    rw [hput] at hfault
    refine ⟨⟨x, hfault⟩, haside.trans haside'', fun hlt hle _ => absurd hlt (Nat.not_lt.mpr hle), fun _ e he => ?_⟩
    rw [hends _ e he, hflt]

/-! ### An indication at a relay, with the supply proven (R103 to R108) -/

variable {r : ChanRun}

theorem takeNoVoltage_held (h : r.relay = .held) :
    (∃ x, (s.takeNoVoltage c r).chan c =
      { r with
        proof := .opened, relay := .pullingIn, drive := .full, fullTime := some 0
        limit := some ⟨0, max (s.settings c).pullIn 50⟩
        steadySince := x, fault := RelayFault.after r.fault .foreignVoltage }) ∧ Aside c s (s.takeNoVoltage c r) := by
  unfold State.takeNoVoltage
  rw [h]
  dsimp only
  obtain ⟨⟨x, hput⟩, haside, -⟩ := putChan_spec (s := s) c
    { r with
      proof := .opened, relay := .pullingIn, drive := .full, fullTime := some 0
      limit := some ⟨0, max (s.settings c).pullIn Config.dropoutFloor⟩ }
  obtain ⟨hfault, haside', -⟩ := endRelayFault_spec (s := s.putChan c
    { r with
      proof := .opened, relay := .pullingIn, drive := .full, fullTime := some 0
      limit := some ⟨0, max (s.settings c).pullIn Config.dropoutFloor⟩ }) c .foreignVoltage
  rw [hput] at hfault
  exact ⟨⟨x, hfault⟩, haside.trans haside'⟩

theorem takeNoVoltage_pullingIn (h : r.relay = .pullingIn) :
    (∃ x, (s.takeNoVoltage c r).chan c =
      { r with steadySince := x, fault := RelayFault.after r.fault .foreignVoltage }) ∧ Aside c s (s.takeNoVoltage c r) := by
  have heq : s.takeNoVoltage c r = (s.putChan c r).endRelayFault c .foreignVoltage := by
    unfold State.takeNoVoltage
    rw [h]
  rw [heq]
  obtain ⟨⟨x, hput⟩, haside, -⟩ := putChan_spec (s := s) c r
  obtain ⟨hfault, haside', -⟩ := endRelayFault_spec (s := s.putChan c r) c .foreignVoltage
  rw [hput] at hfault
  exact ⟨⟨x, hfault⟩, haside.trans haside'⟩

theorem takeNoVoltage_off (h : r.relay = .releasing ∨ r.relay = .released) :
    (∃ x, (s.takeNoVoltage c r).chan c =
      { r with
        relay := .released, proof := .opened, limit := none, steadySince := x
        fault := RelayFault.after (RelayFault.after r.fault .failToOpen) .foreignVoltage }) ∧
      Aside c s (s.takeNoVoltage c r) := by
  have heq : s.takeNoVoltage c r =
      ((s.putChan c { r with relay := .released, proof := .opened, limit := none }).endRelayFault c .failToOpen).endRelayFault
        c .foreignVoltage := by
    unfold State.takeNoVoltage
    rcases h with h | h <;> rw [h]
  rw [heq]
  obtain ⟨⟨x, hput⟩, haside, -⟩ := putChan_spec (s := s) c { r with relay := .released, proof := .opened, limit := none }
  obtain ⟨hfault, haside', -⟩ := endRelayFault_spec
    (s := s.putChan c { r with relay := .released, proof := .opened, limit := none }) c .failToOpen
  obtain ⟨hfault', haside'', -⟩ := endRelayFault_spec
    (s := (s.putChan c { r with relay := .released, proof := .opened, limit := none }).endRelayFault c .failToOpen) c .foreignVoltage
  rw [hput] at hfault
  rw [hfault] at hfault'
  exact ⟨⟨x, hfault'⟩, (haside.trans haside').trans haside''⟩

theorem takeFullVoltage_held (h : r.relay = .held) : s.takeFullVoltage c r = s.putChan c r := by
  unfold State.takeFullVoltage; rw [h]

theorem takeFullVoltage_pullingIn (h : r.relay = .pullingIn) :
    s.takeFullVoltage c r = (s.onChan c fun _ => r).completePullIn c := by
  unfold State.takeFullVoltage; rw [h]

theorem takeFullVoltage_releasing (h : r.relay = .releasing) :
    s.takeFullVoltage c r = s.putChan c { r with proof := .closed } := by
  unfold State.takeFullVoltage; rw [h]

theorem takeFullVoltage_released (h : r.relay = .released) :
    s.takeFullVoltage c r = (s.putChan c r).findRelayFault c .foreignVoltage := by
  unfold State.takeFullVoltage; rw [h]

end Relays

end Sys2Proof.Machine
end

section
/-! PROOFS. The indications and the limits of the channel relays (O55). -/

namespace Sys2Proof.Machine

set_option Elab.async false

namespace Relays

open Acts Ending

variable {G : Gid → Prop} {K : List Part} {before s t u : State} {c k : Ch} {l : Level} {r : ChanRun}

/-! ### An indication, by the state of the relay and of the supply -/

/-- What the relay of a channel makes of an indication, with the supply proven or not. -/
def relayTakes (s : State) (c : Ch) (l : Level) (proven : Bool) (r : ChanRun) : State :=
  if proven then (if l = .full then s.takeFullVoltage c r else s.takeNoVoltage c r) else s.putChan c r

theorem takeIndication_eq (h : l = .full → (s.chan c).testBus = .no) :
    s.takeIndication c l = relayTakes (s.markQuiet c l) c l s.supplyProven { s.chan c with indication := l } :=
  if_neg fun ⟨hl, hb⟩ => hb (h hl)

theorem relayTakes_unproven (s : State) (c : Ch) (l : Level) (r : ChanRun) : relayTakes s c l false r = s.putChan c r := rfl
theorem relayTakes_full (s : State) (c : Ch) (r : ChanRun) : relayTakes s c .full true r = s.takeFullVoltage c r := rfl
theorem relayTakes_none (h : l ≠ .full) : relayTakes s c l true r = s.takeNoVoltage c r := if_neg h

abbrev takenParts : List Part := .relayFault :: relayParts

/-- But for a finding at a released relay, an indication leaves the cabinet alone. -/
theorem acts_settled (hr : r = { s.chan c with indication := l }) (proven : Bool)
    (h : proven = false ∨ l ≠ .full ∨ r.relay ≠ .released) : Acts G takenParts s (relayTakes s c l proven r) := by
  have hcoil : (s.chan c).coilOk → r.coilOk := by rw [hr]; exact id
  have hcmd : r.command = (s.chan c).command := by rw [hr]
  have hproof : r.proof = (s.chan c).proof := by rw [hr]
  have hcount : r.opCount = (s.chan c).opCount := by rw [hr]
  have hsteady : r.steadySince = (s.chan c).steadySince := by rw [hr]
  cases proven with
  | false => rw [relayTakes_unproven]; exact (of_edits (edits_putChan c hcoil hcmd hcount)).up
  | true =>
    by_cases hl : l = .full
    · obtain rfl := hl
      rw [relayTakes_full]
      cases hrel : r.relay with
      | held => rw [takeFullVoltage_held hrel]; exact (of_edits (edits_putChan c hcoil hcmd hcount)).up
      | pullingIn =>
        rw [takeFullVoltage_pullingIn hrel]
        exact (of_edits (edits_completePullIn_from c (fun h => undriven_bus (hcoil h) (.inl hrel)) hcmd hproof hsteady hcount)).up
      | releasing =>
        rw [takeFullVoltage_releasing hrel]
        exact (of_edits (edits_putChan (new := { r with proof := .closed }) c hcoil hcmd hcount)).up
      | released => rcases h with h | h | h; exact absurd h nofun; exact absurd rfl h; exact absurd hrel h
    · rw [relayTakes_none hl]
      exact of_edits (edits_takeNoVoltage c hcoil hcmd hcount)

/-- The parts of a channel's record that no indication writes, with the others' records. -/
def Kept (c : Ch) (r : ChanRun) (s t : State) : Prop :=
  Aside c s t ∧ (t.chan c).indication = r.indication ∧ (t.chan c).command = r.command ∧ (t.chan c).testBus = r.testBus

theorem kept_of {new : ChanRun} (h : Aside c s t) (hc : t.chan c = new)
    (hn : new.indication = r.indication ∧ new.command = r.command ∧ new.testBus = r.testBus) : Kept c r s t := by
  unfold Kept; rw [hc]; exact ⟨h, hn⟩

theorem unproven_spec : Kept c r s (relayTakes s c l false r) ∧ ((relayTakes s c l false r).chan c).relay = r.relay ∧
    ((relayTakes s c l false r).chan c).proof = r.proof ∧ ((relayTakes s c l false r).chan c).drive = r.drive ∧
    ((relayTakes s c l false r).chan c).fault = r.fault := by
  rw [relayTakes_unproven]
  obtain ⟨⟨x, hc⟩, haside, -⟩ := putChan_spec (s := s) c r
  refine ⟨kept_of haside hc ⟨rfl, rfl, rfl⟩, ?_⟩
  rw [hc]
  exact ⟨rfl, rfl, rfl, rfl⟩

/-- A level below FULL at a proven supply: a held relay drops out and pulls in again, and a relay whose coil is off opens. -/
theorem noVoltage_spec (hl : l ≠ .full) : Kept c r s (relayTakes s c l true r) ∧
    ((relayTakes s c l true r).chan c).opCount = r.opCount ∧
    (r.fault = .foreignVoltage → ((relayTakes s c l true r).chan c).fault = .none) ∧
    (r.fault = .failToClose → ((relayTakes s c l true r).chan c).fault = .failToClose) ∧
    (r.relay = .held →
      ((relayTakes s c l true r).chan c).relay = .pullingIn ∧ ((relayTakes s c l true r).chan c).proof = .opened ∧
        ((relayTakes s c l true r).chan c).drive = .full ∧ ((relayTakes s c l true r).chan c).fullTime = some 0 ∧
        ((relayTakes s c l true r).chan c).limit = some ⟨0, max (s.settings c).pullIn 50⟩) ∧
    (r.relay = .pullingIn →
      ((relayTakes s c l true r).chan c).relay = .pullingIn ∧ ((relayTakes s c l true r).chan c).proof = r.proof ∧
        ((relayTakes s c l true r).chan c).drive = r.drive ∧ ((relayTakes s c l true r).chan c).limit = r.limit) ∧
    (r.relay = .releasing ∨ r.relay = .released →
      ((relayTakes s c l true r).chan c).relay = .released ∧ ((relayTakes s c l true r).chan c).proof = .opened ∧
        ((relayTakes s c l true r).chan c).limit = none ∧
        (r.fault = .failToOpen → ((relayTakes s c l true r).chan c).fault = .none)) := by
  rw [relayTakes_none hl]
  have hoff (h : r.relay = .releasing ∨ r.relay = .released) := takeNoVoltage_off (s := s) (c := c) h
  cases hrel : r.relay with
  | held =>
    obtain ⟨⟨x, hc⟩, haside⟩ := takeNoVoltage_held (s := s) (c := c) hrel
    refine ⟨kept_of haside hc ⟨rfl, rfl, rfl⟩, ?_⟩
    rw [hc]
    exact ⟨rfl, fun h => by rw [h]; rfl, fun h => by rw [h]; rfl, fun _ => ⟨rfl, rfl, rfl, rfl, rfl⟩, nofun, by simp⟩
  | pullingIn =>
    obtain ⟨⟨x, hc⟩, haside⟩ := takeNoVoltage_pullingIn (s := s) (c := c) hrel
    refine ⟨kept_of haside hc ⟨rfl, rfl, rfl⟩, ?_⟩
    rw [hc]
    exact ⟨rfl, fun h => by rw [h]; rfl, fun h => by rw [h]; rfl, nofun, fun _ => ⟨hrel, rfl, rfl, rfl⟩, by simp⟩
  | releasing =>
    obtain ⟨⟨x, hc⟩, haside⟩ := hoff (.inl hrel)
    refine ⟨kept_of haside hc ⟨rfl, rfl, rfl⟩, ?_⟩
    rw [hc]
    exact ⟨rfl, fun h => by rw [h]; rfl, fun h => by rw [h]; rfl, nofun, nofun, fun _ => ⟨rfl, rfl, rfl, fun h => by rw [h]; rfl⟩⟩
  | released =>
    obtain ⟨⟨x, hc⟩, haside⟩ := hoff (.inr hrel)
    refine ⟨kept_of haside hc ⟨rfl, rfl, rfl⟩, ?_⟩
    rw [hc]
    exact ⟨rfl, fun h => by rw [h]; rfl, fun h => by rw [h]; rfl, nofun, nofun, fun _ => ⟨rfl, rfl, rfl, fun h => by rw [h]; rfl⟩⟩

/-- FULL at a proven supply and a relay that is not released: a pull-in completes, and a release is proven to be late. -/
theorem fullVoltage_spec (hrel : r.relay ≠ .released) : Kept c r s (relayTakes s c .full true r) ∧
    (r.relay = .held →
      ((relayTakes s c .full true r).chan c).relay = .held ∧ ((relayTakes s c .full true r).chan c).proof = r.proof ∧
        ((relayTakes s c .full true r).chan c).drive = r.drive ∧ ((relayTakes s c .full true r).chan c).fault = r.fault) ∧
    (r.relay = .pullingIn →
      ((relayTakes s c .full true r).chan c).relay = .held ∧ ((relayTakes s c .full true r).chan c).proof = .closed ∧
        ((relayTakes s c .full true r).chan c).limit = none ∧
        ((relayTakes s c .full true r).chan c).drive = (if r.fullTime = none then .hold else .full) ∧
        ((relayTakes s c .full true r).chan c).fault = (if r.fault = .failToClose then .none else r.fault) ∧
        ((relayTakes s c .full true r).chan c).opCount = countedOf r ∧
        ∀ w, w = (s.settings c).wear →
          (r.opCount < w → w ≤ ((relayTakes s c .full true r).chan c).opCount → s.flt.entries.length < 64 →
            ∃ e ∈ (relayTakes s c .full true r).flt.entries,
              e.kind = .relayWear ∧ e.subject = .channel c ∧ e.active = true ∧ e.safety = false) ∧
          (w ≤ r.opCount ∨ ((relayTakes s c .full true r).chan c).opCount < w →
            ∀ e : FaultEntry, e.kind = .relayWear → (e ∈ (relayTakes s c .full true r).flt.entries ↔ e ∈ s.flt.entries))) ∧
    (r.relay = .releasing →
      ((relayTakes s c .full true r).chan c).relay = .releasing ∧ ((relayTakes s c .full true r).chan c).proof = .closed ∧
        ((relayTakes s c .full true r).chan c).drive = r.drive ∧ ((relayTakes s c .full true r).chan c).limit = r.limit) := by
  rw [relayTakes_full]
  cases h : r.relay with
  | held =>
    rw [takeFullVoltage_held h]
    obtain ⟨⟨x, hc⟩, haside, -⟩ := putChan_spec (s := s) c r
    refine ⟨kept_of haside hc ⟨rfl, rfl, rfl⟩, ?_⟩
    rw [hc]
    exact ⟨fun _ => ⟨h, rfl, rfl, rfl⟩, nofun, nofun⟩
  | pullingIn =>
    rw [takeFullVoltage_pullingIn h]
    obtain ⟨⟨x, hc⟩, haside, hworn, hquiet⟩ := completePullIn_spec (s := s.onChan c fun _ => r) c
    rw [State.onChan_self] at hc hworn hquiet
    refine ⟨kept_of ((aside_onChan c _).trans haside) hc ⟨rfl, rfl, rfl⟩, nofun, fun _ => ?_, nofun⟩
    rw [hc]
    refine ⟨rfl, rfl, rfl, ?_, rfl, rfl, fun w hw => ?_⟩
    · cases r.fullTime <;> rfl
    · subst hw
      exact ⟨hworn, hquiet⟩
  | releasing =>
    rw [takeFullVoltage_releasing h]
    obtain ⟨⟨x, hc⟩, haside, -⟩ := putChan_spec (s := s) c { r with proof := .closed }
    refine ⟨kept_of haside hc ⟨rfl, rfl, rfl⟩, ?_⟩
    rw [hc]
    exact ⟨nofun, nofun, fun _ => ⟨h, rfl, rfl, rfl⟩⟩
  | released => exact absurd h hrel

/-! ### The end of the step -/

/-- A step that leaves mode, configuration and red health alone ends with its additions counted. -/
theorem finish_kept (hb : s.betweenSteps) (h : Acts G K s t)
    (hK : Part.mode ∉ K ∧ Part.cfg ∉ K ∧ Part.health ∉ K := by decide) : State.finish s t = State.closeAdditions s t :=
  finish_closes (noCommit_of_kept hb (h.modes_eq hK.1) (h.cfg_eq hK.2.1)) (Causes.inhibited_of_acts h hK.2.2)

theorem hardReason_advisory {f : RelayFault} (h : s.greenAspect c = false) : s.hardReason c f = none := by
  unfold State.hardReason; rw [h]; rfl

theorem hardReason_failToClose : s.hardReason c .failToClose = none := by
  unfold State.hardReason
  split
  · rfl
  · rfl

theorem hardReason_green (h : s.greenAspect c = true) :
    s.hardReason c .failToOpen = some .weld ∧ s.hardReason c .foreignVoltage = some .foreignGreen := by
  unfold State.hardReason; rw [if_pos h, if_pos h]; exact ⟨rfl, rfl⟩

/-- A finding that is a hard fault takes the cabinet to latched DARK, and its SAFETY entry stays. -/
theorem hardFinding {f : RelayFault} {kind : FaultKind} {reason : Reason} (hk : f.kind = some kind)
    (hr : s.hardReason c f = some reason) (hw : s.waitingSupply = false) (hm : s.sup.mode ≠ .dark)
    (hl : s.flt.entries.length < 64) (ht : t = State.finish before (s.findRelayFault c f)) :
    t.sup.mode = .dark ∧ t.sup.reason = some reason ∧ t.sup.latched = true ∧ t.out.contactor.driven = false ∧
      ∃ e ∈ t.flt.entries, e.kind = kind ∧ e.subject = .channel c ∧ e.active = true ∧ e.safety = true := by
  have hacts : Acts (fun _ => True) findingParts s (found s c f kind true) := acts_found hk true
  obtain ⟨-, -, hentry⟩ := found_spec (s := s) (c := c) (f := f) (kind := kind) true
  obtain ⟨v, hfin, vm, vr, vl, -, -, vd, -, -, -, hv⟩ := Causes.hardFault_finishes (before := before) (s := found s c f kind true) reason
    ((Causes.waitingSupply_of_kept (by rw [hacts.sup_eq]) (by rw [hacts.sup_eq])).trans hw) (by rw [hacts.modes_eq]; exact hm)
  rw [ht, findRelayFault_hard hk hr, hfin]
  simp only [closeAdditions_sup, closeAdditions_out, closeAdditions_entries]
  obtain ⟨e, he, h1, h2, h3, h4⟩ := hentry hl
  refine ⟨vm, vr, vl, vd, e, hv.entry_stays he h3 ?_ (.inl h4), h1, h2, h3, h4⟩
  rw [h1]
  rcases part_of_relayKind hk with hp | hp <;> rw [hp] <;> decide

/-! ### The limits -/

/-- FULL at a released relay is a finding. -/
theorem takeIndication_foreign (hp : s.supplyProven = true) (hrel : (s.chan c).relay = .released)
    (hbus : (s.chan c).testBus = .no) :
    s.takeIndication c .full =
      ((s.markQuiet c .full).putChan c { s.chan c with indication := .full }).findRelayFault c .foreignVoltage := by
  rw [takeIndication_eq fun _ => hbus, hp, relayTakes_full]
  exact takeFullVoltage_released hrel

/-- The state in which a foreign voltage is found. -/
theorem foreign_spec : (∃ x, ((s.markQuiet c .full).putChan c { s.chan c with indication := .full }).chan c =
      { s.chan c with indication := .full, steadySince := x }) ∧
    ((s.markQuiet c .full).putChan c { s.chan c with indication := .full }).flt = s.flt ∧
    Acts G (.cbt :: putParts) s ((s.markQuiet c .full).putChan c { s.chan c with indication := .full }) := by
  obtain ⟨hc, -, hflt⟩ := putChan_spec (s := s.markQuiet c .full) c { s.chan c with indication := .full }
  refine ⟨hc, hflt, ?_⟩
  have hmark : Acts G (.cbt :: putParts) s (s.markQuiet c .full) := (acts_onCbt _ id rfl).up
  exact hmark.trans (of_edits (edits_putChan (s := s.markQuiet c .full) (new := { s.chan c with indication := .full }) c id rfl)).up

theorem hardReason_of_acts {f : RelayFault} (h : Acts G K s t) (hK : Part.cfg ∉ K := by decide) :
    t.hardReason c f = s.hardReason c f := hardReason_of (h.cfg_eq hK)

theorem limitDone_of (h : ∃ n, r.limit = some ⟨n, n⟩) : r.limitDone = true := by
  obtain ⟨n, hn⟩ := h
  unfold ChanRun.limitDone
  rw [hn]
  exact decide_eq_true le_rfl

theorem pullInDue_of (hr : (s.chan c).relay = .pullingIn) (h : ∃ n, (s.chan c).limit = some ⟨n, n⟩) : s.pullInDue c = true := by
  unfold State.pullInDue
  rw [hr, limitDone_of h]
  rfl

theorem releaseDue_of (hr : (s.chan c).relay = .releasing) (h : ∃ n, (s.chan c).limit = some ⟨n, n⟩) : s.releaseDue c = true := by
  unfold State.releaseDue
  rw [hr, limitDone_of h]
  rfl

/-- The end of a release limit without voltage. -/
theorem endRelease_open (h : (s.chan c).indication ≠ .full) :
    s.endRelease c = s.putChan c { s.chan c with limit := none, relay := .released, proof := .opened } := if_neg h

/-- The end of a release limit with voltage is a failure to open. -/
theorem endRelease_full (h : (s.chan c).indication = .full) :
    s.endRelease c = (s.putChan c { s.chan c with limit := none, proof := .closed }).findRelayFault c .failToOpen := if_pos h

theorem waitingSupply_of_acts (h : Acts G K s t) (hK : Part.mode ∉ K ∧ Part.sup ∉ K := by decide) :
    t.waitingSupply = s.waitingSupply :=
  Causes.waitingSupply_of_kept (Causes.core_field Sup.saved (h.core_eq hK)) (Causes.core_field Sup.supplyPresent (h.core_eq hK))

theorem seq_found {f : RelayFault} {kind : FaultKind} (b : Bool) : (found s c f kind b).seq = s.seq := by
  show (faulted s c f).seq = s.seq
  unfold faulted State.clearRelayEntry
  split
  · rfl
  · split
    · rfl
    · rfl

end Relays

open Acts Ending Relays

/-- Settles O55. Each indication and each limit by the state of its relay; a finding at a GREEN aspect is a hard fault. -/
theorem relayProvingAndLimits : Obligations.RelayProvingAndLimits := by
  unfold Obligations.RelayProvingAndLimits
  intro s c hb
  refine ⟨fun l hbus hcase => ?_, fun hp hrel hbus hl => ⟨fun hg => ?_, fun hg hw hm => ?_⟩, fun hft => ?_,
    fun hrel hlim hl => ?_, fun hrel hlim => ⟨fun hind => ?_, fun hind hl => ⟨fun hg => ?_, fun hg hw hm => ?_⟩⟩⟩
  · have hmark : Acts (fun _ => True) (.cbt :: takenParts) s (s.markQuiet c l) := (acts_onCbt _ id rfl).up
    have htakes : Acts (fun _ => True) takenParts (s.markQuiet c l)
        (relayTakes (s.markQuiet c l) c l s.supplyProven { s.chan c with indication := l }) := acts_settled rfl _ hcase
    have hacts := hmark.trans htakes.up
    have heq := takeIndication_eq hbus
    rw [← heq] at hacts
    have hkept : Kept c { s.chan c with indication := l } (s.markQuiet c l) (s.takeIndication c l) := by
      rw [heq]
      cases hpv : s.supplyProven with
      | false => exact unproven_spec.1
      | true =>
        by_cases hfull : l = .full
        · subst hfull
          refine (fullVoltage_spec fun hrel => ?_).1
          rcases hcase with h | h | h
          · rw [hpv] at h; exact absurd h nofun
          · exact h rfl
          · exact h hrel
        · exact (noVoltage_spec hfull).1
    obtain ⟨⟨hother, -, -, hcbt, hcontactor, -⟩, hind, hcmd, hbus'⟩ := hkept
    have hexec : exec (.voltageIndication c l) s = .next (State.closeAdditions s (s.takeIndication c l)) :=
      congrArg Host.Outcome.next (finish_kept hb hacts)
    refine ⟨_, hexec, ?_⟩
    simp only [closeAdditions_chan, closeAdditions_lamp, closeAdditions_group, closeAdditions_cbt, closeAdditions_sup,
      closeAdditions_out, closeAdditions_cfg, closeAdditions_clk, closeAdditions_sch, closeAdditions_det,
      closeAdditions_entries]
    refine ⟨hind, hcmd, hbus', ?_, hother, fun g => hacts.colour_eq g, hacts.modes_eq, hcontactor, hacts.cfg_eq,
      hacts.clk_eq, hacts.sch_eq, hacts.det_eq, fun hpv => ?_, fun hpv hfull => ?_, fun hpv hfull => ?_⟩
    · rw [hcbt]; exact Tab.get_put_self _ _ _
    · rw [heq, hpv]; exact unproven_spec.2
    · rw [heq, hpv]; exact (noVoltage_spec hfull).2
    · subst hfull
      have hrel : (s.chan c).relay ≠ .released := by
        rcases hcase with h | h | h
        · rw [hpv] at h; exact absurd h nofun
        · exact absurd rfl h
        · exact h
      rw [heq, hpv]
      exact (fullVoltage_spec (r := { s.chan c with indication := .full }) hrel).2
  · obtain ⟨⟨x, hc⟩, hflt, hput⟩ := foreign_spec (G := fun _ => True) (s := s) (c := c)
    have heq := takeIndication_foreign hp hrel hbus
    generalize (s.markQuiet c .full).putChan c { s.chan c with indication := .full } = w at hc hflt hput heq
    have hreason := (hardReason_of_acts hput).trans (hardReason_advisory (f := .foreignVoltage) hg)
    rw [findRelayFault_advisory rfl hreason] at heq
    obtain ⟨hchan, -, hentry⟩ := found_spec (s := w) (c := c) (f := .foreignVoltage) (kind := .foreignVoltage) false
    have hfound : Acts (fun _ => True) findingParts w (found w c .foreignVoltage .foreignVoltage false) := acts_found rfl false
    have hacts : Acts (fun _ => True) (.cbt :: .lamp :: .shown :: findingParts) s (s.takeIndication c .full) :=
      heq ▸ hput.up.trans hfound.up
    refine ⟨_, congrArg Host.Outcome.next (finish_kept hb hacts), ?_⟩
    simp only [closeAdditions_chan, closeAdditions_sup, closeAdditions_entries]
    rw [heq, hchan, hc]
    exact ⟨rfl, hrel, rfl, by rw [← heq]; exact hacts.modes_eq, hentry (by rw [hflt]; exact hl)⟩
  · obtain ⟨-, hflt, hput⟩ := foreign_spec (G := fun _ => True) (s := s) (c := c)
    have heq := takeIndication_foreign hp hrel hbus
    generalize (s.markQuiet c .full).putChan c { s.chan c with indication := .full } = w at hflt hput heq
    have hreason := (hardReason_of_acts hput).trans (hardReason_green hg).2
    exact ⟨_, rfl, hardFinding (kind := .foreignVoltage) rfl hreason ((waitingSupply_of_acts hput).trans hw)
      (by rw [hput.modes_eq]; exact hm) (by rw [hflt]; exact hl) (by rw [heq])⟩
  · have hdue : s.fullDriveDue c = true := by unfold State.fullDriveDue; rw [hft]; rfl
    show Host.Outcome.next (if s.fullDriveDue c = true then _ else s) = _
    rw [if_pos hdue]
    rfl
  · have heq : s.failToClose c = found (s.onChan c fun r => { r with limit := none }) c .failToClose .relayFailToClose false :=
      findRelayFault_advisory rfl hardReason_failToClose
    obtain ⟨hchan, haside, hentry⟩ := found_spec (s := s.onChan c fun r => { r with limit := none }) (c := c) (f := .failToClose)
      (kind := .relayFailToClose) false
    have hlimit : Acts (fun _ => True) findingParts s (s.onChan c fun r => { r with limit := none }) :=
      (of_edits (.one (.chan c _ (K := [.chan]) (by decide) id rfl rfl rfl rfl))).up
    have hacts : Acts (fun _ => True) findingParts s (s.failToClose c) := heq ▸ hlimit.trans (acts_found rfl false)
    rw [← heq] at hchan haside hentry
    obtain ⟨hother, -, -, -, hcontactor, hflash⟩ := (aside_onChan c _).trans haside
    have hexec : exec (.pullInLimit c) s = .next (State.closeAdditions s (s.failToClose c)) := by
      show Host.Outcome.next (if s.pullInDue c = true then _ else s) = _
      rw [if_pos (pullInDue_of hrel hlim), finish_kept hb hacts]
    refine ⟨_, hexec, ?_⟩
    have hseq : (s.failToClose c).seq = s.seq := by rw [heq, seq_found]; rfl
    simp only [closeAdditions_chan, closeAdditions_sup, closeAdditions_entries, closeAdditions_out, closeAdditions_seq,
      closeAdditions_lmp, closeAdditions_cbt, closeAdditions_cfg, closeAdditions_clk, closeAdditions_sch, closeAdditions_det]
    rw [State.onChan_self] at hchan
    exact ⟨hchan, fun k hk => (hother k hk).1, hentry hl, hcontactor, hflash, hseq, hacts.sup_eq, hacts.lmp_eq, hacts.cbt_eq,
      hacts.cfg_eq, hacts.clk_eq, hacts.sch_eq, hacts.det_eq⟩
  · have hacts : Acts (fun _ => True) cabinet s (s.endRelease c) := acts_endRelease (releaseDue_of hrel hlim)
    obtain ⟨⟨x, hc⟩, haside, hflt⟩ := putChan_spec (s := s) c { s.chan c with limit := none, relay := .released, proof := .opened }
    have heq := endRelease_open hind
    have hput : Acts (fun _ => True) putParts s (s.endRelease c) := heq ▸
      of_edits (edits_putChan c (fun h => coilOk_released (off_of_open h (.inl hrel)) _ _) rfl)
    rw [← heq] at hc haside hflt
    have hexec : exec (.releaseLimit c) s = .next (s.endRelease c) := by
      show Host.Outcome.next (if s.releaseDue c = true then _ else s) = _
      rw [if_pos (releaseDue_of hrel hlim), finish_kept hb hput, Laws.closeAdditions_of_quiet (by rw [hflt]; exact hb.1)]
    refine ⟨_, hexec, ?_⟩
    rw [hc]
    exact ⟨rfl, rfl, rfl, rfl, fun k hk => (haside.1 k hk).1, hflt, hput.modes_eq, hput.cfg_eq, hput.clk_eq, hput.det_eq⟩
  · obtain ⟨⟨x, hc⟩, haside, hflt⟩ := putChan_spec (s := s) c { s.chan c with limit := none, proof := .closed }
    have hput : Acts (fun _ => True) putParts s (s.putChan c { s.chan c with limit := none, proof := .closed }) :=
      of_edits (edits_putChan (new := { s.chan c with limit := none, proof := .closed }) c id rfl)
    have heq := endRelease_full hind
    generalize s.putChan c { s.chan c with limit := none, proof := .closed } = w at hc haside hflt hput heq
    rw [findRelayFault_advisory rfl ((hardReason_of_acts hput).trans (hardReason_advisory hg))] at heq
    obtain ⟨hchan, haside', hentry⟩ := found_spec (s := w) (c := c) (f := .failToOpen) (kind := .relayFailToOpen) false
    have hacts : Acts (fun _ => True) (.lamp :: .shown :: findingParts) s (s.endRelease c) := heq ▸ hput.up.trans (acts_found rfl false).up
    have hexec : exec (.releaseLimit c) s = .next (State.closeAdditions s (s.endRelease c)) := by
      show Host.Outcome.next (if s.releaseDue c = true then _ else s) = _
      rw [if_pos (releaseDue_of hrel hlim), finish_kept hb hacts]
    refine ⟨_, hexec, ?_⟩
    simp only [closeAdditions_chan, closeAdditions_sup, closeAdditions_entries, closeAdditions_cfg, closeAdditions_clk,
      closeAdditions_det]
    refine ⟨?_, ?_, ?_, ?_, fun k hk => ?_, ?_, hacts.modes_eq, hacts.cfg_eq, hacts.clk_eq, hacts.det_eq⟩
    · rw [heq, hchan]
    · rw [heq, hchan, hc]
    · rw [heq, hchan, hc]; exact hrel
    · rw [heq, hchan, hc]
    · rw [heq]; exact ((haside.trans haside').1 k hk).1
    · rw [heq]; exact hentry (by rw [hflt]; exact hl)
  · obtain ⟨-, -, hflt⟩ := putChan_spec (s := s) c { s.chan c with limit := none, proof := .closed }
    have hput : Acts (fun _ => True) putParts s (s.putChan c { s.chan c with limit := none, proof := .closed }) :=
      of_edits (edits_putChan (new := { s.chan c with limit := none, proof := .closed }) c id rfl)
    have heq := endRelease_full hind
    generalize s.putChan c { s.chan c with limit := none, proof := .closed } = w at hflt hput heq
    have hreason := (hardReason_of_acts hput).trans (hardReason_green hg).1
    have hexec : exec (.releaseLimit c) s = .next (State.finish s (w.findRelayFault c .failToOpen)) := by
      show Host.Outcome.next (if s.releaseDue c = true then _ else s) = _
      rw [if_pos (releaseDue_of hrel hlim), heq]
    exact ⟨_, hexec, hardFinding (kind := .relayFailToOpen) rfl hreason ((waitingSupply_of_acts hput).trans hw)
      (by rw [hput.modes_eq]; exact hm) (by rw [hflt]; exact hl) rfl⟩

end Sys2Proof.Machine
end

section
/-! PROOFS. The proofs of every channel with the supply: their loss, the re-proof, and what it finds (R102, R109). -/

namespace Sys2Proof.Machine

set_option Elab.async false

namespace Relays

open Acts Ending

variable {G : Gid → Prop} {K : List Part} {before s t u : State} {c k : Ch} {r : ChanRun}

/-! ### A fold over the channels, each writing its own record -/

/-- What one step over all channels writes of each, and what it leaves of the rest. -/
theorem chans_forAll {f : State → Ch → State} {g : ChanRun → Ch → ChanRun → Prop} {I : State → Prop}
    (hI : ∀ t c, I t → I (f t c)) (hother : ∀ t c k, c ≠ k → (f t c).chan k = t.chan k)
    (hown : ∀ t c, I t → g (t.chan c) c ((f t c).chan c)) (hs : I s) (c : Ch) : g (s.chan c) c ((s.forAll f).chan c) := by
  obtain ⟨w, hw, hc, he⟩ := Maintenance.forAll_own (f := f) (p := State.chan) hI hother s hs c
  rw [he, ← hc]
  exact hown w c hw

theorem forAll_kept {β : Type} {f : State → Ch → State} {p : State → β} (h : ∀ t c, p (f t c) = p t) : p (s.forAll f) = p s :=
  Frames.forAll_keeps p h s

/-! ### The loss of the supply's proof -/

/-- A channel's record after the loss of its proof. -/
def unproved (r r' : ChanRun) : Prop := r'.proof = .unproven ∧ r'.limit = none ∧ r'.indication = r.indication ∧
  r'.fault = r.fault ∧ r'.testBus = r.testBus ∧ r'.command = r.command

theorem unproveChan_spec (c : Ch) : unproved (s.chan c) ((s.unproveChan c).chan c) ∧ Aside c s (s.unproveChan c) ∧
    (s.unproveChan c).flt = s.flt := by
  obtain ⟨⟨x, hc⟩, haside, hflt⟩ := putChan_spec (s := s) c
    { s.chan c with
      proof := .unproven
      limit := none
      fullTime := none
      relay := if (s.chan c).driven then .pullingIn else .released
      drive := if (s.chan c).driven then .full else .off }
  refine ⟨?_, haside, hflt⟩
  unfold State.unproveChan
  dsimp only
  rw [hc]
  exact ⟨rfl, rfl, rfl, rfl, rfl, rfl⟩

theorem unproveAll_spec : (∀ c, unproved (s.chan c) (s.unproveAll.chan c)) ∧ s.unproveAll.flt = s.flt ∧
    Acts G putParts s s.unproveAll :=
  ⟨chans_forAll (I := fun _ => True) (g := fun r _ r' => unproved r r') (fun _ _ _ => trivial)
    (fun t c k hne => ((unproveChan_spec (s := t) c).2.1.1 k hne.symm).1) (fun _ c _ => (unproveChan_spec c).1) trivial,
    forAll_kept (p := State.flt) fun _ c => (unproveChan_spec c).2.2, of_edits edits_unproveAll⟩

/-! ### The re-proof, before its findings -/

/-- Every channel re-proven, before the faults are found again or cleared. -/
def reproved (s : State) : State :=
  s.forAll fun (t : State) (c : Ch) => t.putChan c ((t.chan c).reproved (t.settings c).pullIn)

theorem reproveAll_eq : s.reproveAll = (reproved s).forAll fun (t : State) (c : Ch) => t.reproofFinding c (s.chan c) := rfl

/-- A channel's fields after its re-proof, but for steady-on since. -/
def reprovedAs (n : Nat) (r r' : ChanRun) : Prop := ∃ x, r' = { r.reproved n with steadySince := x }

theorem reproved_spec : (∀ c, reprovedAs (s.settings c).pullIn (s.chan c) ((reproved s).chan c)) ∧ (reproved s).flt = s.flt ∧
    Acts G putParts s (reproved s) := by
  have hput (t : State) (c : Ch) := putChan_spec (s := t) c ((t.chan c).reproved (t.settings c).pullIn)
  refine ⟨chans_forAll (I := fun t => t.cfg = s.cfg) (g := fun r c r' => reprovedAs (s.settings c).pullIn r r')
    (fun t c h => (hput t c).2.1.2.1.trans h) (fun t c k hne => ((hput t c).2.1.1 k hne.symm).1) (fun t c h => ?_) rfl,
    forAll_kept (p := State.flt) fun t c => (hput t c).2.2, ?_⟩
  · have hset : t.settings c = s.settings c := by unfold State.settings; rw [h]
    obtain ⟨x, hx⟩ := (hput t c).1
    exact ⟨x, by rw [hx, hset]⟩
  · exact forAll s fun t c => of_edits (edits_putChan c (coilOk_reproved _) (reproved_command _ _) (reproved_opCount _ _))

theorem reproved_released (n : Nat) (hd : r.drive = .off) (h : r.indication ≠ .full ∨ r.fault ≠ .failToOpen) :
    r.reproved n = { r with relay := .released, proof := .opened, limit := none } := by
  unfold ChanRun.reproved
  rw [if_neg (by rw [ChanRun.driven, hd]; decide)]
  by_cases hi : r.indication = .full
  · rw [if_pos hi, if_neg (h.resolve_left (not_not.mpr hi))]
  · rw [if_neg hi]

theorem reproved_late (n : Nat) (hd : r.drive = .off) (hi : r.indication = .full) (hf : r.fault = .failToOpen) :
    r.reproved n = { r with relay := .releasing, proof := .closed, limit := none } := by
  unfold ChanRun.reproved
  rw [if_neg (by rw [ChanRun.driven, hd]; decide), if_pos hi, if_pos hf]

theorem driven_of {r : ChanRun} (h : r.drive ≠ .off) : r.driven = true := bne_iff_ne.mpr h
theorem undriven_of {r : ChanRun} (h : r.drive = .off) : r.driven = false := driven_eq_false_iff.mpr h

theorem reproved_held (n : Nat) (hd : r.drive ≠ .off) (hi : r.indication = .full) :
    r.reproved n = { r with relay := .held, proof := .closed, drive := .full, fullTime := some 0, limit := none } := by
  unfold ChanRun.reproved
  rw [if_pos (driven_of hd), if_pos hi]

theorem reproved_pullingIn (n : Nat) (hd : r.drive ≠ .off) (hi : r.indication ≠ .full) : r.reproved n =
    { r with relay := .pullingIn, proof := .opened, drive := .full, fullTime := some 0, limit := some ⟨0, n⟩ } := by
  unfold ChanRun.reproved
  rw [if_pos (driven_of hd), if_neg hi]

theorem reproved_fault (n : Nat) : (r.reproved n).fault = r.fault := by
  unfold ChanRun.reproved; split_ifs <;> rfl

/-! ### What the re-proof of one channel finds -/

/-- The fault that a re-proof leaves, by the channel it met. -/
def reproofFault (was : ChanRun) : RelayFault :=
  if was.indication = .full then
    if was.driven then .none else if was.fault = .failToOpen then .failToOpen else .foreignVoltage
  else if was.driven then RelayFault.after (RelayFault.after was.fault .failToOpen) .foreignVoltage
  else .none

/-- A re-proof that finds nothing to report. -/
def sound (was : ChanRun) : Bool := was.indication != .full || was.driven

theorem clearRelayFault_spec (c : Ch) : (s.clearRelayFault c).chan c = { s.chan c with fault := .none } ∧
    Aside c s (s.clearRelayFault c) ∧ ((s.clearRelayFault c).flt = s.flt ∨
      ∃ k, (s.clearRelayFault c).flt = s.flt.clear k (.channel c)) := by
  obtain ⟨hc, haside, hflt⟩ := endRelayFault_spec (s := s) c (s.chan c).fault
  refine ⟨hc.trans (by unfold RelayFault.after; rw [if_pos rfl]), haside, hflt.imp id fun ⟨k, _, h⟩ => ⟨k, h⟩⟩

/-- A change of the table for one channel makes at most one entry, and loses none of another subject that it has room for. -/
def Spares (c : Ch) (f f' : Flt) : Prop := f'.entries.length ≤ f.entries.length + 1 ∧
  ∀ e ∈ f.entries, e.subject ≠ .channel c → f.entries.length < 64 ∨ e.active = true ∧ e.safety = true → e ∈ f'.entries

theorem spares_refl (c : Ch) (f : Flt) : Spares c f f := ⟨Nat.le_succ _, fun _ he _ _ => he⟩

theorem mem_clear_elsewhere {f : Flt} {k : FaultKind} {x : Subject} {e : FaultEntry} (he : e ∈ f.entries) (h : e.subject ≠ x) :
    e ∈ (f.clear k x).entries := by
  unfold Flt.clear
  split
  · exact List.mem_map.mpr ⟨e, he, if_neg (by simp [FaultEntry.hasKey, h])⟩
  · exact he

/-- A clearing before a change is part of it. -/
theorem spares_of_clear {f f' : Flt} {k : FaultKind} (h : Spares c (f.clear k (.channel c)) f') : Spares c f f' := by
  obtain ⟨hl, he⟩ := h
  rw [Laws.clear_length] at hl he
  exact ⟨hl, fun e hm hs hr => he e (mem_clear_elsewhere hm hs) hs hr⟩

theorem spares_report (f : Flt) (k : FaultKind) (b : Bool) (now : Stamp) : Spares c f (f.report k (.channel c) b now) := by
  by_cases hknown : ∃ e ∈ f.entries, e.kind = k ∧ e.subject = .channel c
  · rw [FaultTable.report_of_known hknown]
    refine ⟨by rw [List.length_map]; exact Nat.le_succ _, fun e he hs _ => List.mem_map.mpr ⟨e, he, ?_⟩⟩
    exact if_neg (by simp [FaultEntry.hasKey, hs])
  · have hnew : ∀ e ∈ f.entries, ¬(e.kind = k ∧ e.subject = .channel c) := fun e he hk => hknown ⟨e, he, hk⟩
    rcases lt_or_ge f.entries.length 64 with hroom | hfull
    · rw [FaultTable.report_of_room hnew hroom]
      exact ⟨by rw [List.length_append]; rfl, fun e he _ _ => List.mem_append_left _ he⟩
    · cases hi : evictee f.entries b with
      | none =>
        rw [FaultTable.report_of_overflow hnew hfull hi]
        exact ⟨Nat.le_succ _, fun e he _ _ => he⟩
      | some i =>
        rw [FaultTable.report_of_evictee hnew hfull hi]
        refine ⟨?_, fun e he _ hr => List.mem_append_left _ ?_⟩
        · rw [List.length_append]
          exact Nat.add_le_add_right ((List.length_eraseIdx_le _ _)) 1
        · obtain ⟨j, hj, rfl⟩ := List.mem_iff_getElem.mp he
          have hsafe := hr.resolve_left (Nat.not_lt.mpr hfull)
          have hij : i ≠ j := fun h => FaultTable.of_evictee hi (h ▸ hj) (by subst h; exact hsafe)
          exact List.mem_eraseIdx_iff_getElem.mpr ⟨j, hj, hij.symm, rfl⟩

theorem spares_found {f : RelayFault} {kind : FaultKind} (b : Bool) : Spares c s.flt (found s c f kind b).flt := by
  have hreport : Spares c (faulted s c f).flt (found s c f kind b).flt := spares_report _ _ _ _
  have hfaulted : (faulted s c f).flt = s.flt ∨ ∃ k, (faulted s c f).flt = s.flt.clear k (.channel c) := by
    unfold faulted State.clearRelayEntry
    split
    · exact .inl rfl
    · split
      · next k _ => exact .inr ⟨k, rfl⟩
      · exact .inl rfl
  rcases hfaulted with h | ⟨k, h⟩
  · rw [h] at hreport; exact hreport
  · rw [h] at hreport; exact spares_of_clear hreport

theorem spares_endRelayFault (f : RelayFault) : Spares c s.flt (s.endRelayFault c f).flt := by
  rcases (endRelayFault_spec (s := s) c f).2.2 with h | ⟨k, -, h⟩
  · rw [h]; exact spares_refl _ _
  · rw [h]; exact spares_of_clear (spares_refl _ _)

/-! ### What the re-proof of one channel finds -/

/-- A re-proof with nothing to report leaves the channel the fault that stands, and clears the others. -/
theorem reproofFinding_sound {was : ChanRun} (h : was.indication ≠ .full ∨ was.drive ≠ .off) :
    ((s.chan c).fault = was.fault → (s.reproofFinding c was).chan c = { s.chan c with fault := reproofFault was }) ∧ Aside c s (s.reproofFinding c was) ∧
      Spares c s.flt (s.reproofFinding c was).flt ∧ Acts G findingParts s (s.reproofFinding c was) := by
  have hclear := endRelayFault_spec (s := s) c (s.chan c).fault
  unfold State.reproofFinding reproofFault
  by_cases hi : was.indication = .full
  · have hd := driven_of (h.resolve_left (not_not.mpr hi))
    rw [if_pos hi, if_pos hi, if_pos hd, if_pos hd]
    exact ⟨fun _ => hclear.1.trans (by unfold RelayFault.after; rw [if_pos rfl]), hclear.2.1, spares_endRelayFault _,
      (of_edits (edits_clearRelayFault c)).up⟩
  · rw [if_neg hi, if_neg hi]
    by_cases hd : was.driven = true
    · rw [if_pos hd, if_pos hd]
      obtain ⟨h1, a1, -⟩ := endRelayFault_spec (s := s) c .failToOpen
      obtain ⟨h2, a2, f2⟩ := endRelayFault_spec (s := s.endRelayFault c .failToOpen) c .foreignVoltage
      rw [h1] at h2
      refine ⟨fun hf => by rw [hf] at h2; exact h2, a1.trans a2, ?_, (of_edits ((edits_endRelayFault c _).trans (edits_endRelayFault c _))).up⟩
      have hspares := spares_endRelayFault (s := s) (c := c) .failToOpen
      rcases f2 with f2 | ⟨k, -, f2⟩
      · rw [f2]; exact hspares
      · rw [f2]
        refine ⟨by rw [Laws.clear_length]; exact hspares.1, fun e he hs hr => ?_⟩
        exact mem_clear_elsewhere (hspares.2 e he hs hr) hs
    · rw [if_neg hd, if_neg hd]
      exact ⟨fun _ => hclear.1.trans (by unfold RelayFault.after; rw [if_pos rfl]), hclear.2.1, spares_endRelayFault _,
        (of_edits (edits_clearRelayFault c)).up⟩

/-- The fault of a channel that stands at FULL behind a coil that is off. -/
def backFault (was : ChanRun) : RelayFault := if was.fault = .failToOpen then .failToOpen else .foreignVoltage

/-- The kind of its entry. -/
def backKind (was : ChanRun) : FaultKind := if was.fault = .failToOpen then .relayFailToOpen else .foreignVoltage

theorem kind_backFault (was : ChanRun) : (backFault was).kind = some (backKind was) := by
  unfold backFault backKind; split <;> rfl

theorem reproofFinding_backFed {was : ChanRun} (hi : was.indication = .full) (hd : was.drive = .off) :
    s.reproofFinding c was = s.findRelayFault c (backFault was) ∧ reproofFault was = backFault was := by
  have hn : ¬was.driven = true := by rw [undriven_of hd]; decide
  unfold State.reproofFinding reproofFault
  rw [if_pos hi, if_pos hi, if_neg hn, if_neg hn]
  exact ⟨rfl, rfl⟩

/-- A re-proof whose finding is no hard fault. -/
theorem reproofFinding_advisory {was : ChanRun} (h : was.indication = .full → was.drive = .off → s.greenAspect c = false)
    (hf : (s.chan c).fault = was.fault) :
    (s.reproofFinding c was).chan c = { s.chan c with fault := reproofFault was } ∧ Aside c s (s.reproofFinding c was) ∧
      Spares c s.flt (s.reproofFinding c was).flt ∧ Acts G findingParts s (s.reproofFinding c was) ∧
      (was.indication = .full → was.drive = .off → s.flt.entries.length < 64 →
        ∃ e ∈ (s.reproofFinding c was).flt.entries,
          e.kind = backKind was ∧ e.subject = .channel c ∧ e.active = true ∧ e.safety = false) := by
  by_cases hb : was.indication = .full ∧ was.drive = .off
  · obtain ⟨hi, hd⟩ := hb
    obtain ⟨heq, hfault⟩ := reproofFinding_backFed (s := s) (c := c) hi hd
    rw [heq, hfault, findRelayFault_advisory (kind_backFault was) (hardReason_advisory (h hi hd))]
    obtain ⟨hc, haside, hentry⟩ := found_spec (s := s) (c := c) (f := backFault was) (kind := backKind was) false
    exact ⟨hc, haside, spares_found false, acts_found (kind_backFault was) false, fun _ _ => hentry⟩
  · obtain ⟨hc, haside, hspares, hacts⟩ := reproofFinding_sound (G := G) (s := s) (c := c) (was := was) (by
      by_cases hi : was.indication = .full
      · exact .inr fun hd => hb ⟨hi, hd⟩
      · exact .inl hi)
    exact ⟨hc hf, haside, hspares, hacts, fun hi hd => absurd ⟨hi, hd⟩ hb⟩

/-! ### The findings of several channels -/

/-- The findings of the channels of a list, in its order. -/
def findings (was : Ch → ChanRun) (l : List Ch) (t : State) : State := l.foldl (fun t c => t.reproofFinding c (was c)) t

theorem findings_cons (was : Ch → ChanRun) (c : Ch) (l : List Ch) (t : State) :
    findings was (c :: l) t = findings was l (t.reproofFinding c (was c)) := rfl

theorem findings_append (was : Ch → ChanRun) (l l' : List Ch) (t : State) :
    findings was (l ++ l') t = findings was l' (findings was l t) := List.foldl_append

theorem reproveAll_findings : s.reproveAll = findings s.chan (allFin 48) (reproved s) := rfl

theorem greenAspect_of (h : t.cfg = s.cfg) : t.greenAspect c = s.greenAspect c := by
  unfold State.greenAspect State.chanRec; rw [h]

/-- Where no finding of a list is a hard fault, each of its channels has its fault, and with room its entry. -/
theorem findings_advisory {was : Ch → ChanRun} {l : List Ch} (hn : l.Nodup) {t : State}
    (h : ∀ c ∈ l, (was c).indication = .full → (was c).drive = .off → t.greenAspect c = false)
    (hf : ∀ c ∈ l, (t.chan c).fault = (was c).fault) :
    (∀ c ∈ l, (findings was l t).chan c = { t.chan c with fault := reproofFault (was c) }) ∧
      (∀ c, c ∉ l → (findings was l t).chan c = t.chan c) ∧ Acts G findingParts t (findings was l t) ∧
      (findings was l t).flt.entries.length ≤ t.flt.entries.length + l.length ∧
      (t.flt.entries.length + l.length ≤ 64 →
        (∀ e ∈ t.flt.entries, (∀ c ∈ l, e.subject ≠ .channel c) → e ∈ (findings was l t).flt.entries) ∧
        ∀ c ∈ l, (was c).indication = .full → (was c).drive = .off →
          ∃ e ∈ (findings was l t).flt.entries,
            e.kind = backKind (was c) ∧ e.subject = .channel c ∧ e.active = true ∧ e.safety = false) := by
  induction l generalizing t with
  | nil =>
    exact ⟨fun _ h => absurd h List.not_mem_nil, fun _ _ => rfl, refl _, le_rfl, fun _ => ⟨fun _ he _ => he,
      fun _ h => absurd h List.not_mem_nil⟩⟩
  | cons a l ih =>
    obtain ⟨ha, hl⟩ := List.nodup_cons.mp hn
    obtain ⟨hc, ⟨hother, hcfg, -⟩, ⟨hlen, hspares⟩, hacts, hentry⟩ := reproofFinding_advisory (G := G) (s := t) (c := a) (was := was a)
      (h a List.mem_cons_self) (hf a List.mem_cons_self)
    have hne (c : Ch) (hm : c ∈ l) : c ≠ a := fun e => ha (e ▸ hm)
    obtain ⟨i1, i2, i3, i4, i5⟩ := ih hl (t := t.reproofFinding a (was a))
      (fun c hm hi hd => (greenAspect_of hcfg).trans (h c (List.mem_cons_of_mem _ hm) hi hd))
      (fun c hm => by rw [(hother c (hne c hm)).1]; exact hf c (List.mem_cons_of_mem _ hm))
    rw [findings_cons]
    refine ⟨fun c hm => ?_, fun c hm => ?_, hacts.trans i3, ?_, fun hroom => ?_⟩
    · rcases List.mem_cons.mp hm with rfl | hm
      · rw [i2 c ha, hc]
      · rw [i1 c hm, (hother c (hne c hm)).1]
    · rw [List.mem_cons, not_or] at hm
      rw [i2 c hm.2, (hother c hm.1).1]
    · rw [List.length_cons]; omega
    · rw [List.length_cons] at hroom
      obtain ⟨k1, k2⟩ := i5 (by omega)
      refine ⟨fun e he hs => k1 e (hspares e he (hs a List.mem_cons_self) (.inl (by omega)))
        fun c hm => hs c (List.mem_cons_of_mem _ hm), fun c hm hi hd => ?_⟩
      rcases List.mem_cons.mp hm with rfl | hm
      · obtain ⟨e, he, h1, h2, h3, h4⟩ := hentry hi hd (by omega)
        refine ⟨e, k1 e he fun k hk hs => hne k hk ?_, h1, h2, h3, h4⟩
        rw [h2] at hs
        exact (Subject.channel.inj hs).symm
      · exact k2 c hm hi hd

end Relays

end Sys2Proof.Machine
end

section
/-! PROOFS. The contactor's indications: the re-proof of every channel, with and without a hard fault (R102, R114). -/

namespace Sys2Proof.Machine

set_option Elab.async false

namespace Relays

open Acts Ending Causes Modes

variable {G : Gid → Prop} {K : List Part} {before s t u : State} {c k : Ch} {r : Reason} {e : FaultEntry}

/-! ### A re-proof that takes the cabinet dark (R109, R159) -/

/-- The cabinet in the latched DARK of a hard fault, with its SAFETY entry. -/
def Fallen (s : State) (r : Reason) (e : FaultEntry) (t : State) : Prop :=
  (t.sup.mode = .dark ∧ t.sup.latched = true ∧ t.sup.reason = some r ∧ t.waitingSupply = false) ∧
    t.out.contactor.driven = false ∧ t.cfg = s.cfg ∧ e ∈ t.flt.entries

/-- A latched DARK cause that meets a latched DARK ends the recovery and changes nothing else. -/
theorem latchedDark_again {hard : Bool} (hm : s.sup.mode = .dark) (hl : s.sup.latched = true) :
    s.takeLatchedDark hard r = s.onSup recoveryEnded := by
  unfold State.takeLatchedDark
  simp only [hm, hl, if_true]
  rfl

theorem fallen_of_aside (h : Fallen s r e t) (hsup : Sup.core u.sup = Sup.core t.sup) (ha : Aside c t u)
    (he : e ∈ u.flt.entries) : Fallen s r e u := by
  obtain ⟨⟨hm, hl, hr, hw⟩, hd, hcfg, -⟩ := h
  obtain ⟨-, acfg, -, -, acon, -⟩ := ha
  refine ⟨⟨(core_field Sup.mode hsup).trans hm, (core_field Sup.latched hsup).trans hl, (core_field Sup.reason hsup).trans hr,
    (waitingSupply_of_kept (core_field Sup.saved hsup) (core_field Sup.supplyPresent hsup)).trans hw⟩, by rw [acon]; exact hd,
    acfg.trans hcfg, he⟩

/-- Later findings leave the latched DARK, its reason and its entry. -/
theorem fallen_reproofFinding {was : ChanRun} (h : Fallen s r e t) (hs : e.subject ≠ .channel c)
    (hsafe : e.active = true ∧ e.safety = true) : Fallen s r e (t.reproofFinding c was) := by
  have hmem := h.2.2.2
  by_cases hb : was.indication = .full ∧ was.drive = .off
  · obtain ⟨hi, hd⟩ := hb
    rw [(reproofFinding_backFed hi hd).1]
    have hacts (b : Bool) : Acts (fun _ => True) findingParts t (found t c (backFault was) (backKind was) b) :=
      acts_found (kind_backFault was) b
    have hfound (b : Bool) : Fallen s r e (found t c (backFault was) (backKind was) b) :=
      fallen_of_aside h ((hacts b).core_eq) (found_spec b).2.1 ((spares_found b).2 e hmem hs (.inr hsafe))
    cases hr : t.hardReason c (backFault was) with
    | none => rw [findRelayFault_advisory (kind_backFault was) hr]; exact hfound false
    | some r' =>
      rw [findRelayFault_hard (kind_backFault was) hr]
      obtain ⟨⟨hm, hl, hr', hw⟩, hdriven, hcfg, he⟩ := hfound true
      rw [hardFault_of_present r' hw, latchedDark_again hm hl]
      exact ⟨⟨hm, hl, hr', hw⟩, hdriven, hcfg, he⟩
  · obtain ⟨-, haside, hspares, hacts⟩ := reproofFinding_sound (G := fun _ => True) (s := t) (c := c) (was := was) (by
      by_cases hi : was.indication = .full
      · exact .inr fun hd => hb ⟨hi, hd⟩
      · exact .inl hi)
    exact fallen_of_aside h hacts.core_eq haside (hspares.2 e hmem hs (.inr hsafe))

theorem fallen_findings {was : Ch → ChanRun} {l : List Ch} (h : Fallen s r e t) (hs : ∀ c ∈ l, e.subject ≠ .channel c)
    (hsafe : e.active = true ∧ e.safety = true) : Fallen s r e (findings was l t) := by
  induction l generalizing t with
  | nil => exact h
  | cons a l ih =>
    exact ih (fallen_reproofFinding h (hs a List.mem_cons_self) hsafe) fun c hc => hs c (List.mem_cons_of_mem _ hc)

/-- The finding that takes the cabinet dark. -/
theorem fallen_hardFinding {f : RelayFault} {kind : FaultKind} (hk : f.kind = some kind) (hr : s.hardReason c f = some r)
    (hw : s.waitingSupply = false) (hm : s.sup.mode ≠ .dark) (hl : s.flt.entries.length < 64) :
    ∃ e : FaultEntry, Fallen s r e (s.findRelayFault c f) ∧ e.kind = kind ∧ e.subject = .channel c ∧ e.active = true ∧
      e.safety = true := by
  have hacts : Acts (fun _ => True) findingParts s (found s c f kind true) := acts_found hk true
  obtain ⟨-, -, hentry⟩ := found_spec (s := s) (c := c) (f := f) (kind := kind) true
  obtain ⟨e, he, h1, h2, h3, h4⟩ := hentry hl
  have hwait : (found s c f kind true).waitingSupply = false := (waitingSupply_of_acts hacts).trans hw
  have hmode : (found s c f kind true).sup.mode ≠ .dark := by rw [hacts.modes_eq]; exact hm
  rw [findRelayFault_hard hk hr, hardFault_of_present r hwait]
  obtain ⟨dm, dl, -, -, ds, dp, dr⟩ := latchedDark_spec (s := found s c f kind true) (hard := true) r fun _ => rfl
  have hdriven := (contactor_latchedDark (s := found s c f kind true) (hard := true) r hmode fun _ => rfl).2
  have hdark : Acts (fun _ => True) (.sup :: dimParts) (found s c f kind true) ((found s c f kind true).takeLatchedDark true r) := by
    rw [latchedDark_enters hmode fun _ => rfl]
    exact (acts_sup recoveryEnded rfl rfl rfl).up.trans (Modes.acts_enterDark_dim _ _).up
  refine ⟨e, ⟨⟨dm, dl, by rw [dr, if_neg fun h => hmode h.1], (waitingSupply_of_kept ds dp).trans hwait⟩, hdriven,
    hdark.cfg_eq.trans hacts.cfg_eq, hdark.entry_stays he h3 ?_ (.inl h4)⟩, h1, h2, h3, h4⟩
  rw [h1]
  rcases part_of_relayKind hk with hp | hp <;> rw [hp] <;> decide

/-- The first GREEN channel found at FULL behind its coil takes the cabinet dark, whatever the later channels bring. -/
theorem reproveAll_hard (hb : s.backFed c) (hg : s.greenAspect c = true)
    (hfirst : ∀ c', c' < c → s.backFed c' → s.greenAspect c' = false) (hw : s.waitingSupply = false) (hm : s.sup.mode ≠ .dark)
    (hl : s.flt.entries.length < 16) :
    ∃ e, Fallen s (if (s.chan c).fault = .failToOpen then .weld else .foreignGreen) e s.reproveAll ∧
      e.kind = backKind (s.chan c) ∧ e.subject = .channel c ∧ e.active = true ∧ e.safety = true := by
  obtain ⟨hproved, hflt, hreproved⟩ := reproved_spec (G := fun _ => True) (s := s)
  obtain ⟨l1, l2, hsplit⟩ := List.append_of_mem (List.mem_finRange c)
  have hall : allFin 48 = l1 ++ c :: l2 := hsplit
  have hnodup : (l1 ++ c :: l2).Nodup := hsplit ▸ List.nodup_finRange 48
  obtain ⟨hn1, hn2, hdisj⟩ := List.nodup_append.mp hnodup
  have hlength : l1.length ≤ 47 := by
    have h := congrArg List.length hsplit
    rw [List.length_finRange, List.length_append, List.length_cons] at h
    omega
  have hless (c' : Ch) (h : c' ∈ l1) : c' < c := by
    have hp := hsplit ▸ List.pairwise_lt_finRange 48
    exact (List.pairwise_append.mp hp).2.2 c' h c List.mem_cons_self
  rw [reproveAll_findings, hall, findings_append, findings_cons]
  obtain ⟨-, -, f3, f4, -⟩ := findings_advisory (G := fun _ => True) hn1 (was := s.chan) (t := reproved s)
    (fun c' hc' hi hd => (greenAspect_of hreproved.cfg_eq).trans (hfirst c' (hless c' hc') ⟨hd, hi⟩))
    (fun c' _ => by obtain ⟨x, hx⟩ := hproved c'; rw [hx]; exact reproved_fault _)
  generalize hw1 : findings s.chan l1 (reproved s) = w at f3 f4
  have hacts : Acts (fun _ => True) (.lamp :: .shown :: findingParts) s w := hreproved.up.trans f3.up
  obtain ⟨heq, -⟩ := reproofFinding_backFed (s := w) (c := c) hb.2 hb.1
  have hreason : w.hardReason c (backFault (s.chan c)) = some (if (s.chan c).fault = .failToOpen then .weld else .foreignGreen) := by
    have hgreen := hardReason_green ((greenAspect_of hacts.cfg_eq).trans hg)
    unfold backFault
    split
    · exact hgreen.1
    · exact hgreen.2
  obtain ⟨e, hfallen, h1, h2, h3, h4⟩ := fallen_hardFinding (kind_backFault (s.chan c)) hreason
    ((waitingSupply_of_acts hacts).trans hw) (by rw [hacts.modes_eq]; exact hm) (by rw [hflt] at f4; omega)
  rw [← heq] at hfallen
  have hlater := fallen_findings (was := s.chan) (l := l2) hfallen (fun k hk hs => by
    rw [h2] at hs
    exact (List.nodup_cons.mp hn2).1 (Subject.channel.inj hs ▸ hk)) ⟨h3, h4⟩
  obtain ⟨hsup, hdriven, hcfg, hmem⟩ := hlater
  exact ⟨e, ⟨hsup, hdriven, hcfg.trans hacts.cfg_eq, hmem⟩, h1, h2, h3, h4⟩

/-! ### A re-proof without a hard fault -/

/-- Every channel after a re-proof whose findings are advisory, with its entry where the table has room for all. -/
theorem reproveAll_advisory (h : ∀ c, s.backFed c → s.greenAspect c = false) :
    (∀ c, ∃ x, s.reproveAll.chan c =
        { (s.chan c).reproved (s.settings c).pullIn with steadySince := x, fault := reproofFault (s.chan c) }) ∧
      Acts G (.lamp :: .shown :: findingParts) s s.reproveAll ∧
      (s.flt.entries.length < 16 → ∀ c, s.backFed c → ∃ e ∈ s.reproveAll.flt.entries,
        e.kind = backKind (s.chan c) ∧ e.subject = .channel c ∧ e.active = true ∧ e.safety = false) := by
  obtain ⟨hproved, hflt, hreproved⟩ := reproved_spec (G := G) (s := s)
  obtain ⟨f1, -, f3, -, f5⟩ := findings_advisory (G := G) (List.nodup_finRange 48) (was := s.chan) (t := reproved s)
    (fun c _ hi hd => (greenAspect_of hreproved.cfg_eq).trans (h c ⟨hd, hi⟩))
    (fun c _ => by obtain ⟨x, hx⟩ := hproved c; rw [hx]; exact reproved_fault _)
  rw [reproveAll_findings]
  refine ⟨fun c => ?_, hreproved.up.trans f3.up, fun hl c hb => ?_⟩
  · obtain ⟨x, hx⟩ := hproved c
    refine ⟨x, (f1 c (List.mem_finRange c)).trans ?_⟩
    rw [hx]
  · rw [hflt, List.length_finRange] at f5
    exact (f5 (by omega)).2 c (List.mem_finRange c) hb.2 hb.1

/-! ### The contactor's indications (R114) -/

/-- FULL at a contactor that is to be proven: the state that the re-proof of every channel starts from. -/
theorem rises_spec (ht : s.out.trip = false) (hst : s.out.contactor.state = .pullingIn ∨ s.out.contactor.state = .releasing)
    (hp : s.out.contactor.proof ≠ .closed) :
    ∃ w, s.takeSupplyOutput .full = w.reproveAll ∧ w.out.chans = s.out.chans ∧
      w.out.contactor = (if s.out.contactor.state = .pullingIn then
          { s.out.contactor with indication := .full, state := .held, proof := .closed, limit := none, fault := .none }
        else { s.out.contactor with indication := .full, proof := .closed }) ∧
      w.flt.entries.length = s.flt.entries.length ∧ Acts G [.contactor, .flt, .supplyFault] s w := by
  have htake : s.takeSupplyOutput .full = (s.onContactor fun k => { k with indication := .full }).contactorRises := by
    unfold State.takeSupplyOutput
    rw [if_neg (by rw [ht]; decide)]
    rfl
  have hind : Acts G [.contactor, .flt, .supplyFault] s (s.onContactor fun k => { k with indication := .full }) :=
    (acts_onContactor _).up
  rw [htake]
  generalize hv : (s.onContactor fun k => { k with indication := .full }) = v at hind
  have hk : v.out.contactor = { s.out.contactor with indication := .full } := by rw [← hv]; rfl
  have hchans : v.out.chans = s.out.chans := by rw [← hv]; rfl
  have hflt : v.flt = s.flt := by rw [← hv]; rfl
  have hproof : v.out.contactor.proof ≠ .closed := by rw [hk]; exact hp
  rcases hst with hst | hst
  · have hstate : v.out.contactor.state = .pullingIn := by rw [hk]; exact hst
    rw [if_pos hst]
    have heq : v.contactorRises = State.reproveAll (if v.out.contactor.fault = .none then
          v.onContactor fun k => { k with state := .held, proof := .closed, limit := none, fault := .none }
        else (v.onContactor fun k => { k with state := .held, proof := .closed, limit := none, fault := .none }).clearFault
          .supplyContactor .nothing) := by
      unfold State.contactorRises State.completeClose
      simp only [hstate, if_neg hproof]
    refine ⟨_, heq, ?_, ?_, ?_, ?_⟩
    · split <;> exact hchans
    · split <;> exact congrArg (fun k : Contactor =>
        { k with state := .held, proof := .closed, limit := none, fault := .none }) hk
    · split
      · exact congrArg (fun f => f.entries.length) hflt
      · exact (Laws.clear_length _ _ _).trans (congrArg (fun f => f.entries.length) hflt)
    · exact either (fun _ => hind.trans (acts_onContactor _).up) fun _ =>
        (hind.trans (acts_onContactor _).up).trans (of_edits (edits_clearFault _ _))
  · have hstate : v.out.contactor.state = .releasing := by rw [hk]; exact hst
    rw [if_neg (by rw [hst]; decide)]
    have heq : v.contactorRises = State.reproveAll (v.onContactor fun k => { k with proof := .closed }) := by
      unfold State.contactorRises
      simp only [hstate, if_neg hproof]
    refine ⟨_, heq, hchans, congrArg (fun k : Contactor => { k with proof := .closed }) hk,
      congrArg (fun f => f.entries.length) hflt, hind.trans (acts_onContactor _).up⟩

end Relays

end Sys2Proof.Machine
end

section
/-! PROOFS. The coils at a phase change, and the channels of an unproven supply (R102, R112). -/

namespace Sys2Proof.Machine

set_option Elab.async false

namespace Relays

open Acts Ending Causes Modes

variable {G : Gid → Prop} {K : List Part} {before s t u : State} {c k : Ch} {r : Reason}

/-! ### A coil brought to its state (R103, R106, R112) -/

/-- The channels but one, the contactor and the generator as they were. -/
def Lone (c : Ch) (s t : State) : Prop :=
  (∀ k, k ≠ c → t.chan k = s.chan k) ∧ t.out.contactor = s.out.contactor ∧ t.out.flash = s.out.flash

theorem lone_of_aside (h : Aside c s t) : Lone c s t := ⟨fun k hk => (h.1 k hk).1, h.2.2.2.2.1, h.2.2.2.2.2⟩

theorem lone_of_out (h : t.out = s.out) : Lone c s t :=
  ⟨fun k _ => by unfold State.chan; rw [h], by rw [h], by rw [h]⟩

theorem coilStart_spec (c : Ch) : ((s.coilStart c).chan c).command = (s.chan c).command ∧
    ((s.coilStart c).chan c).testBus = (s.chan c).testBus ∧ ((s.coilStart c).chan c).drive ≠ .off ∧ Lone c s (s.coilStart c) := by
  unfold State.coilStart
  dsimp only
  split
  · split
    · obtain ⟨⟨x, hc⟩, haside, -⟩ := completePullIn_spec (s := s.onChan c fun _ =>
        { s.chan c with relay := .pullingIn, drive := .full, fullTime := some 0, limit := some ⟨0, (s.settings c).pullIn⟩ }) c
      rw [State.onChan_self] at hc
      rw [hc]
      exact ⟨rfl, rfl, nofun, lone_of_aside ((aside_onChan c _).trans haside)⟩
    · obtain ⟨⟨x, hc⟩, haside, -⟩ := putChan_spec (s := s) c
        { s.chan c with
          relay := .pullingIn, drive := .full, fullTime := some 0, limit := some ⟨0, (s.settings c).pullIn⟩, proof := .opened }
      rw [hc]
      exact ⟨rfl, rfl, nofun, lone_of_aside haside⟩
  · obtain ⟨⟨x, hc⟩, haside, -⟩ := putChan_spec (s := s) c
      { s.chan c with relay := .pullingIn, drive := .full, fullTime := none, limit := none }
    rw [hc]
    exact ⟨rfl, rfl, nofun, lone_of_aside haside⟩

theorem coilStop_spec (c : Ch) : ((s.coilStop c).chan c).command = (s.chan c).command ∧
    ((s.coilStop c).chan c).testBus = (s.chan c).testBus ∧ ((s.coilStop c).chan c).drive = .off ∧ Lone c s (s.coilStop c) := by
  unfold State.coilStop
  dsimp only
  split
  · obtain ⟨⟨x, hc⟩, haside, -⟩ := putChan_spec (s := s) c
      { s.chan c with relay := .releasing, drive := .off, fullTime := none, limit := some ⟨0, (s.settings c).release⟩ }
    rw [hc]
    exact ⟨rfl, rfl, rfl, lone_of_aside haside⟩
  · obtain ⟨⟨x, hc⟩, haside, -⟩ := putChan_spec (s := s) c
      { s.chan c with relay := .released, drive := .off, fullTime := none, limit := none }
    rw [hc]
    exact ⟨rfl, rfl, rfl, lone_of_aside haside⟩

/-- A claim on the test bus writes no output. -/
theorem out_claimChannel (c : Ch) : (s.claimChannel c).out = s.out := by
  unfold State.claimChannel
  split
  · rfl
  · have h : Acts (fun _ => True) [.answer, .cbt, .flt, .starved] s s.abandonProbe :=
      of_edits (.one (.abandon (by decide) (by decide) (by decide) (by decide)))
    exact h.out_eq

/-- A coil follows its command, the phase and the test bus. -/
theorem updateCoil_spec (c : Ch) : ((s.updateCoil c).chan c).command = (s.chan c).command ∧
    ((s.updateCoil c).chan c).testBus = (s.chan c).testBus ∧ Lone c s (s.updateCoil c) ∧
    ((s.chan c).testBus = .no → (((s.updateCoil c).chan c).drive ≠ .off ↔ s.coilDue c = true)) := by
  unfold State.updateCoil
  dsimp only
  split
  · next hdue =>
    split
    · next hbus =>
      have hchan : (s.claimChannel c).chan c = s.chan c := by unfold State.chan; rw [out_claimChannel]
      exact ⟨by rw [hchan], by rw [hchan], lone_of_out (out_claimChannel c), fun h => absurd h hbus⟩
    · split
      · next hd => exact ⟨rfl, rfl, lone_of_out rfl, fun _ => iff_of_true (bne_iff_ne.mp hd) hdue⟩
      · obtain ⟨hc, hb, hd, hl⟩ := coilStart_spec (s := s) c
        exact ⟨hc, hb, hl, fun _ => iff_of_true hd hdue⟩
  · next hdue =>
    split
    · obtain ⟨hc, hb, hd, hl⟩ := coilStop_spec (s := s) c
      exact ⟨hc, hb, hl, fun _ => iff_of_false (not_not.mpr hd) hdue⟩
    · next hd =>
      exact ⟨rfl, rfl, lone_of_out rfl, fun _ => iff_of_false (not_not.mpr (driven_eq_false_iff.mp (by simpa using hd))) hdue⟩

/-! ### The phase of the flash generator (R112) -/

/-- The phase turned over. -/
def phased (s : State) : State :=
  s.onOut fun o => { o with flash := ⟨true, !o.flash.onPhase, 0, phaseLengthOf s.cabinet.flashRate⟩ }

/-- A FLASHING channel's coil brought to the phase. -/
def flashes (t : State) (c : Ch) : State := if (t.chan c).command = .flashing then t.updateCoil c else t

theorem changePhase_eq : s.changePhase = (phased s).forAll flashes := rfl

theorem lone_flashes (t : State) (c : Ch) : Lone c t (flashes t c) := by
  unfold flashes
  split
  · exact (updateCoil_spec c).2.2.1
  · exact lone_of_out rfl

/-- A channel after a phase change. -/
def flashed (on : Bool) (r r' : ChanRun) : Prop := r'.command = r.command ∧ (r.command ≠ .flashing → r' = r) ∧
  (r.command = .flashing → r.testBus = .no → (r'.drive ≠ .off ↔ on = true))

theorem changePhase_spec : (∀ c, flashed (!s.out.flash.onPhase) (s.chan c) (s.changePhase.chan c)) ∧
    s.changePhase.out.flash = ⟨true, !s.out.flash.onPhase, 0, phaseLengthOf s.cabinet.flashRate⟩ ∧
    s.changePhase.out.contactor = s.out.contactor := by
  rw [changePhase_eq]
  have hkept : ∀ t : State, (t.out.flash = (phased s).out.flash ∧ t.out.contactor = s.out.contactor) → ∀ c,
      (flashes t c).out.flash = (phased s).out.flash ∧ (flashes t c).out.contactor = s.out.contactor := by
    intro t ht c
    obtain ⟨-, hk, hf⟩ := lone_flashes t c
    exact ⟨hf.trans ht.1, hk.trans ht.2⟩
  have hall := Frames.forAll_invariant (f := flashes) (fun t c ht => hkept t ht c) (s := phased s) ⟨rfl, rfl⟩
  refine ⟨fun c => chans_forAll (s := phased s) (f := flashes)
    (I := fun t => t.out.flash = (phased s).out.flash ∧ t.out.contactor = s.out.contactor)
    (g := fun r _ r' => flashed (!s.out.flash.onPhase) r r') (fun t c ht => hkept t ht c)
    (fun t c k hne => (lone_flashes t c).1 k hne.symm) (fun t c ht => ?_) ⟨rfl, rfl⟩ c, hall.1, hall.2⟩
  unfold flashes
  split
  · next hf =>
    obtain ⟨hc, -, -, hd⟩ := updateCoil_spec (s := t) c
    refine ⟨hc, fun h => absurd hf h, fun _ hbus => (hd hbus).trans ?_⟩
    unfold State.coilDue
    rw [hf]
    show t.out.flash.onPhase = true ↔ _
    rw [ht.1]
    rfl
  · next hf => exact ⟨rfl, fun _ => rfl, fun h => absurd h hf⟩

/-! ### No channel is proven by a supply that is not -/

/-- The contactor is not proven, and no channel is. -/
def Unproven (s : State) : Prop := s.out.contactor.proof = .unproven ∧ ∀ c, (s.chan c).proof = .unproven

theorem unproven_of_out (h : Unproven s) (ho : t.out = s.out) : Unproven t := by
  unfold Unproven State.chan at *
  rw [ho]; exact h

theorem unproven_of_lone (h : Unproven s) (hl : Lone c s t) (hc : (t.chan c).proof = .unproven) : Unproven t := by
  obtain ⟨hother, hk, -⟩ := hl
  refine ⟨by rw [hk]; exact h.1, fun k => ?_⟩
  by_cases hkc : k = c
  · rw [hkc]; exact hc
  · rw [hother k hkc]; exact h.2 k

theorem unproven_putChan {new : ChanRun} (h : Unproven s) (hn : new.proof = .unproven) : Unproven (s.putChan c new) := by
  obtain ⟨⟨x, hc⟩, haside, -⟩ := putChan_spec (s := s) c new
  exact unproven_of_lone h (lone_of_aside haside) (by rw [hc]; exact hn)

theorem unproven_updateCoil (h : Unproven s) : Unproven (s.updateCoil c) := by
  have hsupply : s.supplyProven = false := by unfold State.supplyProven; rw [h.1]; rfl
  have hchan := h.2 c
  unfold State.updateCoil State.coilStart State.coilStop
  dsimp only
  rw [hsupply]
  split
  · split
    · exact unproven_of_out h (out_claimChannel c)
    · split
      · exact h
      · exact unproven_putChan h hchan
  · split
    · exact unproven_putChan h hchan
    · exact h

theorem unproven_syncCommand (h : Unproven s) : Unproven (s.syncCommand c) := by
  have hflash (b : Bool) : Unproven (if b then s.startFlashGen else s) := by
    split
    · exact h
    · exact h
  unfold State.syncCommand
  dsimp only
  split
  · exact h
  · exact unproven_updateCoil (unproven_putChan (hflash _) ((hflash _).2 c))

theorem unproven_settleFlashGen (h : Unproven s) : Unproven s.settleFlashGen := by
  unfold State.settleFlashGen
  split
  · exact h
  · exact h

theorem unproven_syncCommands (h : Unproven s) : Unproven s.syncCommands := by
  have hsync : Unproven (s.forAll State.syncCommand) :=
    Frames.forAll_invariant (P := Unproven) (f := State.syncCommand) (fun _ _ ht => unproven_syncCommand ht) h
  exact unproven_settleFlashGen hsync

theorem out_painted (f : GroupKind → Colour) (t : State) (g : Gid) : (painted f t g).out = t.out := by
  cases hk : t.kind g with
  | none => rw [painted_of_unfitted f hk]
  | some k =>
    rw [painted_of_fitted f hk]
    unfold State.putColour
    split
    · rfl
    · rfl

theorem unproven_setAllColours {f : GroupKind → Colour} (h : Unproven s) : Unproven (s.setAllColours f) := by
  rw [setAllColours_eq]
  exact unproven_syncCommands (unproven_of_out h (Frames.forAll_keeps State.out (out_painted f) s))

/-- A grace time and the sequencer record are no output. -/
theorem out_refreshed (f : Seq → Seq) : (s.onSeq f).refreshGrace.out = s.out := rfl

theorem unproven_enterDark {x : Option Reason} {l : Bool} (h : Unproven s) : Unproven (s.enterDark x l) := by
  rw [enterDark_dimmed]
  unfold dimmed
  have hmode : Unproven (s.onMode (toDark x l)) := unproven_of_out h (out_onMode _)
  have hreleased : Unproven ((s.onMode (toDark x l)).onContactor released) := by
    refine ⟨?_, hmode.2⟩
    show (released _).proof = .unproven
    unfold released
    split
    · exact hmode.1
    · exact hmode.1
  exact unproven_of_out (unproven_setAllColours hreleased) (out_refreshed _)

end Relays

end Sys2Proof.Machine
end

section
/-! PROOFS. The contactor's failures to open and to close (R115, R162, R163). -/

namespace Sys2Proof.Machine

set_option Elab.async false

namespace Relays

open Acts Ending Causes Modes Parked

variable {G : Gid → Prop} {K : List Part} {before s t u w : State} {c k : Ch} {r : Reason} {e : FaultEntry}

/-! ### A re-proof that finds nothing -/

theorem length_endRelayFault (c : Ch) (f : RelayFault) : (s.endRelayFault c f).flt.entries.length = s.flt.entries.length := by
  rcases (endRelayFault_spec (s := s) c f).2.2 with h | ⟨k, -, h⟩
  · rw [h]
  · rw [h, Laws.clear_length]

theorem length_reproofFinding {was : ChanRun} (h : was.indication ≠ .full ∨ was.drive ≠ .off) :
    (s.reproofFinding c was).flt.entries.length = s.flt.entries.length := by
  unfold State.reproofFinding
  by_cases hi : was.indication = .full
  · rw [if_pos hi, if_pos (driven_of (h.resolve_left (not_not.mpr hi)))]
    exact length_endRelayFault _ _
  · rw [if_neg hi]
    split
    · rw [length_endRelayFault, length_endRelayFault]
    · exact length_endRelayFault _ _

theorem length_findings {was : Ch → ChanRun} (h : ∀ c, (was c).indication ≠ .full ∨ (was c).drive ≠ .off) (l : List Ch) :
    (findings was l t).flt.entries.length = t.flt.entries.length := by
  induction l generalizing t with
  | nil => rfl
  | cons a l ih => rw [findings_cons, ih, length_reproofFinding (h a)]

/-- Without a channel that stands at FULL behind its coil, a re-proof makes no entry. -/
theorem length_reproveAll (h : ∀ c, ¬s.backFed c) : s.reproveAll.flt.entries.length = s.flt.entries.length := by
  obtain ⟨-, hflt, -⟩ := reproved_spec (G := fun _ => True) (s := s)
  have hsound (c : Ch) : (s.chan c).indication ≠ .full ∨ (s.chan c).drive ≠ .off := by
    by_cases hi : (s.chan c).indication = .full
    · exact .inr fun hd => h c ⟨hd, hi⟩
    · exact .inl hi
  rw [reproveAll_findings, length_findings hsound, hflt]

/-! ### The failure to open (R115) -/

/-- The trip asserted, SUPPLY_CONTACTOR reported and every proof lost: the finding that the supervisor receives. -/
def stuckShut (s : State) : State :=
  (((s.onContactor fun k =>
    { k with fault := .failToOpen, proof := .unproven, limit := none, driven := false }).onOut fun o =>
      { o with trip := true }).report .supplyContactor .nothing).unproveAll

theorem contactorFailsToOpen_eq : s.contactorFailsToOpen = (stuckShut s).takeCause (.latchedDark false) .contactor := rfl

/-- The outputs behind the trip: the contactor's fault and its coil off, and nothing proven. -/
def Tripped (s : State) : Prop :=
  s.out.trip = true ∧ s.out.contactor.fault = .failToOpen ∧ s.out.contactor.driven = false ∧ Unproven s

/-- The SAFETY entry of the contactor is in the table. -/
def ContactorEntry (s : State) : Prop :=
  ∃ e ∈ s.flt.entries, e.kind = .supplyContactor ∧ e.subject = .nothing ∧ e.active = true ∧ e.safety = true

theorem contactorEntry_stays (h : Acts G K s t) (hs : ContactorEntry s)
    (hK : Part.supplyFault ∉ K ∧ Part.table ∉ K := by decide) : ContactorEntry t := by
  obtain ⟨e, he, h1, h2, h3, h4⟩ := hs
  exact ⟨e, h.entry_stays he h3 (by rw [h1]; exact hK.1) (.inl h4) hK.2, h1, h2, h3, h4⟩

theorem contactorEntry_closes (hs : ContactorEntry t) : ContactorEntry (State.closeAdditions before t) := by
  unfold ContactorEntry
  rw [closeAdditions_entries]
  exact hs

theorem contactorEntry_report (h : s.flt.entries.length < 64) : ContactorEntry (s.report .supplyContactor .nothing) := by
  obtain ⟨e, he, h1, h2, h3, -, h4, -⟩ := Laws.report_active s.flt .supplyContactor .nothing true s.stamp h
  exact ⟨e, he, h1, h2, h3, h4⟩

theorem stuckShut_spec : Tripped (stuckShut s) ∧
    (stuckShut s).out.contactor =
      { s.out.contactor with fault := .failToOpen, proof := .unproven, limit := none, driven := false } ∧
    (s.flt.entries.length < 64 → ContactorEntry (stuckShut s)) ∧
    Acts G [.contactor, .chan, .lamp, .shown, .flt, .supplyFault, .alarm] s (stuckShut s) := by
  obtain ⟨w, hw⟩ : ∃ w, w = ((s.onContactor fun k =>
    { k with fault := .failToOpen, proof := .unproven, limit := none, driven := false }).onOut fun o =>
      { o with trip := true }).report .supplyContactor .nothing := ⟨_, rfl⟩
  have hk : w.out.contactor =
      { s.out.contactor with fault := .failToOpen, proof := .unproven, limit := none, driven := false } := by rw [hw]; rfl
  have ht : w.out.trip = true := by rw [hw]; rfl
  have hentry (h : s.flt.entries.length < 64) : ContactorEntry w := hw ▸ contactorEntry_report h
  have hacts : Acts G [.contactor, .chan, .lamp, .shown, .flt, .supplyFault, .alarm] s w := by
    rw [hw]
    refine Acts.trans ?_ (of_edits (edits_report (K := [.flt, .supplyFault, .alarm]) .supplyContactor .nothing)).up
    exact (of_edits (.one (.contactor { s.out.contactor with
      fault := .failToOpen, proof := .unproven, limit := none, driven := false } true (K := [.contactor]) (by decide)))).up
  have heq : stuckShut s = w.unproveAll := by rw [hw]; rfl
  obtain ⟨hchans, -, hacts'⟩ := unproveAll_spec (G := fun _ => True) (s := w)
  obtain ⟨hk', ht'⟩ := hacts'.contactor_eq
  rw [heq]
  refine ⟨⟨ht'.trans ht, by rw [hk', hk], by rw [hk', hk], by rw [hk', hk], fun c => (hchans c).1⟩, hk'.trans hk, fun h => ?_,
    hacts.trans (unproveAll_spec (G := G) (s := w)).2.2.up⟩
  exact contactorEntry_stays hacts' (hentry h)

theorem tripped_of_out (h : Tripped s) (ho : t.out = s.out) : Tripped t := by
  obtain ⟨h1, h2, h3, h4⟩ := h
  exact ⟨by rw [ho]; exact h1, by rw [ho]; exact h2, by rw [ho]; exact h3, unproven_of_out h4 ho⟩

theorem fault_released (k : Contactor) : (released k).fault = k.fault := by
  unfold released
  split
  · rfl
  · rfl

theorem tripped_enterDark {x : Option Reason} {l : Bool} (h : Tripped s) : Tripped (s.enterDark x l) := by
  obtain ⟨h1, h2, -, h4⟩ := h
  obtain ⟨hk, ht⟩ := contactor_enterDark (s := s) x l
  exact ⟨ht.trans h1, by rw [hk, fault_released, h2], by rw [hk]; exact (released_off _).2, unproven_enterDark h4⟩

theorem tripped_latchedDark {hard : Bool} (h : Tripped s) : Tripped (s.takeLatchedDark hard r) := by
  have hended : Tripped (s.onSup recoveryEnded) := tripped_of_out h rfl
  by_cases hm : s.sup.mode = .dark
  · unfold State.takeLatchedDark
    simp only [hm]
    split
    · exact tripped_of_out h rfl
    · exact tripped_of_out h (out_onMode (s := s.onSup recoveryEnded) _)
  · by_cases hu : s.sup.mode = .unconfigured ∧ hard = false
    · unfold State.takeLatchedDark
      rw [hu.1, hu.2]
      exact h
    · rw [latchedDark_enters hm fun he => by
        cases hard with
        | true => rfl
        | false => exact absurd ⟨he, rfl⟩ hu]
      exact tripped_enterDark hended

theorem tripped_darkCause (h : Tripped s) : Tripped (s.takeCause (.latchedDark false) r) := by
  unfold State.takeCause
  split
  · exact tripped_of_out h (out_onMode _)
  · exact tripped_latchedDark h

theorem acts_darkCause : Acts G (.sup :: dimParts) s (s.takeCause (.latchedDark false) r) := by
  have hended : Acts G (.sup :: dimParts) s (s.onSup recoveryEnded) := (acts_sup recoveryEnded rfl rfl rfl).up
  unfold State.takeCause
  split
  · exact (acts_takeWhileWaiting _ _).up
  · show Acts G _ s (s.takeLatchedDark false r)
    by_cases hm : s.sup.mode = .dark
    · unfold State.takeLatchedDark
      simp only [hm]
      split
      · exact hended
      · exact hended.trans (acts_latchWith r).up
    · by_cases hu : s.sup.mode = .unconfigured
      · unfold State.takeLatchedDark
        rw [hu]
        exact refl _
      · rw [latchedDark_enters hm fun h => absurd h hu]
        exact hended.trans (acts_enterDark_dim _ _).up

/-- What a failure to open leaves: the trip, the entry, and a latched DARK but in UNCONFIGURED. -/
def FailedOpen (s t : State) : Prop :=
  Tripped t ∧ (s.flt.entries.length < 64 → ContactorEntry t) ∧
    (s.sup.mode = .unconfigured → t.sup.mode = .unconfigured ∧
      t.out.contactor = { s.out.contactor with fault := .failToOpen, proof := .unproven, limit := none, driven := false } ∧
      (∀ g, (t.group g).colour = (s.group g).colour) ∧
      (s.waitingSupply = false → t.sup.reason = s.sup.reason ∧ t.sup.latched = s.sup.latched)) ∧
    (s.waitingSupply = false → s.sup.mode ≠ .unconfigured → t.sup.mode = .dark ∧ t.sup.latched = true ∧
      t.sup.reason = (if s.sup.mode = .dark ∧ s.sup.latched = true then s.sup.reason else some .contactor)) ∧
    (s.waitingSupply = true → t.sup.mode = s.sup.mode ∧ t.sup.latched = true ∧ t.sup.reason = some .contactor ∧
      t.sup.saved = some (.dark (some .contactor) true))

theorem darkCause_unconfigured (hm : s.sup.mode = .unconfigured) (hw : s.waitingSupply = false) :
    s.takeCause (.latchedDark false) r = s := by
  rw [takeCause_latchedDark _ _ hw]
  unfold State.takeLatchedDark
  rw [hm]
  rfl

/-- The outputs of a cabinet in UNCONFIGURED, and of one that waits for its supply, are not a cause's to change. -/
theorem out_darkCause (h : s.sup.mode = .unconfigured ∨ s.waitingSupply = true) :
    (s.takeCause (.latchedDark false) r).out = s.out ∧
      ∀ g, ((s.takeCause (.latchedDark false) r).group g).colour = (s.group g).colour := by
  cases hw : s.waitingSupply with
  | true =>
    rw [takeCause_of_waiting _ _ hw]
    have hacts : Acts (fun _ => True) [.sup, .flt] s (s.takeWhileWaiting (.latchedDark false) r) := acts_takeWhileWaiting _ _
    exact ⟨out_onMode _, hacts.colour_eq⟩
  | false =>
    rw [darkCause_unconfigured (h.resolve_right (ne_true_of_eq_false hw)) hw]
    exact ⟨rfl, fun _ => rfl⟩

theorem sup_darkCause_waiting (hw : s.waitingSupply = true) :
    (s.takeCause (.latchedDark false) r).sup = darkWhileWaiting r s.sup := by
  rw [takeCause_of_waiting _ _ hw]
  exact sup_waiting_latchedDark _ _

/-- The failure to open as the cause leaves it. -/
theorem failedOpen_caused : FailedOpen s s.contactorFailsToOpen := by
  obtain ⟨htripped, hk, hentry, hacts⟩ := stuckShut_spec (G := fun _ => True) (s := s)
  have hsup : Sup.core (stuckShut s).sup = Sup.core s.sup := hacts.core_eq
  have hwait : (stuckShut s).waitingSupply = s.waitingSupply := waitingSupply_of_acts hacts
  have hmode : (stuckShut s).sup.mode = s.sup.mode := hacts.modes_eq
  rw [contactorFailsToOpen_eq]
  generalize stuckShut s = w at htripped hk hentry hacts hsup hwait hmode ⊢
  have hcause : Acts (fun _ => True) (.sup :: dimParts) w (w.takeCause (.latchedDark false) .contactor) := acts_darkCause
  refine ⟨tripped_darkCause htripped, fun h => contactorEntry_stays hcause (hentry h), fun hm => ?_, fun hw hm => ?_, fun hw => ?_⟩
  · obtain ⟨ho, hc⟩ := out_darkCause (s := w) (r := .contactor) (.inl (hmode.trans hm))
    refine ⟨?_, by rw [ho]; exact hk, fun g => (hc g).trans (hacts.colour_eq g), fun hw => ?_⟩
    · cases hw : s.waitingSupply with
      | true => rw [sup_darkCause_waiting (hwait.trans hw)]; exact hmode.trans hm
      | false => rw [darkCause_unconfigured (hmode.trans hm) (hwait.trans hw)]; exact hmode.trans hm
    · rw [darkCause_unconfigured (hmode.trans hm) (hwait.trans hw)]
      exact ⟨core_field Sup.reason hsup, core_field Sup.latched hsup⟩
  · rw [takeCause_latchedDark _ _ (hwait.trans hw)]
    obtain ⟨dm, dl, -, -, -, -, dr⟩ := latchedDark_spec (s := w) (hard := false) .contactor
      fun h => absurd (hmode.symm.trans h) hm
    rw [hmode, core_field Sup.latched hsup, core_field Sup.reason hsup] at dr
    exact ⟨dm, dl, dr⟩
  · rw [sup_darkCause_waiting (hwait.trans hw)]
    exact ⟨hmode, rfl, rfl, rfl⟩

theorem quiet_failsToOpen (hp : s.sup.mode.drains = true → s.cfg.pendingCommit = none)
    (hi : ∀ g, (s.group g).inhibited = true → (before.group g).inhibited = true) : quiet before s.contactorFailsToOpen := by
  obtain ⟨-, -, -, hacts⟩ := stuckShut_spec (G := fun _ => True) (s := s)
  have hmode : (stuckShut s).sup.mode = s.sup.mode := hacts.modes_eq
  have hcfg : (stuckShut s).cfg = s.cfg := hacts.cfg_eq
  have hinhibited : ∀ g, ((stuckShut s).group g).inhibited = true → (before.group g).inhibited = true := fun g hg =>
    hi g (inhibited_of_acts hacts (by decide) g hg)
  have hdrains : (stuckShut s).sup.mode.drains = true → (stuckShut s).cfg.pendingCommit = none := by rw [hmode, hcfg]; exact hp
  rw [contactorFailsToOpen_eq]
  generalize stuckShut s = w at hmode hcfg hinhibited hdrains ⊢
  by_cases hu : w.sup.mode = .unconfigured ∧ w.waitingSupply = false
  · rw [darkCause_unconfigured hu.1 hu.2]
    exact ⟨fun hd => .inl (hdrains hd), hinhibited⟩
  · cases hw : w.waitingSupply with
    | false => exact quiet_latchedDark _ (fun h => absurd ⟨h, hw⟩ hu) hdrains hinhibited
    | true =>
      have hcause : Acts (fun _ => True) cabinet w (w.takeCause (.latchedDark false) .contactor) :=
        acts_takeCause _ _
      refine ⟨fun hd => .inl ?_, fun g hg => hinhibited g (inhibited_of_acts hcause (by decide) g hg)⟩
      rw [sup_darkCause_waiting hw] at hd
      rw [hcause.cfg_eq]
      exact hdrains hd

/-- The failure to open as its step leaves it. -/
theorem failedOpen_finished (hp : s.sup.mode.drains = true → s.cfg.pendingCommit = none)
    (hi : ∀ g, (s.group g).inhibited = true → (before.group g).inhibited = true) :
    FailedOpen s (State.finish before s.contactorFailsToOpen) := by
  obtain ⟨htripped, hentry, hunconf, hdark, hwaiting⟩ := failedOpen_caused (s := s)
  obtain ⟨v, hfin, hv, hsup⟩ := finish_quiet (quiet_failsToOpen hp hi)
  obtain ⟨vm, vr, vl, -, -, -, -, -, vs, -⟩ := fields_of_retaken hsup
  have hout : v.out = s.contactorFailsToOpen.out := hv.out_eq
  have hcolour (g : Gid) : (v.group g).colour = (s.contactorFailsToOpen.group g).colour := hv.colour_eq g
  rw [hfin]
  unfold FailedOpen
  simp only [closeAdditions_sup, closeAdditions_out, closeAdditions_group]
  rw [vm, vr, vl, vs, hout]
  simp only [hcolour]
  exact ⟨tripped_of_out (tripped_of_out htripped hout) (closeAdditions_out _ _),
    fun h => contactorEntry_closes (contactorEntry_stays hv (hentry h)), hunconf, hdark, hwaiting⟩

end Relays

end Sys2Proof.Machine
end

section
/-! PROOFS. The contactor and the flash generator (O56). -/

namespace Sys2Proof.Machine

set_option Elab.async false

namespace Relays

open Acts Ending Causes Modes Parked

variable {G : Gid → Prop} {K : List Part} {before s t u v w : State} {c : Ch} {k : Contactor} {r : Reason} {l : Level}

/-! ### An indication that changes nothing else (R114, R115) -/

/-- The contactor's indication taken. -/
def indicated (l : Level) (s : State) : State := s.onContactor fun k => { k with indication := l }

theorem acts_indicated (l : Level) : Acts G [.contactor] s (indicated l s) := acts_onContactor _

theorem takeSupplyOutput_eq (h : s.out.trip = false) : s.takeSupplyOutput l =
    if l = .full then (indicated l s).contactorRises else (indicated l s).contactorFalls :=
  if_neg (ne_true_of_eq_false h)

theorem indication_alone (hb : s.betweenSteps) (h : s.takeSupplyOutput l = indicated l s) :
    exec (.supplyOutputIndication l) s =
      .next { s with out := { s.out with contactor := { s.out.contactor with indication := l } } } := by
  show Host.Outcome.next (State.finish s (s.takeSupplyOutput l)) = _
  rw [h, Laws.finish_betweenSteps (before := s) (s := indicated l s) hb rfl]
  rfl

theorem takeSupplyOutput_idle (h : s.out.trip = true ∨ (s.out.contactor.state = .held ∧ l = .full) ∨
    (l ≠ .full ∧ (s.out.contactor.state = .pullingIn ∨ s.out.contactor.state = .released))) :
    s.takeSupplyOutput l = indicated l s := by
  by_cases ht : s.out.trip = true
  · exact if_pos ht
  rw [takeSupplyOutput_eq (by simpa using ht)]
  rcases h.resolve_left ht with ⟨hk, hl⟩ | ⟨hl, hk⟩
  · rw [if_pos hl]
    unfold State.contactorRises
    have hstate : (indicated l s).out.contactor.state = .held := hk
    simp only [hstate]
  · rw [if_neg hl]
    unfold State.contactorFalls
    rcases hk with hk | hk
    · have hstate : (indicated l s).out.contactor.state = .pullingIn := hk
      simp only [hstate]
    · have hstate : (indicated l s).out.contactor.state = .released := hk
      simp only [hstate]

theorem onContactor_same {f : Contactor → Contactor} (h : f s.out.contactor = s.out.contactor) : s.onContactor f = s := by
  show { s with out := { s.out with contactor := f s.out.contactor } } = s
  rw [h]

theorem takeSupplyOutput_closed (ht : s.out.trip = false) (hk : s.out.contactor.state = .releasing)
    (hp : s.out.contactor.proof = .closed) : s.takeSupplyOutput .full = indicated .full s := by
  have hstate : (indicated .full s).out.contactor.state = .releasing := hk
  have hproof : (indicated .full s).out.contactor.proof = .closed := hp
  rw [takeSupplyOutput_eq ht, if_pos rfl]
  unfold State.contactorRises
  simp only [hstate, hproof, if_true]
  refine onContactor_same ?_
  show { (indicated .full s).out.contactor with proof := Proof.closed } = (indicated .full s).out.contactor
  rw [← hproof]

/-! ### The proof lost (R102, R114) -/

/-- The contactor's proof leaves its value: where it was CLOSED every channel's is lost with it, and no more. -/
theorem losesProof_spec (hb : s.betweenSteps) (hv : ∀ G : Gid → Prop, Acts G [.contactor] s v)
    (ht : t = v.loseSupplyProof s.out.contactor.proof) :
    State.finish s t = t ∧ (t.out.contactor = v.out.contactor ∧ t.out.trip = v.out.trip) ∧
      (s.out.contactor.proof = .closed → ∀ c, unproved (s.chan c) (t.chan c)) ∧
      (s.out.contactor.proof ≠ .closed → ∀ c, t.chan c = s.chan c) ∧ t.flt = s.flt ∧
      (∀ g, (t.group g).colour = (s.group g).colour) ∧ t.sup.mode = s.sup.mode ∧ t.cfg = s.cfg ∧ t.clk = s.clk ∧
      t.det = s.det := by
  have hkept : Acts (fun _ => True) putParts v t := ht ▸ acts_loseSupplyProof _
  have hacts : Acts (fun _ => True) (.contactor :: putParts) s t := (hv _).up.trans hkept.up
  have hflt : t.flt = s.flt := hacts.flt_eq
  refine ⟨?_, hkept.contactor_eq, fun hp c => ?_, fun hp c => ?_, hflt, hacts.colour_eq, hacts.modes_eq, hacts.cfg_eq,
    hacts.clk_eq, hacts.det_eq⟩
  · rw [finish_kept hb hacts]
    exact Laws.closeAdditions_of_quiet (by rw [hflt]; exact hb.1)
  · have heq : t = v.unproveAll := by rw [ht, hp]; rfl
    rw [heq, ← (hv fun _ => True).chan_eq c]
    exact (unproveAll_spec (G := fun _ => True)).1 c
  · have heq : t = v := by rw [ht]; exact if_neg hp
    rw [heq]
    exact (hv fun _ => True).chan_eq c

/-- The contactor's record as a supply output that is not FULL leaves it. -/
def fallen (l : Level) (k : Contactor) : Contactor :=
  if k.state = .held then { k with indication := l, state := .pullingIn, proof := .opened, limit := some 0 }
  else { k with indication := l, state := .released, proof := .opened, limit := none }

theorem takeSupplyOutput_falls (ht : s.out.trip = false) (hl : l ≠ .full)
    (hk : s.out.contactor.state = .held ∨ s.out.contactor.state = .releasing) :
    ∃ v, (∀ G : Gid → Prop, Acts G [.contactor] s v) ∧ v.out.contactor = fallen l s.out.contactor ∧
      v.out.trip = s.out.trip ∧ s.takeSupplyOutput l = v.loseSupplyProof s.out.contactor.proof := by
  rw [takeSupplyOutput_eq ht, if_neg hl]
  unfold State.contactorFalls fallen
  rcases hk with hk | hk
  · have hstate : (indicated l s).out.contactor.state = .held := hk
    simp only [hstate, hk, if_true]
    exact ⟨_, fun _ => (acts_indicated l).trans (acts_onContactor _), rfl, rfl, rfl⟩
  · have hstate : (indicated l s).out.contactor.state = .releasing := hk
    simp only [hstate, hk]
    exact ⟨_, fun _ => (acts_indicated l).trans (acts_onContactor _), rfl, rfl, rfl⟩

/-! ### The proof gained (R102, R114) -/

/-- The contactor's record as FULL proves it. -/
def risen (k : Contactor) : Contactor :=
  if k.state = .pullingIn then
    { k with indication := .full, state := .held, proof := .closed, limit := none, fault := .none }
  else { k with indication := .full, proof := .closed }

theorem chan_of_chans (h : w.out.chans = s.out.chans) (c : Ch) : w.chan c = s.chan c := by unfold State.chan; rw [h]

theorem backFed_of_chans (h : w.out.chans = s.out.chans) : w.backFed c ↔ s.backFed c := by
  unfold State.backFed; rw [chan_of_chans h]

/-- FULL at a contactor to be proven re-proves every channel; where no finding is a hard fault it does no more. -/
theorem proves_spec (hb : s.betweenSteps) (ht : s.out.trip = false)
    (hst : s.out.contactor.state = .pullingIn ∨ s.out.contactor.state = .releasing) (hp : s.out.contactor.proof ≠ .closed)
    (h : ∀ c, s.backFed c → s.greenAspect c = false) :
    ∃ t, exec (.supplyOutputIndication .full) s = .next t ∧
      (∀ c, ∃ x, t.chan c =
        { (s.chan c).reproved (s.settings c).pullIn with steadySince := x, fault := reproofFault (s.chan c) }) ∧
      t.out.contactor = risen s.out.contactor ∧ (∀ g, (t.group g).colour = (s.group g).colour) ∧ t.sup.mode = s.sup.mode ∧
      t.cfg = s.cfg ∧ t.clk = s.clk ∧ t.det = s.det ∧
      (s.flt.entries.length < 16 → ∀ c, s.backFed c → ∃ e ∈ t.flt.entries,
        e.kind = backKind (s.chan c) ∧ e.subject = .channel c ∧ e.active = true ∧ e.safety = false) := by
  obtain ⟨w, htake, hchans, hk, hlength, hw⟩ := rises_spec (G := fun _ => True) ht hst hp
  have hchan := chan_of_chans hchans
  have hset (c : Ch) : w.settings c = s.settings c := settings_of_cfg hw.cfg_eq c
  obtain ⟨hproved, hacts, hentries⟩ := reproveAll_advisory (G := fun _ => True) (s := w)
    fun c hc => (greenAspect_of hw.cfg_eq).trans (h c ((backFed_of_chans hchans).mp hc))
  have hall : Acts (fun _ => True) (.contactor :: .supplyFault :: .lamp :: .shown :: findingParts) s w.reproveAll :=
    hw.up.trans hacts.up
  refine ⟨State.closeAdditions s w.reproveAll, ?_, ?_⟩
  · show Host.Outcome.next (State.finish s (s.takeSupplyOutput .full)) = _
    rw [htake, finish_kept hb hall]
  simp only [hchan, hset, hlength] at hproved hentries
  simp only [closeAdditions_chan, closeAdditions_out, closeAdditions_group, closeAdditions_sup, closeAdditions_cfg,
    closeAdditions_clk, closeAdditions_det, closeAdditions_entries]
  exact ⟨hproved, hacts.contactor_eq.1.trans hk, hall.colour_eq, hall.modes_eq, hall.cfg_eq, hall.clk_eq, hall.det_eq,
    fun hl c hc => hentries hl c ((backFed_of_chans hchans).mpr hc)⟩

/-- Where the first finding of the re-proof at a GREEN channel is a hard fault, the cabinet falls dark. -/
theorem proves_hard (ht : s.out.trip = false)
    (hst : s.out.contactor.state = .pullingIn ∨ s.out.contactor.state = .releasing) (hp : s.out.contactor.proof ≠ .closed)
    (hc : s.cfg.pendingCommit = none) (hl : s.flt.entries.length < 16) (hb : s.backFed c) (hg : s.greenAspect c = true)
    (hfirst : ∀ c', c' < c → s.backFed c' → s.greenAspect c' = false) (hwait : s.waitingSupply = false)
    (hm : s.sup.mode ≠ .dark) :
    ∃ t e, exec (.supplyOutputIndication .full) s = .next t ∧
      Fallen s (if (s.chan c).fault = .failToOpen then .weld else .foreignGreen) e t ∧
      e.kind = backKind (s.chan c) ∧ e.subject = .channel c ∧ e.active = true ∧ e.safety = true := by
  obtain ⟨w, htake, hchans, -, hlength, hw⟩ := rises_spec (G := fun _ => True) ht hst hp
  obtain ⟨e, hfallen, he⟩ := reproveAll_hard (s := w) ((backFed_of_chans hchans).mpr hb)
    ((greenAspect_of hw.cfg_eq).trans hg)
    (fun c' hlt hb' => (greenAspect_of hw.cfg_eq).trans (hfirst c' hlt ((backFed_of_chans hchans).mp hb')))
    ((waitingSupply_of_acts hw).trans hwait) (by rw [hw.modes_eq]; exact hm) (by rw [hlength]; exact hl)
  rw [chan_of_chans hchans] at hfallen he
  obtain ⟨hsup, hdriven, hcfg, hmem⟩ := hfallen
  have hcfg' : w.reproveAll.cfg = s.cfg := hcfg.trans hw.cfg_eq
  have hdark : w.reproveAll.sup.mode ≠ .normal := by rw [hsup.1]; decide
  refine ⟨State.closeAdditions s w.reproveAll, e, ?_, ?_, he⟩
  · show Host.Outcome.next (State.finish s (s.takeSupplyOutput .full)) = _
    rw [htake, finish_of_noCommit (fun _ => by rw [hcfg']; exact hc), takeInhibition_of_mode hdark]
  · unfold Fallen State.waitingSupply at *
    simp only [closeAdditions_sup, closeAdditions_out, closeAdditions_cfg, closeAdditions_entries]
    exact ⟨hsup, hdriven, hcfg', hmem⟩

/-- A channel that the re-proof finds well. -/
theorem reproved_sound {r : ChanRun} {x : Option Nat} {n : Nat} {r' : ChanRun}
    (hr : r' = { r.reproved n with steadySince := x, fault := reproofFault r }) (hback : r.drive = .off → r.indication ≠ .full) :
    (r.drive = .off → r'.relay = .released ∧ r'.proof = .opened ∧ r'.drive = .off ∧ r'.fault = .none) ∧
      (r.drive ≠ .off → r.indication = .full → r'.relay = .held ∧ r'.proof = .closed ∧ r'.drive = .full ∧
        r'.fullTime = some 0 ∧ r'.fault = .none) ∧
      (r.drive ≠ .off → r.indication ≠ .full → r'.relay = .pullingIn ∧ r'.proof = .opened ∧ r'.drive = .full ∧
        r'.limit = some ⟨0, n⟩ ∧ r'.fault = (if r.fault = .failToClose then .failToClose else .none)) := by
  subst hr
  unfold reproofFault
  refine ⟨fun hd => ?_, fun hd hi => ?_, fun hd hi => ?_⟩
  · rw [reproved_released n hd (.inl (hback hd)), if_neg (hback hd), if_neg (by rw [undriven_of hd]; decide)]
    exact ⟨rfl, rfl, hd, rfl⟩
  · rw [reproved_held n hd hi, if_pos hi, if_pos (driven_of hd)]
    exact ⟨rfl, rfl, rfl, rfl, rfl⟩
  · rw [reproved_pullingIn n hd hi, if_neg hi, if_pos (driven_of hd)]
    refine ⟨rfl, rfl, rfl, rfl, ?_⟩
    cases r.fault <;> rfl

/-- A channel that the re-proof finds at FULL behind its coil. -/
theorem reproved_back {r : ChanRun} {x : Option Nat} {n : Nat} {r' : ChanRun}
    (hr : r' = { r.reproved n with steadySince := x, fault := reproofFault r }) (hd : r.drive = .off) (hi : r.indication = .full) :
    r'.drive = .off ∧ r'.limit = none ∧
      (r.fault = .failToOpen → r'.relay = .releasing ∧ r'.proof = .closed ∧ r'.fault = .failToOpen) ∧
      (r.fault ≠ .failToOpen → r'.relay = .released ∧ r'.proof = .opened ∧ r'.fault = .foreignVoltage) := by
  subst hr
  have hfault : reproofFault r = backFault r := (reproofFinding_backFed (s := State.reset) (c := 0) hi hd).2
  rw [hfault]
  unfold backFault
  by_cases hf : r.fault = .failToOpen
  · rw [reproved_late n hd hi hf, if_pos hf]
    exact ⟨hd, rfl, fun _ => ⟨rfl, rfl, rfl⟩, fun h => absurd hf h⟩
  · rw [reproved_released n hd (.inr hf), if_neg hf]
    exact ⟨hd, rfl, fun h => absurd h hf, fun _ => ⟨rfl, rfl, rfl⟩⟩

/-! ### FULL at a released contactor (R115) -/

theorem rises_released (hb : s.betweenSteps) (ht : s.out.trip = false) (hk : s.out.contactor.state = .released)
    (hback : ∀ c, ¬s.backFed c) (hl : s.flt.entries.length < 64) :
    ∃ w t, exec (.supplyOutputIndication .full) s = .next t ∧ FailedOpen w t ∧
      Sup.core w.sup = Sup.core s.sup ∧ w.flt.entries.length < 64 := by
  obtain ⟨v, hv⟩ : ∃ v, v = (indicated .full s).onContactor fun k => { k with proof := .closed } := ⟨_, rfl⟩
  have hacts : Acts (fun _ => True) [.contactor] s v := hv ▸ (acts_indicated .full).trans (acts_onContactor _)
  have hnone (c : Ch) : ¬v.backFed c := by unfold State.backFed; rw [hacts.chan_eq c]; exact hback c
  have hproved := (reproveAll_advisory (G := fun _ => True) (s := v) fun c hc => absurd hc (hnone c)).2.1
  have hall : Acts (fun _ => True) (.contactor :: .lamp :: .shown :: findingParts) s v.reproveAll := hacts.up.trans hproved.up
  refine ⟨v.reproveAll, State.finish s v.reproveAll.contactorFailsToOpen, ?_, failedOpen_finished ?_
    (inhibited_of_acts hall (by decide)), ?_, by rw [length_reproveAll hnone, hacts.flt_eq]; exact hl⟩
  · show Host.Outcome.next (State.finish s (s.takeSupplyOutput .full)) = _
    rw [takeSupplyOutput_eq ht, if_pos rfl, hv]
    unfold State.contactorRises
    have hstate : (indicated .full s).out.contactor.state = .released := hk
    simp only [hstate]
  · exact noCommit_of_kept hb hall.modes_eq hall.cfg_eq
  · exact hall.core_eq

/-! ### The failure to close (R115, R162) -/

/-- The failure to close, as it is reported. -/
def stuckOpen (s : State) : State :=
  (s.onContactor fun k => { k with fault := .failToClose, limit := none }).report .supplyContactor .nothing

theorem stuckOpen_spec : (stuckOpen s).out.contactor = { s.out.contactor with fault := .failToClose, limit := none } ∧
    (stuckOpen s).out.chans = s.out.chans ∧ (stuckOpen s).sup = s.sup ∧ (stuckOpen s).seq = s.seq ∧
    (s.flt.entries.length < 64 → ContactorEntry (stuckOpen s)) ∧
    Acts G [.contactor, .flt, .supplyFault, .alarm] s (stuckOpen s) := by
  refine ⟨rfl, rfl, rfl, rfl, fun h => contactorEntry_report h, ?_⟩
  exact (acts_onContactor _).up.trans (of_edits (edits_report (K := [.flt, .supplyFault, .alarm]) .supplyContactor .nothing)).up

theorem exec_closeLimit (hs : s.out.contactor.state = .pullingIn) (hl : s.out.contactor.limit = some 200)
    (hr : s.sup.recovering = false ∨ s.sup.mode.runs = false) :
    exec .contactorCloseLimit s = .next (State.finish s ((stuckOpen s).takeCause .closeFailure .contactor)) := by
  have hdue : s.closeLimitDue = true := by
    unfold State.closeLimitDue Contactor.limitDone
    rw [hs, hl]
    rfl
  have hcounts : ¬(stuckOpen s).attemptCounts = true := by
    show ¬(s.sup.recovering && s.sup.mode.runs) = true
    rcases hr with hr | hr <;> rw [hr] <;> simp
  show Host.Outcome.next (if s.closeLimitDue then State.finish s s.contactorFailsToClose else s) = _
  rw [if_pos hdue]
  show Host.Outcome.next (State.finish s ((stuckOpen s).softFault false)) = _
  unfold State.softFault
  rw [if_neg hcounts]
  rfl

theorem closeFailure_unconfigured (hm : s.sup.mode = .unconfigured) : s.takeCause .closeFailure r = s := by
  unfold State.takeCause State.takeWhileWaiting State.takeCloseFailure
  rw [hm]
  exact ite_self _

theorem closeFailure_soft (hr : s.sup.mode.runs = true) (hw : s.waitingSupply = false) (hl : s.sup.latchedWaits = false) :
    s.takeCause .closeFailure r =
      (s.enterDark (some .contactor) false).onSup fun u => u.startHoldoff s.cabinet.attempts := by
  rw [takeCause_closeFailure _ hw]
  unfold State.takeCloseFailure
  cases hm : s.sup.mode with
  | startupCheck | startupFlash | startupRed | normal => exact if_neg (ne_true_of_eq_false hl)
  | unconfigured | clearing | flash | dark => rw [hm] at hr; exact absurd hr (by decide)

theorem closeFailure_latched (hm : s.sup.mode = .startupRed) (hw : s.waitingSupply = false)
    (hl : s.sup.latchedWaits = true) :
    s.takeCause .closeFailure r = (s.onSup Sup.endRecovery).enterDark (some .contactor) true := by
  rw [takeCause_closeFailure _ hw]
  unfold State.takeCloseFailure
  rw [hm]
  exact if_pos hl

theorem latchedWaits_iff (u : Sup) : u.latchedWaits = true ↔ u.mode = .startupRed ∧ ∃ r, u.flashNext = some (r, true) := by
  unfold Sup.latchedWaits
  rw [Bool.and_eq_true, beq_iff_eq]
  refine and_congr_right fun _ => ⟨fun h => ?_, fun ⟨r, h⟩ => by rw [h]; rfl⟩
  cases hf : u.flashNext with
  | none => rw [hf] at h; exact absurd h (by decide)
  | some f =>
    obtain ⟨a, b⟩ := f
    rw [hf] at h
    exact ⟨a, congrArg (fun b => some (a, b)) (show b = true from h)⟩

/-- A close failure of a running cabinet: DARK, not latched, its holdoff started. -/
theorem closeFailure_spec (hr : s.sup.mode.runs = true) (hrec : s.sup.recovering = false) (hw : s.waitingSupply = false)
    (hc : s.cfg.pendingCommit = none) (hl : s.sup.latchedWaits = false) (hs : s.out.contactor.state = .pullingIn)
    (hlim : s.out.contactor.limit = some 200) (hroom : s.flt.entries.length < 64) :
    ∃ t, exec .contactorCloseLimit s = .next t ∧ t.sup.mode = .dark ∧ t.sup.reason = some .contactor ∧
      t.sup.latched = false ∧ t.sup.holdoff = (if 0 < s.cabinet.attempts then some 0 else s.sup.holdoff) ∧
      t.out.contactor.fault = .failToClose ∧ t.out.contactor.driven = false ∧ t.cfg = s.cfg ∧ t.clk = s.clk ∧
      t.det = s.det ∧ ContactorEntry t := by
  obtain ⟨hk, -, hsup, -, hentry, hacts⟩ := stuckOpen_spec (G := fun _ => True) (s := s)
  have hcab : (stuckOpen s).cabinet = s.cabinet := rfl
  obtain ⟨w, hw'⟩ : ∃ w, w = stuckOpen s := ⟨_, rfl⟩
  have hwait : w.waitingSupply = false := by rw [hw']; exact (waitingSupply_of_acts hacts).trans hw
  have heq := closeFailure_soft (s := w) (r := .contactor) (by rw [hw', hsup]; exact hr) hwait (by rw [hw', hsup]; exact hl)
  rw [← hw'] at hk hsup hentry hacts hcab
  have hcore := core_enterDark (s := w) (some .contactor) false
  have hkept := contactor_enterDark (s := w) (some .contactor) false
  have hdim : Acts (fun _ => True) dimParts w (w.enterDark (some .contactor) false) := acts_enterDark_dim _ _
  generalize w.enterDark (some .contactor) false = d at heq hcore hkept hdim
  have hdark : Acts (fun _ => True) (.sup :: dimParts) w (w.takeCause .closeFailure .contactor) := by
    rw [heq]
    exact hdim.up.trans (acts_startHoldoff _).up
  have hmode : (w.takeCause .closeFailure .contactor).sup.mode = .dark := by
    rw [heq]; exact core_field Sup.mode hcore
  have hall : Acts (fun _ => True) (.supplyFault :: .alarm :: .sup :: dimParts) s (w.takeCause .closeFailure .contactor) :=
    hacts.up.trans hdark.up
  have hcontactor : (w.takeCause .closeFailure .contactor).out.contactor = released w.out.contactor := by
    rw [heq]; exact hkept.1
  have hholdoff : d.sup.holdoff = s.sup.holdoff :=
    (core_field Sup.holdoff hcore).trans (by rw [hsup]; rfl)
  refine ⟨State.closeAdditions s (w.takeCause .closeFailure .contactor), ?_, ?_⟩
  · rw [exec_closeLimit hs hlim (.inl hrec), ← hw', finish_of_noCommit (fun _ => by rw [hall.cfg_eq]; exact hc),
      takeInhibition_of_mode (by rw [hmode]; decide)]
  simp only [closeAdditions_sup, closeAdditions_out, closeAdditions_cfg, closeAdditions_clk, closeAdditions_det]
  rw [hcontactor, fault_released, hk]
  refine ⟨hmode, ?_, ?_, ?_, rfl, (released_off _).2, hall.cfg_eq, hall.clk_eq, hall.det_eq,
    contactorEntry_closes (contactorEntry_stays hdark (hentry hroom))⟩
  · rw [heq]; exact core_field Sup.reason hcore
  · rw [heq]; exact core_field Sup.latched hcore
  · rw [heq, ← hcab, ← hholdoff]; rfl

/-- A close failure that meets a lockout in STARTUP_RED: DARK, latched. -/
theorem closeFailure_lockout (hm : s.sup.mode = .startupRed) (hrec : s.sup.recovering = false) (hw : s.waitingSupply = false)
    (hl : s.sup.latchedWaits = true) (hs : s.out.contactor.state = .pullingIn)
    (hlim : s.out.contactor.limit = some 200) :
    ∃ t, exec .contactorCloseLimit s = .next t ∧ t.sup.mode = .dark ∧ t.sup.reason = some .contactor ∧
      t.sup.latched = true ∧ t.sup.holdoff = none ∧ t.out.contactor.driven = false := by
  obtain ⟨-, -, hsup, -, -, hacts⟩ := stuckOpen_spec (G := fun _ => True) (s := s)
  obtain ⟨w, hw'⟩ : ∃ w, w = stuckOpen s := ⟨_, rfl⟩
  rw [← hw'] at hsup hacts
  have hwait : w.waitingSupply = false := (waitingSupply_of_acts hacts).trans hw
  have heq := closeFailure_latched (s := w) (r := .contactor) (by rw [hsup]; exact hm) hwait (by rw [hsup]; exact hl)
  have hcore := core_enterDark (s := w.onSup Sup.endRecovery) (some .contactor) true
  obtain ⟨u, hu⟩ : ∃ u, u = (w.onSup Sup.endRecovery).enterDark (some .contactor) true := ⟨_, rfl⟩
  rw [← hu] at heq hcore
  have hdark : Acts (fun _ => True) (.sup :: dimParts) w u := hu ▸ acts_endRecovery.up.trans (acts_enterDark_dim _ _).up
  have hmode : u.sup.mode = .dark := core_field Sup.mode hcore
  have hlatched : u.sup.latched = true := core_field Sup.latched hcore
  have huwait : u.waitingSupply = false :=
    (waitingSupply_of_kept ((core_field Sup.saved hcore).trans rfl) ((core_field Sup.supplyPresent hcore).trans rfl)).trans hwait
  have hdriven : u.out.contactor.driven = false := by rw [hu, (contactor_enterDark _ _).1]; exact (released_off _).2
  obtain ⟨v, hfin, hv, hret⟩ := finish_parked (before := s) (parked_of_latched (by rw [hmode]; rfl) hlatched huwait)
  obtain ⟨vm, vr, vl, -, -, -, -, -, -, -, -, vh⟩ := fields_of_retaken hret
  refine ⟨State.closeAdditions s v, by rw [exec_closeLimit hs hlim (.inl hrec), ← hw', heq, hfin], ?_⟩
  simp only [closeAdditions_sup, closeAdditions_out]
  rw [hv.contactor_eq.1]
  exact ⟨vm.trans hmode, vr.trans (core_field Sup.reason hcore), vl.trans hlatched,
    vh.elim (·.trans (core_field Sup.holdoff hcore)) id, hdriven⟩

end Relays

end Sys2Proof.Machine
end

section
/-! PROOFS. The contactor and the flash generator: the statement (O56). -/

namespace Sys2Proof.Machine

set_option Elab.async false

namespace Relays

open Acts Ending Causes Modes Parked

variable {G : Gid → Prop} {K : List Part} {before s t u v w : State} {c : Ch} {k : Contactor} {r : Reason} {l : Level}

/-- The step of a phase change (R112). -/
theorem phaseChange_spec (hb : s.betweenSteps) (hr : s.out.flash.running = true)
    (hl : s.out.flash.phaseLength ≤ s.out.flash.phaseTime) :
    ∃ t, exec .flashPhaseChange s = .next t ∧
      t.out.flash = ⟨true, !s.out.flash.onPhase, 0, 30000 / s.cabinet.flashRate⟩ ∧
      (∀ c, flashed (!s.out.flash.onPhase) (s.chan c) (t.chan c)) ∧ t.out.contactor = s.out.contactor ∧
      Acts (fun _ => True) electric s s.changePhase ∧ t = State.closeAdditions s s.changePhase := by
  have hacts : Acts (fun _ => True) electric s s.changePhase := acts_changePhase
  obtain ⟨hchan, hflash, hk⟩ := changePhase_spec (s := s)
  have hdue : s.phaseDue = true := by
    unfold State.phaseDue
    rw [hr, decide_eq_true hl]
    rfl
  refine ⟨State.closeAdditions s s.changePhase, ?_, ?_, ?_, ?_, hacts, rfl⟩
  · show Host.Outcome.next (if s.phaseDue then State.finish s s.changePhase else s) = _
    rw [if_pos hdue, finish_kept hb hacts]
  · rw [closeAdditions_out]; exact hflash
  · simp only [closeAdditions_chan]; exact hchan
  · rw [closeAdditions_out]; exact hk

theorem openLimitDue_of (hs : s.out.contactor.state = .releasing) (hl : s.out.contactor.limit = some 200) :
    s.openLimitDue = true := by
  unfold State.openLimitDue Contactor.limitDone
  rw [hs, hl]
  rfl

theorem exec_openLimit (hs : s.out.contactor.state = .releasing) (hl : s.out.contactor.limit = some 200) :
    exec .contactorOpenLimit s = .next (State.finish s s.endContactorRelease) := by
  show Host.Outcome.next (if s.openLimitDue then State.finish s s.endContactorRelease else s) = _
  rw [if_pos (openLimitDue_of hs hl)]

theorem exec_openLimit_full (hb : s.betweenSteps) (hs : s.out.contactor.state = .releasing)
    (hl : s.out.contactor.limit = some 200) (hi : s.out.contactor.indication = .full) :
    ∃ t, exec .contactorOpenLimit s = .next t ∧ FailedOpen s t := by
  refine ⟨State.finish s s.contactorFailsToOpen, ?_, failedOpen_finished hb.2 fun _ h => h⟩
  rw [exec_openLimit hs hl]
  unfold State.endContactorRelease
  rw [if_pos hi]

/-- The end of the open limit without voltage. -/
theorem exec_openLimit_open (hb : s.betweenSteps) (hs : s.out.contactor.state = .releasing)
    (hl : s.out.contactor.limit = some 200) (hi : s.out.contactor.indication ≠ .full) :
    ∃ t, exec .contactorOpenLimit s = .next t ∧
      t.out.contactor = { s.out.contactor with state := .released, proof := .opened, limit := none } ∧
      (s.out.contactor.proof = .closed → ∀ c, (t.chan c).proof = .unproven) ∧
      (s.out.contactor.proof ≠ .closed → ∀ c, t.chan c = s.chan c) ∧ t.flt = s.flt ∧
      (∀ g, (t.group g).colour = (s.group g).colour) ∧ t.sup.mode = s.sup.mode ∧ t.cfg = s.cfg ∧ t.clk = s.clk ∧
      t.det = s.det := by
  obtain ⟨v, hv⟩ : ∃ v, v = s.onContactor fun k => { k with state := .released, proof := .opened, limit := none } := ⟨_, rfl⟩
  obtain ⟨hfin, ⟨hk, -⟩, hlost, hkept, hrest⟩ := losesProof_spec (t := v.loseSupplyProof s.out.contactor.proof) hb
    (fun _ => hv ▸ acts_onContactor _) rfl
  refine ⟨v.loseSupplyProof s.out.contactor.proof, ?_, hk.trans (by rw [hv]; rfl), fun hp c => (hlost hp c).1, hkept, hrest⟩
  rw [exec_openLimit hs hl]
  unfold State.endContactorRelease
  rw [if_neg hi, ← hv, hfin]

theorem failedOpen_waiting (h : FailedOpen s t) (hw : s.waitingSupply = false) (hm : s.sup.mode ≠ .unconfigured) :
    t.sup.mode = .dark ∧ t.sup.latched = true ∧
      t.sup.reason = (if s.sup.mode = .dark ∧ s.sup.latched = true then s.sup.reason else some .contactor) := h.2.2.2.1 hw hm

end Relays

open Acts Ending Relays

/-- Settles O56. The contactor by its state and the supply output's level, its two limits, and the phase of the flash
generator. -/
theorem contactorAndFlashPhase : Obligations.ContactorAndFlashPhase := by
  unfold Obligations.ContactorAndFlashPhase
  rintro s k hb rfl
  refine ⟨fun hr hl => ?_, fun l h => indication_alone hb (takeSupplyOutput_idle h), fun l ht hl hk => ?_,
    fun ht hk hp hback => ?_, fun ht hk hp hc hl => ⟨fun hgreen => ?_, fun c hbc hg hfirst hw hm => ?_⟩,
    fun ht hk hp => indication_alone hb (takeSupplyOutput_closed ht hk hp), fun ht hk hback hl => ?_,
    fun hs hlim hroom => ⟨fun hm => ?_, fun hr hrec hw hc hno => ?_, fun hm hrec hw r hnext => ?_⟩,
    fun hs hlim => ⟨fun hi => exec_openLimit_open hb hs hlim hi, fun hi hw hm => ?_, fun hi hw hm => ?_, fun hi hm => ?_,
      fun hi hroom t ht => ?_⟩⟩
  · obtain ⟨t, hexec, hflash, hchan, hk, hacts, ht⟩ := phaseChange_spec hb hr hl
    refine ⟨_, hexec, hflash, fun c => (hchan c).1, fun c => (hchan c).2.1, fun c hf hbus => ((hchan c).2.2 hf hbus).trans ?_, hk, ?_⟩
    · simp
    · rw [ht]
      simp only [closeAdditions_group, closeAdditions_sup, closeAdditions_cfg, closeAdditions_clk, closeAdditions_sch,
        closeAdditions_det]
      exact ⟨hacts.colour_eq, hacts.modes_eq, hacts.cfg_eq, hacts.clk_eq, hacts.sch_eq, hacts.det_eq⟩
  · obtain ⟨v, hv, hvk, hvt, htake⟩ := takeSupplyOutput_falls ht hl hk
    obtain ⟨hfin, ⟨h1, h2⟩, hlost, hkept, hflt, hrest⟩ := losesProof_spec hb hv rfl
    refine ⟨_, ?_, h1.trans hvk, fun hp c => ?_, hkept, h2.trans (hvt.trans ht), hflt, hrest⟩
    · show Host.Outcome.next (State.finish s (s.takeSupplyOutput l)) = _
      rw [htake, hfin]
    · obtain ⟨a1, a2, a3, a4, -⟩ := hlost hp c
      exact ⟨a1, a2, a3, a4⟩
  · obtain ⟨t, hexec, hchan, hcon, h1, h2, h3, h4, h5, -⟩ := proves_spec hb ht (.inl hk) hp
      fun c hc => absurd hc.2 (hback c hc.1)
    refine ⟨t, hexec, hcon.trans (if_pos hk), fun c => ?_, h1, h2, h3, h4, h5⟩
    obtain ⟨x, hx⟩ := hchan c
    exact reproved_sound hx (hback c)
  · obtain ⟨t, hexec, hchan, hcon, h1, h2, h3, h4, h5, hentries⟩ := proves_spec hb ht hk hp hgreen
    refine ⟨t, hexec, h2, h1, h3, h4, h5, hcon, fun c hc => ?_⟩
    obtain ⟨x, hx⟩ := hchan c
    obtain ⟨hd, hlim, hlate, hforeign⟩ := reproved_back hx hc.1 hc.2
    obtain ⟨e, he, e1, e2, e3, e4⟩ := hentries hl c hc
    refine ⟨hd, hlim, fun hf => ?_, fun hf => ?_⟩
    · obtain ⟨a1, a2, a3⟩ := hlate hf
      exact ⟨a1, a2, a3, e, he, e1.trans (if_pos hf), e2, e3, e4⟩
    · obtain ⟨a1, a2, a3⟩ := hforeign hf
      exact ⟨a1, a2, a3, e, he, e1.trans (if_neg hf), e2, e3, e4⟩
  · obtain ⟨t, e, hexec, ⟨⟨h1, h2, h3, -⟩, h4, h5, h6⟩, e1, e2, e3, e4⟩ := proves_hard ht hk hp hc hl hbc hg hfirst hw hm
    refine ⟨t, hexec, h1, h2, ?_, h4, h5, e, h6, e1, e2, e3, e4⟩
    rw [h3]
    split
    · rfl
    · rfl
  · obtain ⟨w, t, hexec, hfailed, hsup, hlen⟩ := rises_released hb ht hk hback hl
    have hmode : w.sup.mode = s.sup.mode := Causes.core_field Sup.mode hsup
    have hwait : w.waitingSupply = s.waitingSupply :=
      Causes.waitingSupply_of_kept (Causes.core_field Sup.saved hsup) (Causes.core_field Sup.supplyPresent hsup)
    obtain ⟨⟨t1, t2, t3, t4, t5⟩, hentry, hunconf, hdark, -⟩ := hfailed
    refine ⟨t, hexec, t1, t2, t4, t3, t5, hentry hlen, fun hm => (hunconf (hmode.trans hm)).1, fun hw hm => ?_⟩
    have hd := hdark (hwait.trans hw) (by rw [hmode]; exact hm)
    rw [hmode, Causes.core_field Sup.latched hsup, Causes.core_field Sup.reason hsup] at hd
    exact hd
  · obtain ⟨h1, h2, h3, h4, h5, hacts⟩ := stuckOpen_spec (G := fun _ => True) (s := s)
    refine ⟨State.closeAdditions s (stuckOpen s), ?_, ?_⟩
    · rw [exec_closeLimit hs hlim (.inr (by rw [hm]; rfl)), closeFailure_unconfigured (by rw [h3]; exact hm),
        finish_kept hb hacts]
    · simp only [closeAdditions_sup, closeAdditions_out, closeAdditions_cfg, closeAdditions_clk, closeAdditions_det,
        closeAdditions_seq]
      exact ⟨h1, contactorEntry_closes (h5 hroom), h3, h4, h2, hacts.cfg_eq, hacts.clk_eq, hacts.det_eq⟩
  · have hl : s.sup.latchedWaits = false := by
      rw [← Bool.not_eq_true, latchedWaits_iff]; exact hno
    exact closeFailure_spec hr hrec hw hc hl hs hlim hroom
  · exact closeFailure_lockout hm hrec hw ((latchedWaits_iff _).mpr ⟨hm, r, hnext⟩) hs hlim
  · obtain ⟨t, hexec, hfailed⟩ := exec_openLimit_full hb hs hlim hi
    have hd := failedOpen_waiting hfailed hw hm
    obtain ⟨⟨t1, t2, t3, t4, t5⟩, -⟩ := hfailed
    exact ⟨t, hexec, t1, t2, t4, t3, t5, hd⟩
  · obtain ⟨t, hexec, ⟨t1, t2, t3, t4, -⟩, -, -, -, hwaiting⟩ := exec_openLimit_full hb hs hlim hi
    exact ⟨t, hexec, t1, t2, t4, t3, hwaiting hw⟩
  · obtain ⟨t, hexec, ⟨t1, -, -, -, t5⟩, -, hunconf, -⟩ := exec_openLimit_full hb hs hlim hi
    obtain ⟨h1, h2, h3, h4⟩ := hunconf hm
    exact ⟨t, hexec, t1, h2, t5, h3, h1, h4⟩
  · obtain ⟨t', hexec, -, hentry, -⟩ := exec_openLimit_full hb hs hlim hi
    rw [ht] at hexec
    cases hexec
    exact hentry hroom

end Sys2Proof.Machine
end

section
/-! PROOFS. The tester's leak request, the choice of a probe and the end of a sweep (R134, R149, R150). -/

namespace Sys2Proof.Machine

set_option Elab.async false

namespace Probes

open Acts Ending TesterRequests

variable {G : Gid → Prop} {K : List Part} {before s t u v w : State} {c : Ch} {e x : PEnt}

/-! ### The leak request (R134, R151) -/

theorem insulationEntry_eq (hk : (s.probeRec e).kind = some .insulation) (hc : (s.probeRec e).subject = c)
    (hfirst : ∀ e', e' < e → ¬((s.probeRec e').kind = some .insulation ∧ (s.probeRec e').subject = c)) :
    s.insulationEntry c = some e := by
  unfold State.insulationEntry firstFin
  rw [List.find?_eq_some_iff_append]
  obtain ⟨l1, l2, hsplit⟩ := List.append_of_mem (List.mem_finRange e)
  refine ⟨by simp [hk, hc], l1, l2, hsplit, fun e' he' => ?_⟩
  have hlt : e' < e := (List.pairwise_append.mp (hsplit ▸ List.pairwise_lt_finRange 64)).2.2 e' he' e List.mem_cons_self
  have hnot := not_and_or.mp (hfirst e' hlt)
  simpa using hnot

theorem takeUrgent_eq (b : Cbt) (e : PEnt) : b.takeUrgent e = { b with
    urgent := if b.period ≠ none ∧ b.urgent.length < 8 ∧ e ∉ b.urgent ∧ b.probe.map (·.entry) ≠ some e then b.urgent ++ [e]
      else b.urgent } := by
  have hiff : (b.period.isSome && decide (b.urgent.length < Config.urgentCapacity) && !b.urgent.contains e &&
      (b.probe.map (·.entry)) != some e) = true ↔
      (b.period ≠ none ∧ b.urgent.length < 8 ∧ e ∉ b.urgent ∧ b.probe.map (·.entry) ≠ some e) := by
    rw [Bool.and_eq_true, Bool.and_eq_true, Bool.and_eq_true, Option.isSome_iff_ne_none, decide_eq_true_iff, bne_iff_ne]
    simp [and_assoc, Config.urgentCapacity]
  unfold Cbt.takeUrgent
  by_cases h : b.period ≠ none ∧ b.urgent.length < 8 ∧ e ∉ b.urgent ∧ b.probe.map (·.entry) ≠ some e
  · rw [if_pos (hiff.mpr h), if_pos h]
  · rw [if_neg fun h' => h (hiff.mp h'), if_neg h]

theorem leakDue_of (hl : (s.lamp c).leak = some 1000) (ha : (s.lamp c).leakAsked = false) : s.leakDue c = true := by
  unfold State.leakDue; rw [hl, ha]; rfl

theorem exec_leakRequest (hb : s.betweenSteps) (hl : (s.lamp c).leak = some 1000) (ha : (s.lamp c).leakAsked = false)
    (he : s.insulationEntry c = some e) :
    exec (.leakRequest c) s = .next ((s.onLamp c fun l => { l with leakAsked := true }).onCbt fun b => b.takeUrgent e) := by
  have hask : s.askLeak c = (s.onLamp c fun l => { l with leakAsked := true }).onCbt fun b => b.takeUrgent e := by
    have he' : (s.onLamp c fun l => { l with leakAsked := true }).insulationEntry c = some e := he
    unfold State.askLeak
    simp only [he']
  show Host.Outcome.next (if s.leakDue c then State.finish s (s.askLeak c) else s) = _
  rw [if_pos (leakDue_of hl ha), hask]
  exact congrArg _ (Laws.finish_of_quiet hb.1 hb.2 rfl)

/-! ### The start of a probe (R141) -/

/-- The channels' records but for their test bus field. -/
theorem connectBus_rest (s : State) (e : PEnt) (c : Ch) : ∃ b, (s.connectBus e).chan c = { s.chan c with testBus := b } := by
  have hone (t : State) (q : Ch) (b : TestBus) : ∃ b', (t.onChan q fun r => { r with testBus := b }).chan c =
      { t.chan c with testBus := b' } := by
    by_cases h : q = c
    · subst h; exact ⟨b, State.onChan_self _ _ _⟩
    · exact ⟨(t.chan c).testBus, State.onChan_other _ _ h⟩
  unfold State.connectBus
  dsimp only
  obtain ⟨b, hb⟩ := hone (match (s.probeRec e).kind, (s.probeRec e).partner with
    | some .coupling, some q => s.onChan q fun r => { r with testBus := .sense }
    | _, _ => s) (s.probeRec e).subject .drive
  refine ⟨b, hb.trans ?_⟩
  split
  · next q _ _ =>
    obtain ⟨b', hb'⟩ := hone s q .sense
    rw [hb']
  · rfl

/-- What a probe that starts leaves of the state. -/
theorem startProbe_spec (s : State) (e : PEnt) (o : Origin) :
    (s.startProbe e o).cbt = { s.cbt with
        phase := .closing, phaseTime := 0, probe := some ⟨e, o, false⟩, urgent := s.cbt.urgent.erase e
        deferred := s.cbt.deferred.erase e } ∧
      ((s.startProbe e o).chan (s.probeRec e).subject).testBus = .drive ∧
      (∀ c, ∃ b, (s.startProbe e o).chan c = { s.chan c with testBus := b }) ∧
      (s.startProbe e o).lmp = s.lmp ∧ (s.startProbe e o).seq = s.seq := by
  obtain ⟨f, hf⟩ := connectBus_out s e
  have hchan : (s.startProbe e o).chan = (s.connectBus e).chan := rfl
  refine ⟨?_, by rw [hchan]; exact connectBus_subject s e, fun c => by rw [hchan]; exact connectBus_rest s e c, ?_, ?_⟩
  all_goals
    unfold State.startProbe
    rw [hf]
    rfl

/-! ### The choice of a probe (R149) -/

/-- The state as the choice is taken up. -/
def chosen (s : State) : State := s.onCbt fun b => { b with choice := false }

theorem chooseProbe_eq : s.chooseProbe = match (chosen s).cbt.urgent.find? (chosen s).canStart with
    | some e => (chosen s).startProbe e .urgent
    | none => (chosen s).walkOn := rfl

theorem canStart_chosen (e : PEnt) : (chosen s).canStart e = s.canStart e := rfl

/-- The lists of the walk taken up. -/
def walked (s : State) (d : List PEnt) (n : Nat) : State := s.onCbt fun b => { b with deferred := d, walk := n }

theorem walkOn_starts {d : List PEnt} {n : Nat} (h : s.walkFrom 64 s.cbt.walk s.cbt.deferred = (d, n, some e)) :
    s.walkOn = (walked s d n).startProbe e .sweep := by
  unfold State.walkOn
  simp only [h]
  rfl

theorem walkOn_ends {d : List PEnt} {n : Nat} (h : s.walkFrom 64 s.cbt.walk s.cbt.deferred = (d, n, none)) :
    s.walkOn = match d.find? s.canStart with
      | some e => (walked s d n).startProbe e .sweep
      | none => walked s d n := by
  unfold State.walkOn
  simp only [h]
  rfl

theorem find_first {p : PEnt → Bool} {a b : List PEnt} (ha : ∀ x ∈ a, p x = false) (he : p e = true) :
    (a ++ e :: b).find? p = some e := by
  rw [List.find?_append, List.find?_eq_none.mpr fun x hx => by rw [ha x hx]; decide, List.find?_cons_of_pos he]
  rfl

theorem erase_first {a b : List PEnt} (h : e ∉ a) : (a ++ e :: b).erase e = a ++ b := by
  rw [List.erase_append_right _ h, List.erase_cons_head]

theorem chooses_urgent {a b : List PEnt} (hu : s.cbt.urgent = a ++ e :: b) (ha : ∀ x ∈ a, s.canStart x = false)
    (he : s.canStart e = true) : s.chooseProbe = (chosen s).startProbe e .urgent := by
  have hfind : (chosen s).cbt.urgent.find? (chosen s).canStart = some e := by
    show s.cbt.urgent.find? s.canStart = some e
    rw [hu, find_first ha he]
  rw [chooseProbe_eq, hfind]

theorem chooses_walk (hu : ∀ x ∈ s.cbt.urgent, s.canStart x = false) : s.chooseProbe = (chosen s).walkOn := by
  have hfind : (chosen s).cbt.urgent.find? (chosen s).canStart = none :=
    List.find?_eq_none.mpr fun x hx => by rw [canStart_chosen, hu x hx]; decide
  rw [chooseProbe_eq, hfind]

theorem member_at (h : n = e.val + 1) : member 64 n = some e := by
  unfold member
  have hlt := e.isLt
  subst h
  rw [dif_pos ⟨Nat.succ_pos _, hlt⟩]
  rfl

/-- The walk starts the entry that it stands at. -/
theorem walkFrom_here {fuel : Nat} {d : List PEnt} (hdone : (s.result e).done = false) (hd : e ∉ d)
    (he : s.canStart e = true) : s.walkFrom (fuel + 1) (e.val + 1) d = (d, e.val + 2, some e) := by
  unfold State.walkFrom
  rw [member_at rfl]
  have hused := (used_of_canStart he).1
  simp [hused, hdone, hd, he]

theorem walkFrom_past {fuel : Nat} {d : List PEnt} : s.walkFrom fuel 65 d = (d, 65, none) := by
  cases fuel with
  | zero => rfl
  | succ n => rfl

/-- A walk that can start nothing defers every entry that it meets and that is due, and keeps those deferred. -/
theorem walkFrom_defers (h : ∀ e, s.canStart e = false) {fuel pos : Nat} {d : List PEnt} (hpos : 1 ≤ pos) (hf : 65 ≤ fuel + pos) :
    (s.walkFrom fuel pos d).2.2 = none ∧ (∀ e ∈ d, e ∈ (s.walkFrom fuel pos d).1) ∧
      ∀ e : PEnt, s.probeUsed e = true → (s.result e).done = false → pos ≤ e.val + 1 → e ∈ (s.walkFrom fuel pos d).1 := by
  induction fuel generalizing pos d with
  | zero => exact ⟨rfl, fun _ he => he, fun e _ _ hle => absurd e.isLt (by omega)⟩
  | succ fuel ih =>
    unfold State.walkFrom
    cases hm : member 64 pos with
    | none =>
      refine ⟨rfl, fun _ he => he, fun e _ _ hle => ?_⟩
      have hlt := e.isLt
      unfold member at hm
      rw [dif_pos ⟨hpos, by omega⟩] at hm
      exact absurd hm nofun
    | some k =>
      have hk : pos = k.val + 1 := by
        unfold member at hm
        split at hm
        · next hr => cases hm; show pos = pos - 1 + 1; omega
        · exact absurd hm nofun
      obtain ⟨i1, i2, i3⟩ := ih (pos := pos + 1) (d := d) (by omega) (by omega)
      obtain ⟨j1, j2, j3⟩ := ih (pos := pos + 1) (d := d ++ [k]) (by omega) (by omega)
      have hlater {e : PEnt} (hle : pos ≤ e.val + 1) (hne : e ≠ k) : pos + 1 ≤ e.val + 1 := by
        have : e.val ≠ k.val := fun he => hne (Fin.ext he)
        omega
      dsimp only
      by_cases hskip : (!s.probeUsed k || (s.result k).done || d.contains k) = true
      · rw [if_pos hskip]
        refine ⟨i1, i2, fun e hu hd hle => ?_⟩
        by_cases hek : e = k
        · subst hek
          rw [hu, hd] at hskip
          exact i2 e (by simpa using hskip)
        · exact i3 e hu hd (hlater hle hek)
      · rw [if_neg hskip, if_neg (by rw [h k]; decide)]
        refine ⟨j1, fun e he => j2 e (List.mem_append_left _ he), fun e hu hd hle => ?_⟩
        by_cases hek : e = k
        · exact j2 e (List.mem_append_right _ (List.mem_singleton.mpr hek))
        · exact j3 e hu hd (hlater hle hek)

/-! ### The end of a sweep (R150) -/

theorem countStarved_spec (s : State) (e : PEnt) :
    (∀ x, (s.countStarved e).result x = { s.result x with starved := if x = e then min 255 ((s.result e).starved + 1) else (s.result x).starved }) ∧
      (s.countStarved e).cbt = { s.cbt with results := (s.countStarved e).cbt.results } ∧ (s.countStarved e).out = s.out ∧
      (s.countStarved e).lnk = s.lnk := by
  have hresult (x : PEnt) : (s.onResult e fun r => { r with starved := min 255 ((s.result e).starved + 1) }).result x =
      { s.result x with starved := if x = e then min 255 ((s.result e).starved + 1) else (s.result x).starved } := by
    by_cases h : x = e
    · subst h; rw [State.onResult_self, if_pos rfl]
    · rw [State.onResult_other _ _ (Ne.symm h), if_neg h]
  unfold State.countStarved
  dsimp only
  split
  · exact ⟨hresult, rfl, rfl, rfl⟩
  · exact ⟨hresult, rfl, rfl, rfl⟩

/-- The tester's record with only its results, and the mark of its probe, written. -/
def Counts (a b : Cbt) : Prop :=
  b = { a with results := b.results, probe := b.probe } ∧ b.probe.map (·.entry) = a.probe.map (·.entry)

theorem Counts.refl (a : Cbt) : Counts a a := ⟨rfl, rfl⟩

theorem Counts.trans {a b d : Cbt} (h : Counts a b) (h' : Counts b d) : Counts a d := by
  obtain ⟨h1, h2⟩ := h
  obtain ⟨h3, h4⟩ := h'
  refine ⟨?_, h4.trans h2⟩
  rw [h3, h1]

/-- The count of an entry at a sweep's end. -/
def starvedAfter (s : State) (e : PEnt) : Nat :=
  if !s.probeUsed e || (s.result e).done then (s.result e).starved
  else if s.cbt.phase.working && (s.cbt.probe.map (·.entry)) == some e then (s.result e).starved
  else min 255 ((s.result e).starved + 1)

theorem countEntry_spec (s : State) (e : PEnt) :
    (s.countEntry e).result e = { s.result e with starved := starvedAfter s e } ∧
      (∀ x, x ≠ e → (s.countEntry e).result x = s.result x) ∧ Counts s.cbt (s.countEntry e).cbt ∧
      (s.countEntry e).out = s.out ∧ (s.countEntry e).cfg = s.cfg := by
  unfold State.countEntry starvedAfter
  split
  · exact ⟨rfl, fun _ _ => rfl, Counts.refl _, rfl, rfl⟩
  · split
    · refine ⟨rfl, fun _ _ => rfl, ⟨rfl, ?_⟩, rfl, rfl⟩
      show Option.map _ (Option.map _ s.cbt.probe) = _
      rw [Option.map_map]
      rfl
    · obtain ⟨h1, h2, h3, -⟩ := countStarved_spec s e
      have hcfg : (s.countStarved e).cfg = s.cfg :=
        Acts.cfg_eq (G := fun _ => True) (of_edits (edits_countStarved e))
      refine ⟨(h1 e).trans (by rw [if_pos rfl]), fun x hx => (h1 x).trans (by rw [if_neg hx]), ⟨?_, ?_⟩, h3, hcfg⟩
      · rw [h2]
      · rw [h2]

theorem starvedAfter_of (hc : t.cfg = s.cfg) (hb : Counts s.cbt t.cbt) (hr : t.result e = s.result e) :
    starvedAfter t e = starvedAfter s e := by
  obtain ⟨h1, h2⟩ := hb
  have hphase : t.cbt.phase = s.cbt.phase := by rw [h1]
  unfold starvedAfter State.probeUsed State.probeRec
  rw [hc, hr, hphase, h2]

/-- What the end of a sweep counts. -/
theorem counted_spec (s : State) : (∀ e, (s.forAll State.countEntry).result e = { s.result e with starved := starvedAfter s e }) ∧
    Counts s.cbt (s.forAll State.countEntry).cbt ∧ (s.forAll State.countEntry).out = s.out := by
  have hI (t : State) (e : PEnt) (ht : Counts s.cbt t.cbt ∧ t.cfg = s.cfg ∧ t.out = s.out) :
      Counts s.cbt (t.countEntry e).cbt ∧ (t.countEntry e).cfg = s.cfg ∧ (t.countEntry e).out = s.out := by
    obtain ⟨-, -, h3, h4, h5⟩ := countEntry_spec t e
    exact ⟨ht.1.trans h3, h5.trans ht.2.1, h4.trans ht.2.2⟩
  have hall := Frames.forAll_invariant (n := 64) (P := fun t => Counts s.cbt t.cbt ∧ t.cfg = s.cfg ∧ t.out = s.out)
    (f := State.countEntry) hI ⟨Counts.refl _, rfl, rfl⟩
  refine ⟨fun e => ?_, hall.1, hall.2.2⟩
  obtain ⟨t, ⟨hb, hc, -⟩, hp, he⟩ := Maintenance.forAll_own (f := State.countEntry) (p := State.result)
    (I := fun t => Counts s.cbt t.cbt ∧ t.cfg = s.cfg ∧ t.out = s.out) hI
    (fun t i k hne => (countEntry_spec t i).2.1 k hne.symm) s ⟨Counts.refl _, rfl, rfl⟩ e
  rw [he, (countEntry_spec t e).1, hp, starvedAfter_of hc hb hp]

end Probes

end Sys2Proof.Machine
end

section
/-! PROOFS. The switches of the test bus and the early end of a probe (R113, R143). -/

namespace Sys2Proof.Machine

set_option Elab.async false

namespace Probes

open Acts Ending Relays

variable {G : Gid → Prop} {K : List Part} {before s t u v w : State} {c k : Ch} {e x : PEnt} {run : ProbeRun}

/-! ### The switches open (R113, R141) -/

/-- The switches of a list of channels opened. -/
def switched (l : List Ch) (s : State) : State := l.foldl (fun t c => t.onChan c fun r => { r with testBus := .no }) s

theorem switched_cons (a : Ch) (l : List Ch) (s : State) :
    switched (a :: l) s = switched l (s.onChan a fun r => { r with testBus := .no }) := rfl

theorem chan_switched (l : List Ch) (s : State) (c : Ch) :
    (switched l s).chan c = { s.chan c with testBus := if c ∈ l then .no else (s.chan c).testBus } := by
  induction l generalizing s with
  | nil => rw [if_neg List.not_mem_nil]; rfl
  | cons a l ih =>
    rw [switched_cons, ih]
    by_cases h : c = a
    · subst h
      rw [State.onChan_self, if_pos List.mem_cons_self]
      by_cases hl : c ∈ l
      · rw [if_pos hl]
      · rw [if_neg hl]
    · rw [State.onChan_other _ _ (Ne.symm h)]
      by_cases hl : c ∈ l
      · rw [if_pos hl, if_pos (List.mem_cons_of_mem _ hl)]
      · rw [if_neg hl, if_neg fun hm => hl ((List.mem_cons.mp hm).resolve_left h)]

theorem acts_switched (l : List Ch) : Acts G [.chan] s (switched l s) := of_edits (edits_openSwitches l)

/-- The bus free. -/
def freed (s : State) : State := s.onCbt fun b => { b with phase := .idle, probe := none, phaseTime := 0, choice := true }

/-- The channels that the test bus holds. -/
def onBus (s : State) : List Ch := (allFin 48).filter fun c => (s.chan c).testBus != TestBus.no

theorem openBus_eq : s.openBus = (onBus s).foldl State.updateCoil (freed (switched (onBus s) s)) := rfl

theorem mem_onBus : c ∈ onBus s ↔ (s.chan c).testBus ≠ .no := by
  unfold onBus
  rw [List.mem_filter, bne_iff_ne]
  exact and_iff_right (List.mem_finRange c)

theorem acts_updateCoil_free (c : Ch) (h : s.cbt.probe = none) : Acts G relayParts s (s.updateCoil c) :=
  of_edits (edits_updateCoil_of_noProbe c h)

/-- Coils brought to their state while no probe holds the bus. -/
theorem coils_spec {l : List Ch} (hn : l.Nodup) (hp : s.cbt.probe = none) (hb : ∀ c, (s.chan c).testBus = .no) :
    (l.foldl State.updateCoil s).cbt = s.cbt ∧ (∀ c, ((l.foldl State.updateCoil s).chan c).testBus = .no) ∧
      (∀ c, c ∉ l → (l.foldl State.updateCoil s).chan c = s.chan c) ∧
      (∀ c, c ∈ l → (((l.foldl State.updateCoil s).chan c).drive ≠ .off ↔ s.coilDue c = true)) ∧
      Acts G relayParts s (l.foldl State.updateCoil s) := by
  induction l generalizing s with
  | nil => exact ⟨rfl, hb, fun _ _ => rfl, fun _ h => absurd h List.not_mem_nil, .refl _⟩
  | cons a l ih =>
    obtain ⟨ha, hl⟩ := List.nodup_cons.mp hn
    obtain ⟨-, hbus, ⟨hother, -, hflash⟩, hdrive⟩ := updateCoil_spec (s := s) a
    have hacts : Acts G relayParts s (s.updateCoil a) := acts_updateCoil_free a hp
    have hcbt : (s.updateCoil a).cbt = s.cbt :=
      (acts_updateCoil_free (G := fun _ => True) a hp).cbt_eq
    have hbus' (c : Ch) : ((s.updateCoil a).chan c).testBus = .no := by
      by_cases hc : c = a
      · subst hc; rw [hbus]; exact hb c
      · rw [hother c hc]; exact hb c
    obtain ⟨i1, i2, i3, i4, i5⟩ := ih hl (s := s.updateCoil a) (by rw [hcbt]; exact hp) hbus'
    rw [List.foldl_cons]
    refine ⟨i1.trans hcbt, i2, fun c hc => ?_, fun c hc => ?_, hacts.trans i5⟩
    · rw [List.mem_cons, not_or] at hc
      rw [i3 c hc.2, hother c hc.1]
    · rcases List.mem_cons.mp hc with rfl | hm
      · rw [i3 c ha]; exact hdrive (hb c)
      · have hca : c ≠ a := fun h => ha (h ▸ hm)
        refine (i4 c hm).trans ?_
        unfold State.coilDue
        rw [hother c hca, hflash]

theorem openBus_spec (s : State) :
    s.openBus.cbt = { s.cbt with phase := .idle, probe := none, phaseTime := 0, choice := true } ∧
      (∀ c, (s.openBus.chan c).testBus = .no) ∧ (∀ c, (s.chan c).testBus = .no → s.openBus.chan c = s.chan c) ∧
      (∀ c, (s.chan c).testBus ≠ .no → ((s.openBus.chan c).drive ≠ .off ↔ s.coilDue c = true)) ∧
      Acts G relayParts (freed (switched (onBus s) s)) s.openBus := by
  have hchan (c : Ch) : (freed (switched (onBus s) s)).chan c =
      { s.chan c with testBus := if c ∈ onBus s then .no else (s.chan c).testBus } := chan_switched _ s c
  have hbus (c : Ch) : ((freed (switched (onBus s) s)).chan c).testBus = .no := by
    rw [hchan]
    show (if c ∈ onBus s then TestBus.no else (s.chan c).testBus) = .no
    split
    · rfl
    · next h => exact not_not.mp fun hb => h (mem_onBus.mpr hb)
  have hswitch : Acts (fun _ => True) [.chan] s (switched (onBus s) s) := acts_switched _
  obtain ⟨h1, h2, h3, h4, h5⟩ := coils_spec (G := G) (l := onBus s) (s := freed (switched (onBus s) s))
    ((List.nodup_finRange 48).filter _) rfl hbus
  rw [openBus_eq]
  refine ⟨h1.trans ?_, h2, fun c hc => ?_, fun c hc => (h4 c (mem_onBus.mpr hc)).trans ?_, h5⟩
  · show { (switched (onBus s) s).cbt with phase := .idle, probe := none, phaseTime := 0, choice := true } = _
    rw [hswitch.cbt_eq]
  · have hout : c ∉ onBus s := fun h => (mem_onBus.mp h) hc
    rw [h3 c hout, hchan, if_neg hout]
  · have hflash : (freed (switched (onBus s) s)).out.flash = s.out.flash := hswitch.flash_eq
    unfold State.coilDue
    rw [hchan, hflash]

/-- What the opening of the switches leaves alone. -/
theorem openBus_keeps (s : State) : s.openBus.cfg = s.cfg ∧
    s.openBus.clk = s.clk ∧ s.openBus.sch = s.sch ∧ s.openBus.det = s.det ∧ s.openBus.lnk = s.lnk ∧
    s.openBus.sup.mode = s.sup.mode ∧ Sup.core s.openBus.sup = Sup.core s.sup ∧
    (∀ g, (s.openBus.group g).colour = (s.group g).colour) ∧
    ∀ g, (s.openBus.group g).inhibited = true → (s.group g).inhibited = true := by
  have hswitch : Acts (fun _ => True) [.chan] s (switched (onBus s) s) := acts_switched _
  obtain ⟨-, -, -, -, hacts⟩ := openBus_spec (G := fun _ => True) s
  refine ⟨hacts.cfg_eq.trans hswitch.cfg_eq, hacts.clk_eq.trans hswitch.clk_eq, hacts.sch_eq.trans hswitch.sch_eq,
    hacts.det_eq.trans hswitch.det_eq, hacts.lnk_eq.trans hswitch.lnk_eq, hacts.modes_eq.trans hswitch.modes_eq,
    hacts.core_eq.trans hswitch.core_eq, fun g => (hacts.colour_eq g).trans (hswitch.colour_eq g), fun g hg => ?_⟩
  exact Causes.inhibited_of_acts hswitch (by decide) g (Causes.inhibited_of_acts hacts (by decide) g hg)

/-! ### The result ABANDONED (R143, R150, R152) -/

/-- The deferred list after a probe of an entry was abandoned (R143). -/
def deferredAfter (s : State) (e : PEnt) : List PEnt :=
  if s.cbt.period ≠ none ∧ (s.result e).done = false ∧ e.val + 1 < s.cbt.walk ∧ e ∉ s.cbt.deferred then
    s.cbt.deferred ++ [e]
  else s.cbt.deferred

theorem deferAgain_eq (e : PEnt) : s.deferAgain e = s.onCbt fun b => { b with deferred := deferredAfter s e } := by
  have hiff : (s.cbt.period.isSome && !(s.result e).done && decide (number e < s.cbt.walk) && !s.cbt.deferred.contains e) = true ↔
      (s.cbt.period ≠ none ∧ (s.result e).done = false ∧ e.val + 1 < s.cbt.walk ∧ e ∉ s.cbt.deferred) := by
    rw [Bool.and_eq_true, Bool.and_eq_true, Bool.and_eq_true, Option.isSome_iff_ne_none, decide_eq_true_iff]
    simp [and_assoc, number]
  unfold State.deferAgain deferredAfter
  by_cases h : s.cbt.period ≠ none ∧ (s.result e).done = false ∧ e.val + 1 < s.cbt.walk ∧ e ∉ s.cbt.deferred
  · rw [if_pos (hiff.mpr h), if_pos h]
    rfl
  · rw [if_neg fun h' => h (hiff.mp h'), if_neg h]
    rfl

/-- A probe's reply joins the output queue. -/
theorem answerProbe_spec (s : State) (o : Origin) (res : ProbeResult) (m : Option Nat) :
    (s.answerProbe o res m).cbt = s.cbt ∧ (s.answerProbe o res m).out = s.out ∧
      (∀ tag, o = .request tag → State.answers s (s.answerProbe o res m) tag 0x42#8 .ok ∧
        (s.answerProbe o res m).flt.pendingSet.probeDone = true) := by
  unfold State.answerProbe
  cases o with
  | urgent => exact ⟨rfl, rfl, nofun⟩
  | sweep => exact ⟨rfl, rfl, nofun⟩
  | request tag =>
    refine ⟨rfl, rfl, fun tag' h => ?_⟩
    cases h
    exact ⟨⟨[_], rfl, _, List.mem_singleton.mpr rfl, rfl, rfl, rfl⟩, Bool.or_true _⟩

/-- The records of a probe that ended early, and its reply. -/
def Abandoned (s : State) (run : ProbeRun) (t : State) : Prop :=
  (t.result run.entry).last = some .abandoned ∧ (t.result run.entry).measurement = none ∧
    (t.result run.entry).standing = (s.result run.entry).standing ∧
    (t.result run.entry).failures = (s.result run.entry).failures ∧
    (t.result run.entry).done = (s.result run.entry).done ∧
    (run.sweepEnded = false → (t.result run.entry).starved = (s.result run.entry).starved) ∧
    (∀ e, e ≠ run.entry → t.result e = s.result e) ∧ t.cbt.cable = s.cbt.cable ∧ t.cbt.walk = s.cbt.walk ∧
    t.cbt.urgent = s.cbt.urgent ∧ (∀ tag, run.origin = .request tag → State.answers s t tag 0x42#8 .ok) ∧
    t.cbt.deferred = deferredAfter s run.entry

/-- The phase and the probe of the bus. -/
def busOf (b : Cbt) : BusPhase × Nat × Option ProbeRun := (b.phase, b.phaseTime, b.probe)

theorem recordAbandoned_spec (s : State) (run : ProbeRun) :
    Abandoned s run (s.recordAbandoned run) ∧ busOf (s.recordAbandoned run).cbt = busOf s.cbt ∧
      (s.recordAbandoned run).out = s.out := by
  obtain ⟨a, ha⟩ : ∃ a, a = s.onResult run.entry fun r => { r with last := some .abandoned, measurement := none } := ⟨_, rfl⟩
  have hself : a.result run.entry = { s.result run.entry with last := some .abandoned, measurement := none } := by
    rw [ha, State.onResult_self]
  have hother (e : PEnt) (he : e ≠ run.entry) : a.result e = s.result e := by rw [ha, State.onResult_other _ _ he.symm]
  have hcbt : a.cbt = { s.cbt with results := a.cbt.results } := by rw [ha]; rfl
  have hframe : a.out = s.out ∧ a.lnk = s.lnk := by rw [ha]; exact ⟨rfl, rfl⟩
  have hdeferred : deferredAfter a run.entry = deferredAfter s run.entry := by
    unfold deferredAfter
    rw [hself, hcbt]
  obtain ⟨b, hb⟩ : ∃ b, b = a.deferAgain run.entry := ⟨_, rfl⟩
  have hbres (e : PEnt) : b.result e = a.result e := by rw [hb, deferAgain_eq]; rfl
  have hbcbt : b.cbt = { s.cbt with results := b.cbt.results, deferred := deferredAfter s run.entry } := by
    have h : b.cbt = { a.cbt with deferred := deferredAfter s run.entry } := by rw [hb, deferAgain_eq, hdeferred]; rfl
    rw [h, hcbt]
  have hbframe : b.out = s.out ∧ b.lnk = s.lnk := by rw [hb, deferAgain_eq]; exact hframe
  obtain ⟨d, hd⟩ : ∃ d, d = if run.sweepEnded then b.countStarved run.entry else b := ⟨_, rfl⟩
  obtain ⟨c1, c2, c3, c4⟩ := countStarved_spec b run.entry
  have hdcbt : d.cbt = { s.cbt with results := d.cbt.results, deferred := deferredAfter s run.entry } := by
    rw [hd]
    split
    · rw [c2, hbcbt]
    · exact hbcbt
  have hdres (e : PEnt) : d.result e = { b.result e with starved := (d.result e).starved } := by
    rw [hd]
    split
    · rw [c1]
    · rfl
  have hdstarved (e : PEnt) (he : run.sweepEnded = false ∨ e ≠ run.entry) : (d.result e).starved = (b.result e).starved := by
    rw [hd]
    split
    · next hs => rw [c1, if_neg (he.resolve_left (by rw [hs]; decide))]
    · rfl
  have hdframe : d.out = s.out ∧ d.lnk = s.lnk := by
    rw [hd]
    split
    · exact ⟨c3.trans hbframe.1, c4.trans hbframe.2⟩
    · exact hbframe
  have heq : s.recordAbandoned run = d.answerProbe run.origin .abandoned none := by rw [hd, hb, ha]; rfl
  obtain ⟨h1, h2, h3⟩ := answerProbe_spec d run.origin .abandoned none
  have hres (e : PEnt) : (d.answerProbe run.origin .abandoned none).result e = d.result e := by
    unfold State.result; rw [h1]
  rw [heq]
  unfold Abandoned busOf
  simp only [hres]
  rw [h1, h2]
  refine ⟨⟨?_, ?_, ?_, ?_, ?_, fun hs => ?_, fun e he => ?_, ?_, ?_, ?_, fun tag ht => ?_, ?_⟩, ?_, hdframe.1⟩
  · rw [hdres, hbres, hself]
  · rw [hdres, hbres, hself]
  · rw [hdres, hbres, hself]
  · rw [hdres, hbres, hself]
  · rw [hdres, hbres, hself]
  · rw [hdstarved _ (.inl hs), hbres, hself]
  · rw [hdres, hdstarved _ (.inr he), hbres, hother e he]
  · rw [hdcbt]
  · rw [hdcbt]
  · rw [hdcbt]
  · obtain ⟨l, hl, hf⟩ := (h3 tag ht).1
    exact ⟨l, by rw [hl, hdframe.2], hf⟩
  · rw [hdcbt]
  · rw [hdcbt]

/-- Later actions that leave the tester alone, and only add to the output queue, keep what an early end recorded. -/
theorem abandoned_of_later (h : Abandoned s run t) (hc : u.cbt = t.cbt) (hl : ∃ l, u.lnk.output = t.lnk.output ++ l) :
    Abandoned s run u := by
  obtain ⟨h1, h2, h3, h4, h5, h6, h7, h8, h9, h10, h11, h12⟩ := h
  have hres (e : PEnt) : u.result e = t.result e := by unfold State.result; rw [hc]
  unfold Abandoned
  simp only [hres]
  rw [hc]
  refine ⟨h1, h2, h3, h4, h5, h6, h7, h8, h9, h10, fun tag ht => ?_, h12⟩
  obtain ⟨x, hx⟩ := hl
  obtain ⟨l, ho, f, hf, hrest⟩ := h11 tag ht
  exact ⟨l ++ x, by rw [hx, ho, List.append_assoc], f, List.mem_append_left _ hf, hrest⟩

/-- What an early end rests on: the results, the lists, the walk and the output queue. -/
theorem abandoned_of_earlier (h : Abandoned s run t) (hres : ∀ e, s.result e = v.result e) (hcable : s.cbt.cable = v.cbt.cable)
    (hwalk : s.cbt.walk = v.cbt.walk) (hurgent : s.cbt.urgent = v.cbt.urgent) (hdef : s.cbt.deferred = v.cbt.deferred)
    (hperiod : s.cbt.period = v.cbt.period) (hout : ∃ l, s.lnk.output = v.lnk.output ++ l) : Abandoned v run t := by
  have hd : deferredAfter s run.entry = deferredAfter v run.entry := by
    unfold deferredAfter; rw [hres, hwalk, hdef, hperiod]
  obtain ⟨h1, h2, h3, h4, h5, h6, h7, h8, h9, h10, h11, h12⟩ := h
  simp only [hres] at h3 h4 h5 h6 h7
  refine ⟨h1, h2, h3, h4, h5, h6, h7, h8.trans hcable, h9.trans hwalk, h10.trans hurgent, fun tag ht => ?_, h12.trans hd⟩
  obtain ⟨x, hx⟩ := hout
  obtain ⟨l, ho, f, hf, hrest⟩ := h11 tag ht
  exact ⟨x ++ l, by rw [ho, hx, List.append_assoc], f, List.mem_append_right _ hf, hrest⟩

end Probes

end Sys2Proof.Machine
end

section
/-! PROOFS. What ends a probe early, and the tester's record at a step's end (R108, R131, R143). -/

namespace Sys2Proof.Machine

set_option Elab.async false

namespace Probes

open Acts Ending Relays Causes Maintenance

variable {G : Gid → Prop} {K : List Part} {before s t u v w : State} {c k : Ch} {e x : PEnt} {run : ProbeRun}

/-! ### The tester's record where no probe works -/

theorem abandonProbe_idle (h : s.cbt.phase.working = false) : s.abandonProbe = s := by
  unfold State.abandonProbe
  split
  · exact if_neg (ne_true_of_eq_false h)
  · rfl

theorem claimChannel_idle (h : s.cbt.phase.working = false) : s.claimChannel c = s := by
  unfold State.claimChannel
  rw [abandonProbe_idle h]
  exact ite_self _

theorem cbt_updateCoil (h : s.cbt.phase.working = false) : (s.updateCoil c).cbt = s.cbt := by
  unfold State.updateCoil
  dsimp only
  split
  · split
    · rw [claimChannel_idle h]
    · next hb =>
      split
      · rfl
      · exact Acts.cbt_eq (G := fun _ => True) (of_edits (edits_coilStart c (not_not.mp hb)))
  · split
    · exact Acts.cbt_eq (G := fun _ => True) (of_edits (edits_coilStop c))
    · rfl

theorem cbt_syncCommand (h : s.cbt.phase.working = false) : (s.syncCommand c).cbt = s.cbt := by
  have hflash (b : Bool) : (if b then s.startFlashGen else s).cbt = s.cbt := by
    split
    · rfl
    · rfl
  have hput (t : State) (r : ChanRun) : (t.putChan c r).cbt = t.cbt := (putChan_spec c r).2.1.2.2.2.1
  unfold State.syncCommand
  dsimp only
  split
  · rfl
  · rw [cbt_updateCoil (by rw [hput, hflash]; exact h), hput, hflash]

theorem cbt_syncCommands (h : s.cbt.phase.working = false) : s.syncCommands.cbt = s.cbt := by
  have hall : (s.forAll State.syncCommand).cbt = s.cbt :=
    Frames.forAll_invariant (P := fun t => t.cbt = s.cbt) (f := State.syncCommand)
      (fun t c ht => (cbt_syncCommand (by rw [ht]; exact h)).trans ht) rfl
  unfold State.syncCommands
  generalize s.forAll State.syncCommand = t at hall ⊢
  have hsettle : t.settleFlashGen.cbt = t.cbt := by
    unfold State.settleFlashGen
    split
    · rfl
    · rfl
  exact hsettle.trans hall

theorem cbt_putColour (s : State) (g : Gid) (col : Colour) : (s.putColour g col).cbt = s.cbt := by
  unfold State.putColour
  split
  · rfl
  · exact State.onGroup_cbt _ _ _

theorem cbt_setColour {g : Gid} {col : Colour} (h : s.cbt.phase.working = false) : (s.setColour g col).cbt = s.cbt := by
  have hsync : ((s.putColour g col).syncCommands).cbt = s.cbt :=
    (cbt_syncCommands (by rw [cbt_putColour]; exact h)).trans (cbt_putColour s g col)
  unfold State.setColour
  generalize (s.putColour g col).syncCommands = t at hsync
  have hgap : (t.holdGapFor g).cbt = t.cbt := Acts.cbt_eq (G := fun _ => True) (acts_holdGapFor g)
  dsimp only
  split
  · exact hgap.trans hsync
  · exact hsync

theorem cbt_dropIfInhibited {g : Gid} (h : s.cbt.phase.working = false) : (s.dropIfInhibited g).cbt = s.cbt := by
  have hdrop (i : Nat) : (s.dropGroup g i).cbt = s.cbt := by
    show (if (s.group g).colour = .redAmber then s.setColour g .red else s).cbt = s.cbt
    split
    · exact cbt_setColour h
    · rfl
  unfold State.dropIfInhibited
  split
  · split
    · exact hdrop _
    · split
      · exact hdrop _
      · rfl
  · rfl

/-- The inhibitions that arose leave the tester's record, where no probe works, as it is. -/
theorem cbt_takeInhibition (h : s.cbt.phase.working = false) : (State.takeInhibition before s).cbt = s.cbt := by
  unfold State.takeInhibition
  split
  · refine Frames.forAll_invariant (n := 16) (P := fun t => t.cbt = s.cbt) (fun t g ht => ?_) rfl
    split
    · exact (cbt_dropIfInhibited (by rw [ht]; exact h)).trans ht
    · exact ht
  · rfl

theorem output_takeInhibition : ∃ l, (State.takeInhibition before s).lnk.output = s.lnk.output ++ l := by
  have hacts : Acts (fun _ => True) inner s (State.takeInhibition before s) := acts_takeInhibition before
  exact (hacts.replied (by decide)).2

/-! ### FULL on a channel of the test bus (R108, R143) -/

theorem quiet_of_kept (h : quiet before s) (hc : t.cfg = s.cfg) (hs : Sup.core t.sup = Sup.core s.sup)
    (hi : ∀ g, (t.group g).inhibited = true → (s.group g).inhibited = true) : quiet before t := by
  obtain ⟨hp, hin⟩ := h
  refine ⟨fun hd => ?_, fun g hg => hin g (hi g hg)⟩
  rw [core_field Sup.mode hs] at hd
  rw [hc]
  exact (hp hd).imp id (Parked.parked_of_retaken (Parked.retaken_of_core hs))

theorem quiet_of_acts (hb : s.betweenSteps) (h : Acts G K s t)
    (hK : Part.mode ∉ K ∧ Part.cfg ∉ K ∧ Part.health ∉ K := by decide) : quiet s t :=
  ⟨fun hd => .inl (noCommit_of_kept hb (h.modes_eq hK.1) (h.cfg_eq hK.2.1) hd), inhibited_of_acts h hK.2.2⟩

/-- A finding leaves its step no scheduled FLASH and no inhibition to take. -/
theorem quiet_findRelayFault {f : RelayFault} {kind : FaultKind} (hk : f.kind = some kind)
    (hp : s.sup.mode.drains = true → s.cfg.pendingCommit = none)
    (hi : ∀ g, (s.group g).inhibited = true → (before.group g).inhibited = true) : quiet before (s.findRelayFault c f) := by
  have hfound (b : Bool) : Acts (fun _ => True) findingParts s (found s c f kind b) := acts_found hk b
  have hin (b : Bool) (g : Gid) (hg : ((found s c f kind b).group g).inhibited = true) : (before.group g).inhibited = true :=
    hi g (inhibited_of_acts (hfound b) (by decide) g hg)
  have hcommit (b : Bool) : (found s c f kind b).sup.mode.drains = true → (found s c f kind b).cfg.pendingCommit = none := by
    rw [(hfound b).modes_eq, (hfound b).cfg_eq]; exact hp
  cases hr : s.hardReason c f with
  | none =>
    rw [findRelayFault_advisory hk hr]
    exact ⟨fun hd => .inl (hcommit _ hd), hin _⟩
  | some r =>
    rw [findRelayFault_hard hk hr]
    exact quiet_latchedDark r (fun _ => rfl) (hcommit _) (hin _)

/-- FULL on a channel of the test bus, before the switches open. -/
def metOnBus (s : State) (c : Ch) : State :=
  relayTakes (s.markQuiet c .full) c .full s.supplyProven { s.chan c with indication := .full }

theorem takeIndication_bus (h : (s.chan c).testBus ≠ .no) : s.takeIndication c .full = (metOnBus s c).fullOnBus :=
  if_pos ⟨rfl, h⟩

theorem acts_markQuiet {l : Level} : Acts G [.cbt] s (s.markQuiet c l) := acts_onCbt _ id rfl

theorem acts_metOnBus : Acts G indicationParts (s.markQuiet c .full) (metOnBus s c) :=
  acts_relayTakes (s := s.markQuiet c .full) c .full s.supplyProven rfl

theorem quiet_metOnBus (hb : s.betweenSteps) : quiet s (metOnBus s c) := by
  have hmark : Acts (fun _ => True) [.cbt] s (s.markQuiet c .full) := acts_markQuiet
  by_cases h : s.supplyProven = false ∨ (s.chan c).relay ≠ .released
  · have hsettled : Acts (fun _ => True) (.cbt :: takenParts) s (metOnBus s c) :=
      hmark.up.trans (acts_settled (s := s.markQuiet c .full) (l := .full) rfl s.supplyProven (h.imp id .inr)).up
    exact quiet_of_acts hb hsettled
  · obtain ⟨hp, hrel⟩ := not_or.mp h
    have heq : metOnBus s c =
        ((s.markQuiet c .full).putChan c { s.chan c with indication := .full }).findRelayFault c .foreignVoltage := by
      unfold metOnBus
      rw [(Bool.not_eq_false _).mp hp, relayTakes_full]
      exact takeFullVoltage_released (not_not.mp hrel)
    obtain ⟨-, -, hacts⟩ := foreign_spec (G := fun _ => True) (s := s) (c := c)
    rw [heq]
    exact quiet_findRelayFault rfl (noCommit_of_kept hb hacts.modes_eq hacts.cfg_eq) (inhibited_of_acts hacts (by decide))

/-- A FULL indication on a channel of the test bus ends the working probe and frees the bus. -/
theorem fullOnBus_ends (hb : s.betweenSteps) (hp : s.cbt.probe = some run) (hw : s.cbt.phase.working = true)
    (hbus : (s.chan c).testBus ≠ .no) :
    ∃ t, exec (.voltageIndication c .full) s = .next t ∧ t.cbt.phase = .idle ∧ t.cbt.probe = none ∧
      (∀ k, (t.chan k).testBus = .no) ∧ Abandoned s run t := by
  have hmet : Acts (fun _ => True) indicationParts (s.markQuiet c .full) (metOnBus s c) := acts_metOnBus
  have hcbt : (metOnBus s c).cbt = (s.markQuiet c .full).cbt := hmet.cbt_eq
  have hlnk : (metOnBus s c).lnk = s.lnk := hmet.lnk_eq
  have hquiet := quiet_metOnBus (c := c) hb
  have htake := takeIndication_bus hbus
  generalize metOnBus s c = m at hcbt hlnk hquiet htake
  have hfull : m.fullOnBus = m.openBus.recordAbandoned run := by
    have hp' : m.cbt.probe = some run := by rw [hcbt]; exact hp
    have hw' : m.cbt.phase.working = true := by rw [hcbt]; exact hw
    unfold State.fullOnBus
    simp only [hp']
    exact if_pos hw'
  obtain ⟨ocbt, obus, -, -, -⟩ := openBus_spec (G := fun _ => True) m
  obtain ⟨ocfg, -, -, -, olnk, -, ocore, -, oin⟩ := openBus_keeps m
  generalize m.openBus = o at ocbt obus ocfg olnk ocore oin hfull
  obtain ⟨habandoned, hbusOf, hout⟩ := recordAbandoned_spec o run
  have hrec : Acts (fun _ => True) [.cbt, .flt, .starved, .slots] o (o.recordAbandoned run) :=
    of_edits (edits_recordAbandoned run)
  have hquiet' : quiet s (o.recordAbandoned run) :=
    quiet_of_kept hquiet (hrec.cfg_eq.trans ocfg) (hrec.core_eq.trans ocore)
      fun g hg => oin g (inhibited_of_acts hrec (by decide) g hg)
  obtain ⟨z, hfin, hz, -⟩ := finish_quiet hquiet'
  have hboth : o.cbt = { s.cbt with
      quietSince := o.cbt.quietSince, phase := .idle, probe := none, phaseTime := 0, choice := true } := by
    rw [ocbt, hcbt]; rfl
  obtain ⟨b1, b2⟩ := Prod.mk.inj hbusOf |>.imp_right Prod.mk.inj
  refine ⟨State.closeAdditions s z, ?_, ?_, ?_, fun k => ?_, ?_⟩
  · show Host.Outcome.next (State.finish s (s.takeIndication c .full)) = _
    rw [htake, hfull, hfin]
  · rw [closeAdditions_cbt, hz.cbt_eq, b1, hboth]
  · rw [closeAdditions_cbt, hz.cbt_eq, b2.2, hboth]
  · rw [closeAdditions_chan, hz.chan_eq k]
    unfold State.chan
    rw [hout]
    exact obus k
  · have hearlier : Abandoned s run (o.recordAbandoned run) := by
      refine abandoned_of_earlier habandoned (fun e => ?_) ?_ ?_ ?_ ?_ ?_ ⟨[], by rw [olnk, hlnk, List.append_nil]⟩
      · unfold State.result; rw [hboth]
      all_goals rw [hboth]
    refine abandoned_of_later hearlier ((closeAdditions_cbt _ _).trans hz.cbt_eq) ?_
    obtain ⟨-, y, hy⟩ := hz.replied (by decide)
    obtain ⟨y', hy'⟩ := closeAdditions_output s z
    exact ⟨y ++ y', by rw [hy', hy, List.append_assoc]⟩

/-! ### A channel of the test bus that enters the maintenance set (R143) -/

/-- The working probe as it was met, or its early end recorded and the release of the bus begun. -/
def MayEnd (s : State) (run : ProbeRun) (t : State) : Prop :=
  t.cbt = s.cbt ∧ t.lnk = s.lnk ∨ Abandoned s run t ∧ busOf t.cbt = (.releasing, 0, some run)

theorem abandonProbe_ends (hp : s.cbt.probe = some run) (hw : s.cbt.phase.working = true) (hc : t.cbt = s.cbt)
    (hl : t.lnk = s.lnk) : Abandoned s run t.abandonProbe ∧ busOf t.abandonProbe.cbt = (.releasing, 0, some run) := by
  have heq : t.abandonProbe = (t.onCbt fun b => { b with phase := .releasing, phaseTime := 0 }).recordAbandoned run := by
    unfold State.abandonProbe
    rw [hc, hp]
    exact if_pos hw
  obtain ⟨habandoned, hbus, -⟩ := recordAbandoned_spec (t.onCbt fun b => { b with phase := .releasing, phaseTime := 0 }) run
  have hcbt : (t.onCbt fun b => { b with phase := .releasing, phaseTime := 0 }).cbt =
      { s.cbt with phase := .releasing, phaseTime := 0 } := by rw [← hc]; rfl
  rw [heq]
  refine ⟨abandoned_of_earlier habandoned (fun e => ?_) ?_ ?_ ?_ ?_ ?_ ⟨[], by rw [List.append_nil]; exact congrArg Lnk.output hl⟩,
    hbus.trans ?_⟩
  · unfold State.result; rw [hcbt]
  · rw [hcbt]
  · rw [hcbt]
  · rw [hcbt]
  · rw [hcbt]
  · rw [hcbt]
  · unfold busOf
    rw [hcbt, ← hp]

theorem mayEnd_of_same (h : MayEnd s run t) (hc : u.cbt = t.cbt) (hl : u.lnk = t.lnk) : MayEnd s run u := by
  rcases h with ⟨h1, h2⟩ | ⟨h1, h2⟩
  · exact .inl ⟨hc.trans h1, hl.trans h2⟩
  · exact .inr ⟨abandoned_of_later h1 hc ⟨[], by rw [hl, List.append_nil]⟩, by rw [hc]; exact h2⟩

theorem not_working_of (h : busOf t.cbt = (.releasing, 0, some run)) : t.cbt.phase.working = false := by
  have hp : t.cbt.phase = .releasing := (Prod.mk.inj h).1
  rw [hp]
  rfl

/-- A channel of a MAINT_UPDATE: it may end the probe, and does where it enters the set on the test bus. -/
theorem mayEnd_maintChannel (hp : s.cbt.probe = some run) (hw : s.cbt.phase.working = true) (h : MayEnd s run t) (op : Nat)
    (b : List Byte) (c : Ch) : MayEnd s run (t.maintChannel op b c) ∧
      (maskHas b c = true → (t.lamp c).maintenance = false → op = 0 ∨ op = 2 → (t.chan c).testBus ≠ .no →
        busOf (t.maintChannel op b c).cbt = (.releasing, 0, some run)) := by
  have henter : Acts (fun _ => True) [.lamp, .healthy, .flt, .lampFault] t (t.enterMaintenance c) :=
    of_edits (edits_enterMaintenance c).up
  have hleave : Acts (fun _ => True) [.lamp, .healthy, .flt, .lampFault] t (t.leaveMaintenance c) :=
    of_edits (edits_leaveMaintenance c).up
  have hentered := mayEnd_of_same h henter.cbt_eq henter.lnk_eq
  have hclaim : MayEnd s run ((t.enterMaintenance c).claimChannel c) ∧ ((t.chan c).testBus ≠ .no →
      busOf ((t.enterMaintenance c).claimChannel c).cbt = (.releasing, 0, some run)) := by
    unfold State.claimChannel
    rw [henter.chan_eq c]
    rcases hentered with ⟨h1, h2⟩ | ⟨h1, h2⟩
    · split
      · next hb => exact ⟨.inl ⟨h1, h2⟩, fun hn => absurd hb hn⟩
      · have hend := abandonProbe_ends hp hw h1 h2
        exact ⟨.inr hend, fun _ => hend.2⟩
    · rw [abandonProbe_idle (not_working_of h2), ite_self]
      exact ⟨.inr ⟨h1, h2⟩, fun _ => h2⟩
  unfold State.maintChannel
  by_cases hm : maskHas b c = true
  · rw [if_pos hm]
    split
    · exact ⟨hclaim.1, fun _ _ _ hb => hclaim.2 hb⟩
    · next hon _ => exact ⟨mayEnd_of_same h hleave.cbt_eq hleave.lnk_eq, fun _ hoff => absurd (hon.symm.trans hoff) (by decide)⟩
    · next hne _ =>
      refine ⟨h, fun _ hoff hop => (hne hoff ?_).elim⟩
      rw [hoff]
      rcases hop with rfl | rfl <;> rfl
  · rw [if_neg hm]
    exact ⟨h, fun h' => absurd h' hm⟩

/-- The bus in the release that an early end begins. -/
def Ends (run : ProbeRun) (t : State) : Prop := busOf t.cbt = (.releasing, 0, some run)

theorem ends_maintChannel (h : Ends run t) (op : Nat) (b : List Byte) (k : Ch) : Ends run (t.maintChannel op b k) := by
  have henter : (t.enterMaintenance k).cbt = t.cbt := Acts.cbt_eq (G := fun _ => True) (of_edits (edits_enterMaintenance k))
  have hleave : (t.leaveMaintenance k).cbt = t.cbt := Acts.cbt_eq (G := fun _ => True) (of_edits (edits_leaveMaintenance k))
  have hclaim : (t.enterMaintenance k).claimChannel k = t.enterMaintenance k :=
    claimChannel_idle (by rw [henter]; exact not_working_of h)
  unfold Ends State.maintChannel
  split
  · split
    · rw [hclaim, henter]; exact h
    · rw [hleave]; exact h
    · exact h
  · exact h

/-- On the way of a MAINT_UPDATE: the channel is still to enter the set, or the probe has ended. -/
def OnWay (s : State) (run : ProbeRun) (c : Ch) (t : State) : Prop :=
  MayEnd s run t ∧ t.out = s.out ∧ ((t.lamp c).maintenance = false ∨ Ends run t)

theorem onWay_maintChannel {op : Nat} {b : List Byte} (hp : s.cbt.probe = some run) (hw : s.cbt.phase.working = true)
    (hm : maskHas b c = true) (hop : op = 0 ∨ op = 2) (hbus : (s.chan c).testBus ≠ .no) (h : OnWay s run c t) (k : Ch) :
    OnWay s run c (t.maintChannel op b k) ∧ (k = c ∨ Ends run t → Ends run (t.maintChannel op b k)) := by
  obtain ⟨hmay, hout, hon⟩ := h
  obtain ⟨hmay', hends⟩ := mayEnd_maintChannel hp hw hmay op b k
  have hout' : (t.maintChannel op b k).out = t.out := Acts.out_eq (G := fun _ => True) (acts_maintChannel op b k)
  have hself (hk : k = c) : Ends run (t.maintChannel op b k) := by
    subst hk
    refine hon.elim (fun hl => hends hm hl hop ?_) fun he => ends_maintChannel he op b k
    unfold State.chan
    rw [hout]
    exact hbus
  have hall : k = c ∨ Ends run t → Ends run (t.maintChannel op b k) :=
    fun h => h.elim hself fun he => ends_maintChannel he op b k
  refine ⟨⟨hmay', hout'.trans hout, ?_⟩, hall⟩
  by_cases hk : k = c
  · exact .inr (hself hk)
  · rw [lamp_maintChannel_other op b hk]
    exact hon.imp id fun he => ends_maintChannel he op b k

/-- A MAINT_UPDATE that takes a channel of the test bus into the set ends the working probe. -/
theorem maintained_ends {op : Nat} {b : List Byte} (hp : s.cbt.probe = some run) (hw : s.cbt.phase.working = true)
    (hm : maskHas b c = true) (hl : (s.lamp c).maintenance = false) (hop : op = 0 ∨ op = 2) (hbus : (s.chan c).testBus ≠ .no) :
    Abandoned s run (maintained s op b) ∧ Ends run (maintained s op b) := by
  have hfold (l : List Ch) (t : State) (h : OnWay s run c t) (hc : c ∈ l ∨ Ends run t) :
      MayEnd s run (l.foldl (fun (t : State) (c : Ch) => t.maintChannel op b c) t) ∧
        Ends run (l.foldl (fun (t : State) (c : Ch) => t.maintChannel op b c) t) := by
    induction l generalizing t with
    | nil => exact ⟨h.1, hc.resolve_left List.not_mem_nil⟩
    | cons a l ih =>
      obtain ⟨hway, hends⟩ := onWay_maintChannel hp hw hm hop hbus h a
      refine ih _ hway ?_
      rcases hc with hc | hc
      · rcases List.mem_cons.mp hc with rfl | hc
        · exact .inr (hends (.inl rfl))
        · exact .inl hc
      · exact .inr (hends (.inr hc))
  obtain ⟨hmay, hends⟩ := hfold (allFin 48) s ⟨.inl ⟨rfl, rfl⟩, rfl, .inl hl⟩ (.inl (List.mem_finRange c))
  have hworks : busOf s.cbt ≠ (.releasing, 0, some run) := fun h' => absurd (not_working_of h') (ne_of_eq_of_ne hw nofun)
  unfold maintained State.forAll
  generalize (allFin 48).foldl (fun (t : State) (c : Ch) => t.maintChannel op b c) s = m at hmay hends
  have heval : Acts (fun _ => True) redParts m m.evalAllRedHealth := of_edits edits_evalAllRedHealth
  refine ⟨?_, by unfold Ends; rw [heval.cbt_eq]; exact hends⟩
  rcases hmay with ⟨h, -⟩ | ⟨h, -⟩
  · exact absurd (h ▸ hends) hworks
  · exact abandoned_of_later h heval.cbt_eq ⟨[], by rw [heval.lnk_eq, List.append_nil]⟩

theorem maintUpdate_ends {tag : Byte} {body : List Byte} (h : s.takes tag body) (hp : s.cbt.probe = some run)
    (hw : s.cbt.phase.working = true) (hbus : (s.chan c).testBus ≠ .no) (hl : (s.lamp c).maintenance = false)
    (hlen : body.length = 7) (hop : (body.getD 0 0).toNat = 0 ∨ (body.getD 0 0).toNat = 2) (hm : maskHas body c = true) :
    ∃ t, exec (.maintUpdate tag body) s = .next t ∧ t.cbt.phase = .releasing ∧ t.cbt.phaseTime = 0 ∧
      t.cbt.probe = some run ∧ Abandoned s run t := by
  obtain ⟨hexec, hend⟩ := exec_answered (i := .maintUpdate tag body) h rfl (serveMaintUpdate_eq hlen (by omega) _) (acts_maintained _ _)
  obtain ⟨habandoned, hends⟩ := maintained_ends (s := s.reserve) (op := (body.getD 0 0).toNat) hp hw hm hl hop hbus
  rw [hend] at hexec
  generalize maintained s.reserve (body.getD 0 0).toNat body = m at habandoned hends hexec
  generalize hu : m.reply tag 0x36#8 .ok _ = u at hexec
  have hcbt : u.cbt = m.cbt := by rw [← hu]; rfl
  have hout : ∃ l, u.lnk.output = m.lnk.output ++ l := by rw [← hu]; exact ⟨_, rfl⟩
  have htake : (State.takeInhibition s u).cbt = m.cbt :=
    (cbt_takeInhibition (by rw [hcbt]; exact not_working_of hends)).trans hcbt
  obtain ⟨b1, b2⟩ := Prod.mk.inj hends |>.imp_right Prod.mk.inj
  refine ⟨_, hexec, ?_, ?_, ?_, ?_⟩
  · rw [closeAdditions_cbt, htake]; exact b1
  · rw [closeAdditions_cbt, htake]; exact b2.1
  · rw [closeAdditions_cbt, htake]; exact b2.2
  · have hearlier : Abandoned s run m :=
      abandoned_of_earlier habandoned (fun _ => rfl) rfl rfl rfl rfl rfl ⟨[], (List.append_nil _).symm⟩
    refine abandoned_of_later hearlier ((closeAdditions_cbt _ _).trans htake) ?_
    obtain ⟨x, hx⟩ := hout
    obtain ⟨y, hy⟩ := output_takeInhibition (before := s) (s := u)
    obtain ⟨z, hz⟩ := closeAdditions_output s (State.takeInhibition s u)
    exact ⟨x ++ y ++ z, by rw [hz, hy, hx]; simp only [List.append_assoc]⟩

end Probes

end Sys2Proof.Machine
end

section
/-! PROOFS. The classification of a measurement (R142, R144 to R147). -/

namespace Sys2Proof.Machine

set_option Elab.async false

namespace Probes

open Acts Ending Relays Causes Maintenance

variable {G : Gid → Prop} {K : List Part} {before s t u v w z : State} {c k y : Ch} {e x : PEnt} {run : ProbeRun}
  {res : ProbeResult} {p : ProbeRec} {kind : ProbeKind}

/-! ### The result of a measurement (R142) -/

theorem classify_eq (k : ProbeKind) (m x f : Nat) : classify k m x f =
    if (k = .loop ∧ x < m) ∨ (k ≠ .loop ∧ m < x) then (if f = 0 then .suspect else .fault)
    else if (k = .loop ∧ x < 2 * m) ∨ (k ≠ .loop ∧ m < 2 * x) then .passMarginal
    else .pass := by
  unfold classify ProbeKind.fails ProbeKind.marginal
  cases k <;> simp [Nat.mul_comm]

theorem standing_eq (h : res ≠ .abandoned) : res.standing =
    (if res = .pass ∨ res = .passMarginal then .pass else if res = .suspect then .suspect else .fault) := by
  cases res with
  | abandoned => exact absurd rfl h
  | pass | passMarginal | suspect | fault => rfl

theorem classify_ne_abandoned (k : ProbeKind) (m x f : Nat) : classify k m x f ≠ .abandoned := by
  unfold classify
  split_ifs <;> nofun

/-! ### The cable state (R144) -/

/-- An entry that involves a channel stands at FAULT, by its kind. -/
def standsAt (s : State) (c : Ch) (k : ProbeKind) (e : PEnt) : Prop :=
  (s.probeRec e).involves c = true ∧ (s.probeRec e).kind = some k ∧ (s.result e).standing = .fault

/-- An entry that involves a channel has a standing result. -/
def someStands (s : State) (c : Ch) (v : Standing) : Prop :=
  ∃ e, (s.probeRec e).involves c = true ∧ (s.result e).standing = v

theorem mem_entriesOf : e ∈ s.entriesOf c ↔ (s.probeRec e).involves c = true := by
  unfold State.entriesOf
  rw [List.mem_filter]
  exact and_iff_right (List.mem_finRange e)

theorem any_stands (s : State) (c : Ch) (k : ProbeKind) :
    ((s.entriesOf c).any fun e => (s.probeRec e).kind == some k && (s.result e).standing == Standing.fault) = true ↔
      ∃ e, standsAt s c k e := by
  rw [List.any_eq_true]
  simp only [mem_entriesOf, Bool.and_eq_true, beq_iff_eq]
  rfl

theorem any_standing (s : State) (c : Ch) (v : Standing) :
    ((s.entriesOf c).any fun e => (s.result e).standing == v) = true ↔ someStands s c v := by
  rw [List.any_eq_true]
  simp only [mem_entriesOf, beq_iff_eq]
  rfl

/-- The first entry found in the filtered program is the least one. -/
theorem find_least {q : PEnt → Bool} (hi : (s.probeRec e).involves c = true) (hq : q e = true)
    (hfirst : ∀ e', e' < e → ¬((s.probeRec e').involves c = true ∧ q e' = true)) : (s.entriesOf c).find? q = some e := by
  obtain ⟨l1, l2, hsplit⟩ := List.append_of_mem (List.mem_finRange e)
  have hlt (e' : PEnt) (h : e' ∈ l1) : e' < e :=
    (List.pairwise_append.mp (hsplit ▸ List.pairwise_lt_finRange 64)).2.2 e' h e List.mem_cons_self
  have hall : s.entriesOf c = (l1 ++ e :: l2).filter fun e => (s.probeRec e).involves c := by rw [← hsplit]; rfl
  rw [hall, List.filter_append, List.filter_cons_of_pos (p := fun e => (s.probeRec e).involves c) hi, find_first ?_ hq]
  intro e' he'
  obtain ⟨hm, hinv⟩ := List.mem_filter.mp he'
  rw [← Bool.not_eq_true]
  exact fun hq' => hfirst e' (hlt e' hm) ⟨hinv, hq'⟩

theorem cableStateOf_spec (s : State) (c : Ch) :
    (∀ e, standsAt s c .coupling e → (∀ e', e' < e → ¬standsAt s c .coupling e') →
      s.cableStateOf c = .crossed ((s.probeRec e).other c)) ∧
      ((∀ e, ¬standsAt s c .coupling e) →
        ((∃ e, standsAt s c .insulation e) → s.cableStateOf c = .earthLeak) ∧
        ((∀ e, ¬standsAt s c .insulation e) →
          ((∃ e, standsAt s c .loop e) → s.cableStateOf c = .opened) ∧
          ((∀ e, ¬standsAt s c .loop e) →
            (someStands s c .suspect → s.cableStateOf c = .suspect) ∧
            (¬someStands s c .suspect → someStands s c .pass → s.cableStateOf c = .sound) ∧
            (¬someStands s c .suspect → ¬someStands s c .pass → s.cableStateOf c = .untested)))) := by
  refine ⟨fun e he hfirst => ?_, fun hcross => ?_⟩
  · obtain ⟨hi, hk, hf⟩ := he
    have hfind : (s.entriesOf c).find? (fun e => (s.probeRec e).kind == some ProbeKind.coupling &&
        (s.result e).standing == Standing.fault) = some e := by
      refine find_least hi (by rw [hk, hf]; rfl) fun e' hlt ⟨hi', hq⟩ => hfirst e' hlt ?_
      rw [Bool.and_eq_true, beq_iff_eq, beq_iff_eq] at hq
      exact ⟨hi', hq⟩
    unfold State.cableStateOf
    simp only [hfind]
  · have hfind : (s.entriesOf c).find? (fun e => (s.probeRec e).kind == some ProbeKind.coupling &&
        (s.result e).standing == Standing.fault) = none := by
      refine List.find?_eq_none.mpr fun e he hq => hcross e ?_
      rw [Bool.and_eq_true, beq_iff_eq, beq_iff_eq] at hq
      exact ⟨mem_entriesOf.mp he, hq⟩
    unfold State.cableStateOf
    simp only [hfind]
    refine ⟨fun h => if_pos ((any_stands s c .insulation).mpr h), fun hi => ?_⟩
    have hi' : ¬((s.entriesOf c).any fun e => (s.probeRec e).kind == some ProbeKind.insulation &&
        (s.result e).standing == Standing.fault) = true := fun h => ((any_stands s c .insulation).mp h).elim hi
    rw [if_neg hi']
    refine ⟨fun h => if_pos ((any_stands s c .loop).mpr h), fun hl => ?_⟩
    have hl' : ¬((s.entriesOf c).any fun e => (s.probeRec e).kind == some ProbeKind.loop &&
        (s.result e).standing == Standing.fault) = true := fun h => ((any_stands s c .loop).mp h).elim hl
    have hsuspect := any_standing s c .suspect
    have hpass := any_standing s c .pass
    rw [if_neg hl']
    exact ⟨fun h => if_pos (hsuspect.mpr h),
      fun h h' => by rw [if_neg (mt hsuspect.mp h), if_pos (hpass.mpr h')],
      fun h h' => by rw [if_neg (mt hsuspect.mp h), if_neg (mt hpass.mp h')]⟩

theorem cableStateOf_of (hc : t.cfg = s.cfg) (hr : ∀ e, t.result e = s.result e) (c : Ch) : t.cableStateOf c = s.cableStateOf c := by
  unfold State.cableStateOf State.entriesOf State.probeRec
  simp only [hc, hr]

/-- The cable states of a list of channels judged again. -/
theorem refreshCables_spec (l : List Ch) (s : State) :
    ∃ m, l.foldl State.refreshCable s = s.onCbt (fun b => { b with cable := m }) ∧
      (∀ c, c ∉ l → m.get c = s.cbt.cable.get c) ∧ ∀ c ∈ l, m.get c = s.cableStateOf c := by
  induction l generalizing s with
  | nil => exact ⟨s.cbt.cable, rfl, fun _ _ => rfl, fun _ h => absurd h List.not_mem_nil⟩
  | cons a l ih =>
    obtain ⟨m, hm, hout, hin⟩ := ih (s.refreshCable a)
    refine ⟨m, hm, fun c hc => ?_, fun c hc => ?_⟩
    · rw [List.mem_cons, not_or] at hc
      exact (hout c hc.2).trans (Tab.get_put_ne _ _ (Ne.symm hc.1))
    · have hstate : (s.refreshCable a).cableStateOf c = s.cableStateOf c := cableStateOf_of rfl (fun _ => rfl) c
      by_cases hl : c ∈ l
      · rw [hin c hl, hstate]
      · have hca : c = a := (List.mem_cons.mp hc).resolve_right hl
        rw [hout c hl, hca]
        exact Tab.get_put_self _ _ _

/-! ### The records of a classification (R142, R144) -/

/-- The result record of an entry classified, the bus in its release, TEST_STARVED ended. -/
def measured (s : State) (run : ProbeRun) (res : ProbeResult) (new : CrossClass) (m : Nat) : State :=
  ((s.onResult run.entry fun r => r.classified res new m s.stamp s.cbt.period.isSome).onCbt fun b =>
    { b with phase := .releasing, phaseTime := 0, probe := some { run with sweepEnded := false } }).clearFault
      .testStarved (.entry run.entry)

/-- The classification noted, before it acts. -/
def noted (s : State) (run : ProbeRun) (res : ProbeResult) (new : CrossClass) (m : Nat) : State :=
  (s.probeRec run.entry).channels.foldl State.refreshCable (measured s run res new m)

theorem classifyProbe_eq (k : ProbeKind) (m : Nat) (hres : res = classify k m (s.probeRec run.entry).limit (s.result run.entry).failures) :
    s.classifyProbe run k m =
      (((noted s run res (s.crossAfter (s.probeRec run.entry) res) m).actOnResult (s.probeRec run.entry) res
        (s.result run.entry).cross (s.crossAfter (s.probeRec run.entry) res)).answerProbe run.origin res (some m)) := by
  subst hres; rfl

/-- What a classification notes. -/
def Noted (s : State) (run : ProbeRun) (res : ProbeResult) (new : CrossClass) (m : Nat) (b : Cbt) : Prop :=
  b.phase = .releasing ∧ b.phaseTime = 0 ∧
    b.results.get run.entry = (s.result run.entry).classified res new m s.stamp s.cbt.period.isSome ∧
    (∀ e, e ≠ run.entry → b.results.get e = s.result e) ∧
    (∀ c, c ∉ (s.probeRec run.entry).channels → b.cable.get c = s.cbt.cable.get c) ∧
    ∀ c ∈ (s.probeRec run.entry).channels, b.cable.get c = (s.onCbt fun _ => b).cableStateOf c

theorem noted_spec (s : State) (run : ProbeRun) (res : ProbeResult) (new : CrossClass) (m : Nat) :
    Noted s run res new m (noted s run res new m).cbt ∧
      ∃ b, noted s run res new m = (s.onCbt fun _ => b).onFlt fun f => f.clear .testStarved (.entry run.entry) := by
  obtain ⟨t, ht⟩ : ∃ t, t = measured s run res new m := ⟨_, rfl⟩
  obtain ⟨cable, heq, hout, hin⟩ := refreshCables_spec (s.probeRec run.entry).channels t
  have hself : t.result run.entry = (s.result run.entry).classified res new m s.stamp s.cbt.period.isSome := by
    rw [ht]; exact State.onResult_self s run.entry _
  have hother (e : PEnt) (he : e ≠ run.entry) : t.result e = s.result e := by
    rw [ht]; exact State.onResult_other s _ he.symm
  have hcable : t.cbt.cable = s.cbt.cable := by rw [ht]; rfl
  have hphase : t.cbt.phase = .releasing ∧ t.cbt.phaseTime = 0 := by rw [ht]; exact ⟨rfl, rfl⟩
  have hcfg : t.cfg = s.cfg := by rw [ht]; rfl
  have hcbt : (noted s run res new m).cbt = { t.cbt with cable := cable } := by
    unfold noted
    rw [← ht, heq]
    rfl
  refine ⟨?_, { t.cbt with cable := cable }, ?_⟩
  · rw [hcbt]
    refine ⟨hphase.1, hphase.2, hself, hother, fun c hc => (hout c hc).trans (by rw [hcable]), fun c hc => (hin c hc).trans ?_⟩
    exact cableStateOf_of (s := s.onCbt fun _ => { t.cbt with cable := cable }) hcfg (fun _ => rfl) c
  · unfold noted
    rw [← ht, heq, ht]
    rfl

/-! ### The cross class (R147) -/

/-- A coupling of two conductors that is dangerous: conflicting greens, or a green and a red of one group. -/
def Dangerous (s : State) (c y : Ch) : Prop :=
  ((∃ g h, (s.chanRec c).group = some g ∧ (s.chanRec y).group = some h ∧ s.conflicting g h = true) ∧
    (s.chanRec c).aspect = some .green ∧ (s.chanRec y).aspect = some .green) ∨
  ((∃ g, (s.chanRec c).group = some g ∧ (s.chanRec y).group = some g) ∧
    ((s.chanRec c).aspect = some .green ∧ (s.chanRec y).aspect = some .red ∨
      (s.chanRec c).aspect = some .red ∧ (s.chanRec y).aspect = some .green))

theorem crossClassOf_cases (s : State) (c y : Ch) :
    (Dangerous s c y → s.crossClassOf c y = .dangerous) ∧ (¬Dangerous s c y → s.crossClassOf c y = .nuisance) := by
  unfold Dangerous State.crossClassOf
  cases hg : (s.chanRec c).group with
  | none => simp
  | some g =>
    cases hh : (s.chanRec y).group with
    | none => simp
    | some h =>
      cases ha : (s.chanRec c).aspect with
      | none => simp
      | some a =>
        cases hb : (s.chanRec y).aspect with
        | none => cases a <;> simp
        | some b =>
          have hsame : (∃ g', some g = some g' ∧ some h = some g') ↔ g = h :=
            ⟨fun ⟨g', h1, h2⟩ => Option.some.inj (h1.trans h2.symm), fun h' => ⟨g, rfl, h' ▸ rfl⟩⟩
          have hpair : (∃ g' h', some g = some g' ∧ some h = some h' ∧ s.conflicting g' h' = true) ↔ s.conflicting g h = true :=
            ⟨fun ⟨g', h', h1, h2, h3⟩ => by rw [Option.some.inj h1, Option.some.inj h2]; exact h3, fun h' => ⟨g, h, rfl, rfl, h'⟩⟩
          rw [hsame, hpair]
          cases a <;> cases b <;> simp +contextual

theorem crossAfter_fault (hk : p.kind = some .coupling) (hs : p.subject = c) (hy : p.partner = some y) (hr : res = .fault) :
    s.crossAfter p res = s.crossClassOf c y := by
  unfold State.crossAfter
  rw [if_pos ⟨hk, hr⟩, hs, hy]
  rfl

theorem crossAfter_none (hr : res ≠ .fault) : s.crossAfter p res = .none := if_neg fun h => hr h.2

end Probes

end Sys2Proof.Machine
end

section
/-! PROOFS. What a classified measurement does, and the step's end (R145 to R147, R152). -/

namespace Sys2Proof.Machine

set_option Elab.async false

namespace Probes

open Acts Ending Relays Causes Maintenance Samples

variable {G : Gid → Prop} {K : List Part} {before s t u v w z n a b : State} {c k y : Ch} {e x : PEnt} {run : ProbeRun}
  {res : ProbeResult} {p : ProbeRec} {kind : ProbeKind} {new old : CrossClass} {m : Nat} {o : Origin}

/-! ### The step's end -/

theorem acts_noted : Acts G [.cbt, .slots, .flt, .starved] s (noted s run res new m) := by
  have hrec : Acts G [.cbt, .slots, .flt, .starved] s
      (s.onResult run.entry fun r => r.classified res new m s.stamp s.cbt.period.isSome) := (of_edits (edits_onResult _ _)).up
  have hfree {t : State} : Acts G [.cbt, .slots, .flt, .starved] t (t.onCbt fun b =>
      { b with phase := .releasing, phaseTime := 0, probe := some { run with sweepEnded := false } }) :=
    (of_edits (.one (.cbt _ (K := [.cbt, .slots]) (by decide) id (.inr (by decide))))).up
  exact ((hrec.trans hfree).trans (of_edits (edits_clearFault _ _))).trans (foldl _ _ fun _ c _ => (acts_refreshCable c).up)

theorem noted_frame : (noted s run res new m).out = s.out ∧ (noted s run res new m).lnk = s.lnk ∧
    (noted s run res new m).sup = s.sup ∧ (noted s run res new m).lmp = s.lmp ∧ (noted s run res new m).cfg = s.cfg ∧
    (noted s run res new m).flt.entries.length = s.flt.entries.length := by
  obtain ⟨-, b, h⟩ := noted_spec s run res new m
  rw [h]
  exact ⟨rfl, rfl, rfl, rfl, rfl, Laws.clear_length _ _ _⟩

theorem acts_answerProbe (o : Origin) (r : ProbeResult) (x : Option Nat) : Acts G [.flt, .slots] s (s.answerProbe o r x) :=
  of_edits (edits_answerProbe o r x)

theorem entries_answerProbe (o : Origin) (r : ProbeResult) (x : Option Nat) :
    (s.answerProbe o r x).flt.entries = s.flt.entries ∧ (s.answerProbe o r x).sup = s.sup ∧
      (s.answerProbe o r x).cfg = s.cfg ∧ (s.answerProbe o r x).lmp = s.lmp := by
  unfold State.answerProbe
  cases o <;> exact ⟨rfl, rfl, rfl, rfl⟩

/-- The end of a step that leaves the tester's record alone. -/
def EndsWith (before b t : State) : Prop :=
  ∃ z, t = State.closeAdditions before z ∧ Acts (fun _ => True) inner b z ∧ z.cbt = b.cbt

theorem probeDone_stays {p q : PendingSet} (h : p.union q = q) (hp : p.probeDone = true) : q.probeDone = true := by
  rw [← h]
  exact (congrArg (· || q.probeDone) hp).trans (Bool.true_or _)

/-- The record and the reply of a classification at its step's end. -/
theorem ended_classified (hc : a.cbt = n.cbt) (hl : ∃ l, a.lnk.output = s.lnk.output ++ l)
    (ht : EndsWith before (a.answerProbe o res (some m)) t) :
    t.cbt = n.cbt ∧ ∀ tag, o = .request tag → State.answers s t tag 0x42#8 .ok ∧ t.flt.pendingSet.probeDone = true := by
  obtain ⟨z, rfl, hz, hzc⟩ := ht
  obtain ⟨h1, -, h3⟩ := answerProbe_spec a o res (some m)
  refine ⟨(closeAdditions_cbt _ _).trans (hzc.trans (h1.trans hc)), fun tag htag => ?_⟩
  obtain ⟨⟨l, ho, f, hf, hrest⟩, hdone⟩ := h3 tag htag
  obtain ⟨x, hx⟩ := hl
  obtain ⟨-, y, hy⟩ := hz.replied (by decide)
  obtain ⟨y', hy'⟩ := closeAdditions_output before z
  refine ⟨⟨x ++ l ++ y ++ y', by rw [hy', hy, ho, hx]; simp only [List.append_assoc], f, ?_, hrest⟩, ?_⟩
  · exact List.mem_append_left _ (List.mem_append_left _ (List.mem_append_right _ hf))
  · rw [closeAdditions_pendingSet]
    exact probeDone_stays (hz.pendingSet_grows (by decide)) hdone

/-! ### A result that leaves the cabinet alone -/

/-- What the insulation and most coupling results may write. -/
abbrev crossParts : List Part := [.flt, .crossing, .alarm]

theorem acted_quietly (hb : s.betweenSteps) (hn : n = noted s run res new m) (ha : Acts (fun _ => True) crossParts n a) :
    EndsWith s (a.answerProbe o res (some m)) (State.finish s (a.answerProbe o res (some m))) ∧ a.cbt = n.cbt ∧
      (∃ l, a.lnk.output = s.lnk.output ++ l) ∧
      ∀ t, t = State.finish s (a.answerProbe o res (some m)) → t.out = s.out ∧ t.sup = s.sup ∧ t.cfg = s.cfg ∧
        t.clk = s.clk ∧ t.det = s.det ∧ t.flt.entries = a.flt.entries := by
  have hnoted : Acts (fun _ => True) [.cbt, .slots, .flt, .starved] s n := hn ▸ acts_noted
  have hall : Acts (fun _ => True) [.cbt, .slots, .flt, .starved, .crossing, .alarm] s (a.answerProbe o res (some m)) :=
    (hnoted.up.trans ha.up).trans (acts_answerProbe o res (some m)).up
  have hfin : State.finish s (a.answerProbe o res (some m)) = State.closeAdditions s (a.answerProbe o res (some m)) :=
    finish_kept hb hall
  obtain ⟨-, h2, -⟩ := answerProbe_spec a o res (some m)
  obtain ⟨e1, e2, -, -⟩ := entries_answerProbe (s := a) o res (some m)
  obtain ⟨n1, n2, n3, -⟩ := noted_frame (s := s) (run := run) (res := res) (new := new) (m := m)
  rw [← hn] at n1 n2 n3
  refine ⟨⟨_, hfin, .refl _, rfl⟩, ha.cbt_eq, ⟨[], by rw [ha.lnk_eq, n2, List.append_nil]⟩, ?_⟩
  rintro t rfl
  rw [hfin]
  simp only [closeAdditions_out, closeAdditions_sup, closeAdditions_cfg, closeAdditions_clk, closeAdditions_det,
    closeAdditions_entries]
  exact ⟨(h2.trans ha.out_eq).trans n1, (e2.trans ha.sup_eq).trans n3, hall.cfg_eq, hall.clk_eq, hall.det_eq, e1⟩

/-! ### LOOP (R145) -/

theorem acts_loopResult (c : Ch) : Acts G verdictParts s (s.loopResult c res) := by
  unfold State.loopResult
  cases res with
  | fault => exact of_edits (edits_loopOpen c)
  | pass | passMarginal => exact of_edits (edits_loopPass c)
  | suspect | abandoned => exact .refl _

theorem acted_loop (hb : s.betweenSteps) (hn : n = noted s run res new m) (ha : a = n.loopResult c res) :
    EndsWith s (a.answerProbe o res (some m)) (State.finish s (a.answerProbe o res (some m))) ∧ a.cbt = n.cbt ∧
      (∃ l, a.lnk.output = s.lnk.output ++ l) ∧
      ∀ t, t = State.finish s (a.answerProbe o res (some m)) → t.sup.mode = s.sup.mode ∧ t.cfg = s.cfg ∧
        t.clk = s.clk ∧ t.det = s.det ∧ (s.redAmberSettled → t.out = s.out ∧ t.lmp = a.lmp) := by
  have hnoted : Acts (fun _ => True) [.cbt, .slots, .flt, .starved] s n := hn ▸ acts_noted
  have hloop : Acts (fun _ => True) verdictParts n a := ha ▸ acts_loopResult c
  have hall : Acts (fun _ => True) (.cbt :: .slots :: .starved :: verdictParts) s (a.answerProbe o res (some m)) :=
    (hnoted.up.trans hloop.up).trans (acts_answerProbe o res (some m)).up
  obtain ⟨h1, h2, -⟩ := answerProbe_spec a o res (some m)
  obtain ⟨-, -, -, e4⟩ := entries_answerProbe (s := a) o res (some m)
  obtain ⟨n1, n2, -⟩ := noted_frame (s := s) (run := run) (res := res) (new := new) (m := m)
  have hphase : n.cbt.phase = .releasing := hn ▸ (noted_spec s run res new m).1.1
  rw [← hn] at n1 n2
  have hcbt : (a.answerProbe o res (some m)).cbt = n.cbt := h1.trans hloop.cbt_eq
  have hout : (a.answerProbe o res (some m)).out = s.out := (h2.trans hloop.out_eq).trans n1
  have hlnk : ∃ l, a.lnk.output = s.lnk.output ++ l := ⟨[], by rw [hloop.lnk_eq, n2, List.append_nil]⟩
  generalize a.answerProbe o res (some m) = b at hall hcbt hout e4 ⊢
  have hfin : State.finish s b = State.closeAdditions s (State.takeInhibition s b) :=
    finish_of_noCommit (noCommit_of_kept hb hall.modes_eq hall.cfg_eq)
  have hgreen : Acts (fun _ => True) greenParts b (State.takeInhibition s b) := acts_takeInhibition_green s
  refine ⟨⟨_, hfin, acts_takeInhibition s, cbt_takeInhibition (by rw [hcbt, hphase]; rfl)⟩, hloop.cbt_eq, hlnk, ?_⟩
  rintro t rfl
  rw [hfin]
  simp only [closeAdditions_out, closeAdditions_sup, closeAdditions_cfg, closeAdditions_clk, closeAdditions_det,
    closeAdditions_lmp]
  refine ⟨hgreen.modes_eq.trans hall.modes_eq, hgreen.cfg_eq.trans hall.cfg_eq, hgreen.clk_eq.trans hall.clk_eq,
    hgreen.det_eq.trans hall.det_eq, fun hs => ?_⟩
  obtain ⟨q, -, hq⟩ : Drops b (State.takeInhibition s b) := drops_of_settled hs hall
  rw [hq]
  exact ⟨hout, e4⟩

/-- The verdict of a lamp whose loop was tested. -/
theorem loopResult_spec (hv : (s.lamp c).verdict ≠ .held) :
    (res = .fault → (s.lamp c).verdict ≠ .failed →
      ((s.loopResult c res).lamp c).verdict = .circuitOpen ∧ ((s.loopResult c res).lamp c).healthy = some 0) ∧
    ((res = .pass ∨ res = .passMarginal) → (s.lamp c).verdict = .circuitOpen →
      ((s.loopResult c res).lamp c).verdict = .unknown ∧ ((s.loopResult c res).lamp c).healthy = none) := by
  have hgiven (l : LampRec) (v : Verdict) (h : Option Nat) (hl : l.verdict ≠ .held) :
      (l.withVerdict v h).verdict = v ∧ (l.withVerdict v h).healthy = h := by
    unfold LampRec.withVerdict
    rw [if_neg hl]
    exact ⟨rfl, rfl⟩
  refine ⟨fun hr hf => ?_, fun hr ho => ?_⟩
  · subst hr
    show (((s.loopOpen c).lamp c).verdict = _ ∧ ((s.loopOpen c).lamp c).healthy = _)
    unfold State.loopOpen
    rw [if_neg hf, (lamp_setVerdict _ _).1, State.onLamp_self]
    exact hgiven _ _ _ hv
  · have heq : s.loopResult c res = s.loopPass c := by rcases hr with rfl | rfl <;> rfl
    rw [heq]
    unfold State.loopPass
    rw [if_pos ho, (lamp_setVerdict _ _).1]
    exact hgiven _ _ _ hv

/-! ### INSULATION (R146) -/

theorem acts_leakResult (c : Ch) : Acts G crossParts s (s.leakResult c res) :=
  either (fun _ => of_edits (edits_report _ _)) fun _ => either (fun _ => .refl _) fun _ => of_edits (edits_clearFault _ _)

theorem leakResult_entry (h : s.flt.entries.length < 64) :
    ∃ f ∈ (s.leakResult c .fault).flt.entries, f.kind = .earthLeak ∧ f.subject = .channel c ∧ f.active = true := by
  obtain ⟨e, he, h1, h2, h3, -⟩ := Laws.report_active s.flt .earthLeak (.channel c) FaultKind.earthLeak.listedSafety s.stamp h
  exact ⟨e, he, h1, h2, h3⟩

/-! ### COUPLING (R147) -/

theorem crossResult_fault (hk : new.kind = some k') (hd : new ≠ .dangerous) :
    s.crossResult c .fault old new = s.report k' (.channel c) := by
  unfold State.crossResult
  rw [if_pos rfl]
  simp only [hk]
  exact if_neg hd

theorem crossResult_dangerous : s.crossResult c .fault old .dangerous =
    (s.report .crossDangerous (.channel c)).hardFault .cross := rfl

theorem acts_crossReport {k' : FaultKind} (hk : k'.part = .crossing) : Acts G crossParts s (s.report k' (.channel c)) :=
  of_edits (edits_report k' _ (hk := by rw [hk]; decide) (ha := fun _ => by decide))

/-- Every coupling result but a dangerous fault leaves the cabinet alone. -/
theorem acts_crossResult (h : res ≠ .fault ∨ new ≠ .dangerous) : Acts G crossParts s (s.crossResult c res old new) := by
  by_cases hr : res = .fault
  · subst hr
    cases hk : new.kind with
    | none =>
      unfold State.crossResult
      rw [if_pos rfl]
      simp only [hk]
      exact .refl _
    | some k' =>
      rw [crossResult_fault hk (h.resolve_left (not_not.mpr rfl))]
      exact acts_crossReport (part_of_crossKind hk)
  · unfold State.crossResult
    rw [if_neg hr]
    split
    · next k' hk => exact either (fun _ => .refl _) fun _ => of_edits (edits_clearFault k' _ (hk := by rw [part_of_crossKind hk]; decide))
    · exact .refl _

/-- A coupling that fails no longer clears the entry that no other upholds. -/
theorem crossResult_clears {k' : FaultKind} (hr : res ≠ .fault) (hk : old.kind = some k') (hs : s.crossStands c old = false) :
    ∀ f ∈ (s.crossResult c res old new).flt.entries, f.kind = k' → f.subject = .channel c → f.active = false := by
  unfold State.crossResult
  rw [if_neg hr]
  simp only [hk, hs]
  exact Laws.clear_inactive _ _ _

theorem crossStands_false (hres : (s.result run.entry).standing ≠ .fault)
    (h : ∀ e, e ≠ run.entry → (s.probeRec e).kind = some .coupling → (s.probeRec e).subject = c →
      ¬((s.result e).standing = .fault ∧ (s.result e).cross = old)) : s.crossStands c old = false := by
  unfold State.crossStands
  rw [← Bool.not_eq_true, List.any_eq_true]
  rintro ⟨e, -, he⟩
  simp only [Bool.and_eq_true, beq_iff_eq] at he
  obtain ⟨⟨⟨hk, hc⟩, hf⟩, hx⟩ := he
  by_cases hee : e = run.entry
  · exact hres (hee ▸ hf)
  · exact h e hee hk hc ⟨hf, hx⟩

/-- A dangerous coupling takes the cabinet to latched DARK. -/
theorem acted_dangerous (hb : s.betweenSteps) (hn : n = noted s run res new m)
    (ha : a = (n.report .crossDangerous (.channel c)).hardFault .cross) :
    EndsWith s (a.answerProbe o res (some m)) (State.finish s (a.answerProbe o res (some m))) ∧ a.cbt = n.cbt ∧
      (∃ l, a.lnk.output = s.lnk.output ++ l) ∧
      ∀ t, t = State.finish s (a.answerProbe o res (some m)) → t.sup.latched = true ∧
        (s.waitingSupply = false → t.sup.mode = .dark ∧
          t.sup.reason = (if s.sup.mode = .dark ∧ s.sup.latched = true then s.sup.reason else some .cross) ∧
          (s.sup.mode ≠ .dark → t.out.contactor.driven = false)) ∧
        (s.flt.entries.length < 64 →
          ∃ f ∈ t.flt.entries, f.kind = .crossDangerous ∧ f.subject = .channel c ∧ f.active = true ∧ f.safety = true) := by
  have hnoted : Acts (fun _ => True) [.cbt, .slots, .flt, .starved] s n := hn ▸ acts_noted
  obtain ⟨n1, n2, n3, -, n5, n6⟩ := noted_frame (s := s) (run := run) (res := res) (new := new) (m := m)
  rw [← hn] at n1 n2 n3 n5 n6
  obtain ⟨r, hr⟩ : ∃ r, r = n.report .crossDangerous (.channel c) := ⟨_, rfl⟩
  have hreport : Acts (fun _ => True) crossParts n r := hr ▸ acts_crossReport rfl
  have hentry (h : s.flt.entries.length < 64) : ∃ f ∈ r.flt.entries,
      f.kind = .crossDangerous ∧ f.subject = .channel c ∧ f.active = true ∧ f.safety = true := by
    obtain ⟨e, he, h1, h2, h3, -, h4, -⟩ := Laws.report_active n.flt .crossDangerous (.channel c) true n.stamp (by rw [n6]; exact h)
    exact ⟨e, hr ▸ he, h1, h2, h3, h4⟩
  have hsup : r.sup = s.sup := hreport.sup_eq.trans n3
  have hwait : r.waitingSupply = s.waitingSupply := waitingSupply_of_kept (by rw [hsup]) (by rw [hsup])
  rw [← hr] at ha
  have hcause : Acts (fun _ => True) cabinet r a := ha ▸ acts_hardFault .cross
  have hquiet : quiet s a := by
    rw [ha]
    refine quiet_latchedDark .cross (fun _ => rfl) ?_ fun g hg => ?_
    · rw [hsup, hreport.cfg_eq, n5]; exact hb.2
    · exact inhibited_of_acts hnoted (by decide) g (inhibited_of_acts hreport (by decide) g hg)
  obtain ⟨-, h2, -⟩ := answerProbe_spec a o res (some m)
  obtain ⟨e1, e2, e3, -⟩ := entries_answerProbe (s := a) o res (some m)
  have hanswer : Acts (fun _ => True) [.flt, .slots] a (a.answerProbe o res (some m)) := acts_answerProbe o res (some m)
  have hquiet' : quiet s (a.answerProbe o res (some m)) :=
    quiet_of_kept hquiet e3 (by rw [e2]) fun g hg => inhibited_of_acts hanswer (by decide) g hg
  obtain ⟨z, hfin, hz, hret⟩ := finish_quiet hquiet'
  obtain ⟨vm, vr, vl, -⟩ := Parked.fields_of_retaken hret
  rw [e2] at vm vr vl
  refine ⟨⟨z, hfin, hz.up, hz.cbt_eq⟩, hcause.cbt_eq.trans hreport.cbt_eq,
    ⟨[], by rw [hcause.lnk_eq, hreport.lnk_eq, n2, List.append_nil]⟩, ?_⟩
  rintro t rfl
  rw [hfin]
  simp only [closeAdditions_out, closeAdditions_sup, closeAdditions_entries]
  rw [vm, vr, vl, hz.out_eq, h2]
  refine ⟨?_, fun hw => ?_, fun hl => ?_⟩
  · rw [ha]
    cases hw : r.waitingSupply with
    | true =>
      show (r.takeCause (.latchedDark true) .cross).sup.latched = true
      rw [takeCause_of_waiting _ _ hw, sup_waiting_latchedDark]
      rfl
    | false =>
      rw [hardFault_of_present .cross hw]
      exact (latchedDark_spec .cross fun _ => rfl).2.1
  · obtain ⟨dm, -, -, -, -, -, dr⟩ := latchedDark_spec (s := r) (hard := true) .cross fun _ => rfl
    rw [hsup] at dr
    rw [ha, hardFault_of_present .cross (hwait.trans hw)]
    exact ⟨dm, dr, fun hm => (contactor_latchedDark .cross (by rw [hsup]; exact hm) fun _ => rfl).2⟩
  · obtain ⟨f, hf, f1, f2, f3, f4⟩ := hentry hl
    have hstay := hcause.entry_stays hf f3 (by rw [f1]; decide) (.inl f4)
    rw [← e1] at hstay
    exact ⟨f, hz.entry_stays hstay f3 (by rw [f1]; decide) (.inl f4), f1, f2, f3, f4⟩

end Probes

end Sys2Proof.Machine
end

section
/-! PROOFS. The tester: the statement (O58). -/

namespace Sys2Proof.Machine

set_option Elab.async false

namespace Probes

open Acts Ending Relays Causes Maintenance Samples TesterRequests

variable {G : Gid → Prop} {K : List Part} {before s t u v w z n a b : State} {c k y : Ch} {e x : PEnt} {run : ProbeRun}
  {res : ProbeResult} {p : ProbeRec} {kind : ProbeKind} {new old : CrossClass} {m : Nat} {o : Origin}

/-! ### The choice of a probe, at its step -/

/-- What a choice of a probe leaves alone. -/
def ChoiceKeeps (s t : State) : Prop :=
  t.cbt.choice = false ∧ t.cbt.results = s.cbt.results ∧ t.cbt.cable = s.cbt.cable ∧ t.lmp = s.lmp ∧ t.seq = s.seq ∧
    t.lnk = s.lnk ∧ t.flt = s.flt ∧ t.cfg = s.cfg ∧ t.clk = s.clk ∧ t.sch = s.sch ∧ t.det = s.det ∧ t.sup = s.sup ∧
    ∀ c, ∃ b, t.chan c = { s.chan c with testBus := b }

theorem choiceKeeps_lists (d : List PEnt) (n : Nat) : ChoiceKeeps s (walked (chosen s) d n) :=
  ⟨rfl, rfl, rfl, rfl, rfl, rfl, rfl, rfl, rfl, rfl, rfl, rfl, fun c => ⟨(s.chan c).testBus, rfl⟩⟩

theorem choiceKeeps_starts (h : ChoiceKeeps s u) (e : PEnt) (o : Origin) : ChoiceKeeps s (u.startProbe e o) := by
  obtain ⟨h1, h2, h3, h4, h5, h6, h7, h8, h9, h10, h11, h12, h13⟩ := h
  obtain ⟨hcbt, -, hchan, hlmp, hseq⟩ := startProbe_spec u e o
  obtain ⟨f, hf⟩ := connectBus_out u e
  have hframe : (u.startProbe e o).lnk = u.lnk ∧ (u.startProbe e o).flt = u.flt ∧ (u.startProbe e o).cfg = u.cfg ∧
      (u.startProbe e o).clk = u.clk ∧ (u.startProbe e o).sch = u.sch ∧ (u.startProbe e o).det = u.det ∧
      (u.startProbe e o).sup = u.sup := by
    unfold State.startProbe
    rw [hf]
    exact ⟨rfl, rfl, rfl, rfl, rfl, rfl, rfl⟩
  obtain ⟨k1, k2, k3, k4, k5, k6, k7⟩ := hframe
  refine ⟨by rw [hcbt]; exact h1, by rw [hcbt]; exact h2, by rw [hcbt]; exact h3, hlmp.trans h4, hseq.trans h5, k1.trans h6,
    k2.trans h7, k3.trans h8, k4.trans h9, k5.trans h10, k6.trans h11, k7.trans h12, fun c => ?_⟩
  obtain ⟨b, hb⟩ := hchan c
  obtain ⟨b', hb'⟩ := h13 c
  exact ⟨b, by rw [hb, hb']⟩

theorem choiceKeeps_chosen : ChoiceKeeps s (chosen s) :=
  ⟨rfl, rfl, rfl, rfl, rfl, rfl, rfl, rfl, rfl, rfl, rfl, rfl, fun c => ⟨(s.chan c).testBus, rfl⟩⟩

theorem choiceKeeps_chooseProbe : ChoiceKeeps s s.chooseProbe := by
  rw [chooseProbe_eq]
  cases hu : (chosen s).cbt.urgent.find? (chosen s).canStart with
  | some e => exact choiceKeeps_starts choiceKeeps_chosen e .urgent
  | none =>
    show ChoiceKeeps s (chosen s).walkOn
    obtain ⟨⟨d, n, o⟩, hw⟩ : ∃ r, (chosen s).walkFrom 64 (chosen s).cbt.walk (chosen s).cbt.deferred = r := ⟨_, rfl⟩
    cases o with
    | some e => rw [walkOn_starts hw]; exact choiceKeeps_starts (choiceKeeps_lists d n) e .sweep
    | none =>
      rw [walkOn_ends hw]
      split
      · exact choiceKeeps_starts (choiceKeeps_lists d n) _ .sweep
      · exact choiceKeeps_lists d n

theorem exec_probeStart (hb : s.betweenSteps) (hc : s.cbt.choice = true) (hp : s.cbt.period ≠ none) (hi : s.cbt.phase = .idle) :
    exec .probeStart s = .next s.chooseProbe := by
  have hdue : s.choiceDue = true := by
    unfold State.choiceDue
    rw [hc, Option.isSome_iff_ne_none.mpr hp, busFree_iff.mpr hi]
    rfl
  obtain ⟨-, -, -, -, h5, -, h7, h8, -, -, -, h12, -⟩ := choiceKeeps_chooseProbe (s := s)
  have hb' : s.chooseProbe.betweenSteps := by
    unfold State.betweenSteps
    rw [h7, h8, h12]
    exact hb
  show Host.Outcome.next (if s.choiceDue then State.finish s s.chooseProbe else s) = _
  rw [if_pos hdue, Laws.finish_betweenSteps hb' (by rw [h5])]

theorem walkFrom_chosen (fuel pos : Nat) (d : List PEnt) : (chosen s).walkFrom fuel pos d = s.walkFrom fuel pos d := by
  induction fuel generalizing pos d with
  | zero => rfl
  | succ n ih =>
    unfold State.walkFrom
    simp only [ih]
    rfl

/-! ### The other steps of a probe -/

theorem exec_releaseEnd (hb : s.betweenSteps) (hp : s.cbt.phase = .releasing) (ht : 20 ≤ s.cbt.phaseTime) :
    exec .probeReleaseEnd s = .next (State.closeAdditions s s.openBus) := by
  have hdue : s.releasingDue = true := by
    unfold State.releasingDue
    rw [hp, decide_eq_true ht]
    rfl
  have hacts : Acts (fun _ => True) coilParts s s.openBus := of_edits (edits_openBus (owesReply_of_releasing hdue))
  show Host.Outcome.next (if s.releasingDue then State.finish s s.openBus else s) = _
  rw [if_pos hdue, finish_kept hb hacts]

theorem exec_sweepEnd {q : Nat} (hb : s.betweenSteps) (hp : s.cbt.period = some q) (ht : s.seq.tickOpen = true)
    (hn : s.cbt.sweepNext = false) (hq : q * 600 ≤ s.cbt.sweepTime) :
    exec .sweepEnd s = .next (State.closeAdditions s s.endSweep) := by
  have hdue : s.sweepEndDue = true := by
    unfold State.sweepEndDue
    rw [hp, ht, hn]
    exact decide_eq_true hq
  show Host.Outcome.next (if s.sweepEndDue then State.finish s s.endSweep else s) = _
  rw [if_pos hdue, finish_kept hb (acts_endSweep (G := fun _ => True))]

theorem sweepEnd_next (h : s.cbt.sweepNext = true) : exec .sweepEnd s = .next s := by
  have hdue : ¬s.sweepEndDue = true := by
    unfold State.sweepEndDue
    rw [h]
    split
    · simp
    · decide
  show Host.Outcome.next (if s.sweepEndDue then State.finish s s.endSweep else s) = _
  rw [if_neg hdue]

/-- A result record of the sweep that begins. -/
theorem endSweep_result (e : PEnt) : s.endSweep.result e = { s.result e with
    done := false
    starved := if s.cbt.uncounted then (s.result e).starved else starvedAfter s e } := by
  have hget (t : State) : (t.onCbt Cbt.beginSweep).result e = { t.result e with done := false } := Tab.get_map _ _ _
  unfold State.endSweep
  rw [hget]
  split
  · rfl
  · rw [(counted_spec s).1]

theorem endSweep_cbt : s.endSweep.cbt.sweepTime = 0 ∧ s.endSweep.cbt.walk = 1 ∧ s.endSweep.cbt.deferred = [] ∧
    s.endSweep.cbt.choice = true ∧ s.endSweep.cbt.uncounted = false ∧ s.endSweep.cbt.period = s.cbt.period ∧
    s.endSweep.cbt.urgent = s.cbt.urgent ∧ s.endSweep.cbt.phase = s.cbt.phase ∧ s.endSweep.cbt.cable = s.cbt.cable := by
  obtain ⟨hc, -⟩ := (counted_spec s).2.1
  unfold State.endSweep
  have hbegun (t : State) (h : t.cbt = { s.cbt with results := t.cbt.results, probe := t.cbt.probe }) :
      (t.onCbt Cbt.beginSweep).cbt.period = s.cbt.period ∧ (t.onCbt Cbt.beginSweep).cbt.urgent = s.cbt.urgent ∧
        (t.onCbt Cbt.beginSweep).cbt.phase = s.cbt.phase ∧ (t.onCbt Cbt.beginSweep).cbt.cable = s.cbt.cable := by
    have hp : t.cbt.period = s.cbt.period := by rw [h]
    have hu : t.cbt.urgent = s.cbt.urgent := by rw [h]
    have hph : t.cbt.phase = s.cbt.phase := by rw [h]
    have hca : t.cbt.cable = s.cbt.cable := by rw [h]
    exact ⟨hp, hu, hph, hca⟩
  refine ⟨rfl, rfl, rfl, rfl, rfl, ?_⟩
  split
  · exact hbegun s rfl
  · exact hbegun _ hc

theorem endSweep_seq : s.endSweep.seq = s.seq := by
  have hone (t : State) (e : PEnt) : (t.countEntry e).seq = t.seq := by
    unfold State.countEntry State.countStarved
    dsimp only
    split
    · rfl
    · split
      · rfl
      · split
        · rfl
        · rfl
  unfold State.endSweep
  split
  · rfl
  · have hall : (s.forAll State.countEntry).seq = s.seq := Frames.forAll_keeps State.seq hone s
    generalize s.forAll State.countEntry = t at hall ⊢
    exact hall

theorem starvedAfter_spared (h : s.probeUsed e = false ∨ (s.result e).done = true) : starvedAfter s e = (s.result e).starved := by
  refine if_pos ?_
  rcases h with h | h
  · rw [h]; rfl
  · rw [h]; exact Bool.or_true _

theorem starvedAfter_counted (hu : s.probeUsed e = true) (hd : (s.result e).done = false)
    (hw : (s.cbt.phase ≠ .closing ∧ s.cbt.phase ≠ .measuring) ∨ s.cbt.probe.map (·.entry) ≠ some e) :
    starvedAfter s e = min 255 ((s.result e).starved + 1) := by
  unfold starvedAfter
  rw [if_neg (by rw [hu, hd]; decide), if_neg]
  intro h
  rw [Bool.and_eq_true, beq_iff_eq] at h
  obtain ⟨hwork, hprobe⟩ := h
  rcases hw with ⟨h1, h2⟩ | h3
  · cases hp : s.cbt.phase with
    | closing => exact h1 hp
    | measuring => exact h2 hp
    | idle | releasing => rw [hp] at hwork; exact absurd hwork (by decide)
  · exact h3 hprobe

/-! ### The classification, at its step (R142) -/

theorem exec_classify {q : BitVec 16} (hp : s.cbt.probe = some run) (hk : (s.probeRec run.entry).kind = some kind)
    (hm : s.cbt.phase = .measuring) (ht : kind.measuring ≤ s.cbt.phaseTime) :
    exec (.probeClassify q) s = .next (State.finish s (s.classifyProbe run kind q.toNat)) := by
  have hdue : s.measuringDue = true := by
    unfold State.measuringDue
    rw [hm, hp]
    simp only [Option.bind_some, hk]
    rw [decide_eq_true ht]
    rfl
  show Host.Outcome.next (match s.cbt.probe with
    | some run =>
      match (s.probeRec run.entry).kind with
      | some k => if s.measuringDue then State.finish s (s.classifyProbe run k q.toNat) else s
      | none => s
    | none => s) = _
  simp only [hp, hk, hdue, if_true]

/-- The step of a classification: what is noted, what the result does, and the end. -/
def Classifies (s : State) (run : ProbeRun) (res : ProbeResult) (m : Nat) (n a t : State) : Prop :=
  n = noted s run res (s.crossAfter (s.probeRec run.entry) res) m ∧
    a = n.actOnResult (s.probeRec run.entry) res (s.result run.entry).cross (s.crossAfter (s.probeRec run.entry) res) ∧
    t = State.finish s (a.answerProbe run.origin res (some m)) ∧ EndsWith s (a.answerProbe run.origin res (some m)) t ∧
    a.cbt = n.cbt ∧ ∃ l, a.lnk.output = s.lnk.output ++ l

theorem actOnResult_loop (h : p.kind = some .loop) : s.actOnResult p res old new = s.loopResult p.subject res := by
  unfold State.actOnResult; simp only [h]
theorem actOnResult_insulation (h : p.kind = some .insulation) : s.actOnResult p res old new = s.leakResult p.subject res := by
  unfold State.actOnResult; simp only [h]
theorem actOnResult_coupling (h : p.kind = some .coupling) :
    s.actOnResult p res old new = s.crossResult p.subject res old new := by
  unfold State.actOnResult; simp only [h]

theorem exec_classifies {q : BitVec 16} (hb : s.betweenSteps) (hp : s.cbt.probe = some run)
    (hk : (s.probeRec run.entry).kind = some kind) (hm : s.cbt.phase = .measuring) (ht : kind.measuring ≤ s.cbt.phaseTime)
    (hres : res = classify kind q.toNat (s.probeRec run.entry).limit (s.result run.entry).failures) :
    ∃ n a t, exec (.probeClassify q) s = .next t ∧ Classifies s run res q.toNat n a t := by
  have hexec := exec_classify hp hk hm ht (q := q)
  rw [classifyProbe_eq kind q.toNat hres] at hexec
  refine ⟨_, _, _, hexec, rfl, rfl, rfl, ?_⟩
  cases kind with
  | loop =>
    obtain ⟨h1, h2, h3, -⟩ := acted_loop (o := run.origin) hb rfl (actOnResult_loop hk)
    exact ⟨h1, h2, h3⟩
  | insulation =>
    rw [actOnResult_insulation hk]
    obtain ⟨h1, h2, h3, -⟩ := acted_quietly (o := run.origin) hb rfl (acts_leakResult (res := res) _)
    exact ⟨h1, h2, h3⟩
  | coupling =>
    rw [actOnResult_coupling hk]
    by_cases hd : res ≠ .fault ∨ s.crossAfter (s.probeRec run.entry) res ≠ .dangerous
    · obtain ⟨h1, h2, h3, -⟩ := acted_quietly (o := run.origin) hb rfl (acts_crossResult hd)
      exact ⟨h1, h2, h3⟩
    · obtain ⟨hf, hx⟩ := not_or.mp hd
      rw [not_not] at hf hx
      subst hf
      rw [hx]
      obtain ⟨h1, h2, h3, -⟩ := acted_dangerous (o := run.origin) hb rfl crossResult_dangerous
      exact ⟨h1, h2, h3⟩

theorem classified_record (h : Classifies s run res m n a t) :
    Noted s run res (s.crossAfter (s.probeRec run.entry) res) m t.cbt ∧
      ∀ tag, run.origin = .request tag → State.answers s t tag 0x42#8 .ok ∧ t.flt.pendingSet.probeDone = true := by
  obtain ⟨hn, -, -, hends, hcbt, hout⟩ := h
  obtain ⟨h1, h2⟩ := ended_classified hcbt hout hends
  refine ⟨?_, h2⟩
  rw [h1, hn]
  exact (noted_spec s run res _ m).1

/-! ### The choice, by what can start -/

theorem chooseProbe_urgent {a b : List PEnt} (hu : s.cbt.urgent = a ++ e :: b) (ha : ∀ x ∈ a, s.canStart x = false)
    (he : s.canStart e = true) :
    s.chooseProbe.cbt.phase = .closing ∧ s.chooseProbe.cbt.phaseTime = 0 ∧ s.chooseProbe.cbt.probe = some ⟨e, .urgent, false⟩ ∧
      s.chooseProbe.cbt.urgent = a ++ b ∧ s.chooseProbe.cbt.walk = s.cbt.walk ∧
      (s.chooseProbe.chan (s.probeRec e).subject).testBus = .drive := by
  have hnot : e ∉ a := fun h => absurd (he.symm.trans (ha e h)) (by decide)
  obtain ⟨hcbt, hbus, -⟩ := startProbe_spec (chosen s) e .urgent
  rw [chooses_urgent hu ha he, hcbt]
  exact ⟨rfl, rfl, rfl, (congrArg (fun l => l.erase e) hu).trans (erase_first hnot), rfl, hbus⟩

theorem chooseProbe_walk (hu : ∀ x ∈ s.cbt.urgent, s.canStart x = false) (hw : s.cbt.walk = e.val + 1)
    (hdone : (s.result e).done = false) (hd : e ∉ s.cbt.deferred) (he : s.canStart e = true) :
    s.chooseProbe.cbt.phase = .closing ∧ s.chooseProbe.cbt.phaseTime = 0 ∧ s.chooseProbe.cbt.probe = some ⟨e, .sweep, false⟩ ∧
      s.chooseProbe.cbt.walk = e.val + 2 ∧ (s.chooseProbe.chan (s.probeRec e).subject).testBus = .drive := by
  have hwalk : (chosen s).walkFrom 64 (chosen s).cbt.walk (chosen s).cbt.deferred = (s.cbt.deferred, e.val + 2, some e) := by
    rw [walkFrom_chosen]
    show s.walkFrom 64 s.cbt.walk s.cbt.deferred = _
    rw [hw]
    exact walkFrom_here hdone hd he
  obtain ⟨hcbt, hbus, -⟩ := startProbe_spec (walked (chosen s) s.cbt.deferred (e.val + 2)) e .sweep
  rw [chooses_walk hu, walkOn_starts hwalk, hcbt]
  exact ⟨rfl, rfl, rfl, rfl, hbus⟩

theorem chooseProbe_deferred {a b : List PEnt} (hu : ∀ x ∈ s.cbt.urgent, s.canStart x = false) (hw : s.cbt.walk = 65)
    (hd : s.cbt.deferred = a ++ e :: b) (ha : ∀ x ∈ a, s.canStart x = false) (he : s.canStart e = true) :
    s.chooseProbe.cbt.phase = .closing ∧ s.chooseProbe.cbt.phaseTime = 0 ∧ s.chooseProbe.cbt.probe = some ⟨e, .sweep, false⟩ ∧
      s.chooseProbe.cbt.deferred = a ++ b ∧ s.chooseProbe.cbt.walk = 65 ∧
      (s.chooseProbe.chan (s.probeRec e).subject).testBus = .drive := by
  have hnot : e ∉ a := fun h => absurd (he.symm.trans (ha e h)) (by decide)
  have hwalk : (chosen s).walkFrom 64 (chosen s).cbt.walk (chosen s).cbt.deferred = (s.cbt.deferred, 65, none) := by
    show (chosen s).walkFrom 64 s.cbt.walk s.cbt.deferred = _
    rw [hw]
    exact walkFrom_past
  have hfind : s.cbt.deferred.find? (chosen s).canStart = some e := by
    show s.cbt.deferred.find? s.canStart = some e
    rw [hd, find_first ha he]
  obtain ⟨hcbt, hbus, -⟩ := startProbe_spec (walked (chosen s) s.cbt.deferred 65) e .sweep
  rw [chooses_walk hu, walkOn_ends hwalk, hfind]
  show ((walked (chosen s) s.cbt.deferred 65).startProbe e .sweep).cbt.phase = _ ∧ _
  rw [hcbt]
  exact ⟨rfl, rfl, rfl, (congrArg (fun l => l.erase e) hd).trans (erase_first hnot), rfl, hbus⟩

theorem chooseProbe_none (h : ∀ e, s.canStart e = false) (hw : 1 ≤ s.cbt.walk) :
    s.chooseProbe.cbt.phase = s.cbt.phase ∧ s.chooseProbe.cbt.probe = s.cbt.probe ∧ s.chooseProbe.out = s.out ∧
      ∀ e : PEnt, s.probeUsed e = true → (s.result e).done = false → s.cbt.walk ≤ e.val + 1 → e ∈ s.chooseProbe.cbt.deferred := by
  obtain ⟨h1, -, h3⟩ := walkFrom_defers h hw (fuel := 64) (d := s.cbt.deferred) (by omega)
  obtain ⟨⟨d, n, o⟩, hr⟩ : ∃ r, s.walkFrom 64 s.cbt.walk s.cbt.deferred = r := ⟨_, rfl⟩
  rw [hr] at h1 h3
  dsimp only at h1 h3
  subst h1
  have hwalk : (chosen s).walkFrom 64 (chosen s).cbt.walk (chosen s).cbt.deferred = (d, n, none) :=
    (walkFrom_chosen _ _ _).trans hr
  have hfind : d.find? (chosen s).canStart = none :=
    List.find?_eq_none.mpr fun x _ => by rw [canStart_chosen, h x]; decide
  rw [chooses_walk fun x _ => h x, walkOn_ends hwalk, hfind]
  exact ⟨rfl, rfl, rfl, h3⟩

theorem exec_closingEnd (hp : s.cbt.phase = .closing) (ht : 10 ≤ s.cbt.phaseTime) :
    exec .probeClosingEnd s = .next { s with cbt := { s.cbt with phase := .measuring, phaseTime := 0 } } := by
  have hdue : s.closingDue = true := by
    unfold State.closingDue
    rw [hp, decide_eq_true ht]
    rfl
  show Host.Outcome.next (if s.closingDue then s.onCbt fun b => { b with phase := .measuring, phaseTime := 0 } else s) = _
  rw [if_pos hdue]
  rfl

theorem working_of (h : s.cbt.phase = .closing ∨ s.cbt.phase = .measuring) : s.cbt.phase.working = true := by
  rcases h with h | h <;> rw [h] <;> rfl

/-! ### What a classification leaves, by the kind of its entry -/

theorem standing_pass_iff : res.standing = .pass ↔ res = .pass ∨ res = .passMarginal := by
  cases res <;> simp [ProbeResult.standing]

/-- A LOOP or an INSULATION result leaves the cabinet alone (R145, R146). -/
theorem classified_cabinet (hb : s.betweenSteps) (hk : (s.probeRec run.entry).kind = some kind) (h : Classifies s run res m n a t)
    (hc : kind ≠ .coupling) : t.sup.mode = s.sup.mode ∧ t.cfg = s.cfg ∧ t.clk = s.clk ∧ t.det = s.det ∧
      (kind = .insulation ∨ s.redAmberSettled → t.out = s.out) := by
  obtain ⟨hn, ha, ht, -⟩ := h
  cases kind with
  | coupling => exact absurd rfl hc
  | loop =>
    obtain ⟨-, -, -, hrest⟩ := acted_loop (o := run.origin) hb hn (ha.trans (actOnResult_loop hk))
    obtain ⟨h1, h2, h3, h4, h5⟩ := hrest t ht
    exact ⟨h1, h2, h3, h4, fun h => (h5 (h.resolve_left nofun)).1⟩
  | insulation =>
    have hacts : Acts (fun _ => True) crossParts n a := by rw [ha, actOnResult_insulation hk]; exact acts_leakResult _
    obtain ⟨-, -, -, hrest⟩ := acted_quietly (o := run.origin) hb hn hacts
    obtain ⟨h1, h2, h3, h4, h5, -⟩ := hrest t ht
    exact ⟨by rw [h2], h3, h4, h5, fun _ => h1⟩

/-- A coupling result that is no dangerous fault: what it leaves alone, and its table. -/
theorem classified_coupling (hb : s.betweenSteps) (hk : (s.probeRec run.entry).kind = some .coupling)
    (h : Classifies s run res m n a t) (hd : res ≠ .fault ∨ s.crossAfter (s.probeRec run.entry) res ≠ .dangerous) :
    t.sup.mode = s.sup.mode ∧ t.out = s.out ∧ t.flt.entries = (n.crossResult (s.probeRec run.entry).subject res
      (s.result run.entry).cross (s.crossAfter (s.probeRec run.entry) res)).flt.entries := by
  obtain ⟨hn, ha, ht, -⟩ := h
  rw [actOnResult_coupling hk] at ha
  have hacts : Acts (fun _ => True) crossParts n a := by rw [ha]; exact acts_crossResult hd
  obtain ⟨-, -, -, hrest⟩ := acted_quietly (o := run.origin) hb hn hacts
  obtain ⟨h1, h2, -, -, -, h6⟩ := hrest t ht
  exact ⟨by rw [h2], h1, by rw [h6, ha]⟩

/-- A coupling that no longer fails clears the entry that no other coupling of its channel upholds (R147). -/
theorem classified_clears {cross : CrossClass} {k' : FaultKind} (hb : s.betweenSteps)
    (hk : (s.probeRec run.entry).kind = some .coupling) (hs : (s.probeRec run.entry).subject = c)
    (h : Classifies s run res m n a t) (hr : res ≠ .fault) (habandoned : res ≠ .abandoned)
    (hold : (s.result run.entry).cross = cross) (hkind : cross.kind = some k')
    (hothers : ∀ e, e ≠ run.entry → (s.probeRec e).kind = some .coupling → (s.probeRec e).subject = c →
      ¬((s.result e).standing = .fault ∧ (s.result e).cross = cross)) :
    ∀ f ∈ t.flt.entries, f.kind = k' → f.subject = .channel c → f.active = false := by
  obtain ⟨-, -, hentries⟩ := classified_coupling hb hk h (.inl hr)
  obtain ⟨hn, -⟩ := h
  obtain ⟨⟨-, -, hself, hother, -⟩, b, hstate⟩ := noted_spec s run res (s.crossAfter (s.probeRec run.entry) res) m
  rw [← hn] at hself hother hstate
  have hrec (e : PEnt) : n.probeRec e = s.probeRec e := by rw [hstate]; rfl
  rw [hentries, hs]
  refine crossResult_clears hr (by rw [hold]; exact hkind) ?_
  rw [hold]
  refine crossStands_false (run := run) ?_ fun e he hk' hc => ?_
  · show (n.cbt.results.get run.entry).standing ≠ .fault
    rw [hself]
    show res.standing ≠ .fault
    cases res with
    | fault => exact absurd rfl hr
    | abandoned => exact absurd rfl habandoned
    | pass | passMarginal | suspect => nofun
  · rw [hrec] at hk' hc
    have hres : n.result e = s.result e := hother e he
    rw [hres]
    exact hothers e he hk' hc

/-- A nuisance coupling reports its entry, ADVISORY. -/
theorem classified_nuisance (hb : s.betweenSteps) (hk : (s.probeRec run.entry).kind = some .coupling)
    (hs : (s.probeRec run.entry).subject = c) (h : Classifies s run .fault m n a t)
    (hx : s.crossAfter (s.probeRec run.entry) .fault = .nuisance) :
    t.sup.mode = s.sup.mode ∧ t.out = s.out ∧ (s.flt.entries.length < 64 → ∃ f ∈ t.flt.entries,
      f.kind = .crossNuisance ∧ f.subject = .channel c ∧ f.active = true ∧ f.safety = false) := by
  obtain ⟨h1, h2, h3⟩ := classified_coupling hb hk h (.inr (by rw [hx]; nofun))
  have hlen := (noted_frame (s := s) (run := run) (res := .fault) (new := s.crossAfter (s.probeRec run.entry) .fault) (m := m)).2.2.2.2.2
  rw [← h.1] at hlen
  refine ⟨h1, h2, fun hl => ?_⟩
  obtain ⟨e, he, e1, e2, e3, -, e4, -⟩ := Laws.report_active n.flt .crossNuisance (.channel c) false n.stamp (by rw [hlen]; exact hl)
  rw [h3, hx, hs, crossResult_fault (new := .nuisance) (k' := .crossNuisance) rfl nofun]
  exact ⟨e, he, e1, e2, e3, e4⟩

theorem classified_dangerous (hb : s.betweenSteps) (hk : (s.probeRec run.entry).kind = some .coupling)
    (hs : (s.probeRec run.entry).subject = c) (h : Classifies s run .fault m n a t)
    (hx : s.crossAfter (s.probeRec run.entry) .fault = .dangerous) :
    t.sup.latched = true ∧
      (s.waitingSupply = false → t.sup.mode = .dark ∧
        t.sup.reason = (if s.sup.mode = .dark ∧ s.sup.latched = true then s.sup.reason else some .cross) ∧
        (s.sup.mode ≠ .dark → t.out.contactor.driven = false)) ∧
      (s.flt.entries.length < 64 →
        ∃ f ∈ t.flt.entries, f.kind = .crossDangerous ∧ f.subject = .channel c ∧ f.active = true ∧ f.safety = true) := by
  obtain ⟨hn, ha, ht, -⟩ := h
  rw [actOnResult_coupling hk, hs, hx, crossResult_dangerous] at ha
  exact (acted_dangerous (o := run.origin) hb hn ha).2.2.2 t ht

theorem classified_loop (hb : s.betweenSteps) (hk : (s.probeRec run.entry).kind = some .loop) (h : Classifies s run res m n a t)
    (hs : s.redAmberSettled) (hv : (s.lamp (s.probeRec run.entry).subject).verdict ≠ .held) :
    (res = .fault → (s.lamp (s.probeRec run.entry).subject).verdict ≠ .failed →
      (t.lamp (s.probeRec run.entry).subject).verdict = .circuitOpen ∧
        (t.lamp (s.probeRec run.entry).subject).healthy = some 0) ∧
    ((res = .pass ∨ res = .passMarginal) → (s.lamp (s.probeRec run.entry).subject).verdict = .circuitOpen →
      (t.lamp (s.probeRec run.entry).subject).verdict = .unknown ∧
        (t.lamp (s.probeRec run.entry).subject).healthy = none) := by
  obtain ⟨hn, ha, ht, -⟩ := h
  rw [actOnResult_loop hk] at ha
  have hlmp := (((acted_loop (o := run.origin) hb hn ha).2.2.2 t ht).2.2.2.2 hs).2
  have hnoted := (noted_frame (s := s) (run := run) (res := res) (new := s.crossAfter (s.probeRec run.entry) res) (m := m)).2.2.2.1
  rw [← hn] at hnoted
  have ht' (c : Ch) : t.lamp c = a.lamp c := by unfold State.lamp; rw [hlmp]
  have hn' (c : Ch) : n.lamp c = s.lamp c := by unfold State.lamp; rw [hnoted]
  rw [ht', ha, ← hn']
  exact loopResult_spec (by rw [hn']; exact hv)

theorem classified_leak (hb : s.betweenSteps) (hk : (s.probeRec run.entry).kind = some .insulation)
    (h : Classifies s run .fault m n a t) (hl : s.flt.entries.length < 64) :
    ∃ f ∈ t.flt.entries, f.kind = .earthLeak ∧ f.subject = .channel (s.probeRec run.entry).subject ∧ f.active = true := by
  obtain ⟨hn, ha, ht, -⟩ := h
  rw [actOnResult_insulation hk] at ha
  have hacts : Acts (fun _ => True) crossParts n a := by rw [ha]; exact acts_leakResult _
  obtain ⟨-, -, -, -, -, hentries⟩ := (acted_quietly (o := run.origin) hb hn hacts).2.2.2 t ht
  have hlen := (noted_frame (s := s) (run := run) (res := .fault) (new := s.crossAfter (s.probeRec run.entry) .fault) (m := m)).2.2.2.2.2
  rw [← hn] at hlen
  rw [hentries, ha]
  exact leakResult_entry (by rw [hlen]; exact hl)

end Probes

open Acts Ending Relays Probes

/-- Settles O58. Each step of the tester in its cases: the request of a leak, the choice, the phases, the classification with
what its result does, the early end, the release and the end of a sweep. -/
theorem probesRunAndSweepsEnd : Obligations.ProbesRunAndSweepsEnd := by
  unfold Obligations.ProbesRunAndSweepsEnd
  intro s hb
  refine ⟨fun c e hl ha hk hc hfirst => ?_, fun hch hp hi => ?_, fun hp ht => ?_, ?_, ?_, fun hp ht => ?_, sweepEnd_next, fun q hp ht hn hq => ?_⟩
  · rw [exec_leakRequest hb hl ha (insulationEntry_eq hk hc hfirst)]
    show Host.Outcome.next { s with lmp := _, cbt := s.cbt.takeUrgent e } = _
    rw [takeUrgent_eq]
    rfl
  · obtain ⟨k1, k2, k3, k4, k5, k6, k7, k8, k9, k10, k11, k12, k13⟩ := choiceKeeps_chooseProbe (s := s)
    refine ⟨_, exec_probeStart hb hch hp hi, k1, k2, k3, k6, k7, k8, k9, k10, k5, k11, k4, k12, fun c => ?_,
      fun a e b hu ha he => chooseProbe_urgent hu ha he, fun e hu hw hdone hd he => chooseProbe_walk hu hw hdone hd he,
      fun a e b hu hw hd ha he => chooseProbe_deferred hu hw hd ha he, fun h hw => ?_⟩
    · obtain ⟨b, hc⟩ := k13 c
      rw [hc]
      exact ⟨rfl, rfl, rfl⟩
    · obtain ⟨h1, h2⟩ := chooseProbe_none h hw
      exact ⟨h1.trans hi, h2⟩
  · exact exec_closingEnd hp ht
  · rintro run k m x res hp hk hph hlim rfl hres
    have hclass : res = classify k m.toNat (s.probeRec run.entry).limit (s.result run.entry).failures :=
      hres.trans (classify_eq _ _ _ _).symm
    have habandoned : res ≠ .abandoned := hclass ▸ classify_ne_abandoned _ _ _ _
    obtain ⟨n, a, t, hexec, hcl⟩ := exec_classifies hb hp hk hph (by cases k <;> exact hlim) hclass
    obtain ⟨⟨r1, r2, hself, hother, r5, hcable⟩, hanswer⟩ := classified_record hcl
    have hself : t.result run.entry = _ := hself
    refine ⟨t, hexec, r1, r2, ?_, ?_, ?_, ?_, ?_, ?_, ?_, hother, hanswer, fun hc => classified_cabinet hb hk hcl hc, r5, ?_,
      fun hr => ?_, ?_, ?_, ?_⟩
    · rw [hself]; rfl
    · rw [hself]; rfl
    · rw [hself]; rfl
    · rw [hself]; rfl
    · rw [hself]
      exact if_congr standing_pass_iff rfl rfl
    · rw [hself]; exact standing_eq habandoned
    · rw [hself]
      show ((s.result run.entry).done || s.cbt.period.isSome) = true ↔ _
      rw [Bool.or_eq_true, Option.isSome_iff_ne_none]
    · rintro c hc _ rfl
      obtain ⟨c1, c2⟩ := cableStateOf_spec (s.onCbt fun _ => t.cbt) c
      have hstate := hcable c hc
      refine ⟨fun e he hf => hstate.trans (c1 e he hf), fun hno => ⟨fun h => hstate.trans ((c2 hno).1 h), fun hni =>
        ⟨fun h => hstate.trans (((c2 hno).2 hni).1 h), ?_⟩⟩⟩
      rintro hnl _ rfl
      obtain ⟨d1, d2, d3⟩ := ((c2 hno).2 hni).2 hnl
      exact ⟨fun h => hstate.trans (d1 h), fun h h' => hstate.trans (d2 h h'), fun h h' => hstate.trans (d3 h h')⟩
    · rw [hself]; exact crossAfter_none hr
    · rintro rfl c y hs hy
      refine ⟨?_, fun hr => ?_⟩
      · rintro rfl dangerous hd
        have hx := crossAfter_fault (s := s) hk hs hy (res := .fault) rfl
        obtain ⟨x1, x2⟩ := crossClassOf_cases s c y
        refine ⟨fun h => ?_, fun h => ?_⟩
        · have hnew := hx.trans (x1 (hd.mp h))
          exact ⟨by rw [hself]; exact hnew, classified_dangerous hb hk hs hcl hnew⟩
        · have hnew := hx.trans (x2 fun h' => h (hd.mpr h'))
          exact ⟨by rw [hself]; exact hnew, classified_nuisance hb hk hs hcl hnew⟩
      · obtain ⟨h1, h2, -⟩ := classified_coupling hb hk hcl (.inl hr)
        refine ⟨h1, h2, fun cross kind hold hck hothers => ?_⟩
        refine classified_clears hb hk hs hcl hr habandoned hold ?_ hothers
        rcases hck with ⟨rfl, rfl⟩ | ⟨rfl, rfl⟩ <;> rfl
    · rintro rfl hs hv
      exact classified_loop hb hk hcl hs hv
    · rintro rfl rfl hl
      exact classified_leak hb hk hcl hl
  · rintro run hp hph _ rfl
    exact ⟨fun c hbus => fullOnBus_ends hb hp (working_of hph) hbus,
      fun c tag body h hbus hl hlen hop hm => maintUpdate_ends h hp (working_of hph) hbus hl hlen hop hm⟩
  · obtain ⟨h1, h2, h3, h4, -⟩ := openBus_spec (G := fun _ => True) s
    obtain ⟨k1, k2, k3, k4, -, k6, -, k8, -⟩ := openBus_keeps s
    refine ⟨_, exec_releaseEnd hb hp ht, ?_⟩
    simp only [closeAdditions_cbt, closeAdditions_chan, closeAdditions_group, closeAdditions_sup, closeAdditions_cfg,
      closeAdditions_clk, closeAdditions_sch, closeAdditions_det]
    rw [h1]
    exact ⟨rfl, rfl, rfl, rfl, rfl, h2, h3, h4, k8, k6, k1, k2, k3, k4⟩
  · obtain ⟨h1, h2, h3, h4, h5, h6, h7, h8, h9⟩ := endSweep_cbt (s := s)
    have hacts : Acts (fun _ => True) [.cbt, .flt, .starved] s s.endSweep := acts_endSweep
    refine ⟨_, exec_sweepEnd hb hp ht hn hq, ?_⟩
    simp only [closeAdditions_cbt, closeAdditions_result, closeAdditions_out, closeAdditions_lmp, closeAdditions_seq,
      closeAdditions_sup, closeAdditions_cfg, closeAdditions_clk, closeAdditions_sch, closeAdditions_det, endSweep_result]
    refine ⟨h1, h2, h3, h4, h6.trans hp, h7, h8, h9, fun e => ⟨trivial, trivial, trivial, trivial⟩, h5, fun e he => ?_, fun e hu huse hd hw => ?_,
      hacts.out_eq, hacts.lmp_eq, endSweep_seq, hacts.sup_eq, hacts.cfg_eq, hacts.clk_eq, hacts.sch_eq, hacts.det_eq⟩
    · by_cases hu : s.cbt.uncounted = true
      · exact if_pos hu
      · rw [if_neg hu]
        exact starvedAfter_spared (he.resolve_left hu)
    · rw [if_neg (by rw [hu]; decide)]
      exact starvedAfter_counted huse hd hw

end Sys2Proof.Machine
end

section
/-! SUPPORT. An evaluation of the Day Schedule and what it delivers (R62, R82, R83, R85, R163, R167). -/

namespace Sys2Proof.Machine

set_option Elab.async false

namespace Deliver

open Acts Ending Modes Parked Causes Relays

variable {G : Gid → Prop} {K : List Part} {s t u v : State}

/-! ### The steps of an evaluation (R82, R83) -/

/-- The selection recorded, and PLAN_UNDEFINED judged. -/
def judged (s : State) : State :=
  (s.onSch fun h =>
    { h with action := some s.select.action, source := some s.select.source, governing := s.select.governing }).judgePlan
    s.select.replaced (s.sch.action != some s.select.action)

/-- A changed action announced. -/
def announced (s : State) : State := (judged s).addEvents PendingSet.ofPlanChange

theorem acts_judged : Acts G selectParts s (judged s) := (one (.sch _ (by decide))).trans (acts_judgePlan _ _).up

theorem acts_announced : Acts G selectParts s (announced s) := acts_judged.trans (of_edits (edits_addEvents _)).up

/-- The plan that a changed action selects reaches the Plan Runner, after the end of a scheduled FLASH. -/
def handed (s : State) (p : Pln) : State :=
  (if s.sch.action = some .flash then (announced s).scheduledFlashEnd else announced s).deliverPlan p

theorem evaluate_same (h : s.sch.action = some s.select.action) : s.evaluate = judged s := by
  show (if s.sch.action = some s.select.action then judged s else _) = _
  exact if_pos h

theorem evaluate_flash (h : s.sch.action ≠ some s.select.action) (hf : s.select.action = .flash) :
    s.evaluate = (announced s).scheduledFlashStart := by
  show (if s.sch.action = some s.select.action then judged s else (judged s).deliver s.sch.action s.select.action) = _
  rw [if_neg h, hf]
  rfl

theorem evaluate_plan {p : Pln} (h : s.sch.action ≠ some s.select.action) (hp : s.select.action = .plan p) :
    s.evaluate = handed s p := by
  show (if s.sch.action = some s.select.action then judged s else (judged s).deliver s.sch.action s.select.action) = _
  rw [if_neg h, hp]
  rfl

/-! ### PLAN_UNDEFINED (R82 step 5) -/

theorem replaced_judged (h : s.select.replaced = true) (hl : (judged s).flt.entries.length < 64) :
    ∃ e ∈ (judged s).flt.entries, e.kind = .planUndefined ∧ e.subject = .nothing ∧ e.active = true := by
  have hroom : s.flt.entries.length < 64 := (acts_judged (G := fun _ => True)).entries_length_le.trans_lt hl
  obtain ⟨e, he, hk, hx, ha, -⟩ :=
    Laws.report_active s.flt .planUndefined .nothing FaultKind.planUndefined.listedSafety s.stamp hroom
  refine ⟨e, ?_, hk, hx, ha⟩
  unfold judged State.judgePlan
  rw [if_pos h]
  exact he

theorem defined_judged (hr : s.select.replaced = false) (hc : s.sch.action ≠ some s.select.action) {e : FaultEntry}
    (he : e ∈ (judged s).flt.entries) (hk : e.kind = .planUndefined) (hx : e.subject = .nothing) : e.active = false := by
  unfold judged State.judgePlan at he
  rw [if_neg (ne_true_of_eq_false hr), if_pos (bne_iff_ne.mpr hc)] at he
  exact Laws.clear_inactive s.flt _ _ _ he hk hx

/-! ### The start of a scheduled FLASH (R85, R163) -/

/-- A FLASH selected here takes the cabinet on its way to FLASH. -/
def starting (s : State) : Prop :=
  s.waitingSupply = false ∧
    (s.sup.mode = .normal ∨ s.sup.mode = .startupFlash ∨ s.sup.mode = .startupRed ∧ ∀ r, s.sup.flashNext ≠ some (r, true))

/-- What it leaves of the cabinet that it meets. -/
def flashing (s t : State) : Prop :=
  t.sup.mode = (if s.sup.mode = .normal then .clearing else .flash) ∧ t.sup.reason = some .hostRequest ∧
    t.sup.latched = false ∧ t.seq.active = none ∧ t.seq.pendingPlan = none ∧ t.sup.saved = s.sup.saved ∧
    t.sup.supplyPresent = s.sup.supplyPresent

theorem flashing_clearing (hm : s.sup.mode = .normal) : flashing s (s.enterClearing .hostRequest false) := by
  have h := core_enterClearing (s := s) .hostRequest false
  refine ⟨(core_field Sup.mode h).trans (if_pos hm).symm, core_field Sup.reason h, core_field Sup.latched h, rfl, rfl,
    (core_field Sup.saved h).trans rfl, (core_field Sup.supplyPresent h).trans rfl⟩

theorem flashing_flash (hm : s.sup.mode ≠ .normal) : flashing s (s.enterFlash (some .hostRequest) false) := by
  have h := core_enterFlash (s := s) (some .hostRequest) false
  obtain ⟨fm, fr, fl, fs, fp, -⟩ := toFlash_fields s.cabinet.attempts (some .hostRequest) false s.sup
  exact ⟨((core_field Sup.mode h).trans fm).trans (if_neg hm).symm, (core_field Sup.reason h).trans fr,
    (core_field Sup.latched h).trans fl, rfl, rfl, (core_field Sup.saved h).trans fs,
    (core_field Sup.supplyPresent h).trans fp⟩

theorem scheduledFlashStart_starting (h : starting s) : flashing s s.scheduledFlashStart := by
  obtain ⟨hw, hm⟩ := h
  unfold State.scheduledFlashStart
  rw [takeCause_unlatchedFlash _ hw]
  rcases hm with hm | hm | ⟨hm, hn⟩
  · have heq : s.takeUnlatchedFlash .hostRequest = s.enterClearing .hostRequest false := by
      unfold State.takeUnlatchedFlash; simp [hm]
    rw [heq]; exact flashing_clearing hm
  · have heq : s.takeUnlatchedFlash .hostRequest = s.enterFlash (some .hostRequest) false := by
      unfold State.takeUnlatchedFlash; simp [hm]
    rw [heq]; exact flashing_flash (by rw [hm]; decide)
  · have hwaits : ¬s.sup.latchedWaits = true := fun hl => by
      obtain ⟨-, r, hr⟩ := (latchedWaits_iff _).mp hl
      exact hn r hr
    have heq : s.takeUnlatchedFlash .hostRequest = s.enterFlash (some .hostRequest) false := by
      unfold State.takeUnlatchedFlash; simp [hm, hwaits]
    rw [heq]; exact flashing_flash (by rw [hm]; decide)

/-- The exit of the check after the start of a scheduled FLASH. -/
def flashExit (e : CheckExit) : CheckExit := if e = .startupFlash then .flash (some .hostRequest) false else e

theorem onSup_congr {f g : Sup → Sup} (h : f s.sup = g s.sup) : s.onSup f = s.onSup g := by
  show { s with sup := f s.sup } = { s with sup := g s.sup }
  rw [h]

theorem scheduledFlashStart_check (hw : s.waitingSupply = false) (hm : s.sup.mode = .startupCheck) :
    s.scheduledFlashStart = s.onSup fun u => { u with exit := flashExit u.exit } := by
  unfold State.scheduledFlashStart
  rw [takeCause_unlatchedFlash _ hw]
  unfold State.takeUnlatchedFlash
  simp only [hm]
  cases he : s.sup.exit with
  | startupFlash =>
    refine (onSup_congr (f := fun u => { u with exit := .flash (some .hostRequest) false }) ?_ :
      (s.onSup fun u => { u with exit := .flash (some .hostRequest) false }) = _)
    rw [he]
    rfl
  | flash r l =>
    refine (onSup_congr (f := fun u => u) ?_ : s.onSup (fun u => u) = _)
    rw [he, show flashExit (.flash r l) = .flash r l from rfl, ← he]

theorem scheduledFlashStart_stays (hs : ¬starting s) (hc : s.waitingSupply = true ∨ s.sup.mode ≠ .startupCheck) :
    s.scheduledFlashStart = s := by
  unfold State.scheduledFlashStart State.takeCause
  cases hw : s.waitingSupply with
  | true => rfl
  | false =>
    have hmode := hc.resolve_left (ne_true_of_eq_false hw)
    rw [if_neg (by decide)]
    show s.takeUnlatchedFlash .hostRequest = s
    unfold State.takeUnlatchedFlash
    cases hm : s.sup.mode with
    | startupCheck => exact absurd hm hmode
    | normal => exact absurd ⟨hw, .inl hm⟩ hs
    | startupFlash => exact absurd ⟨hw, .inr (.inl hm)⟩ hs
    | startupRed =>
      have hwaits : s.sup.latchedWaits = true := by
        rw [latchedWaits_iff]
        refine ⟨hm, ?_⟩
        by_contra hn
        exact hs ⟨hw, .inr (.inr ⟨hm, fun r hr => hn ⟨r, hr⟩⟩)⟩
      simp [hwaits]
    | unconfigured | clearing | flash | dark => rfl

/-! ### The end of a scheduled FLASH (R167) -/

/-- The cabinet stands in a scheduled FLASH, or on its way to it. -/
def scheduled (s : State) : Prop :=
  s.waitingSupply = false ∧ (s.sup.mode = .flash ∨ s.sup.mode = .clearing) ∧ s.sup.reason = some .hostRequest ∧
    s.sup.latched = false

theorem scheduledFlashEnd_scheduled (h : scheduled s) : s.scheduledFlashEnd = s.enterStartupCheck s.scheduledExit := by
  obtain ⟨hw, hm, hr, hl⟩ := h
  unfold State.scheduledFlashEnd
  rw [if_neg (ne_true_of_eq_false hw)]
  rcases hm with hm | hm <;> simp only [hm] <;> exact if_pos ⟨hr, hl⟩

/-- The state saved by a supply loss, or the exit of the check, after the end of a scheduled FLASH. -/
def flashEnded (waiting : Bool) (u : Sup) : Sup :=
  if waiting then
    { u with saved := if u.saved = some (.flash (some .hostRequest) false) then some .startup else u.saved }
  else if u.mode = .startupCheck then
    { u with exit := if u.exit = .flash (some .hostRequest) false then .startupFlash else u.exit }
  else u

theorem scheduledFlashEnd_else (h : ¬scheduled s) : s.scheduledFlashEnd = s.onSup (flashEnded s.waitingSupply) := by
  have hself : s.onSup (fun u => u) = s := rfl
  unfold State.scheduledFlashEnd
  cases hw : s.waitingSupply with
  | true =>
    rw [if_pos rfl]
    by_cases hs : s.sup.saved = some (.flash (some .hostRequest) false)
    · rw [if_pos hs]
      unfold State.onSup flashEnded
      rw [if_pos rfl, if_pos hs]
    · rw [if_neg hs]
      unfold State.onSup flashEnded
      rw [if_pos rfl, if_neg hs]
  | false =>
    rw [if_neg (by decide)]
    have hplain (hm : s.sup.mode ≠ .startupCheck) : s = s.onSup (flashEnded false) := by
      unfold State.onSup flashEnded
      rw [if_neg (by decide), if_neg hm]
    have hnot (hm : s.sup.mode = .flash ∨ s.sup.mode = .clearing) :
        ¬(s.sup.reason = some .hostRequest ∧ s.sup.latched = false) := fun hc => h ⟨hw, hm, hc⟩
    cases hm : s.sup.mode with
    | flash => exact (if_neg (hnot (.inl hm))).trans (hplain (by rw [hm]; decide))
    | clearing => exact (if_neg (hnot (.inr hm))).trans (hplain (by rw [hm]; decide))
    | startupCheck =>
      by_cases he : s.sup.exit = .flash (some .hostRequest) false
      · refine (if_pos he).trans ?_
        unfold State.onSup flashEnded
        rw [if_neg (by decide), if_pos hm, if_pos he]
      · refine (if_neg he).trans ?_
        unfold State.onSup flashEnded
        rw [if_neg (by decide), if_pos hm, if_neg he]
    | unconfigured | startupFlash | startupRed | normal | dark => exact hplain (by rw [hm]; decide)

/-! ### The check that the end enters -/

/-- STARTUP_CHECK, or the DARK of a hard fault that a completed close finds. -/
def checking (s : State) : Prop := s.sup.mode = .startupCheck ∨ s.sup.mode = .dark

theorem checking_of_sup (h : t.sup = s.sup) (hs : checking s) : checking t := by unfold checking; rw [h]; exact hs

theorem checking_of_acts (h : Acts G K s t) (hs : checking s) (hK : Part.mode ∉ K := by decide) : checking t := by
  unfold checking; rw [h.modes_eq hK]; exact hs

theorem checking_hardFault (r : Reason) (hs : checking s) : checking (s.hardFault r) := by
  unfold State.hardFault
  cases hw : s.waitingSupply with
  | true =>
    rw [takeCause_of_waiting _ r hw]
    unfold checking
    rw [sup_waiting_latchedDark]
    exact hs
  | false =>
    rw [takeCause_latchedDark _ _ hw]
    exact .inr (latchedDark_spec r fun _ => rfl).1

theorem checking_reproofFinding (c : Ch) (was : ChanRun) (hs : checking s) : checking (s.reproofFinding c was) := by
  by_cases hb : was.indication = .full ∧ was.drive = .off
  · obtain ⟨hi, hd⟩ := hb
    rw [(reproofFinding_backFed (s := s) (c := c) hi hd).1]
    have hfound (b : Bool) : checking (found s c (backFault was) (backKind was) b) :=
      checking_of_acts (acts_found (G := fun _ => True) (kind_backFault was) b) hs
    cases hr : s.hardReason c (backFault was) with
    | none => rw [findRelayFault_advisory (kind_backFault was) hr]; exact hfound false
    | some r => rw [findRelayFault_hard (kind_backFault was) hr]; exact checking_hardFault r (hfound true)
  · refine checking_of_acts (reproofFinding_sound (G := fun _ => True) (s := s) (c := c) (was := was) ?_).2.2.2 hs
    by_cases hi : was.indication = .full
    · exact .inr fun hd => hb ⟨hi, hd⟩
    · exact .inl hi

theorem checking_reproveAll (hs : checking s) : checking s.reproveAll := by
  unfold State.reproveAll
  dsimp only
  refine Frames.forAll_invariant (P := checking) (fun t c ht => checking_reproofFinding c _ ht) ?_
  refine Frames.forAll_invariant (P := checking) (fun t c ht => ?_) hs
  exact checking_of_acts (of_edits (G := fun _ => True)
    (edits_putChan c (coilOk_reproved (t.settings c).pullIn) (reproved_command _ _) (reproved_opCount _ _))) ht

theorem checking_completeClose (hs : checking s) : checking s.completeClose := by
  unfold State.completeClose
  dsimp only
  split
  · split <;> exact hs
  · refine checking_reproveAll ?_
    split <;> exact hs

theorem checking_closeContactor (hs : checking s) : checking s.closeContactor := by
  unfold State.closeContactor
  dsimp only
  split
  · exact hs
  · split
    · exact checking_completeClose hs
    · exact hs

theorem checking_enterStartupCheck (e : CheckExit) : checking (s.enterStartupCheck e) := by
  rw [enterStartupCheck_dimmed]
  exact checking_closeContactor (.inl (core_field Sup.mode (core_dimmed (toCheck e) id)))

end Deliver

end Sys2Proof.Machine
end

section
/-! SUPPORT. What an evaluation has delivered once the actions after it are over (R62, R82, R83, R85, R163, R167). -/

namespace Sys2Proof.Machine

set_option Elab.async false

namespace Deliver

open Acts Ending Modes Parked Causes Relays

variable {G : Gid → Prop} {K : List Part} {s e t u v : State}

/-! ### What a delivery may write -/

theorem acts_deliveries : Acts G cabinet (judged e) e.evaluate := by
  have hannounce : Acts G cabinet (judged e) (announced e) := by
    unfold announced
    exact (of_edits (edits_addEvents _)).up
  by_cases h : e.sch.action = some e.select.action
  · rw [evaluate_same h]; exact refl _
  · cases hsel : e.select.action with
    | flash => rw [evaluate_flash h hsel]; exact hannounce.trans acts_scheduledFlashStart
    | plan p =>
      rw [evaluate_plan h hsel]
      exact Acts.trans (either (fun _ => hannounce.trans acts_scheduledFlashEnd) fun _ => hannounce) (acts_deliverPlan p).up

theorem planChange_announced : (announced e).flt.pendingSet.planChange = true := Bool.or_true _

theorem planChange_grows (h : Acts G K s t) (hK : Part.table ∉ K := by decide) (hs : s.flt.pendingSet.planChange = true) :
    t.flt.pendingSet.planChange = true :=
  (PendingSet.bits_of_union (h.pendingSet_grows hK)).2.1 hs

theorem planChange_evaluate (h : e.sch.action ≠ some e.select.action) : e.evaluate.flt.pendingSet.planChange = true := by
  cases hsel : e.select.action with
  | flash =>
    rw [evaluate_flash h hsel]
    exact planChange_grows (acts_scheduledFlashStart (G := fun _ => True)) (by decide) planChange_announced
  | plan p =>
    rw [evaluate_plan h hsel]
    refine planChange_grows (acts_deliverPlan (G := fun _ => True) p) (by decide) ?_
    split
    · exact planChange_grows (acts_scheduledFlashEnd (G := fun _ => True)) (by decide) planChange_announced
    · exact planChange_announced

/-! ### A delivered plan -/

theorem sup_deliverPlan (p : Pln) : (s.deliverPlan p).sup = s.sup := by unfold State.deliverPlan; split <;> rfl

theorem sup_announced : (announced e).sup = e.sup := (acts_announced (G := fun _ => True)).sup_eq
theorem seq_announced : (announced e).seq = e.seq := by
  unfold announced judged State.judgePlan
  split
  · rfl
  · split <;> rfl

theorem waitingSupply_announced : (announced e).waitingSupply = e.waitingSupply :=
  waitingSupply_of_acts (acts_announced (G := fun _ => True))

theorem scheduled_announced : scheduled (announced e) ↔ scheduled e := by
  unfold scheduled; rw [waitingSupply_announced, sup_announced]

theorem starting_announced : starting (announced e) ↔ starting e := by
  unfold starting; rw [waitingSupply_announced, sup_announced]

/-- A plan delivered with no scheduled FLASH before it. -/
theorem sup_handed_plain {p : Pln} (h : e.sch.action ≠ some .flash) : (handed e p).sup = e.sup := by
  unfold handed
  rw [sup_deliverPlan, if_neg h, sup_announced]

/-- A plan delivered where the end of a scheduled FLASH meets none. -/
theorem sup_handed_ended {p : Pln} (h : e.sch.action = some .flash) (hn : ¬scheduled e) :
    (handed e p).sup = flashEnded e.waitingSupply e.sup := by
  unfold handed
  rw [sup_deliverPlan, if_pos h, scheduledFlashEnd_else (mt scheduled_announced.mp hn), waitingSupply_announced]
  show flashEnded _ (announced e).sup = _
  rw [sup_announced]

/-- A plan delivered where it ends a scheduled FLASH. -/
theorem handed_scheduled {p : Pln} (h : e.sch.action = some .flash) (hs : scheduled e) :
    handed e p = (announced e).enterStartupCheck (announced e).scheduledExit := by
  unfold handed
  rw [if_pos h, scheduledFlashEnd_scheduled (scheduled_announced.mpr hs)]
  refine deliverPlan_stays p fun hm => ?_
  have hc := checking_enterStartupCheck (s := announced e) (announced e).scheduledExit
  unfold checking at hc
  rw [hm] at hc
  exact absurd hc (by decide)

theorem flashEnded_fields (w : Bool) (u : Sup) :
    (flashEnded w u).mode = u.mode ∧ (flashEnded w u).reason = u.reason ∧ (flashEnded w u).latched = u.latched ∧
      (flashEnded w u).flashNext = u.flashNext ∧ (flashEnded w u).supplyPresent = u.supplyPresent := by
  unfold flashEnded
  split
  · exact ⟨rfl, rfl, rfl, rfl, rfl⟩
  · split <;> exact ⟨rfl, rfl, rfl, rfl, rfl⟩

/-- A plan delivered in NORMAL is pending, or clears the pending plan where it is the active one. -/
theorem handed_normal {p : Pln} (hm : e.sup.mode = .normal) :
    (handed e p).sup.mode = .normal ∧ (handed e p).seq.pendingPlan = (if e.seq.active = some p then none else some p) := by
  have hns : ¬scheduled (announced e) := by
    unfold scheduled
    rw [sup_announced, hm]
    exact fun h => absurd h.2.1 (by decide)
  obtain ⟨w, hw⟩ : ∃ w, w = if e.sch.action = some .flash then (announced e).scheduledFlashEnd else announced e := ⟨_, rfl⟩
  have hwn : w.sup.mode = .normal ∧ w.seq = e.seq := by
    rw [hw]
    split
    · rw [scheduledFlashEnd_else hns]
      refine ⟨?_, seq_announced⟩
      show (flashEnded _ (announced e).sup).mode = _
      rw [(flashEnded_fields _ _).1, sup_announced, hm]
    · exact ⟨by rw [sup_announced, hm], seq_announced⟩
  have hd : handed e p = w.onSeq fun q => { q with pendingPlan := if q.active = some p then none else some p } := by
    unfold handed State.deliverPlan
    rw [← hw]
    exact if_pos hwn.1
  rw [hd]
  refine ⟨hwn.1, ?_⟩
  show (if w.seq.active = some p then none else some p) = _
  rw [hwn.2]

/-! ### The actions after an evaluation -/

/-- What the delivery reads of a state is as in another. -/
structure Alike (s e : State) : Prop where
  action : e.sch.action = s.sch.action
  mode : e.sup.mode = s.sup.mode
  reason : e.sup.reason = s.sup.reason
  latched : e.sup.latched = s.sup.latched
  exit : e.sup.exit = s.sup.exit
  saved : e.sup.saved = s.sup.saved
  flashNext : e.sup.flashNext = s.sup.flashNext
  present : e.sup.supplyPresent = s.sup.supplyPresent
  active : e.seq.active = s.seq.active
  pendingPlan : e.seq.pendingPlan = s.seq.pendingPlan
  cfg : e.cfg = s.cfg
  contactor : e.out.contactor = s.out.contactor

/-- From an evaluation to the end of the step what it delivered stands; where a FLASH waits in STARTUP_RED, that may have
been entered. -/
structure Echo (u t : State) : Prop where
  length : u.flt.entries.length ≤ t.flt.entries.length
  kept : ∀ x ∈ u.flt.entries, x.kind = .planUndefined → t.flt.entries.length < 64 → x ∈ t.flt.entries
  old : ∀ x ∈ t.flt.entries, x.kind = .planUndefined → x ∈ u.flt.entries
  planChange : u.flt.pendingSet.planChange = true → t.flt.pendingSet.planChange = true
  saved : t.sup.saved = u.sup.saved
  stands : u.sup.flashNext = none ∨ u.sup.mode ≠ .startupRed →
    t.sup.mode = u.sup.mode ∧ t.sup.reason = u.sup.reason ∧ t.sup.latched = u.sup.latched ∧ t.sup.exit = u.sup.exit ∧
      t.seq.pendingPlan = u.seq.pendingPlan ∧ t.seq.active = u.seq.active ∧
      t.out.contactor.closeCommand = u.out.contactor.closeCommand ∧ ∀ g, (t.group g).colour = (u.group g).colour

theorem waitingSupply_alike (h : Alike s e) : e.waitingSupply = s.waitingSupply :=
  waitingSupply_of_kept h.saved h.present

theorem starting_alike (h : Alike s e) : starting e ↔ starting s := by
  unfold starting; rw [waitingSupply_alike h, h.mode, h.flashNext]

theorem flashStarts_iff {sel : Selection} :
    s.flashStarts sel ↔ sel.action = .flash ∧ s.sch.action ≠ some .flash ∧ starting s := Iff.rfl

theorem flashStarts_alike {sel : Selection} (h : Alike s e) : e.flashStarts sel ↔ s.flashStarts sel := by
  rw [flashStarts_iff, flashStarts_iff, starting_alike h, h.action]

theorem delivers_alike {sel : Selection} (h : Alike s e) (hd : e.delivers t sel) : s.delivers t sel := by
  have hk : e.kind = s.kind := by funext g; unfold State.kind State.groupRec; rw [h.cfg]
  have hl : e.closesLater = s.closesLater := by unfold State.closesLater; rw [h.contactor]
  unfold State.delivers at hd ⊢
  rw [flashStarts_alike h, waitingSupply_alike h, hk, hl, h.action, h.mode, h.reason, h.latched, h.exit, h.saved, h.flashNext,
    h.active, h.pendingPlan] at hd
  exact hd

/-! ### What has been delivered -/

theorem undefined_of_echo (ht : Echo e.evaluate t) (hr : e.select.replaced = true) (hl : t.flt.entries.length < 64) :
    ∃ x ∈ t.flt.entries, x.kind = .planUndefined ∧ x.subject = .nothing ∧ x.active = true := by
  have hacts : Acts (fun _ => True) cabinet (judged e) e.evaluate := acts_deliveries
  have hu := ht.length.trans_lt hl
  obtain ⟨x, hx, hk, hs, ha⟩ := replaced_judged hr (hacts.entries_length_le.trans_lt hu)
  exact ⟨x, ht.kept x (hacts.entry_kept hx hu (by rw [hk]; decide)) hk hl, hk, hs, ha⟩

theorem defined_of_echo (ht : Echo e.evaluate t) (hr : e.select.replaced = false)
    (hc : e.sch.action ≠ some e.select.action) {x : FaultEntry} (hx : x ∈ t.flt.entries) (hk : x.kind = .planUndefined)
    (hs : x.subject = .nothing) : x.active = false := by
  have hacts : Acts (fun _ => True) cabinet (judged e) e.evaluate := acts_deliveries
  exact defined_judged hr hc (hacts.entry_old (ht.old x hx hk) (by rw [hk]; decide)) hk hs

/-- What a delivered plan does with the cabinet (R62, R167). -/
theorem plan_of_echo {p : Pln} (hc : e.sch.action ≠ some e.select.action) (hp : e.select.action = .plan p)
    (ht : Echo e.evaluate t) :
    (e.sup.mode = .normal → t.sup.mode = .normal ∧
        t.seq.pendingPlan = (if e.seq.active = some p then none else some p)) ∧
      (e.sch.action ≠ some .flash → e.sup.flashNext = none →
        t.sup.mode = e.sup.mode ∧ t.sup.exit = e.sup.exit ∧ t.sup.saved = e.sup.saved) ∧
      (e.sch.action = some .flash →
        (e.waitingSupply = true → t.sup.saved =
          (if e.sup.saved = some (.flash (some .hostRequest) false) then some .startup else e.sup.saved)) ∧
        (e.waitingSupply = false → (e.sup.mode = .flash ∨ e.sup.mode = .clearing) →
          (e.sup.reason = some .hostRequest → e.sup.latched = false → e.closesLater →
            t.sup.mode = .startupCheck ∧ t.sup.exit = .startupFlash ∧ t.out.contactor.closeCommand = true ∧
              ∀ g, e.kind g ≠ none → (t.group g).colour = .darkAll) ∧
          (e.sup.reason ≠ some .hostRequest ∨ e.sup.latched = true →
            t.sup.mode = e.sup.mode ∧ t.sup.reason = e.sup.reason ∧ t.sup.latched = e.sup.latched)) ∧
        (e.waitingSupply = false → e.sup.mode = .startupCheck → t.sup.mode = .startupCheck ∧
          t.sup.exit = (if e.sup.exit = .flash (some .hostRequest) false then .startupFlash else e.sup.exit))) := by
  rw [evaluate_plan hc hp] at ht
  refine ⟨fun hm => ?_, fun hf hn => ?_, fun hf => ⟨fun hw => ?_, fun hw hm => ⟨fun hr hl hlater => ?_, fun hno => ?_⟩,
    fun hw hm => ?_⟩⟩
  · obtain ⟨hmode, hpend⟩ := handed_normal (p := p) hm
    obtain ⟨h1, -, -, -, h5, -⟩ := ht.stands (.inr (by rw [hmode]; decide))
    exact ⟨h1.trans hmode, h5.trans hpend⟩
  · have hsup := sup_handed_plain (p := p) hf
    obtain ⟨h1, -, -, h4, -⟩ := ht.stands (.inl (by rw [hsup]; exact hn))
    exact ⟨by rw [h1, hsup], by rw [h4, hsup], by rw [ht.saved, hsup]⟩
  · have hns : ¬scheduled e := fun h => absurd (hw.symm.trans h.1) nofun
    rw [ht.saved, sup_handed_ended hf hns, hw]
    rfl
  · have hs : scheduled e := ⟨hw, hm, hr, hl⟩
    have hout := (acts_announced (G := fun _ => True) (s := e)).out_eq
    have hlater' : (announced e).closesLater := closesLater_of_out hout hlater
    have hnew : (announced e).scheduledExit = .startupFlash := by
      refine (scheduledExit_eq (s := announced e)).trans (if_neg ?_)
      have hsch : (announced e).sch.action = some e.select.action := by
        unfold announced judged State.judgePlan; split
        · rfl
        · split <;> rfl
      rw [hsch, hp]
      exact nofun
    rw [handed_scheduled hf hs, hnew] at ht
    obtain ⟨hm1, -, -, -, hex, -⟩ := sup_enterStartupCheck (s := announced e) .startupFlash hlater'
    obtain ⟨h1, -, -, h4, -, -, h7, h8⟩ := ht.stands (.inr (by rw [hm1]; decide))
    refine ⟨h1.trans hm1, h4.trans hex, ?_, fun g hg => ?_⟩
    · rw [h7, contactor_enterStartupCheck .startupFlash hlater']
      exact closing_closeCommand _ _
    · rw [h8]
      refine colour_enterStartupCheck .startupFlash hlater' ?_
      unfold State.kind State.groupRec
      rw [(acts_announced (G := fun _ => True)).cfg_eq]
      exact hg
  · have hns : ¬scheduled e := fun h => hno.elim (fun hr => hr h.2.2.1) fun hl => absurd (hl.symm.trans h.2.2.2) nofun
    have hsup := sup_handed_ended (p := p) hf hns
    obtain ⟨fm, fr, fl, -⟩ := flashEnded_fields e.waitingSupply e.sup
    rw [← hsup] at fm fr fl
    obtain ⟨h1, h2, h3, -⟩ := ht.stands (.inr (by rw [fm]; rcases hm with hm | hm <;> rw [hm] <;> decide))
    exact ⟨h1.trans fm, h2.trans fr, h3.trans fl⟩
  · have hns : ¬scheduled e := fun h => absurd h.2.1 (by rw [hm]; decide)
    have hsup := sup_handed_ended (p := p) hf hns
    have hsup' : (handed e p).sup =
        { e.sup with exit := if e.sup.exit = .flash (some .hostRequest) false then .startupFlash else e.sup.exit } := by
      rw [hsup, hw]
      unfold flashEnded
      rw [if_neg (by decide), if_pos hm]
    obtain ⟨h1, -, -, h4, -⟩ := ht.stands (.inr (by rw [hsup']; show e.sup.mode ≠ _; rw [hm]; decide))
    exact ⟨by rw [h1, hsup']; exact hm, by rw [h4, hsup']⟩

/-- What a selected FLASH does with the cabinet (R85, R163). -/
theorem flash_of_echo (hc : e.sch.action ≠ some e.select.action) (hf : e.select.action = .flash)
    (ht : Echo e.evaluate t) :
    (e.flashStarts e.select → t.sup.reason = some .hostRequest ∧ t.sup.latched = false ∧ t.seq.pendingPlan = none ∧
        t.seq.active = none ∧ t.sup.mode = (if e.sup.mode = .normal then .clearing else .flash)) ∧
      (e.waitingSupply = false → e.sup.mode = .startupCheck → t.sup.mode = .startupCheck ∧
        t.sup.exit = (if e.sup.exit = .startupFlash then .flash (some .hostRequest) false else e.sup.exit)) ∧
      (e.waitingSupply = true ∨ e.sup.mode = .clearing ∨ e.sup.mode = .flash ∨ e.sup.mode = .dark →
        e.sup.flashNext = none →
        t.sup.mode = e.sup.mode ∧ t.sup.reason = e.sup.reason ∧ t.sup.latched = e.sup.latched ∧
          t.sup.saved = e.sup.saved) := by
  rw [evaluate_flash hc hf] at ht
  refine ⟨fun hs => ?_, fun hw hm => ?_, fun hst hn => ?_⟩
  · obtain ⟨fm, fr, fl, fa, fp, -⟩ := scheduledFlashStart_starting (starting_announced.mpr hs.2.2)
    rw [sup_announced] at fm
    obtain ⟨h1, h2, h3, -, h5, h6, -⟩ := ht.stands (.inr (by rw [fm]; split <;> decide))
    exact ⟨h2.trans fr, h3.trans fl, h5.trans fp, h6.trans fa, h1.trans fm⟩
  · have heq := scheduledFlashStart_check (s := announced e) (waitingSupply_announced.trans hw) (by rw [sup_announced, hm])
    rw [heq] at ht
    obtain ⟨h1, -, -, h4, -⟩ := ht.stands (.inr (by show (announced e).sup.mode ≠ _; rw [sup_announced, hm]; decide))
    refine ⟨h1.trans (by show (announced e).sup.mode = _; rw [sup_announced, hm]), h4.trans ?_⟩
    show flashExit (announced e).sup.exit = _
    rw [sup_announced]
    rfl
  · have hns : ¬starting e := by
      rintro ⟨hw, hm⟩
      rcases hst with h | h | h | h
      · exact absurd (h.symm.trans hw) nofun
      all_goals rw [h] at hm; exact absurd hm (by simp)
    have hcheck : e.waitingSupply = true ∨ e.sup.mode ≠ .startupCheck :=
      hst.imp id fun h => by rcases h with h | h | h <;> rw [h] <;> decide
    have heq := scheduledFlashStart_stays (mt starting_announced.mp hns)
      (by rw [waitingSupply_announced, sup_announced]; exact hcheck)
    rw [heq] at ht
    obtain ⟨h1, h2, h3, -⟩ := ht.stands (.inl (by rw [sup_announced]; exact hn))
    exact ⟨by rw [h1, sup_announced], by rw [h2, sup_announced], by rw [h3, sup_announced], by rw [ht.saved, sup_announced]⟩

/-- What an evaluation has delivered at the end of its step. -/
theorem delivers_evaluate (ht : Echo e.evaluate t) : e.delivers t e.select := by
  refine ⟨undefined_of_echo ht, fun h hn => ?_, fun h => ⟨ht.planChange (planChange_evaluate h), fun hr x => defined_of_echo ht hr h,
    fun p hp => plan_of_echo h hp ht, fun hf => flash_of_echo h hf ht⟩⟩
  have hsup : (judged e).sup = e.sup := (acts_judged (G := fun _ => True)).sup_eq
  rw [evaluate_same h] at ht
  obtain ⟨h1, -, -, h4, h5, -⟩ := ht.stands (.inl (by rw [hsup]; exact hn))
  refine ⟨h5.trans ?_, by rw [h1, hsup], by rw [h4, hsup], by rw [ht.saved, hsup]⟩
  exact congrArg Seq.pendingPlan (show (announced e).seq = _ from seq_announced)

end Deliver

end Sys2Proof.Machine
end

section
/-! SUPPORT. A commit judges the wear of every channel (R110) and brings an evaluation (R64, R84, R190). -/

namespace Sys2Proof.Machine

set_option Elab.async false

namespace Commits

open Acts Ending Modes Parked Causes Relays Deliver

variable {G : Gid → Prop} {K : List Part} {s t u v : State} {c d : Ch} {f : Flt} {k : FaultKind} {x : Subject} {e : FaultEntry}

/-! ### Entries of another key -/

theorem old_of_report {b : Bool} {now : Stamp} (he : e ∈ (f.report k x b now).entries) (h : e.subject ≠ x) : e ∈ f.entries := by
  by_cases hknown : ∃ e ∈ f.entries, e.kind = k ∧ e.subject = x
  · rw [FaultTable.report_of_known hknown] at he
    obtain ⟨o, ho, heq⟩ := List.mem_map.mp he
    by_cases hk : o.hasKey k x = true
    · rw [if_pos hk] at heq
      have hx : o.subject = x := (FaultTable.hasKey_iff.mp hk).2
      exact absurd (by rw [← heq]; exact hx) h
    · rw [if_neg hk] at heq; exact heq ▸ ho
  · have hnew : ∀ e ∈ f.entries, ¬(e.kind = k ∧ e.subject = x) := fun e he hk => hknown ⟨e, he, hk⟩
    have hfresh {l : List FaultEntry} (hl : ∀ o ∈ l, o ∈ f.entries) (hm : e ∈ l ++ [FaultEntry.fresh k x b now]) :
        e ∈ f.entries := by
      rcases List.mem_append.mp hm with hm | hm
      · exact hl e hm
      · exact absurd (by rw [List.mem_singleton.mp hm]; rfl) h
    rcases lt_or_ge f.entries.length 64 with hroom | hfull
    · rw [FaultTable.report_of_room hnew hroom] at he; exact hfresh (fun _ h => h) he
    · cases hi : evictee f.entries b with
      | none => rw [FaultTable.report_of_overflow hnew hfull hi] at he; exact he
      | some i => rw [FaultTable.report_of_evictee hnew hfull hi] at he; exact hfresh (fun _ h => List.mem_of_mem_eraseIdx h) he

theorem old_of_clear (he : e ∈ (f.clear k x).entries) (h : e.subject ≠ x) : e ∈ f.entries := by
  unfold Flt.clear at he
  split at he
  · obtain ⟨o, ho, heq⟩ := List.mem_map.mp he
    by_cases hk : o.hasKey k x = true
    · rw [if_pos hk] at heq
      exact absurd (by rw [← heq]; exact (FaultTable.hasKey_iff.mp hk).2) h
    · rw [if_neg hk] at heq; exact heq ▸ ho
  · exact he

/-! ### The wear of one channel (R110) -/

/-- RELAY_WEAR stands for a channel exactly where its operation count has reached its threshold, but for a full table. -/
def wornAt (t : State) (c : Ch) : Prop :=
  ∀ worn : Prop, worn = (0 < (t.settings c).wear ∧ (t.settings c).wear ≤ (t.chan c).opCount) →
    (worn → t.flt.entries.length < 64 →
      ∃ e ∈ t.flt.entries, e.kind = .relayWear ∧ e.subject = .channel c ∧ e.active = true) ∧
    (¬worn → ∀ e ∈ t.flt.entries, e.kind = .relayWear → e.subject = .channel c → e.active = false)

theorem wearJudged_iff : t.wearJudged ↔ ∀ c, wornAt t c := Iff.rfl

theorem wornAt_of_kept (hs : wornAt s c) (hcfg : t.cfg = s.cfg) (hops : opsOf t = opsOf s)
    (hl : s.flt.entries.length ≤ t.flt.entries.length)
    (he : ∀ e, e.kind = .relayWear → e.subject = .channel c →
      (e ∈ s.flt.entries → t.flt.entries.length < 64 → e ∈ t.flt.entries) ∧ (e ∈ t.flt.entries → e ∈ s.flt.entries)) :
    wornAt t c := by
  intro worn hworn
  have hcount : (t.chan c).opCount = (s.chan c).opCount := congrFun hops c
  rw [settings_of_cfg hcfg, hcount] at hworn
  obtain ⟨hyes, hno⟩ := hs worn hworn
  refine ⟨fun hw hroom => ?_, fun hw e hm hk hx => hno hw e ((he e hk hx).2 hm) hk hx⟩
  obtain ⟨e, hm, hk, hx, ha⟩ := hyes hw (hl.trans_lt hroom)
  exact ⟨e, (he e hk hx).1 hm hroom, hk, hx, ha⟩

/-- Actions that write neither the counts, the wear nor the settings leave a judged wear standing. -/
theorem wornAt_unworn (h : Acts G K s t) (hs : wornAt s c) (hcfg : t.cfg = s.cfg)
    (hK : Part.wear ∉ K ∧ Part.table ∉ K := by decide) : wornAt t c := by
  obtain ⟨hw, ht⟩ := hK
  refine wornAt_of_kept hs hcfg ((law_ops hw).acts h rfl) (h.entries_length_le ht) fun e hk _ => ?_
  have hpart : e.kind.part ∉ K := by rw [hk]; exact hw
  exact ⟨fun hm hl => h.entry_kept hm hl hpart ht, fun hm => h.entry_old hm hpart ht⟩

theorem parts_judgeWear (c : Ch) : (s.judgeWear c).cfg = s.cfg ∧ (s.judgeWear c).out = s.out ∧
    s.flt.entries.length ≤ (s.judgeWear c).flt.entries.length := by
  have h := acts_judgeWear (G := fun _ => True) (s := s) c
  exact ⟨h.cfg_eq, h.out_eq, h.entries_length_le⟩

theorem judgeWear_of_worn (h : 0 < (s.settings c).wear ∧ (s.settings c).wear ≤ (s.chan c).opCount) :
    s.judgeWear c = if s.flt.isActive .relayWear (.channel c) then s else s.report .relayWear (.channel c) := if_pos h

theorem judgeWear_of_unworn (h : ¬(0 < (s.settings c).wear ∧ (s.settings c).wear ≤ (s.chan c).opCount)) :
    s.judgeWear c = s.clearFault .relayWear (.channel c) := if_neg h

theorem wornAt_judgeWear_self : wornAt (s.judgeWear c) c := by
  obtain ⟨hcfg, hout, hlen⟩ := parts_judgeWear (s := s) c
  have hcount : ((s.judgeWear c).chan c).opCount = (s.chan c).opCount := by unfold State.chan; rw [hout]
  intro worn hworn
  rw [settings_of_cfg hcfg, hcount] at hworn
  refine ⟨fun hw hroom => ?_, fun hw e he hk hx => ?_⟩
  · rw [hworn] at hw
    have hroom' := hlen.trans_lt hroom
    rw [judgeWear_of_worn hw] at hroom ⊢
    split
    · next ha =>
      obtain ⟨e, he, hk, ha⟩ := FaultTable.isActive_iff.mp ha
      exact ⟨e, he, hk.1, hk.2, ha⟩
    · obtain ⟨e, he, hk, hx, ha, -⟩ :=
        Laws.report_active s.flt .relayWear (.channel c) FaultKind.relayWear.listedSafety s.stamp hroom'
      exact ⟨e, he, hk, hx, ha⟩
  · rw [hworn] at hw
    rw [judgeWear_of_unworn hw] at he
    exact Laws.clear_inactive s.flt _ _ e he hk hx

theorem wornAt_judgeWear (h : wornAt s c) : wornAt (s.judgeWear d) c := by
  by_cases hcd : c = d
  · subst hcd; exact wornAt_judgeWear_self
  · obtain ⟨hcfg, hout, hlen⟩ := parts_judgeWear (s := s) d
    refine wornAt_of_kept h hcfg (by unfold opsOf State.chan; rw [hout]) hlen fun e _ hx => ?_
    have hsub : e.subject ≠ .channel d := fun h => hcd (Subject.channel.inj (hx.symm.trans h))
    by_cases hw : 0 < (s.settings d).wear ∧ (s.settings d).wear ≤ (s.chan d).opCount
    · rw [judgeWear_of_worn hw] at hlen ⊢
      split
      · exact ⟨fun h _ => h, id⟩
      · next hna =>
        rw [if_neg hna] at hlen
        exact ⟨fun hm hl => (spares_report s.flt .relayWear FaultKind.relayWear.listedSafety s.stamp).2 e hm hsub
          (.inl (hlen.trans_lt hl)), fun hm => old_of_report hm hsub⟩
    · rw [judgeWear_of_unworn hw]
      exact ⟨fun hm _ => mem_clear_elsewhere hm hsub, fun hm => old_of_clear hm hsub⟩

/-! ### The wear at a commit -/

/-- A channel follows its settings (R118, R110). -/
def follow (before t : State) (c : Ch) : State := (t.compareSettings before c).judgeWear c

theorem wornAt_follow {before : State} (h : wornAt t c) : wornAt (follow before t d) c :=
  wornAt_judgeWear (wornAt_unworn (acts_compareSettings (G := fun _ => True) before d) h
    (acts_compareSettings (G := fun _ => True) before d).cfg_eq)

theorem wornAt_foldl {before : State} (l : List Ch) (t : State) (h : c ∈ l ∨ wornAt t c) :
    wornAt (l.foldl (follow before) t) c := by
  induction l generalizing t with
  | nil => exact h.resolve_left List.not_mem_nil
  | cons a l ih =>
    refine ih _ ?_
    rcases h with h | h
    · rcases List.mem_cons.mp h with h | h
      · exact .inr (h ▸ wornAt_judgeWear_self)
      · exact .inl h
    · exact .inr (wornAt_follow h)

theorem wearJudged_follow {before : State} : (t.forAll (follow before)).wearJudged :=
  fun c => wornAt_foldl _ _ (.inl (List.mem_finRange c))

/-- What the blocks retake after the channels' settings. -/
abbrev afterWear : List Part := [.demand, .seq, .sup, .flt, .grace] ++ verdictParts

/-- What every block does with the records leaves the wear judged. -/
theorem wearJudged_retakeTiming (before : State) : (s.retakeTiming before).wearJudged := by
  obtain ⟨a, ha⟩ : ∃ a, a = s.copyClockSettings.forAll fun (t : State) (d : Det) => t.compareInput before d := ⟨_, rfl⟩
  obtain ⟨b, hb⟩ : ∃ b, b = a.forAll (follow before) := ⟨_, rfl⟩
  have heq : s.retakeTiming before =
      ((((((State.refreshStanding before b).evalAllRedHealth).dropUndefinedTargets.retakeRecovery before).retakeGraces
        before).retakeAttention before).refreshGrace).holdGap := by
    rw [hb, ha]; rfl
  have hsup {t : State} : Acts (fun _ => True) afterWear t ((t.retakeRecovery before).retakeGraces before) :=
    (acts_sup _ rfl rfl rfl).up.trans (acts_sup _ rfl rfl rfl).up
  have hrest : Acts (fun _ => True) afterWear b (s.retakeTiming before) := by
    rw [heq]
    exact Acts.trans (Acts.trans (Acts.trans (Acts.trans (Acts.trans (Acts.trans (of_edits (edits_refreshStanding _)).up
      (of_edits edits_evalAllRedHealth).up) acts_dropUndefinedTargets.up) hsup) (acts_retakeAttention _).up)
      (of_edits (.one (.grace (K := [.grace]) (by decide)))).up) acts_holdGap.up
  refine wearJudged_unworn hrest ?_ (by decide) hrest.cfg_eq
  rw [hb]
  exact wearJudged_follow

/-- The time that a clock keeps, field by field. -/
theorem timed_fields {a b : Clk} (h : a.timed = b.timed) :
    a.date = b.date ∧ a.tod = b.tod ∧ a.valid = b.valid ∧ a.trim = b.trim ∧ a.interval = b.interval ∧
      a.pattern = b.pattern ∧ a.secs = b.secs ∧ a.pendingSet = b.pendingSet ∧ a.setTags = b.setTags ∧
      a.sinceCrossing = b.sinceCrossing ∧ a.divider = b.divider := by
  have field {α : Type} (p : Clk → α) := congrArg p h
  exact ⟨field Clk.date, field Clk.tod, field Clk.valid, field Clk.trim, field Clk.interval, field Clk.pattern,
    field Clk.secs, field Clk.pendingSet, field Clk.setTags, field Clk.sinceCrossing, field Clk.divider⟩

/-! ### The evaluation on the records in force (R64, R84) -/

theorem sch_reevaluate (hm : s.sup.mode ≠ .unconfigured) : s.reevaluate.sch =
    { s.sch with action := some s.select.action, source := some s.select.source, governing := s.select.governing } :=
  (congrArg State.sch (if_neg hm)).trans (Laws.evaluate_spec s).2.2.2.2.2

/-- The force that the records leave standing. -/
def stillForced (s : State) : Option Pln := if s.forceUndefined then none else s.sch.forced

theorem sch_scheduleAtCommit (hm : s.sup.mode ≠ .unconfigured) {sel : Selection}
    (hsel : sel = s.cfg.running.tm.select (stillForced s) s.clk.valid s.clk.date s.clk.tod) :
    s.scheduleAtCommit.sch = ⟨some sel.action, some sel.source, sel.governing, stillForced s⟩ := by
  unfold State.scheduleAtCommit
  unfold stillForced at hsel ⊢
  by_cases hf : s.forceUndefined = true
  · rw [if_pos hf] at hsel ⊢
    rw [if_pos hf, hsel]
    exact sch_reevaluate (s := s.onSch fun h => { h with forced := none }) hm
  · rw [if_neg hf] at hsel ⊢
    rw [if_neg hf, hsel]
    exact sch_reevaluate hm

theorem forceUndefined_iff : s.forceUndefined = true ↔ ∃ p, s.sch.forced = some p ∧ (s.plan p).entries = [] := by
  unfold State.forceUndefined PlanRec.defined
  cases s.sch.forced with
  | none => exact ⟨nofun, fun ⟨_, h, _⟩ => absurd h nofun⟩
  | some p =>
    dsimp only
    constructor
    · intro h
      exact ⟨p, rfl, by simpa using h⟩
    · rintro ⟨q, hq, he⟩
      obtain rfl := Option.some.inj hq
      simp [he]

theorem stillForced_retaken {tm : Timing} : stillForced (retaken s tm) = s.forcedUnder tm := by
  have h := acts_retaken (G := fun _ => True) (s := s) tm
  have hsch : (retaken s tm).sch = s.sch := h.sch_eq
  have hplan (p : Pln) : (retaken s tm).plan p = tm.plans.get p := by
    have hcfg : (retaken s tm).cfg = (recorded s tm).cfg := (acts_retakeTiming (G := fun _ => True) (unpended s)).cfg_eq
    unfold State.plan; rw [hcfg]; rfl
  unfold stillForced State.forcedUnder
  rw [hsch]
  cases hf : s.sch.forced with
  | none => split <;> rfl
  | some p =>
    dsimp only
    refine if_congr ?_ rfl rfl
    rw [forceUndefined_iff, hsch, hf]
    constructor
    · rintro ⟨q, hq, he⟩
      obtain rfl := Option.some.inj hq
      rwa [hplan] at he
    · exact fun he => ⟨p, rfl, by rwa [hplan]⟩

/-! ### The pending commit applied -/

/-- The pending timing commit of a configured cabinet, applied. -/
theorem commits_applyPending {tm : Timing} (hp : s.cfg.pendingCommit = some tm) (hm : s.sup.mode ≠ .unconfigured) :
    s.commits s.applyPending tm := by
  have hacts : Acts (fun _ => True) (.cfg :: retakeParts) s (retaken s tm) := acts_retaken tm
  have hretake : Acts (fun _ => True) retakeParts (recorded s tm) (retaken s tm) := acts_retakeTiming (unpended s)
  have hsched : Acts (fun _ => True) scheduleParts (retaken s tm) (retaken s tm).scheduleAtCommit := acts_scheduleAtCommit
  have hactive : Acts (fun _ => True) [.seq] (retaken s tm).scheduleAtCommit s.applyPending := by
    rw [applyPending_eq hp]; exact acts_retakeActive _
  have hlast : Acts (fun _ => True) scheduleParts (retaken s tm) s.applyPending := hsched.trans hactive.up
  have hcfg : (retaken s tm).cfg = (recorded s tm).cfg := hretake.cfg_eq
  have htimed : (retaken s tm).clk.timed = s.clk.timed := hacts.timed_eq
  have hclk : s.applyPending.clk = (retaken s tm).clk := hlast.clk_eq
  obtain ⟨hdate, htod, hvalid, -⟩ := timed_fields htimed
  refine ⟨hlast.cfg_eq.trans hcfg, ?_, by rw [hclk, hdate], by rw [hclk, htod], by rw [hclk, hvalid], ?_, ?_⟩
  · refine (PendingSet.bits_of_union (hlast.pendingSet_grows)).2.2.1
      ((PendingSet.bits_of_union (hretake.pendingSet_grows)).2.2.1 ?_)
    exact Bool.or_true _
  · exact wearJudged_unworn hlast (wearJudged_retakeTiming _) (by decide) hlast.cfg_eq
  · have hmode : (retaken s tm).sup.mode = s.sup.mode := (fields_of_retaken (sup_retaken tm)).1
    have hsel : s.selectionUnder tm = (retaken s tm).cfg.running.tm.select (stillForced (retaken s tm)) (retaken s tm).clk.valid
        (retaken s tm).clk.date (retaken s tm).clk.tod := by
      rw [stillForced_retaken, hcfg, hvalid, hdate, htod]; rfl
    have hsch := sch_scheduleAtCommit (s := retaken s tm) (by rw [hmode]; exact hm) hsel
    rw [hactive.sch_eq, hsch, stillForced_retaken]

/-- What a commit left stands through the actions after it. -/
theorem commits_kept {tm : Timing} (h : s.commits t tm) (ha : Acts G K t u)
    (hK : Part.cfg ∉ K ∧ Part.table ∉ K ∧ Part.time ∉ K ∧ Part.wear ∉ K ∧ Part.sch ∉ K := by decide) :
    s.commits u tm := by
  obtain ⟨hcfg, hset, hdate, htod, hvalid, hworn, hsch⟩ := h
  obtain ⟨kc, kt, ktime, kw, ks⟩ := hK
  obtain ⟨d1, d2, d3, -⟩ := timed_fields (ha.timed_eq ktime)
  exact ⟨(ha.cfg_eq kc).trans hcfg, (PendingSet.bits_of_union (ha.pendingSet_grows kt)).2.2.1 hset, d1.trans hdate, d2.trans htod,
    d3.trans hvalid, wearJudged_unworn ha hworn ⟨kw, kc, kt⟩ (ha.cfg_eq kc), (ha.sch_eq ks).trans hsch⟩

end Commits

end Sys2Proof.Machine
end

section
/-! SUPPORT. What an evaluation selects, by the five steps of R82. -/

namespace Sys2Proof.Machine

set_option Elab.async false

namespace Selects

variable {tm : Timing} {d p on : Date} {i j : Fin 32} {limit : Option Nat} {l : List (Fin 32)}

/-! ### The governing entry of one date (R82 step 3) -/

/-- An entry's selector holds the day type of a date, within the limit where there is one. -/
def fits (tm : Timing) (d : Date) (limit : Option Nat) (j : Fin 32) : Prop :=
  (tm.schedule.get j).days.getLsbD (tm.dayType d) = true ∧ ∀ m, limit = some m → (tm.schedule.get j).minute ≤ m

/-- The test of one entry. -/
def tested (tm : Timing) (day : Nat) (limit : Option Nat) (i : Fin 32) : Bool :=
  (tm.schedule.get i).days.getLsbD day &&
    (match limit with | some m => decide ((tm.schedule.get i).minute ≤ m) | none => true)

/-- The better of the best entry so far and the next. -/
def better (tm : Timing) (day : Nat) (limit : Option Nat) (best : Option (Fin 32)) (i : Fin 32) : Option (Fin 32) :=
  match best with
  | none => if tested tm day limit i then some i else none
  | some b => if tested tm day limit i && decide ((tm.schedule.get b).minute < (tm.schedule.get i).minute) then some i else some b

theorem latestEntry_eq (day : Nat) : tm.latestEntry day limit = (allFin 32).foldl (better tm day limit) none := rfl

theorem tested_iff : tested tm (tm.dayType d) limit i = true ↔ fits tm d limit i := by
  unfold tested fits
  rw [Bool.and_eq_true]
  cases limit <;> simp

theorem governsOn_iff : tm.governsOn i d limit ↔
    fits tm d limit i ∧ ∀ j, fits tm d limit j → j ≠ i → (tm.schedule.get j).minute < (tm.schedule.get i).minute :=
  ⟨fun h => h _ rfl, fun h _ hf => by subst hf; exact h⟩

theorem noneOn_iff : tm.noneOn d limit ↔ ∀ j, ¬fits tm d limit j := by
  unfold Timing.noneOn fits
  constructor
  · rintro h j ⟨hd, hm⟩
    obtain ⟨m, hl, hlt⟩ := h j hd
    exact absurd (hm m hl) (Nat.not_le.mpr hlt)
  · intro h j hd
    by_contra hn
    exact h j ⟨hd, fun m hl => Nat.not_lt.mp fun hlt => hn ⟨m, hl, hlt⟩⟩

theorem better_unfit (h : ¬fits tm d limit i) (best : Option (Fin 32)) : better tm (tm.dayType d) limit best i = best := by
  have ht : tested tm (tm.dayType d) limit i = false := by rw [← Bool.not_eq_true, tested_iff]; exact h
  unfold better
  cases best <;> simp [ht]

theorem foldl_unfit (h : ∀ j ∈ l, ¬fits tm d limit j) (best : Option (Fin 32)) :
    l.foldl (better tm (tm.dayType d) limit) best = best := by
  induction l generalizing best with
  | nil => rfl
  | cons a l ih =>
    rw [List.foldl_cons, better_unfit (h a List.mem_cons_self)]
    exact ih (fun j hj => h j (List.mem_cons_of_mem _ hj)) best

theorem foldl_stays (h : ∀ j, fits tm d limit j → (tm.schedule.get j).minute ≤ (tm.schedule.get i).minute) :
    l.foldl (better tm (tm.dayType d) limit) (some i) = some i := by
  induction l with
  | nil => rfl
  | cons a l ih =>
    rw [List.foldl_cons]
    have ha : better tm (tm.dayType d) limit (some i) a = some i := by
      by_cases hf : fits tm d limit a
      · unfold better
        simp [Nat.not_lt.mpr (h a hf)]
      · exact better_unfit hf _
    rw [ha, ih]

theorem foldl_finds (hi : fits tm d limit i)
    (h : ∀ j, fits tm d limit j → j ≠ i → (tm.schedule.get j).minute < (tm.schedule.get i).minute) (hl : i ∈ l)
    (best : Option (Fin 32)) (hb : ∀ b, best = some b → fits tm d limit b) :
    l.foldl (better tm (tm.dayType d) limit) best = some i := by
  have hle : ∀ j, fits tm d limit j → (tm.schedule.get j).minute ≤ (tm.schedule.get i).minute := fun j hj => by
    by_cases hji : j = i
    · rw [hji]
    · exact (h j hj hji).le
  induction l generalizing best with
  | nil => exact absurd hl List.not_mem_nil
  | cons a l ih =>
    rw [List.foldl_cons]
    by_cases ha : a = i
    · subst ha
      have hat : better tm (tm.dayType d) limit best a = some a := by
        have ht := tested_iff.mpr hi
        unfold better
        cases best with
        | none => simp [ht]
        | some b =>
          by_cases hba : b = a
          · simp [hba]
          · simp [ht, h b (hb b rfl) hba]
      rw [hat, foldl_stays hle]
    · refine ih ((List.mem_cons.mp hl).resolve_left (Ne.symm ha)) _ fun b hbest => ?_
      by_cases hf : fits tm d limit a
      · unfold better at hbest
        cases best with
        | none =>
          dsimp only at hbest
          split at hbest
          · exact Option.some.inj hbest ▸ hf
          · exact absurd hbest nofun
        | some c =>
          dsimp only at hbest
          split at hbest
          · exact Option.some.inj hbest ▸ hf
          · exact Option.some.inj hbest ▸ hb c rfl
      · rw [better_unfit hf] at hbest
        exact hb b hbest

theorem latestEntry_of_governs (h : tm.governsOn i d limit) : tm.latestEntry (tm.dayType d) limit = some i := by
  obtain ⟨hi, hj⟩ := governsOn_iff.mp h
  rw [latestEntry_eq]
  exact foldl_finds hi hj (List.mem_finRange i) none nofun

theorem latestEntry_of_none (h : tm.noneOn d limit) : tm.latestEntry (tm.dayType d) limit = none := by
  rw [latestEntry_eq]
  exact foldl_unfit (fun j _ => noneOn_iff.mp h j) none

/-! ### The look-back (R82 step 4) -/

theorem before_succ (k : Nat) (d : Date) : Date.before (k + 1) d = d.prev.bind (Date.before k) := by
  induction k with
  | zero => show (some d).bind Date.prev = d.prev.bind some; rw [Option.bind_some, Option.bind_fun_some]
  | succ k ih =>
    show (Date.before (k + 1) d).bind Date.prev = _
    rw [ih, Option.bind_assoc]
    rfl

/-- The first step of a look-back, from the date before and from what a further look-back finds. -/
def stepBack (tm : Timing) (further : Date → Option (Fin 32 × Date)) (d : Date) : Option (Fin 32 × Date) :=
  match d.prev with
  | none => none
  | some p =>
    match tm.latestEntry (tm.dayType p) none with
    | some i => some (i, p)
    | none => further p

theorem lookBack_succ (n : Nat) : tm.lookBack (n + 1) d = stepBack tm (tm.lookBack n) d := by
  delta Timing.lookBack stepBack
  rfl

theorem lookBack_of_entry (n : Nat) (hp : d.prev = some p) (hi : tm.latestEntry (tm.dayType p) none = some i) :
    tm.lookBack (n + 1) d = some (i, p) := by
  rw [lookBack_succ]
  unfold stepBack
  rw [hp]
  dsimp only
  rw [hi]

theorem lookBack_of_earlier (n : Nat) (hp : d.prev = some p) (hi : tm.latestEntry (tm.dayType p) none = none) :
    tm.lookBack (n + 1) d = tm.lookBack n p := by
  rw [lookBack_succ]
  unfold stepBack
  rw [hp]
  dsimp only
  rw [hi]

theorem lookBack_finds {k n : Nat} (hk : 1 ≤ k) (hn : k ≤ n) (hon : Date.before k d = some on) (hg : tm.governsOn i on none)
    (he : ∀ k' on', 1 ≤ k' → k' < k → Date.before k' d = some on' → tm.noneOn on' none) :
    tm.lookBack n d = some (i, on) := by
  induction n generalizing d k with
  | zero => exact absurd (hk.trans hn) (by decide)
  | succ n ih =>
    obtain ⟨k, rfl⟩ := Nat.exists_eq_add_of_le' hk
    rw [before_succ] at hon
    obtain ⟨p, hp, hon⟩ := Option.bind_eq_some_iff.mp hon
    cases k with
    | zero =>
      obtain rfl := Option.some.inj hon
      exact lookBack_of_entry n hp (latestEntry_of_governs hg)
    | succ k =>
      have hfirst : Date.before 1 d = some p := by rw [before_succ, hp]; rfl
      rw [lookBack_of_earlier n hp (latestEntry_of_none (he 1 p le_rfl (by omega) hfirst))]
      refine ih (k := k + 1) (by omega) (by omega) hon fun k' on' h1 h2 hb => ?_
      exact he (k' + 1) on' (by omega) (by omega) (by rw [before_succ, hp]; exact hb)

theorem lookBack_none {n : Nat} (he : ∀ k on, 1 ≤ k → k ≤ n → Date.before k d = some on → tm.noneOn on none) :
    tm.lookBack n d = none := by
  induction n generalizing d with
  | zero => rfl
  | succ n ih =>
    cases hp : d.prev with
    | none => rw [lookBack_succ, stepBack, hp]
    | some p =>
      rw [lookBack_of_earlier n hp (latestEntry_of_none (he 1 p le_rfl (by omega) (by rw [before_succ, hp]; rfl)))]
      exact ih fun k on h1 h2 hb => he (k + 1) on (by omega) (by omega) (by rw [before_succ, hp]; exact hb)

/-! ### The selection (R82) -/

theorem settles_settleUndefined (a : Action) (src : SelSource) (g : Option (Fin 32 × Date)) :
    tm.settles (tm.settleUndefined ⟨a, src, g, false⟩) a src g := by
  unfold Timing.settleUndefined Timing.settles PlanRec.defined
  cases a with
  | flash => exact ⟨fun _ => rfl, nofun⟩
  | plan p =>
    dsimp only
    refine ⟨fun h => if_pos (by simpa using h p rfl), fun q hq he => ?_⟩
    obtain rfl := Action.plan.inj hq
    exact if_neg (by simp [he])

/-- The selection of a governing entry, before step 5. -/
def governed (tm : Timing) (g : Option (Fin 32 × Date)) : Selection :=
  match g with
  | some (i, on) => ⟨(tm.schedule.get i).action, .schedule, some (i, on), false⟩
  | none => ⟨.plan tm.cabinet.defaultPlan, .defaultNoEntry, none, false⟩

theorem select_of_governing {g : Option (Fin 32 × Date)} {tod : Nat} (hg : tm.governing d (tod / 600) = g) :
    tm.select none true d tod = tm.settleUndefined (governed tm g) := by
  rw [← hg]
  rfl

theorem governing_of_entry {m : Nat} (h : tm.governsOn i d (some m)) : tm.governing d m = some (i, d) := by
  unfold Timing.governing; rw [latestEntry_of_governs h]

theorem governing_of_none {m : Nat} (h : tm.noneOn d (some m)) : tm.governing d m = tm.lookBack 7 d := by
  unfold Timing.governing; rw [latestEntry_of_none h]

/-- The selection is that of the five steps. -/
theorem selects_select (tm : Timing) (forced : Option Pln) (valid : Bool) (d : Date) (tod : Nat) :
    tm.selects forced valid d tod (tm.select forced valid d tod) := by
  refine ⟨fun p hp => ?_, fun hf hv => ?_, fun hf hv => ?_⟩
  · subst hp; exact settles_settleUndefined _ _ _
  · subst hf hv; exact settles_settleUndefined _ _ _
  · subst hf hv
    refine ⟨fun i hi => ?_, fun hn => ⟨fun i k on hk1 hk7 hon hi he => ?_, fun he => ?_⟩⟩
    · rw [select_of_governing (governing_of_entry hi)]
      exact settles_settleUndefined _ _ _
    · rw [select_of_governing ((governing_of_none hn).trans (lookBack_finds hk1 hk7 hon hi he))]
      exact settles_settleUndefined _ _ _
    · rw [select_of_governing ((governing_of_none hn).trans (lookBack_none he))]
      exact settles_settleUndefined _ _ _

/-- A force of a plan with entries selects it. -/
theorem select_forced {p : Pln} (valid : Bool) (tod : Nat) (h : (tm.plans.get p).entries ≠ []) :
    tm.select (some p) valid d tod = ⟨.plan p, .forced, none, false⟩ :=
  (settles_settleUndefined _ _ _).1 fun q hq => by obtain rfl := Action.plan.inj hq; exact h

end Selects

end Sys2Proof.Machine
end

section
/-! PROOFS. The end of a step with an evaluation in it, and PLAN_FORCE and PLAN_RELEASE (O42). -/

namespace Sys2Proof.Machine

set_option Elab.async false

namespace Deliver

open Acts Ending Modes Parked Causes Relays Commits

variable {G : Gid → Prop} {K : List Part} {before s e t u v : State}

/-! ### The mode after an evaluation -/

theorem sup_scheduledFlashStart_else (h : ¬starting s) : s.scheduledFlashStart.sup.mode = s.sup.mode := by
  by_cases hc : s.waitingSupply = true ∨ s.sup.mode ≠ .startupCheck
  · rw [scheduledFlashStart_stays h hc]
  · obtain ⟨hw, hm⟩ := not_or.mp hc
    rw [scheduledFlashStart_check (by simpa using hw) (not_not.mp hm)]
    rfl

/-- An evaluation leaves the mode, starts a FLASH, or ends one. -/
theorem mode_evaluate (e : State) :
    e.evaluate.sup.mode = e.sup.mode ∨ (e.flashStarts e.select ∧
        e.evaluate.sup.mode = (if e.sup.mode = .normal then .clearing else .flash)) ∨
      ((e.sup.mode = .flash ∨ e.sup.mode = .clearing) ∧ checking e.evaluate) := by
  have hj : (judged e).sup = e.sup := (acts_judged (G := fun _ => True)).sup_eq
  by_cases h : e.sch.action = some e.select.action
  · rw [evaluate_same h, hj]; exact .inl rfl
  · cases hsel : e.select.action with
    | flash =>
      rw [evaluate_flash h hsel]
      by_cases hs : starting e
      · refine .inr (.inl ⟨flashStarts_iff.mpr ⟨hsel, hsel ▸ h, hs⟩, ?_⟩)
        rw [(scheduledFlashStart_starting (starting_announced.mpr hs)).1, sup_announced]
      · left
        rw [sup_scheduledFlashStart_else (mt starting_announced.mp hs), sup_announced]
    | plan p =>
      rw [evaluate_plan h hsel]
      by_cases hf : e.sch.action = some .flash
      · by_cases hs : scheduled e
        · rw [handed_scheduled hf hs]
          exact .inr (.inr ⟨hs.2.1, checking_enterStartupCheck _⟩)
        · rw [sup_handed_ended hf hs]
          exact .inl (flashEnded_fields _ _).1
      · rw [sup_handed_plain hf]; exact .inl rfl

theorem mode_evaluate_starts (h : e.flashStarts e.select) :
    e.evaluate.sup.mode = (if e.sup.mode = .normal then .clearing else .flash) := by
  obtain ⟨hf, hc, hs⟩ := flashStarts_iff.mp h
  rw [evaluate_flash (hf ▸ hc) hf, (scheduledFlashStart_starting (starting_announced.mpr hs)).1, sup_announced]

/-- Without the start of a FLASH an evaluation enters no mode that applies a commit, but from one. -/
theorem drains_evaluate (h : ¬e.flashStarts e.select) (hd : e.evaluate.sup.mode.drains = true) :
    e.sup.mode.drains = true := by
  rcases mode_evaluate e with hm | ⟨hs, -⟩ | ⟨hm, -⟩
  · rwa [← hm]
  · exact absurd hs h
  · rcases hm with hm | hm <;> rw [hm] <;> rfl

theorem evaluate_not_normal (h : e.sup.mode ≠ .normal) : e.evaluate.sup.mode ≠ .normal := by
  rcases mode_evaluate e with hm | ⟨-, hm⟩ | ⟨-, hc⟩
  · rwa [hm]
  · rw [hm]; split <;> decide
  · intro hm
    unfold checking at hc
    rw [hm] at hc
    exact absurd hc (by decide)

theorem reevaluate_not_normal (h : e.sup.mode ≠ .normal) : e.reevaluate.sup.mode ≠ .normal := by
  unfold State.reevaluate
  split
  · exact h
  · exact evaluate_not_normal h

theorem applyPending_not_normal (h : s.sup.mode ≠ .normal) : s.applyPending.sup.mode ≠ .normal := by
  cases hp : s.cfg.pendingCommit with
  | none => rwa [applyPending_of_none hp]
  | some tm =>
    have hmode : (retaken s tm).sup.mode = s.sup.mode := (fields_of_retaken (sup_retaken tm)).1
    have hactive := (acts_retakeActive (G := fun _ => True) (s := (retaken s tm).scheduleAtCommit) (unpended s)).modes_eq
    rw [applyPending_eq hp, hactive]
    rw [← hmode] at h
    unfold State.scheduleAtCommit
    split
    · exact reevaluate_not_normal (e := (retaken s tm).onSch fun h => { h with forced := none }) h
    · exact reevaluate_not_normal h

/-! ### The end of a step with an evaluation in it -/

/-- A commit that the entry to CLEARING or FLASH releases ends the step. -/
theorem finish_drains (hd : u.sup.mode.drains = true) :
    State.finish before u = State.closeAdditions before u.applyPending := by
  unfold State.finish State.drainPending
  rw [if_pos hd, takeInhibition_of_mode (applyPending_not_normal fun hm => absurd (hm ▸ hd) (by decide))]

theorem echo_closeAdditions (h : Echo u v) : Echo u (State.closeAdditions before v) := by
  obtain ⟨hl, hk, ho, hp, hs, hst⟩ := h
  refine ⟨?_, ?_, ?_, ?_, ?_, ?_⟩
  · rwa [closeAdditions_entries]
  · rwa [closeAdditions_entries]
  · rwa [closeAdditions_entries]
  · rwa [closeAdditions_pendingSet]
  · rwa [closeAdditions_sup]
  · simp only [closeAdditions_sup, closeAdditions_seq, closeAdditions_out, closeAdditions_group]
    exact hst

/-- What is left alone of all that a delivery changes. -/
theorem echo_of_acts (h : Acts G K u v)
    (hK : Part.table ∉ K ∧ Part.planFault ∉ K ∧ Part.mode ∉ K ∧ Part.sup ∉ K ∧ Part.contactor ∉ K ∧ Part.colour ∉ K := by decide)
    (hq : v.seq.pendingPlan = u.seq.pendingPlan ∧ v.seq.active = u.seq.active) : Echo u v := by
  obtain ⟨kt, kp, km, ks, kc, kg⟩ := hK
  have hcore := h.core_eq ⟨km, ks⟩
  refine ⟨h.entries_length_le kt, fun x hx hk hl => h.entry_kept hx hl (by rw [hk]; exact kp) kt,
    fun x hx hk => h.entry_old hx (by rw [hk]; exact kp) kt, planChange_grows h kt, core_field Sup.saved hcore, fun _ => ?_⟩
  exact ⟨core_field Sup.mode hcore, core_field Sup.reason hcore, core_field Sup.latched hcore, core_field Sup.exit hcore, hq.1,
    hq.2, congrArg Contactor.closeCommand (h.contactor_eq kc).1, fun g => h.colour_eq g kg⟩

theorem echo_trans (h : Echo s t) (h' : Echo t u) (hm : t.sup.mode = s.sup.mode ∧ t.sup.flashNext = s.sup.flashNext) :
    Echo s u := by
  obtain ⟨l, k, o, p, sv, st⟩ := h
  obtain ⟨l', k', o', p', sv', st'⟩ := h'
  refine ⟨l.trans l', fun x hx hk hl => k' x (k x hx hk (l'.trans_lt hl)) hk hl, fun x hx hk => o x (o' x hx hk) hk,
    fun h => p' (p h), sv'.trans sv, fun h => ?_⟩
  obtain ⟨a1, a2, a3, a4, a5, a6, a7, a8⟩ := st h
  obtain ⟨b1, b2, b3, b4, b5, b6, b7, b8⟩ := st' (by rw [hm.1, hm.2]; exact h)
  exact ⟨b1.trans a1, b2.trans a2, b3.trans a3, b4.trans a4, b5.trans a5, b6.trans a6, b7.trans a7, fun g => (b8 g).trans (a8 g)⟩

/-- What a commit did, of another state with the same records, time and force. -/
theorem commits_of_alike {tm : Timing} (h : u.commits t tm) (hcfg : u.cfg = s.cfg)
    (hforced : s.sch.forced = u.sch.forced)
    (hclk : s.clk.valid = u.clk.valid ∧ s.clk.date = u.clk.date ∧ s.clk.tod = u.clk.tod) : s.commits t tm := by
  obtain ⟨hv, hd, ht⟩ := hclk
  have hf : s.forcedUnder tm = u.forcedUnder tm := by unfold State.forcedUnder; rw [hforced]
  have hsel : s.selectionUnder tm = u.selectionUnder tm := by unfold State.selectionUnder; rw [hf, hv, hd, ht]
  unfold State.commits at h ⊢
  rw [hsel, hf, hd, ht, hv, ← hcfg]
  exact h

/-- The evaluation of a step, by what its end leaves: without a commit what the evaluation delivered, and with one what the
commit did. -/
theorem evaluates_of {forced : Option Pln} (ha : Alike s e) (hf : e.sch.forced = forced)
    (hclk : t.clk.valid = e.clk.valid ∧ t.clk.date = e.clk.date ∧ t.clk.tod = e.clk.tod)
    (hplain : s.cfg.pendingCommit = none ∨ ¬s.flashStarts e.select →
      t.cfg = s.cfg ∧ t.sch = e.evaluate.sch ∧ Echo e.evaluate t)
    (hcommit : ∀ tm, s.cfg.pendingCommit = some tm → s.flashStarts e.select →
      ∃ u : State, u.commits t tm ∧ u.cfg = s.cfg ∧ u.sch.forced = forced) : s.evaluates t forced := by
  obtain ⟨hv, hd, ht⟩ := hclk
  have hsel : e.select = s.cfg.running.tm.select forced t.clk.valid t.clk.date t.clk.tod := by
    unfold State.select; rw [hf, ha.cfg, hv, hd, ht]
  intro sel heq
  rw [← hsel] at heq
  subst heq
  refine ⟨fun h => ?_, fun tm hp hs => ?_⟩
  · obtain ⟨hcfg, hsch, hecho⟩ := hplain h
    refine ⟨hcfg, ?_, delivers_alike ha (delivers_evaluate hecho)⟩
    rw [hsch, (Laws.evaluate_spec e).2.2.2.2.2, ← hf]
  · obtain ⟨u, hu, hcfg, hforced⟩ := hcommit tm hp hs
    obtain ⟨-, -, hdate, htod, hvalid, -⟩ := id hu
    exact commits_of_alike hu hcfg hforced.symm ⟨hvalid, hdate, htod⟩

end Deliver

end Sys2Proof.Machine
end

section
/-! PROOFS. PLAN_FORCE and PLAN_RELEASE (O42). -/

namespace Sys2Proof.Machine

set_option Elab.async false

namespace Deliver

open Acts Ending Modes Parked Causes Relays Commits

variable {s e t u v : State} {tag : Byte} {body : List Byte} {f : Option Pln}

/-- The state that a force or a release evaluates in. -/
def forcing (s : State) (f : Option Pln) : State := s.onSch fun h => { h with forced := f }

theorem alike_forcing : Alike s (forcing s.reserve f) := ⟨rfl, rfl, rfl, rfl, rfl, rfl, rfl, rfl, rfl, rfl, rfl, rfl⟩

/-- The state before the end of its step. -/
def answered (s : State) (f : Option Pln) (tag code : Byte) : State := (forcing s.reserve f).evaluate.reply tag code .ok []

theorem acts_forcing : Acts (fun _ => True) scheduleParts s.reserve (forcing s.reserve f).evaluate :=
  (one (.sch _ (by decide))).trans acts_evaluate

/-- Where no commit is applied, the end of the step counts the additions and does nothing else. -/
theorem finish_answered (hb : s.betweenSteps) (code : Byte)
    (h : s.cfg.pendingCommit = none ∨ ¬(forcing s.reserve f).flashStarts (forcing s.reserve f).select) :
    State.finish s (answered s f tag code) = State.closeAdditions s (answered s f tag code) := by
  have hacts : Acts (fun _ => True) scheduleParts s.reserve (forcing s.reserve f).evaluate := acts_forcing
  refine finish_closes (fun hd => ?_) fun g hg => inhibited_of_acts hacts (by decide) g hg
  show (forcing s.reserve f).evaluate.cfg.pendingCommit = none
  rw [hacts.cfg_eq]
  exact h.elim id fun hn => hb.2 (show (forcing s.reserve f).sup.mode.drains = true from drains_evaluate hn hd)

/-- Where a FLASH that starts releases a commit, the commit ends the step. -/
theorem finish_committed (code : Byte) (hs : (forcing s.reserve f).flashStarts (forcing s.reserve f).select) :
    State.finish s (answered s f tag code) = State.closeAdditions s (answered s f tag code).applyPending := by
  refine finish_drains ?_
  show (forcing s.reserve f).evaluate.sup.mode.drains = true
  rw [mode_evaluate_starts hs]
  split <;> rfl

theorem echo_answered (code : Byte) : Echo (forcing s.reserve f).evaluate (answered s f tag code) :=
  ⟨le_rfl, fun _ hx _ _ => hx, fun _ hx _ => hx, id, rfl, fun _ => ⟨rfl, rfl, rfl, rfl, rfl, rfl, rfl, fun _ => rfl⟩⟩

/-- The commit of such a step. -/
theorem commits_answered {tm : Timing} (code : Byte) (hp : s.cfg.pendingCommit = some tm)
    (hs : (forcing s.reserve f).flashStarts (forcing s.reserve f).select) :
    (answered s f tag code).commits (State.finish s (answered s f tag code)) tm := by
  have hacts : Acts (fun _ => True) scheduleParts s.reserve (forcing s.reserve f).evaluate := acts_forcing
  have hcfg : (answered s f tag code).cfg = s.cfg := hacts.cfg_eq
  have hmode : (answered s f tag code).sup.mode ≠ .unconfigured := by
    show (forcing s.reserve f).evaluate.sup.mode ≠ _
    rw [mode_evaluate_starts hs]
    split <;> decide
  rw [finish_committed code hs]
  have h := commits_applyPending (s := answered s f tag code) (tm := tm) (by rw [hcfg, hp]) hmode
  unfold State.commits State.wearJudged State.settings State.chan at h ⊢
  simp only [closeAdditions_cfg, closeAdditions_pendingSet, closeAdditions_clk, closeAdditions_entries, closeAdditions_sch,
    closeAdditions_out]
  exact h

/-- A request whose service evaluates once and is answered OK. -/
theorem evaluates_answered (hb : s.betweenSteps) (code : Byte) :
    s.evaluates (State.finish s (answered s f tag code)) f := by
  have hacts : Acts (fun _ => True) scheduleParts s.reserve (forcing s.reserve f).evaluate := acts_forcing
  have hstarts : s.flashStarts (forcing s.reserve f).select → (forcing s.reserve f).flashStarts (forcing s.reserve f).select :=
    (flashStarts_alike alike_forcing).mpr
  have hforced : (answered s f tag code).sch.forced = f := by
    show (forcing s.reserve f).evaluate.sch.forced = f
    rw [(Laws.evaluate_spec (forcing s.reserve f)).2.2.2.2.2]
    rfl
  refine evaluates_of (e := forcing s.reserve f) alike_forcing rfl ?_ (fun h => ?_) fun tm hp hs => ?_
  · by_cases hc : (forcing s.reserve f).flashStarts (forcing s.reserve f).select
    · cases hp : s.cfg.pendingCommit with
      | none =>
        rw [finish_answered hb code (.inl hp), closeAdditions_clk, show (answered s f tag code).clk = s.clk from hacts.clk_eq]
        exact ⟨rfl, rfl, rfl⟩
      | some tm =>
        obtain ⟨-, -, hd, ht, hv, -⟩ := commits_answered (tag := tag) code hp hc
        rw [hd, ht, hv, show (answered s f tag code).clk = s.clk from hacts.clk_eq]
        exact ⟨rfl, rfl, rfl⟩
    · rw [finish_answered hb code (.inr hc), closeAdditions_clk, show (answered s f tag code).clk = s.clk from hacts.clk_eq]
      exact ⟨rfl, rfl, rfl⟩
  · rw [finish_answered hb code (h.imp id fun hn => mt (flashStarts_alike alike_forcing).mp hn)]
    exact ⟨by rw [closeAdditions_cfg]; exact hacts.cfg_eq, by rw [closeAdditions_sch]; rfl,
      echo_closeAdditions (echo_answered code)⟩
  · exact ⟨answered s f tag code, commits_answered code hp (hstarts hs), hacts.cfg_eq, hforced⟩

/-! ### The services (R84) -/

theorem servePlanForce_ok {p : Pln} (hm : s.sup.mode ≠ .unconfigured) (hp : (s.plan p).entries ≠ []) :
    servePlanForce tag [BitVec.ofNat 8 (p.val + 1)] s = (forcing s (some p)).evaluate.reply tag 0x33#8 .ok [] := by
  unfold servePlanForce
  dsimp only
  have hdef : (s.plan p).defined = true := by unfold PlanRec.defined; simp [hp]
  rw [if_neg hm, Requests.member_number (by decide) p]
  dsimp only
  rw [if_pos hdef]
  rfl

theorem servePlanRelease_ok (hm : s.sup.mode ≠ .unconfigured) :
    servePlanRelease tag [] s = (forcing s none).evaluate.reply tag 0x34#8 .ok [] := by
  unfold servePlanRelease
  rw [if_neg (not_not.mpr rfl), if_neg hm]
  rfl

end Deliver

open Requests Acts Ending Deliver Selects

/-- Settles O42. Each request makes one evaluation, with the plan forced or with none, and ends with what it delivered. -/
theorem planForceAndRelease : Obligations.PlanForceAndRelease := by
  unfold Obligations.PlanForceAndRelease
  intro s tag body h
  refine ⟨fun hb => ?_, fun b hb => ⟨fun hm => ?_, fun hm hn => ?_⟩, fun p hb hm => ⟨fun he => ?_, fun he => ?_⟩, fun hb => ?_,
    fun hb hm => ?_, fun hb hm => ?_, selects_select⟩
  · refine reads h rfl (by decide) ?_
    unfold servePlanForce
    split
    · exact absurd rfl hb
    · rfl
  · subst hb
    refine reads h rfl (by decide) ?_
    exact if_pos (show s.reserve.sup.mode = _ from hm)
  · subst hb
    refine reads h rfl (by decide) ?_
    unfold servePlanForce
    dsimp only
    rw [if_neg (show s.reserve.sup.mode ≠ _ from hm), DemandPlace.member_of_outOfRange hn]
    rfl
  · subst hb
    refine reads h rfl (by decide) ?_
    unfold servePlanForce
    dsimp only
    have hundef : ¬(s.reserve.plan p).defined = true := by
      unfold PlanRec.defined
      rw [show (s.reserve.plan p).entries = [] from he]
      decide
    rw [if_neg (show s.reserve.sup.mode ≠ _ from hm), member_number (by decide) p]
    dsimp only
    rw [if_neg hundef]
    rfl
  · subst hb
    have hexec : exec (.planForce tag [BitVec.ofNat 8 (p.val + 1)]) s = .next (State.finish s (answered s (some p) tag 0x33#8)) := by
      show Host.Outcome.next (s.direct tag _ (servePlanForce tag _)) = _
      rw [Laws.direct_of_takes h, servePlanForce_ok (s := s.reserve) hm he]
      rfl
    have hsel : (forcing s.reserve (some p)).select = ⟨.plan p, .forced, none, false⟩ := select_forced _ _ he
    have hstays : ¬(forcing s.reserve (some p)).flashStarts (forcing s.reserve (some p)).select :=
      fun hs => absurd (hsel ▸ hs.1) nofun
    have hacts : Acts (fun _ => True) scheduleParts s.reserve (forcing s.reserve (some p)).evaluate := acts_forcing
    have hfin := finish_answered (tag := tag) h.1 0x33#8 (.inr hstays)
    refine ⟨_, hexec, answers_finish hacts (by decide), evaluates_answered h.1 0x33#8, ?_, ?_, ?_⟩
    · rw [hfin, closeAdditions_sch]
      show (forcing s.reserve (some p)).evaluate.sch = _
      rw [(Laws.evaluate_spec _).2.2.2.2.2, hsel]
      rfl
    · rw [hfin, closeAdditions_cfg]; exact hacts.cfg_eq
    · rw [hfin, closeAdditions_clk]; exact hacts.clk_eq
  · exact reads h rfl (by decide) (if_pos hb)
  · refine reads h rfl (by decide) ?_
    show servePlanRelease tag body s.reserve = _
    unfold servePlanRelease
    rw [if_neg (not_not.mpr hb), if_pos (by exact hm)]
    rfl
  · subst hb
    have hexec : exec (.planRelease tag []) s = .next (State.finish s (answered s none tag 0x34#8)) := by
      show Host.Outcome.next (s.direct tag _ (servePlanRelease tag _)) = _
      rw [Laws.direct_of_takes h, servePlanRelease_ok (s := s.reserve) hm]
      rfl
    have hacts : Acts (fun _ => True) scheduleParts s.reserve (forcing s.reserve none).evaluate := acts_forcing
    have hclk : (answered s none tag 0x34#8).clk = s.clk := hacts.clk_eq
    refine ⟨_, hexec, answers_finish hacts (by decide), evaluates_answered h.1 0x34#8, ?_⟩
    by_cases hplain : s.cfg.pendingCommit = none ∨ ¬(forcing s.reserve none).flashStarts (forcing s.reserve none).select
    · rw [finish_answered h.1 0x34#8 hplain, closeAdditions_clk, closeAdditions_cfg, closeAdditions_sch, hclk]
      have hcfg : (answered s none tag 0x34#8).cfg = s.cfg := hacts.cfg_eq
      refine ⟨rfl, rfl, rfl, fun _ => ⟨hcfg, rfl⟩, fun sel hsel => ?_⟩
      rw [hcfg] at hsel
      subst hsel
      exact (Laws.evaluate_spec (forcing s.reserve none)).2.2.2.2.2
    · obtain ⟨hp, hs⟩ := not_or.mp hplain
      obtain ⟨tm, htm⟩ := Option.ne_none_iff_exists'.mp hp
      obtain ⟨hcfg, -, hd, ht, hv, -, hsch⟩ := commits_answered (tag := tag) 0x34#8 htm (not_not.mp hs)
      have hforced : (answered s none tag 0x34#8).forcedUnder tm = none := by
        unfold State.forcedUnder
        rw [show (answered s none tag 0x34#8).sch.forced = none from
          congrArg Sch.forced (Laws.evaluate_spec (forcing s.reserve none)).2.2.2.2.2]
      refine ⟨by rw [hd, hclk], by rw [ht, hclk], by rw [hv, hclk], fun hn => absurd hn hp, fun sel hsel => ?_⟩
      rw [hcfg] at hsel
      subst hsel
      rw [hsch, hforced]
      unfold State.selectionUnder
      rw [hforced, hclk]

end Sys2Proof.Machine
end

section
/-! SUPPORT. The tenth tick before the clock's own advance: what it counts, and the inhibited groups that it drops (R4, R25,
R31, R34, R39, R50, R88, R148, R156). -/

namespace Sys2Proof.Machine

set_option Elab.async false

namespace Ticks

open Acts Ending Modes Causes Stages Inputs Samples

variable {G : Gid → Prop} {K : List Part} {s a t u v : State} {g k : Gid} {col : Colour}

/-! ### The sweep through a change of commands -/

/-- The sweep's period and its time. -/
def sweepOf (s : State) : Option Nat × Nat := (s.cbt.period, s.cbt.sweepTime)

theorem sweepOf_abandonProbe : sweepOf s.abandonProbe = sweepOf s := by
  have hreply (w : State) (o : Origin) (r : ProbeResult) (m : Option Nat) : sweepOf (w.answerProbe o r m) = sweepOf w := by
    unfold State.answerProbe; cases o <;> rfl
  have hdefer (w : State) (e : PEnt) : sweepOf (w.deferAgain e) = sweepOf w := by
    unfold State.deferAgain; split <;> rfl
  have hstarve (w : State) (e : PEnt) : sweepOf (w.countStarved e) = sweepOf w := by
    unfold State.countStarved; dsimp only; split <;> rfl
  have hrecord (w : State) (p : ProbeRun) : sweepOf (w.recordAbandoned p) = sweepOf w := by
    unfold State.recordAbandoned
    dsimp only
    rw [hreply]
    split
    · rw [hstarve, hdefer]; rfl
    · rw [hdefer]; rfl
  unfold State.abandonProbe
  split
  · split
    · rw [hrecord]; rfl
    · rfl
  · rfl

theorem cbt_putChan (c : Ch) (r : ChanRun) : (s.putChan c r).cbt = s.cbt := by
  unfold State.putChan State.refreshLeak State.refreshShowing State.refreshGreen State.refreshConflicts
  dsimp only
  repeat' split
  all_goals rfl

theorem sweepOf_updateCoil (c : Ch) : sweepOf (s.updateCoil c) = sweepOf s := by
  unfold State.updateCoil State.claimChannel
  dsimp only
  split
  · split
    · exact sweepOf_abandonProbe
    · next hb =>
      split
      · rfl
      · unfold sweepOf
        rw [(of_edits (G := fun _ => True) (edits_coilStart c (not_not.mp hb))).cbt_eq]
  · split
    · unfold sweepOf
      rw [(of_edits (G := fun _ => True) (edits_coilStop c)).cbt_eq]
    · rfl

theorem sweepOf_syncCommand (c : Ch) : sweepOf (s.syncCommand c) = sweepOf s := by
  have hput (w : State) (r : ChanRun) (hw : w.cbt = s.cbt) : sweepOf ((w.putChan c r).updateCoil c) = sweepOf s := by
    rw [sweepOf_updateCoil]
    unfold sweepOf
    rw [cbt_putChan, hw]
  unfold State.syncCommand
  dsimp only
  split
  · rfl
  · refine hput _ _ ?_
    split <;> rfl

theorem sweepOf_syncCommands : sweepOf s.syncCommands = sweepOf s := by
  have h : sweepOf (s.forAll State.syncCommand) = sweepOf s := Frames.forAll_keeps sweepOf (fun _ c => sweepOf_syncCommand c) s
  have hsettle (w : State) : sweepOf w.settleFlashGen = sweepOf w := by
    unfold State.settleFlashGen; split <;> rfl
  exact (hsettle _).trans h

/-! ### A group that turns back (R31) -/

/-- The sequencer record but for the groups' records and for the groups on their way to GREEN. -/
def Seq.course (q : Seq) : Seq := { Seq.line q with change := none, dropped := [], joined := [] }

theorem course_field {α : Type} {q r : Seq} (p : Seq → α) (h : Seq.course q = Seq.course r)
    (hp : ∀ q, p q = p (Seq.course q) := by intros; rfl) : p q = p r := by rw [hp, h, ← hp]

theorem line_setColour (h : col ≠ .green) : Seq.line (s.setColour g col).seq = Seq.line s.seq := by
  have hput : Seq.line (s.putColour g col).seq = Seq.line s.seq := by unfold State.putColour; split <;> rfl
  rw [setColour_rest h]
  exact (acts_syncCommands (G := fun _ => True) (s := s.putColour g col)).line_eq.trans hput

theorem sweepOf_putColour : sweepOf (s.putColour g col) = sweepOf s := by unfold State.putColour; split <;> rfl

/-- What a drop leaves: the course of the sequencer, and the sweep. -/
def coursed (s : State) : Seq × Option Nat × Nat := (Seq.course s.seq, sweepOf s)

theorem course_leaves (i : Nat) (q : Seq) : Seq.course (leaves g i q) = Seq.course q := rfl

theorem coursed_leaves (i : Nat) : coursed (s.onSeq (leaves g i)) = coursed s := by
  unfold coursed sweepOf
  rw [State.onSeq_seq, State.onSeq_cbt, course_leaves]

theorem course_of_line {q r : Seq} (h : Seq.line q = Seq.line r) : Seq.course q = Seq.course r :=
  congrArg (fun q : Seq => { q with change := none, dropped := [], joined := [] }) h

theorem coursed_setRed : coursed (s.setColour g .red) = coursed s := by
  refine Prod.ext (course_of_line (line_setColour (by decide))) ?_
  have h : sweepOf (s.setColour g .red) = sweepOf s := by
    rw [setColour_rest (by decide), sweepOf_syncCommands, sweepOf_putColour]
  exact h

theorem coursed_dropGroup (i : Nat) : coursed (s.dropGroup g i) = coursed s := by
  by_cases h : (s.group g).colour = .redAmber
  · rw [dropGroup_redAmber i h, coursed_leaves, coursed_setRed]
  · rw [dropGroup_waiting i h, coursed_leaves]

theorem coursed_dropIfInhibited : coursed (s.dropIfInhibited g) = coursed s := by
  unfold State.dropIfInhibited
  split
  · split
    · exact coursed_dropGroup _
    · split
      · exact coursed_dropGroup _
      · rfl
  · rfl

theorem coursed_checkInhibited : coursed s.checkInhibited = coursed s := by
  unfold State.checkInhibited State.dropInhibited
  split
  · exact Frames.forAll_keeps coursed (fun _ g => coursed_dropIfInhibited) s
  · rfl

/-! ### The way of each group at the check of a tick -/

/-- A group's way to GREEN, with its colour state's times and the tick. -/
def onWay (s : State) (g : Gid) := (wayOf s g, phaseOf s g, s.seq.tick)

theorem onWay_dropIfInhibited (h : g ≠ k) : onWay (s.dropIfInhibited g) k = onWay s k := by
  have htick : (s.dropIfInhibited g).seq.tick = s.seq.tick :=
    course_field Seq.tick (congrArg Prod.fst (coursed_dropIfInhibited (s := s) (g := g)))
  have hphase (i : Nat) : phaseOf (s.dropGroup g i) k = phaseOf s k := by
    by_cases hr : (s.group g).colour = .redAmber
    · rw [dropGroup_redAmber i hr]
      have hl (w : State) : phaseOf (w.onSeq (leaves g i)) k = phaseOf w k := by
        unfold phaseOf; rw [(leaves_spec i).1]
      rw [hl]
      exact congrArg (fun x => x.1) (ownOf_setColour_other (s := s) (col := .red) h)
    · rw [dropGroup_waiting i hr]; rfl
  have hall : phaseOf (s.dropIfInhibited g) k = phaseOf s k := by
    unfold State.dropIfInhibited
    split
    · split
      · exact hphase _
      · split
        · exact hphase _
        · rfl
    · rfl
  unfold onWay
  rw [wayOf_dropIfInhibited h, hall, htick]

theorem onWay_dropInhibited (g : Gid) : ∃ w, onWay w g = onWay s g ∧ onWay s.dropInhibited g = onWay (w.dropIfInhibited g) g := by
  obtain ⟨w, -, hw, he⟩ := Maintenance.forAll_own (f := State.dropIfInhibited) (p := onWay) (I := fun _ => True)
    (fun _ _ _ => trivial) (fun t i k hne => onWay_dropIfInhibited hne) s trivial g
  exact ⟨w, hw, he⟩

/-- What the check of a tick does with a group: a RED_AMBER may turn back, and a colour that stands keeps its times. -/
def checked (s t : State) (g : Gid) : Prop :=
  (phaseOf t g = phaseOf s g ∨ (s.group g).colour = .redAmber ∧ (t.group g).colour = .red) ∧
    ((s.group g).inhibited = true →
      (∀ i, s.seq.gainingInstant g = some i →
        t.seq.gainingInstant g = none ∧ (g, (s.seq.joinedInstant g).getD i) ∈ t.seq.dropped) ∧
      ((s.group g).colour = .redAmber → (t.group g).colour = .red ∧
        (s.seq.gainingInstant g = none → (g, (s.seq.joinedInstant g).getD s.seq.tick) ∈ t.seq.dropped)))

theorem checked_refl (h : (s.group g).inhibited = false) : checked s s g :=
  ⟨.inl rfl, fun hi => absurd (hi.symm.trans h) nofun⟩

theorem phase_dropIfInhibited : phaseOf (s.dropIfInhibited g) g = phaseOf s g ∨
    (s.group g).colour = .redAmber ∧ ((s.dropIfInhibited g).group g).colour = .red := by
  have hdrop (i : Nat) : phaseOf (s.dropGroup g i) g = phaseOf s g ∨
      (s.group g).colour = .redAmber ∧ ((s.dropGroup g i).group g).colour = .red := by
    by_cases hr : (s.group g).colour = .redAmber
    · exact .inr ⟨hr, by rw [(dropGroup_spec i).1, if_pos hr]⟩
    · rw [dropGroup_waiting i hr]; exact .inl rfl
  unfold State.dropIfInhibited
  split
  · split
    · exact hdrop _
    · split
      · exact hdrop _
      · exact .inl rfl
  · exact .inl rfl

theorem checked_dropIfInhibited : checked s (s.dropIfInhibited g) g := by
  refine ⟨phase_dropIfInhibited, fun hi => ?_⟩
  cases hg : s.seq.gainingInstant g with
  | some i =>
    rw [dropIfInhibited_gaining hi hg]
    obtain ⟨hc, -, hd, hgain, -⟩ := dropGroup_spec (s := s) (g := g) ((s.seq.joinedInstant g).getD i)
    refine ⟨fun j hj => ?_, fun hr => ⟨by rw [hc, if_pos hr], fun hn => absurd hn nofun⟩⟩
    obtain rfl := Option.some.inj hj
    exact ⟨hgain, hd ▸ List.mem_append_right _ (List.mem_singleton.mpr rfl)⟩
  | none =>
    refine ⟨fun j hj => absurd hj nofun, fun hr => ?_⟩
    rw [dropIfInhibited_joiner hi hg hr]
    obtain ⟨hc, -, hd, -⟩ := dropGroup_spec (s := s) (g := g) ((s.seq.joinedInstant g).getD s.seq.tick)
    exact ⟨by rw [hc, if_pos hr], fun _ => hd ▸ List.mem_append_right _ (List.mem_singleton.mpr rfl)⟩

theorem mem_dropped_of_way (h : wayOf t g = wayOf u g) {i : Nat} (hm : (g, i) ∈ u.seq.dropped) : (g, i) ∈ t.seq.dropped := by
  have hd : (t.seq.dropped.filter fun p => p.1 == g) = u.seq.dropped.filter fun p => p.1 == g := congrArg (·.2.2.2.2) h
  have hin : (g, i) ∈ t.seq.dropped.filter fun p => p.1 == g := by
    rw [hd]
    exact List.mem_filter.mpr ⟨hm, beq_self_eq_true g⟩
  exact (List.mem_filter.mp hin).1

theorem checked_of_way {w w' : State} (h : checked w w' g) (hw : onWay w g = onWay s g) (hw' : onWay t g = onWay w' g) :
    checked s t g := by
  simp only [onWay, Prod.mk.injEq] at hw hw'
  obtain ⟨way, phase, tick⟩ := hw
  obtain ⟨way', phase', -⟩ := hw'
  have hdr {i : Nat} := mem_dropped_of_way (i := i) way'
  obtain ⟨hp, hi⟩ := h
  simp only [wayOf, Prod.mk.injEq] at way way'
  obtain ⟨wc, wi, wg, wj, -⟩ := way
  obtain ⟨wc', -, wg', -⟩ := way'
  rw [wc, phase, ← phase', ← wc'] at hp
  rw [wi, wg, wj, wc, tick, ← wg', ← wc'] at hi
  exact ⟨hp, fun h => ⟨fun i hg => ⟨((hi h).1 i hg).1, hdr ((hi h).1 i hg).2⟩,
    fun hr => ⟨((hi h).2 hr).1, fun hn => hdr (((hi h).2 hr).2 hn)⟩⟩⟩

theorem checked_dropInhibited (g : Gid) : checked s s.dropInhibited g := by
  obtain ⟨w, hw, he⟩ := onWay_dropInhibited (s := s) g
  exact checked_of_way checked_dropIfInhibited hw he

end Ticks

end Sys2Proof.Machine
end

section
/-! SUPPORT. The tenth tick before the clock's own advance, block by block (R4, R25, R34, R39, R50, R88, R148, R156). -/

namespace Sys2Proof.Machine

set_option Elab.async false

namespace Ticks

open Acts Ending Modes Causes Stages Inputs Samples

variable {G : Gid → Prop} {K : List Part} {s a b t u v : State} {g k : Gid}

/-! ### The sequencer's timers (R4, R25, R34, R39) -/

/-- The sequencer record with the times of the tick advanced. -/
def counting (q : Seq) : Seq := Seq.tickTimers { q with tick := q.tick + 1, tickOpen := true, decided := false }

/-- The state with the times of the tick advanced. -/
def counted (a : State) : State := (tickOpened a).onSeq Seq.tickTimers

theorem seq_counted (a : State) : (counted a).seq = counting a.seq := rfl

theorem group_counted (a : State) (g : Gid) :
    (counted a).group g = { a.group g with timeIn := min 65535 ((a.group g).timeIn + 1) } := group_tickTimers (s := tickOpened a) g

/-- The sequencer record after the gap timer. -/
def gapped (a : State) : Seq :=
  if a.sup.mode = .normal then { counting a.seq with gap := a.gapHold.getD (a.seq.gap - 1) } else counting a.seq

theorem gapHold_counted (a : State) : (counted a).gapHold = a.gapHold :=
  Grounds.gapHold (s := a) (t := counted a) ⟨rfl, rfl, rfl, fun g => by rw [group_counted]⟩ rfl

theorem tickGap_counted (a : State) : (counted a).tickGap = (counted a).onSeq fun _ => gapped a := by
  unfold State.tickGap gapped
  rw [gapHold_counted]
  by_cases hm : a.sup.mode = .normal
  · rw [if_pos (show (counted a).sup.mode = _ from hm), if_pos hm]
    cases a.gapHold <;> rfl
  · rw [if_neg (show (counted a).sup.mode ≠ _ from hm), if_neg hm]
    rfl

/-- The state after the gap timer. -/
def timed (a : State) : State := (counted a).tickGap

theorem seq_timed (a : State) : (timed a).seq = gapped a := by
  unfold timed; rw [tickGap_counted]; rfl

theorem gapped_groups (a : State) : (gapped a).groups = (counting a.seq).groups := by unfold gapped; split <;> rfl

theorem group_timed (a : State) (g : Gid) :
    (timed a).group g = { a.group g with timeIn := min 65535 ((a.group g).timeIn + 1) } := by
  rw [← group_counted]
  unfold State.group
  rw [seq_timed, gapped_groups]
  rfl

theorem ways_gapped (a : State) : (gapped a).change = a.seq.change ∧ (gapped a).dropped = a.seq.dropped ∧
    (gapped a).joined = a.seq.joined ∧ (gapped a).tick = a.seq.tick + 1 := by
  unfold gapped; split <;> exact ⟨rfl, rfl, rfl, rfl⟩

/-! ### The Plan Runner (R50) -/

/-- The sequencer record of the tick after the Plan Runner. -/
def ran (a : State) : Seq :=
  if a.sup.mode = .normal ∧ a.activePlan.coordinated = true then (gapped a).advance a.activePlan else gapped a

/-- The position that a step of the cycle reaches, the end of the cycle as the cycle time. -/
def reachedAt (p : PlanRec) (l : Nat) : Nat := if decide (p.cycle ≤ l + 1) then p.cycle else l + 1

/-- The cycle position one tenth on (R50). -/
def walked (p : PlanRec) (l : Nat) (q : Seq) : Seq :=
  { q with
    pos := some (if decide (p.cycle ≤ l + 1) then 0 else l + 1)
    cycleStart := q.cycleStart || decide (p.cycle ≤ l + 1)
    changePoint := q.changePoint || decide (p.cycle ≤ l + 1)
    endDue := q.endDue.map fun e => if e.jump = some (reachedAt p l) then { e with jump := none } else e }

/-- The end position of the decision entry is reached, or was. -/
abbrev arrived (p : PlanRec) (l : Nat) (q : Seq) : Prop := q.decision.map p.endOf = some (reachedAt p l) ∨ q.reached = true

theorem advance_walks {q : Seq} {l : Nat} (p : PlanRec) (hp : q.pos = some l) (hh : q.hold = none) : q.advance p =
    if arrived p l q then
      (if q.priority.isEmpty = true then { walked p l q with reached := true } else (walked p l q).moveOn p)
    else walked p l q := by
  cases q
  dsimp only at hp hh
  subst hp hh
  rfl

theorem advance_idle {q : Seq} (p : PlanRec) (hp : q.pos = none) : q.advance p = q := by
  unfold Seq.advance; rw [hp]

theorem advance_held {q : Seq} {l h : Nat} (p : PlanRec) (hp : q.pos = some l) (hh : q.hold = some h) :
    q.advance p = { q with hold := some (h - 1) } := by
  unfold Seq.advance; rw [hp]; dsimp only; rw [hh]

theorem advance_on {q : Seq} {l : Nat} (p : PlanRec) (hp : q.pos = some l) (hh : q.hold = none) (ha : ¬arrived p l q) :
    q.advance p = walked p l q := by
  rw [advance_walks p hp hh, if_neg ha]

theorem advance_arrived {q : Seq} {l : Nat} (p : PlanRec) (hp : q.pos = some l) (hh : q.hold = none) (ha : arrived p l q)
    (hq : q.priority = []) : q.advance p = { walked p l q with reached := true } := by
  rw [advance_walks p hp hh, if_pos ha, hq]; rfl

theorem advance_passed {q : Seq} {l : Nat} (p : PlanRec) (hp : q.pos = some l) (hh : q.hold = none) (ha : arrived p l q)
    (hq : q.priority ≠ []) : q.advance p = (walked p l q).moveOn p := by
  rw [advance_walks p hp hh, if_pos ha, if_neg (by rw [List.isEmpty_iff]; exact hq)]

/-- The Plan Runner's tick leaves the groups and their ways, and does not rest on them. -/
theorem advance_course (q : Seq) (p : PlanRec) : Seq.course (q.advance p) = Seq.course ((Seq.course q).advance p) ∧
    (q.advance p).groups = q.groups ∧ (q.advance p).change = q.change ∧ (q.advance p).dropped = q.dropped ∧
    (q.advance p).joined = q.joined := by
  cases hp : q.pos with
  | none =>
    rw [advance_idle p hp, advance_idle (q := Seq.course q) p hp]
    exact ⟨rfl, rfl, rfl, rfl, rfl⟩
  | some l =>
    cases hh : q.hold with
    | some h =>
      rw [advance_held p hp hh, advance_held (q := Seq.course q) p hp hh]
      exact ⟨rfl, rfl, rfl, rfl, rfl⟩
    | none =>
      by_cases ha : arrived p l q
      · by_cases hq : q.priority = []
        · rw [advance_arrived p hp hh ha hq, advance_arrived (q := Seq.course q) p hp hh ha hq]
          exact ⟨rfl, rfl, rfl, rfl, rfl⟩
        · rw [advance_passed p hp hh ha hq, advance_passed (q := Seq.course q) p hp hh ha hq]
          exact ⟨rfl, rfl, rfl, rfl, rfl⟩
      · rw [advance_on p hp hh ha, advance_on (q := Seq.course q) p hp hh ha]
        exact ⟨rfl, rfl, rfl, rfl, rfl⟩

theorem course_advance {q r : Seq} (p : PlanRec) (h : Seq.course q = Seq.course r) :
    Seq.course (q.advance p) = Seq.course (r.advance p) := by
  rw [(advance_course q p).1, (advance_course r p).1, h]

theorem activePlan_of (hcfg : t.cfg = s.cfg) (ha : t.seq.active = s.seq.active) : t.activePlan = s.activePlan := by
  unfold State.activePlan State.plan; rw [hcfg, ha]

theorem course_tickRunner (hb : Seq.course b.seq = Seq.course (gapped a)) (hm : b.sup.mode = a.sup.mode) (hcfg : b.cfg = a.cfg)
    (ha : (gapped a).active = a.seq.active) : Seq.course b.tickRunner.seq = Seq.course (ran a) := by
  have hactive : b.activePlan = a.activePlan := activePlan_of hcfg ((course_field Seq.active hb).trans ha)
  unfold State.tickRunner ran
  rw [hactive, hm]
  split
  · rw [State.onSeq_seq]; exact course_advance _ hb
  · exact hb

/-! ### The other blocks (R88, R148, R156) -/

theorem sup_tickSup (w : Bool) : (s.onSup fun u => u.tick w).sup = s.sup.tick w := rfl

/-- The inhibitions checked. -/
def turned (a : State) : State := (timed a).checkInhibited

theorem tickBegun_eq (a : State) : tickBegun a =
    (((turned a).tickRunner.tickInputs).onCbt Cbt.tick).onSup fun u =>
      u.tick (((turned a).tickRunner.tickInputs).onCbt Cbt.tick).waitingSupply := rfl

/-- What a tick may write before the clock's own advance. -/
abbrev begunParts : List Part := [.tick, .det, .sup, .grace] ++ greenParts

theorem acts_turned : Acts G (.tick :: greenParts) a (turned a) :=
  Acts.trans (Acts.trans (Acts.trans acts_tickOpened.up (one (.timers (K := [.seq]) (by decide))).up) acts_tickGap.up)
    acts_checkInhibited.up

theorem acts_begun : Acts G begunParts a (tickBegun a) := by
  rw [tickBegun_eq]
  exact Acts.trans (Acts.trans (Acts.trans (Acts.trans acts_turned.up acts_tickRunner.up) acts_tickInputs.up) acts_tickTester.up)
    (acts_tickSup _).up

theorem seq_tickInputs (s : State) : s.tickInputs.seq = s.seq := rfl

theorem seq_begun (a : State) : (tickBegun a).seq = (turned a).tickRunner.seq := by
  rw [tickBegun_eq, State.onSup_seq, State.onCbt_seq, seq_tickInputs]

theorem course_begun (a : State) : Seq.course (tickBegun a).seq = Seq.course (ran a) := by
  rw [seq_begun]
  refine course_tickRunner ?_ ?_ ?_ ?_
  · rw [← seq_timed]
    exact congrArg Prod.fst (coursed_checkInhibited (s := timed a))
  · exact (acts_turned (G := fun _ => True)).modes_eq
  · exact (acts_turned (G := fun _ => True)).cfg_eq
  · unfold gapped; split <;> rfl

theorem sweep_begun (a : State) : (tickBegun a).cbt.period = a.cbt.period ∧
    (tickBegun a).cbt.sweepTime = (if a.cbt.period = none then a.cbt.sweepTime else min 864000 (a.cbt.sweepTime + 1)) := by
  have htimed : (timed a).cbt = a.cbt := by unfold timed; rw [tickGap_counted]; rfl
  have hsweep : sweepOf (turned a) = sweepOf (timed a) := congrArg Prod.snd (coursed_checkInhibited (s := timed a))
  have hrun (w : State) : w.tickRunner.tickInputs.cbt = w.cbt := by unfold State.tickRunner; split <;> rfl
  have hcbt : (tickBegun a).cbt = (turned a).cbt.tick := by rw [tickBegun_eq, State.onSup_cbt, State.onCbt_cbt, hrun]
  simp only [sweepOf, htimed, Prod.mk.injEq] at hsweep
  obtain ⟨hp, hs⟩ := hsweep
  rw [hcbt, ← hp, ← hs]
  obtain ⟨w, hw⟩ : ∃ w, w = (turned a).cbt := ⟨_, rfl⟩
  rw [← hw]
  unfold Cbt.tick
  cases h : w.period with
  | none => exact ⟨h, rfl⟩
  | some n => exact ⟨rfl, rfl⟩

theorem input_begun (a : State) (d : Det) : (tickBegun a).input d =
    if a.inputUsed d = true then { a.input d with stateTime := min 16777215 ((a.input d).stateTime + 1) } else a.input d := by
  have hacts : Acts (fun _ => True) (.tick :: greenParts) a (turned a).tickRunner := acts_turned.trans acts_tickRunner.up
  have hin (w : State) : w.tickInputs.input d =
      if w.inputUsed d = true then { w.input d with stateTime := min 16777215 ((w.input d).stateTime + 1) } else w.input d := by
    unfold State.tickInputs State.input State.onDet
    rw [Tab.get_ofFn]
  have hused : (turned a).tickRunner.inputUsed d = a.inputUsed d := by
    unfold State.inputUsed State.detector; rw [hacts.cfg_eq]
  have hinput : (turned a).tickRunner.input d = a.input d := by unfold State.input; rw [hacts.det_eq]
  have hlast : (tickBegun a).input d = (turned a).tickRunner.tickInputs.input d := by
    unfold State.input; rw [tickBegun_eq, State.onSup_det, State.onCbt_det]
  rw [hlast, hin, hused, hinput]

/-- The supervisor's times at the tick. -/
theorem sup_begun (a : State) : ∃ x, (tickBegun a).sup = x.tick a.waitingSupply ∧ Sup.core x = Sup.core a.sup ∧
    x.grace = a.sup.grace := by
  have hacts : Acts (fun _ => True) ([.tick, .det] ++ greenParts) a (((turned a).tickRunner.tickInputs).onCbt Cbt.tick) :=
    Acts.trans (Acts.trans (Acts.trans acts_turned.up acts_tickRunner.up) acts_tickInputs.up) acts_tickTester.up
  have hw : (((turned a).tickRunner.tickInputs).onCbt Cbt.tick).waitingSupply = a.waitingSupply :=
    Relays.waitingSupply_of_acts hacts
  refine ⟨_, ?_, hacts.core_eq, hacts.grace_eq⟩
  rw [tickBegun_eq, hw]
  exact sup_tickSup _

/-! ### The groups -/

theorem group_tickRunner (g : Gid) : b.tickRunner.group g = b.group g := by
  unfold State.tickRunner
  split
  · unfold State.group; rw [State.onSeq_seq, (advance_course _ _).2.1]
  · rfl

theorem ways_tickRunner : b.tickRunner.seq.change = b.seq.change ∧ b.tickRunner.seq.dropped = b.seq.dropped ∧
    b.tickRunner.seq.joined = b.seq.joined := by
  unfold State.tickRunner
  split
  · rw [State.onSeq_seq]; exact (advance_course _ _).2.2
  · exact ⟨rfl, rfl, rfl⟩

theorem group_begun (a : State) (g : Gid) : (tickBegun a).group g = (turned a).group g := by
  rw [← group_tickRunner (b := turned a)]
  unfold State.group
  rw [seq_begun]

/-- A group whose colour state stands has one more tenth in it. -/
theorem timeIn_begun (a : State) (g : Gid) (hc : ((tickBegun a).group g).colour = (a.group g).colour) :
    ((tickBegun a).group g).timeIn = min 65535 ((a.group g).timeIn + 1) := by
  rw [group_begun] at hc ⊢
  have hphase : phaseOf (turned a) g = phaseOf (timed a) g := by
    unfold turned State.checkInhibited at hc ⊢
    split
    · next hm =>
      rw [if_pos hm] at hc
      refine (checked_dropInhibited (s := timed a) g).1.resolve_right fun ⟨hr, hred⟩ => ?_
      rw [group_timed] at hr
      rw [hred] at hc
      exact absurd (hc.trans hr) nofun
    · rfl
  have h := congrArg (fun p => p.2.1) hphase
  exact h.trans (by show ((timed a).group g).timeIn = _; rw [group_timed])

/-- In NORMAL an inhibited group on its way to GREEN is dropped at the tick (R31). -/
theorem dropped_begun (hm : a.sup.mode = .normal) (hi : (a.group g).inhibited = true) :
    (∀ i, a.seq.gainingInstant g = some i →
      (tickBegun a).seq.gainingInstant g = none ∧ (g, (a.seq.joinedInstant g).getD i) ∈ (tickBegun a).seq.dropped) ∧
    ((a.group g).colour = .redAmber → ((tickBegun a).group g).colour = .red ∧
      (a.seq.gainingInstant g = none → (g, (a.seq.joinedInstant g).getD (a.seq.tick + 1)) ∈ (tickBegun a).seq.dropped)) := by
  have hm' : (timed a).sup.mode = .normal := by
    have h : Acts (fun _ => True) [.seq, .tick] a (timed a) :=
      Acts.trans (Acts.trans acts_tickOpened.up (one (.timers (K := [.seq]) (by decide))).up) acts_tickGap.up
    rw [h.modes_eq, hm]
  have hcheck : checked (timed a) (turned a) g := by
    unfold turned State.checkInhibited
    rw [if_pos hm']
    exact checked_dropInhibited g
  obtain ⟨hch, hdr, hjo, htk⟩ := ways_gapped a
  have hgain : (timed a).seq.gainingInstant g = a.seq.gainingInstant g := by
    unfold Seq.gainingInstant; rw [seq_timed, hch]
  have hjoin : (timed a).seq.joinedInstant g = a.seq.joinedInstant g := by
    unfold Seq.joinedInstant; rw [seq_timed, hjo]
  obtain ⟨rch, rdr, rjo⟩ := ways_tickRunner (b := turned a)
  have hgain' : (tickBegun a).seq.gainingInstant g = (turned a).seq.gainingInstant g := by
    unfold Seq.gainingInstant; rw [seq_begun, rch]
  have h := hcheck.2 (by rw [group_timed]; exact hi)
  rw [hgain, hjoin, group_timed, seq_timed, htk] at h
  rw [hgain', group_begun, seq_begun, rdr]
  exact h

end Ticks

end Sys2Proof.Machine
end

section
/-! SUPPORT. The clock's own advance at a tenth tick, with the evaluation it may bring (R71, R79, R83). -/

namespace Sys2Proof.Machine

set_option Elab.async false

namespace Ticks

open Acts Ending Modes Causes Commits Deliver

variable {G : Gid → Prop} {K : List Part} {s a b t u v : State}

/-! ### The clock one tenth on, or set (R71, R79) -/

/-- The time set as it was asked for. -/
def clockSet (b : State) (d : Date) (tod : Nat) : State :=
  (((b.onClk fun k => { k with date := d, tod := tod, valid := true, pendingSet := none, setTags := [] }).clearFault
    .timeInvalid .nothing).addEvents PendingSet.ofClock)

/-- The time one tenth on. -/
def stepped (b : State) : State :=
  b.onClk fun k =>
    { k with
      date := (advanceTenth b.clk.date b.clk.tod).1
      tod := (advanceTenth b.clk.date b.clk.tod).2.1
      secs := secondsAfter k.secs (advanceTenth b.clk.date b.clk.tod).2.1 }

/-- The end of the date range. -/
def rangeEnded (b : State) : State :=
  ((b.onClk fun k => { k with valid := false }).report .timeInvalid .nothing).addEvents PendingSet.ofClock

/-- The time advanced. -/
def clockStepped (b : State) : State :=
  if (advanceTenth b.clk.date b.clk.tod).2.2 then rangeEnded (stepped b) else stepped b

/-- The state in which the clock's evaluation is made, or would be. -/
def clockTaken (b : State) : State :=
  match b.clk.pendingSet with
  | some (d, tod) => clockSet b d tod
  | none => clockStepped b

/-- The requests that the tick answers. -/
def answersOf (b : State) : List Byte := if b.clk.pendingSet = none then [] else b.clk.setTags

/-- Requests of CLOCK_SET answered. -/
def setAnswered (tags : List Byte) (s : State) : State := tags.foldl (fun t tag => t.reply tag 0x20#8 .ok []) s

/-- The tick is a minute boundary, or takes a CLOCK_SET (R83). -/
def boundary (b : State) : Prop := b.clk.pendingSet ≠ none ∨ (clockTaken b).clk.tod % 600 = 0

theorem clockTaken_set {d : Date} {tod : Nat} (h : b.clk.pendingSet = some (d, tod)) : clockTaken b = clockSet b d tod := by
  unfold clockTaken; rw [h]

theorem clockTaken_step (h : b.clk.pendingSet = none) : clockTaken b = clockStepped b := by
  unfold clockTaken; rw [h]

/-- The time after a step of the clock. -/
theorem clk_clockStepped (b : State) : (clockStepped b).clk =
    { (stepped b).clk with valid := b.clk.valid && !(advanceTenth b.clk.date b.clk.tod).2.2 } := by
  unfold clockStepped
  cases (advanceTenth b.clk.date b.clk.tod).2.2 with
  | true =>
    show { (stepped b).clk with valid := false } = _
    rw [Bool.not_true, Bool.and_false]
  | false =>
    rw [Bool.not_false, Bool.and_true]
    rfl

theorem advanceTenth_end {d : Date} {tod : Nat} (h : (advanceTenth d tod).2.2 = true) : (advanceTenth d tod).2.1 = 0 := by
  unfold advanceTenth at h ⊢
  split at h
  · exact absurd h nofun
  · next hn => rw [if_neg hn]

theorem tickClock_step (h : b.clk.pendingSet = none) :
    b.tickClock = if (clockStepped b).clk.tod % 600 = 0 then (clockStepped b).reevaluate else clockStepped b := by
  have htod : (clockStepped b).clk.tod = (advanceTenth b.clk.date b.clk.tod).2.1 := by rw [clk_clockStepped]; rfl
  have htick : b.tickClock = b.advanceClock := by unfold State.tickClock; rw [h]
  rw [htick, htod]
  show (if (advanceTenth b.clk.date b.clk.tod).2.2 = true then (stepped b).endOfRange
    else if (advanceTenth b.clk.date b.clk.tod).2.1 % 600 = 0 then (stepped b).reevaluate else stepped b) = _
  unfold clockStepped
  by_cases he : (advanceTenth b.clk.date b.clk.tod).2.2 = true
  · rw [if_pos he, if_pos he, if_pos (by rw [advanceTenth_end he])]
    rfl
  · rw [if_neg he, if_neg he]

/-- The clock at a tick, with its evaluation and its answers. -/
theorem tickClock_eq (b : State) : ((b.sup.mode ≠ .unconfigured ∧ boundary b) →
      b.tickClock = setAnswered (answersOf b) (clockTaken b).evaluate) ∧
    (¬(b.sup.mode ≠ .unconfigured ∧ boundary b) → b.tickClock = setAnswered (answersOf b) (clockTaken b)) := by
  have hmode : (clockTaken b).sup = b.sup := by
    unfold clockTaken clockSet clockStepped rangeEnded stepped
    split
    · rfl
    · split <;> rfl
  have hre : (clockTaken b).reevaluate =
      if b.sup.mode = .unconfigured then clockTaken b else (clockTaken b).evaluate := by
    unfold State.reevaluate; rw [hmode]
  unfold boundary answersOf
  cases hp : b.clk.pendingSet with
  | some x =>
    obtain ⟨d, tod⟩ := x
    have htick : b.tickClock = setAnswered b.clk.setTags (clockTaken b).reevaluate := by
      rw [clockTaken_set hp]
      unfold State.tickClock
      rw [hp]
      rfl
    rw [htick, hre, if_neg (Option.some_ne_none (d, tod))]
    refine ⟨fun h => by rw [if_neg h.1], fun h => ?_⟩
    rw [if_pos (not_not.mp fun hm => h ⟨hm, .inl nofun⟩)]
  | none =>
    rw [if_pos rfl, tickClock_step hp, ← clockTaken_step hp, hre]
    refine ⟨fun h => ?_, fun h => ?_⟩
    · rw [if_pos (h.2.resolve_left fun hn => hn rfl), if_neg h.1]
      rfl
    · split
      · next hz => rw [if_pos (not_not.mp fun hm => h ⟨hm, .inr hz⟩)]; rfl
      · rfl

/-! ### What the clock's advance writes -/

theorem acts_clockTaken : Acts G [.clk, .time, .slots, .flt, .alert] b (clockTaken b) := by
  unfold clockTaken
  split
  · unfold clockSet
    exact Acts.trans (Acts.trans (one (.clk _ (by decide) (.inr (by decide)) (.inr (by decide))))
      (of_edits (edits_clearFault _ _))) (of_edits (edits_addEvents _)).up
  · have hstep : Acts G [.clk, .time, .slots, .flt, .alert] b (stepped b) := (acts_onTime _ rfl).up
    unfold clockStepped rangeEnded
    exact either (fun _ => hstep.trans (Acts.trans (Acts.trans (acts_onTime _ rfl).up (of_edits (edits_report _ _)))
      (of_edits (edits_addEvents _)).up)) fun _ => hstep

theorem clockTaken_parts (b : State) : (clockTaken b).seq = b.seq ∧ (clockTaken b).sup = b.sup ∧ (clockTaken b).sch = b.sch ∧
    (clockTaken b).cfg = b.cfg ∧ (clockTaken b).out = b.out ∧ (clockTaken b).det = b.det ∧ (clockTaken b).cbt = b.cbt ∧
    (clockTaken b).lnk = b.lnk := by
  unfold clockTaken clockSet clockStepped rangeEnded stepped
  split
  · exact ⟨rfl, rfl, rfl, rfl, rfl, rfl, rfl, rfl⟩
  · split <;> exact ⟨rfl, rfl, rfl, rfl, rfl, rfl, rfl, rfl⟩

/-- What is left of a clock at a tick. -/
theorem clk_clockTaken (b : State) : (clockTaken b).clk.trim = b.clk.trim ∧ (clockTaken b).clk.interval = b.clk.interval ∧
    (clockTaken b).clk.pattern = b.clk.pattern ∧ (clockTaken b).clk.pendingSet = none ∧
    (clockTaken b).clk.preference = b.clk.preference ∧ (clockTaken b).clk.source = b.clk.source ∧
    (clockTaken b).clk.stability = b.clk.stability ∧ (clockTaken b).clk.divider = b.clk.divider ∧
    (clockTaken b).clk.mainsCount = b.clk.mainsCount ∧ (clockTaken b).clk.sinceCrossing = b.clk.sinceCrossing := by
  cases hp : b.clk.pendingSet with
  | some x =>
    obtain ⟨d, tod⟩ := x
    rw [clockTaken_set hp]
    exact ⟨rfl, rfl, rfl, rfl, rfl, rfl, rfl, rfl, rfl, rfl⟩
  | none =>
    rw [clockTaken_step hp, clk_clockStepped]
    exact ⟨rfl, rfl, rfl, hp, rfl, rfl, rfl, rfl, rfl, rfl⟩

theorem clock_set {d : Date} {tod : Nat} (h : b.clk.pendingSet = some (d, tod)) :
    (clockTaken b).clk.date = d ∧ (clockTaken b).clk.tod = tod ∧ (clockTaken b).clk.valid = true ∧
      (clockTaken b).clk.setTags = [] ∧ (clockTaken b).clk.secs = b.clk.secs ∧
      (clockTaken b).flt.pendingSet.clock = true := by
  rw [clockTaken_set h]
  exact ⟨rfl, rfl, rfl, rfl, rfl, Bool.or_true _⟩

/-- The time after a tick that takes no CLOCK_SET. -/
theorem clock_step (h : b.clk.pendingSet = none) :
    (clockTaken b).clk.date = (advanceTenth b.clk.date b.clk.tod).1 ∧
      (clockTaken b).clk.tod = (advanceTenth b.clk.date b.clk.tod).2.1 ∧
      (clockTaken b).clk.valid = (b.clk.valid && !(advanceTenth b.clk.date b.clk.tod).2.2) ∧
      (clockTaken b).clk.setTags = b.clk.setTags ∧
      (clockTaken b).clk.secs = secondsAfter b.clk.secs (advanceTenth b.clk.date b.clk.tod).2.1 := by
  rw [clockTaken_step h, clk_clockStepped]
  exact ⟨rfl, rfl, rfl, rfl, rfl⟩

theorem clock_ends (h : b.clk.pendingSet = none) (he : (advanceTenth b.clk.date b.clk.tod).2.2 = true) :
    (clockTaken b).flt.pendingSet.clock = true := by
  rw [clockTaken_step h]
  unfold clockStepped
  rw [if_pos he]
  exact Bool.or_true _

theorem advanceTenth_within {d : Date} {tod : Nat} (h : tod + 1 < 864000) : advanceTenth d tod = (d, tod + 1, false) := if_pos h

theorem advanceTenth_midnight {d : Date} {tod : Nat} (h : tod + 1 = 864000) : advanceTenth d tod = (d.next.1, 0, d.next.2) :=
  if_neg (by rw [h]; exact Nat.lt_irrefl _)

/-! ### The answers (R79) -/

theorem setAnswered_parts (l : List Byte) (w : State) : (setAnswered l w).seq = w.seq ∧ (setAnswered l w).sup = w.sup ∧
    (setAnswered l w).sch = w.sch ∧ (setAnswered l w).cfg = w.cfg ∧ (setAnswered l w).out = w.out ∧
    (setAnswered l w).det = w.det ∧ (setAnswered l w).cbt = w.cbt ∧ (setAnswered l w).clk = w.clk ∧
    (setAnswered l w).flt = w.flt := by
  unfold setAnswered
  induction l generalizing w with
  | nil => exact ⟨rfl, rfl, rfl, rfl, rfl, rfl, rfl, rfl, rfl⟩
  | cons a l ih => exact ih (w.reply a 0x20#8 .ok [])

/-- Each request is answered OK in the output queue, behind what stands there. -/
theorem setAnswered_output (l : List Byte) (w : State) : ∃ x, (setAnswered l w).lnk.output = w.lnk.output ++ x ∧
    ∀ tag ∈ l, ∃ f ∈ x, f.tag = tag ∧ f.code = 0x20#8 + 0x80#8 ∧ f.payload.head? = some (BitVec.ofNat 8 Status.ok.code) := by
  induction l generalizing w with
  | nil => exact ⟨[], (List.append_nil _).symm, nofun⟩
  | cons a l ih =>
    obtain ⟨x, hx, hall⟩ := ih (w.reply a 0x20#8 .ok [])
    refine ⟨⟨a, replyCode 0x20#8, BitVec.ofNat 8 Status.ok.code :: w.summary :: replyBody []⟩ :: x, ?_, fun tag ht => ?_⟩
    · refine Eq.trans hx ?_
      show (w.lnk.output ++ [_]) ++ x = _
      rw [List.append_assoc]
      rfl
    · rcases List.mem_cons.mp ht with ht | ht
      · subst ht
        exact ⟨_, List.mem_cons_self, rfl, Laws.replyCode_of_lt (code := 0x20#8) (by decide), rfl⟩
      · obtain ⟨f, hf, h⟩ := hall tag ht
        exact ⟨f, List.mem_cons_of_mem _ hf, h⟩

theorem acts_setAnswered (l : List Byte) (w : State) : Acts G [.slots] w (setAnswered l w) :=
  foldl l w fun _ _ _ => of_edits (edits_reply _ _ _ _)

end Ticks

end Sys2Proof.Machine
end

section
/-! SUPPORT. From the clock's advance to the end of a step with a tenth tick in it (R83, R163, R31). -/

namespace Sys2Proof.Machine

set_option Elab.async false

namespace Deliver

open Acts Ending Modes Parked Causes Relays Commits

variable {G : Gid → Prop} {K : List Part} {before s e t u v : State}

/-! ### An evaluation that leaves the mode -/

theorem flashEnded_times (w : Bool) (u : Sup) : (flashEnded w u).grace = u.grace ∧ (flashEnded w u).conflicts = u.conflicts ∧
    (flashEnded w u).supplied = u.supplied := by
  unfold flashEnded
  split
  · exact ⟨rfl, rfl, rfl⟩
  · split <;> exact ⟨rfl, rfl, rfl⟩

/-- What an evaluation that leaves the mode may write. -/
abbrev stayParts : List Part := [.sch, .flt, .planFault, .sup, .seq]

/-- An evaluation that leaves the mode changes at most the exit of the check, the saved state and the pending plan. -/
theorem evaluate_stays (hm : e.evaluate.sup.mode = e.sup.mode) :
    e.evaluate.sup = { e.sup with exit := e.evaluate.sup.exit, saved := e.evaluate.sup.saved } ∧
      e.evaluate.seq = { e.seq with pendingPlan := e.evaluate.seq.pendingPlan } ∧
      Acts (fun _ => True) stayParts e e.evaluate := by
  have hj : (judged e).sup = e.sup := (acts_judged (G := fun _ => True)).sup_eq
  have hq : (judged e).seq = e.seq := show (announced e).seq = e.seq from seq_announced
  have hann : Acts (fun _ => True) stayParts e (announced e) := acts_announced.up
  have hkept {w : State} (hs : w.sup = e.sup) (hw : w.seq = e.seq) (ha : Acts (fun _ => True) stayParts e w) :
      w.sup = { e.sup with exit := w.sup.exit, saved := w.sup.saved } ∧
        w.seq = { e.seq with pendingPlan := w.seq.pendingPlan } ∧ Acts (fun _ => True) stayParts e w := by
    rw [hs, hw]; exact ⟨rfl, rfl, ha⟩
  by_cases h : e.sch.action = some e.select.action
  · rw [evaluate_same h]; exact hkept hj hq acts_judged.up
  · cases hsel : e.select.action with
    | flash =>
      rw [evaluate_flash h hsel] at hm ⊢
      by_cases hs : starting (announced e)
      · have hmode := (scheduledFlashStart_starting hs).1
        rw [sup_announced] at hmode
        rw [hm] at hmode
        have hst := (starting_announced.mp hs).2
        rcases hst with hn | hn | ⟨hn, -⟩ <;> rw [hn] at hmode <;> exact absurd hmode (by decide)
      · by_cases hc : (announced e).waitingSupply = true ∨ (announced e).sup.mode ≠ .startupCheck
        · rw [scheduledFlashStart_stays hs hc]; exact hkept sup_announced seq_announced hann
        · obtain ⟨hw, hm⟩ := not_or.mp hc
          rw [scheduledFlashStart_check (by simpa using hw) (not_not.mp hm)]
          refine ⟨?_, ?_, hann.trans (acts_sup _ rfl rfl rfl).up⟩
          · rw [State.onSup_sup, sup_announced]
          · rw [State.onSup_seq, seq_announced]
    | plan p =>
      rw [evaluate_plan h hsel] at hm ⊢
      have hhand {w : State} (hs : w.sup = { e.sup with exit := w.sup.exit, saved := w.sup.saved }) (hw : w.seq = e.seq)
          (ha : Acts (fun _ => True) stayParts e w) :
          (w.deliverPlan p).sup = { e.sup with exit := (w.deliverPlan p).sup.exit, saved := (w.deliverPlan p).sup.saved } ∧
            (w.deliverPlan p).seq = { e.seq with pendingPlan := (w.deliverPlan p).seq.pendingPlan } ∧
            Acts (fun _ => True) stayParts e (w.deliverPlan p) := by
        refine ⟨by rw [sup_deliverPlan]; exact hs, ?_, ha.trans (acts_deliverPlan p).up⟩
        unfold State.deliverPlan
        split
        · rw [State.onSeq_seq, hw]
        · rw [hw]
      by_cases hf : e.sch.action = some .flash
      · by_cases hs : scheduled e
        · rw [handed_scheduled hf hs] at hm
          have hc := checking_enterStartupCheck (s := announced e) (announced e).scheduledExit
          unfold checking at hc
          rw [hm] at hc
          rcases hs.2.1 with hn | hn <;> rw [hn] at hc <;> exact absurd hc (by decide)
        · unfold handed
          rw [if_pos hf, scheduledFlashEnd_else (mt scheduled_announced.mp hs)]
          refine hhand ?_ (by rw [State.onSup_seq, seq_announced]) (hann.trans ?_)
          · rw [State.onSup_sup, sup_announced]
            unfold flashEnded
            split
            · rfl
            · split <;> rfl
          · obtain ⟨fm, -⟩ := flashEnded_fields (announced e).waitingSupply (announced e).sup
            obtain ⟨hg, hc, hs⟩ := flashEnded_times (announced e).waitingSupply (announced e).sup
            exact (acts_sup _ fm hg hc hs).up
      · unfold handed
        rw [if_neg hf]
        exact hhand (by rw [sup_announced]) seq_announced hann

/-- An evaluation in a drained mode ends in one, or in STARTUP_CHECK. -/
theorem evaluate_drained (h : e.sup.mode.drains = true) :
    e.evaluate.sup.mode.drains = true ∨ e.evaluate.sup.mode = .startupCheck := by
  rcases mode_evaluate e with hm | ⟨-, hm⟩ | ⟨-, hc⟩
  · rw [hm]; exact .inl h
  · rw [hm]; split <;> exact .inl rfl
  · rcases hc with hc | hc
    · exact .inr hc
    · rw [hc]; exact .inl rfl

theorem reevaluate_drained (h : e.sup.mode.drains = true) :
    e.reevaluate.sup.mode.drains = true ∨ e.reevaluate.sup.mode = .startupCheck := by
  unfold State.reevaluate
  split
  · exact .inl h
  · exact evaluate_drained h

theorem applyPending_drained (h : s.sup.mode.drains = true) :
    s.applyPending.sup.mode.drains = true ∨ s.applyPending.sup.mode = .startupCheck := by
  cases hp : s.cfg.pendingCommit with
  | none => rw [applyPending_of_none hp]; exact .inl h
  | some tm =>
    have hmode : (retaken s tm).sup.mode = s.sup.mode := (fields_of_retaken (sup_retaken tm)).1
    have hactive := (acts_retakeActive (G := fun _ => True) (s := (retaken s tm).scheduleAtCommit) (unpended s)).modes_eq
    rw [applyPending_eq hp, hactive]
    rw [← hmode] at h
    unfold State.scheduleAtCommit
    split
    · exact reevaluate_drained (e := (retaken s tm).onSch fun h => { h with forced := none }) h
    · exact reevaluate_drained h

/-! ### What stands after a delivery -/

/-- All that a delivery changes stands from one state to another. -/
structure Stands (u t : State) : Prop where
  length : u.flt.entries.length ≤ t.flt.entries.length
  kept : ∀ x ∈ u.flt.entries, x.kind = .planUndefined → t.flt.entries.length < 64 → x ∈ t.flt.entries
  old : ∀ x ∈ t.flt.entries, x.kind = .planUndefined → x ∈ u.flt.entries
  planChange : u.flt.pendingSet.planChange = true → t.flt.pendingSet.planChange = true
  core : Sup.core t.sup = Sup.core u.sup
  plans : t.seq.pendingPlan = u.seq.pendingPlan ∧ t.seq.active = u.seq.active
  closeCommand : t.out.contactor.closeCommand = u.out.contactor.closeCommand
  colours : ∀ g, (t.group g).colour = (u.group g).colour

theorem stands_of_acts (h : Acts G K u v)
    (hK : Part.table ∉ K ∧ Part.planFault ∉ K ∧ Part.mode ∉ K ∧ Part.sup ∉ K ∧ Part.contactor ∉ K ∧ Part.colour ∉ K := by decide)
    (hq : v.seq.pendingPlan = u.seq.pendingPlan ∧ v.seq.active = u.seq.active) : Stands u v := by
  obtain ⟨kt, kp, km, ks, kc, kg⟩ := hK
  exact ⟨h.entries_length_le kt, fun x hx hk hl => h.entry_kept hx hl (by rw [hk]; exact kp) kt,
    fun x hx hk => h.entry_old hx (by rw [hk]; exact kp) kt, planChange_grows h kt, h.core_eq ⟨km, ks⟩, hq,
    congrArg Contactor.closeCommand (h.contactor_eq kc).1, fun g => h.colour_eq g kg⟩

theorem stands_closeAdditions (u : State) : Stands u (State.closeAdditions before u) := by
  refine ⟨?_, ?_, ?_, ?_, ?_, ?_, ?_, ?_⟩
  · rw [closeAdditions_entries]
  · rw [closeAdditions_entries]; exact fun _ h _ _ => h
  · rw [closeAdditions_entries]; exact fun _ h _ => h
  · rw [closeAdditions_pendingSet]; exact id
  · rw [closeAdditions_sup]
  · rw [closeAdditions_seq]; exact ⟨rfl, rfl⟩
  · rw [closeAdditions_out]
  · exact fun g => by rw [closeAdditions_group]

theorem Echo.followed (h : Echo s t) (h' : Stands t u) : Echo s u := by
  refine ⟨h.length.trans h'.length, fun x hx hk hl => h'.kept x (h.kept x hx hk (h'.length.trans_lt hl)) hk hl,
    fun x hx hk => h.old x (h'.old x hx hk) hk, fun hp => h'.planChange (h.planChange hp),
    (core_field Sup.saved h'.core).trans h.saved, fun hs => ?_⟩
  obtain ⟨a1, a2, a3, a4, a5, a6, a7, a8⟩ := h.stands hs
  exact ⟨(core_field Sup.mode h'.core).trans a1, (core_field Sup.reason h'.core).trans a2, (core_field Sup.latched h'.core).trans a3,
    (core_field Sup.exit h'.core).trans a4, h'.plans.1.trans a5, h'.plans.2.trans a6, h'.closeCommand.trans a7,
    fun g => (h'.colours g).trans (a8 g)⟩

theorem Echo.after (h : Stands s t) (h' : Echo t u) : Echo s u := by
  have hm := core_field Sup.mode h.core
  have hn := core_field Sup.flashNext h.core
  refine ⟨h.length.trans h'.length, fun x hx hk hl => h'.kept x (h.kept x hx hk (h'.length.trans_lt hl)) hk hl,
    fun x hx hk => h.old x (h'.old x hx hk) hk, fun hp => h'.planChange (h.planChange hp),
    h'.saved.trans (core_field Sup.saved h.core), fun hs => ?_⟩
  obtain ⟨a1, a2, a3, a4, a5, a6, a7, a8⟩ := h'.stands (by rw [hm, hn]; exact hs)
  exact ⟨a1.trans hm, a2.trans (core_field Sup.reason h.core), a3.trans (core_field Sup.latched h.core),
    a4.trans (core_field Sup.exit h.core), a5.trans h.plans.1, a6.trans h.plans.2, a7.trans h.closeCommand,
    fun g => (a8 g).trans (h.colours g)⟩

/-! ### The FLASH that waits in STARTUP_RED (R163) -/

theorem takeFlashNext_none (h : s.sup.flashNext = none) : s.takeFlashNext = s := by
  unfold State.takeFlashNext; rw [h]

theorem takeFlashNext_red {r : Option Reason} {l : Bool} (h : s.sup.flashNext = some (r, l)) (hm : s.sup.mode = .startupRed) :
    s.takeFlashNext = s.enterFlash r l := by
  unfold State.takeFlashNext; rw [h]; exact if_pos hm

theorem takeFlashNext_else (hm : s.sup.mode ≠ .startupRed) :
    s.takeFlashNext = s ∨ s.takeFlashNext = s.onSup fun u => { u with flashNext := none } := by
  unfold State.takeFlashNext
  split
  · exact .inr (if_neg hm)
  · exact .inl rfl

theorem echo_takeFlashNext : Echo s s.takeFlashNext := by
  have hacts : Acts (fun _ => True) flashParts s s.takeFlashNext := acts_takeFlashNext
  have hsaved : s.takeFlashNext.sup.saved = s.sup.saved := by
    unfold State.takeFlashNext
    split
    · split
      · exact (core_field Sup.saved (core_enterFlash _ _)).trans (toFlash_fields _ _ _ _).2.2.2.1
      · rfl
    · rfl
  refine ⟨hacts.entries_length_le, fun x hx hk hl => hacts.entry_kept hx hl (by rw [hk]; decide),
    fun x hx hk => hacts.entry_old hx (by rw [hk]; decide), planChange_grows hacts, hsaved, fun h => ?_⟩
  rcases h with h | h
  · rw [takeFlashNext_none h]; exact ⟨rfl, rfl, rfl, rfl, rfl, rfl, rfl, fun _ => rfl⟩
  · rcases takeFlashNext_else h with h | h <;> rw [h] <;> exact ⟨rfl, rfl, rfl, rfl, rfl, rfl, rfl, fun _ => rfl⟩

theorem mode_takeFlashNext (h : s.sup.flashNext = none ∨ s.sup.mode ≠ .startupRed) : s.takeFlashNext.sup.mode = s.sup.mode :=
  (echo_takeFlashNext.stands h).1

/-- A commit's marks stand in the counted additions. -/
theorem commits_closeAdditions {tm : Timing} (h : s.commits v tm) : s.commits (State.closeAdditions before v) tm := by
  unfold State.commits State.wearJudged State.settings State.chan at h ⊢
  simp only [closeAdditions_cfg, closeAdditions_pendingSet, closeAdditions_clk, closeAdditions_entries, closeAdditions_sch,
    closeAdditions_out]
  exact h

end Deliver

end Sys2Proof.Machine
end

section
/-! SUPPORT. A step with a tenth tick in it: the Day Schedule at the tick (R71, R79, R83, R163). -/

namespace Sys2Proof.Machine

set_option Elab.async false

namespace Ticks

open Acts Ending Modes Parked Causes Relays Commits Deliver Stages

variable {G : Gid → Prop} {K : List Part} {before s a b e t u v w : State} {l : List Byte}

/-! ### A state that ticks as another (R73, R74, R76) -/

/-- The state in which the tenth tick is made agrees with the one that the step met, but for what times the tick. -/
structure Ticking (s a : State) : Prop where
  seq : a.seq = s.seq
  sup : a.sup = s.sup
  cfg : a.cfg = s.cfg
  det : a.det = s.det
  cbt : a.cbt = s.cbt
  out : a.out = s.out
  sch : a.sch = s.sch
  output : a.lnk.output = s.lnk.output
  date : a.clk.date = s.clk.date
  tod : a.clk.tod = s.clk.tod
  valid : a.clk.valid = s.clk.valid
  secs : a.clk.secs = s.clk.secs
  pendingSet : a.clk.pendingSet = s.clk.pendingSet
  setTags : a.clk.setTags = s.clk.setTags

/-! ### The sequencer record at the tick -/

/-- The Plan Runner's tick writes the cycle position and the decision, and nothing else (R50, R68). -/
theorem advance_form (q : Seq) (p : PlanRec) : q.advance p = { q with
    pos := (q.advance p).pos, hold := (q.advance p).hold, cycleStart := (q.advance p).cycleStart,
    changePoint := (q.advance p).changePoint, endDue := (q.advance p).endDue, decision := (q.advance p).decision,
    reached := (q.advance p).reached, allowance := (q.advance p).allowance } := by
  cases hp : q.pos with
  | none => rw [advance_idle p hp]
  | some l =>
    cases hh : q.hold with
    | some h => rw [advance_held p hp hh]
    | none =>
      by_cases ha : arrived p l q
      · by_cases hq : q.priority = []
        · rw [advance_arrived p hp hh ha hq]; rfl
        · rw [advance_passed p hp hh ha hq]; rfl
      · rw [advance_on p hp hh ha]; rfl

/-- The plan in force, the pending plan and the other fields that no tick counts. -/
def Seq.settled (q : Seq) := (q.running, q.entry, q.active, q.pendingPlan, q.shorten, q.holdBudget, q.greenStart, q.stageMin, q.maxLimit)

theorem settled_ran (a : State) : Seq.settled (ran a) = Seq.settled a.seq := by
  have hgap : Seq.settled (gapped a) = Seq.settled a.seq := by unfold gapped; split <;> rfl
  unfold ran
  split
  · rw [advance_form]; exact hgap
  · exact hgap

theorem settled_begun (a : State) : Seq.settled (tickBegun a).seq = Seq.settled a.seq :=
  (course_field Seq.settled (course_begun a)).trans (settled_ran a)

/-! ### The state of the evaluation -/

/-- What an evaluation reads of the cabinet is at the tick as it was before. -/
theorem situation_begun (a : State) : (tickBegun a).sup.mode = a.sup.mode ∧ (tickBegun a).sup.reason = a.sup.reason ∧
    (tickBegun a).sup.latched = a.sup.latched ∧ (tickBegun a).sup.exit = a.sup.exit ∧ (tickBegun a).sup.saved = a.sup.saved ∧
    (tickBegun a).sup.flashNext = a.sup.flashNext ∧ (tickBegun a).sup.supplyPresent = a.sup.supplyPresent := by
  obtain ⟨x, hx, hcore, -⟩ := sup_begun a
  have m : x.mode = a.sup.mode := core_field Sup.mode hcore
  have r : x.reason = a.sup.reason := core_field Sup.reason hcore
  have l : x.latched = a.sup.latched := core_field Sup.latched hcore
  have e : x.exit = a.sup.exit := core_field Sup.exit hcore
  have v : x.saved = a.sup.saved := core_field Sup.saved hcore
  have f : x.flashNext = a.sup.flashNext := core_field Sup.flashNext hcore
  have p : x.supplyPresent = a.sup.supplyPresent := core_field Sup.supplyPresent hcore
  rw [hx]
  exact ⟨m, r, l, e, v, f, p⟩

/-- The state in which the tick's evaluation is made, or would be. -/
def taken (a : State) : State := clockTaken (tickBegun a)

theorem alike_taken (h : Ticking s a) : Alike s (taken a) := by
  obtain ⟨hseq, hsup, hsch, hcfg, hout, -⟩ := clockTaken_parts (tickBegun a)
  obtain ⟨m, r, la, ex, sv, fn, sp⟩ := situation_begun a
  have hset := settled_begun a
  simp only [Seq.settled, Prod.mk.injEq] at hset
  obtain ⟨-, -, hact, hpend, -⟩ := hset
  have hacts : Acts (fun _ => True) begunParts a (tickBegun a) := acts_begun
  unfold taken
  refine ⟨?_, ?_, ?_, ?_, ?_, ?_, ?_, ?_, ?_, ?_, ?_, ?_⟩
  · rw [hsch, hacts.sch_eq, h.sch]
  · rw [hsup, m, h.sup]
  · rw [hsup, r, h.sup]
  · rw [hsup, la, h.sup]
  · rw [hsup, ex, h.sup]
  · rw [hsup, sv, h.sup]
  · rw [hsup, fn, h.sup]
  · rw [hsup, sp, h.sup]
  · rw [hseq, hact, h.seq]
  · rw [hseq, hpend, h.seq]
  · rw [hcfg, hacts.cfg_eq, h.cfg]
  · rw [hout, hacts.contactor_eq.1, h.out]

theorem clk_begun (a : State) : (tickBegun a).clk = a.clk := (acts_begun (G := fun _ => True)).clk_eq

theorem sch_taken (h : Ticking s a) : (taken a).sch = s.sch := by
  have hacts : Acts (fun _ => True) begunParts a (tickBegun a) := acts_begun
  exact ((clockTaken_parts (tickBegun a)).2.2.1.trans hacts.sch_eq).trans h.sch

/-! ### The tick after the clock's advance -/

/-- The rest of the tick: the answers, the FLASH that waits and the maximum timer. -/
def closed (l : List Byte) (w : State) : State := (setAnswered l w).takeFlashNext.startMaxTimer

/-- The evaluation is due at the tick (R83). -/
def due (s : State) (tod : Nat) : Prop := s.sup.mode ≠ .unconfigured ∧ (s.clk.pendingSet ≠ none ∨ tod % 600 = 0)

theorem tenthTick_due (h : Ticking s a) (hd : due s (taken a).clk.tod) :
    a.tenthTick = closed (answersOf (tickBegun a)) (taken a).evaluate := by
  rw [tenthTick_eq, (tickClock_eq (tickBegun a)).1]
  · rfl
  · obtain ⟨hm, hb⟩ := hd
    unfold boundary
    rw [(situation_begun a).1, h.sup, clk_begun, h.pendingSet]
    exact ⟨hm, hb⟩

theorem tenthTick_plain (h : Ticking s a) (hd : ¬due s (taken a).clk.tod) :
    a.tenthTick = closed (answersOf (tickBegun a)) (taken a) := by
  rw [tenthTick_eq, (tickClock_eq (tickBegun a)).2]
  · rfl
  · intro hb
    unfold boundary at hb
    rw [(situation_begun a).1, h.sup, clk_begun, h.pendingSet] at hb
    exact hd hb

theorem stands_setAnswered (l : List Byte) (w : State) : Stands w (setAnswered l w) := by
  obtain ⟨hseq, -⟩ := setAnswered_parts l w
  exact stands_of_acts (acts_setAnswered (G := fun _ => True) l w) (by decide) ⟨by rw [hseq], by rw [hseq]⟩

theorem stands_startMaxTimer (w : State) : Stands w w.startMaxTimer := by
  refine stands_of_acts (acts_startMaxTimer (G := fun _ => True)) (by decide) ?_
  unfold State.startMaxTimer
  split <;> exact ⟨rfl, rfl⟩

theorem echo_closed (l : List Byte) (w : State) : Echo w (closed l w) :=
  Echo.after (stands_setAnswered l w) (echo_takeFlashNext.followed (stands_startMaxTimer _))

/-- What the rest of the tick may write. -/
abbrev closedParts : List Part := .slots :: flashParts

theorem acts_closed (l : List Byte) (w : State) : Acts G closedParts w (closed l w) :=
  Acts.trans (Acts.trans (acts_setAnswered l w).up acts_takeFlashNext.up) acts_startMaxTimer.up

theorem sup_startMaxTimer (w : State) : w.startMaxTimer.sup = w.sup := by unfold State.startMaxTimer; split <;> rfl

theorem sup_closed (l : List Byte) (w : State) : (closed l w).sup = (setAnswered l w).takeFlashNext.sup := sup_startMaxTimer _

/-- The rest of the tick leaves the mode, but for a FLASH that waits in STARTUP_RED. -/
theorem mode_closed (l : List Byte) (w : State) (h : w.sup.flashNext = none ∨ w.sup.mode ≠ .startupRed) :
    (closed l w).sup.mode = w.sup.mode := ((echo_closed l w).stands h).1

/-- The FLASH that waits is entered. -/
theorem closed_red {r : Option Reason} {lat : Bool} (h : w.sup.flashNext = some (r, lat)) (hm : w.sup.mode = .startupRed) :
    (closed l w).sup.mode = .flash ∧ (closed l w).sup.reason = r ∧ (closed l w).sup.latched = lat ∧
      (closed l w).seq.coloursDue = true := by
  obtain ⟨-, hsup, -⟩ := setAnswered_parts l w
  have heq : (setAnswered l w).takeFlashNext = (setAnswered l w).enterFlash r lat :=
    takeFlashNext_red (by rw [hsup]; exact h) (by rw [hsup]; exact hm)
  have hcore := core_enterFlash (s := setAnswered l w) r lat
  obtain ⟨fm, fr, fl, -⟩ := toFlash_fields (setAnswered l w).cabinet.attempts r lat (setAnswered l w).sup
  have hdue (x : State) : x.startMaxTimer.seq.coloursDue = x.seq.coloursDue := by
    unfold State.startMaxTimer; split <;> rfl
  rw [sup_closed, heq]
  refine ⟨(core_field Sup.mode hcore).trans fm, (core_field Sup.reason hcore).trans fr, (core_field Sup.latched hcore).trans fl, ?_⟩
  show (setAnswered l w).takeFlashNext.startMaxTimer.seq.coloursDue = true
  rw [hdue, heq]
  rfl

/-! ### The end of the step -/

/-- What a tick may write before its step ends. -/
abbrev tickParts : List Part := [.tick, .det, .clk, .time, .alert, .slots] ++ scheduleParts ++ greenParts

theorem acts_taken (a : State) : Acts G tickParts a (taken a) := acts_begun.up.trans acts_clockTaken.up

theorem acts_tick (a : State) : Acts G tickParts a a.tenthTick := by
  have hb : Acts G tickParts a (tickBegun a) := acts_begun.up
  rw [tenthTick_eq]
  have hclock : Acts G tickParts (tickBegun a) (tickBegun a).tickClock := acts_tickClock.up
  exact Acts.trans (Acts.trans (hb.trans hclock) acts_takeFlashNext.up) acts_startMaxTimer.up

/-- The end of a step with a tick in it, where it applies no commit. -/
theorem tick_closes (hi : ∀ g, (before.group g).inhibited = (a.group g).inhibited)
    (hu : Acts (fun _ => True) [.clk, .flt] a.tenthTick u) (hp : u.sup.mode.drains = true → u.cfg.pendingCommit = none) :
    State.finish before u = State.closeAdditions before u := by
  have hall : Acts (fun _ => True) tickParts a u := (acts_tick a).trans hu.up
  exact finish_closes hp fun g hg => (hi g).trans (inhibited_of_acts hall (by decide) g hg)

/-- The time at the end of the step is that of the tick. -/
theorem timed_finish (hu : Acts (fun _ => True) [.clk, .flt] a.tenthTick u) (h : Ticking s a) :
    (State.finish before u).clk.timed = (taken a).clk.timed := by
  have hend : Acts (fun _ => True) inner u (State.takeInhibition before u.drainPending) :=
    acts_drainPending.trans (acts_takeInhibition _)
  have hlast : (State.finish before u).clk = (State.takeInhibition before u.drainPending).clk := closeAdditions_clk _ _
  rw [hlast, hend.timed_eq, hu.timed_eq]
  by_cases hd : due s (taken a).clk.tod
  · rw [tenthTick_due h hd, (acts_closed (G := fun _ => True) _ _).timed_eq, (Laws.evaluate_spec (taken a)).2.2.2.1]
  · rw [tenthTick_plain h hd, (acts_closed (G := fun _ => True) _ _).timed_eq]

/-- The tick that the sequencer counts. -/
theorem ticked_finish (hu : Acts (fun _ => True) [.clk, .flt] a.tenthTick u) :
    (State.finish before u).seq.tick = a.seq.tick + 1 ∧ (State.finish before u).seq.tickOpen = true := by
  have hend : Acts (fun _ => True) inner u (State.takeInhibition before u.drainPending) :=
    acts_drainPending.trans (acts_takeInhibition _)
  have hclock : Acts (fun _ => True) (.slots :: timeParts) (tickBegun a) (tickBegun a).tickClock := acts_tickClock
  have hrest : Acts (fun _ => True) (.slots :: timeParts) (tickBegun a) a.tenthTick := by
    rw [tenthTick_eq]
    exact Acts.trans (hclock.trans acts_takeFlashNext.up) acts_startMaxTimer.up
  have hticked : (State.finish before u).seq.ticked = (tickBegun a).seq.ticked := by
    show (State.closeAdditions before _).seq.ticked = _
    rw [closeAdditions_seq, hend.ticked_eq, hu.ticked_eq, hrest.ticked_eq]
  have hbegun : (tickBegun a).seq.ticked = (a.seq.tick + 1, true) := by
    refine (course_field Seq.ticked (course_begun a)).trans ?_
    have hgap : (gapped a).ticked = (a.seq.tick + 1, true) := by unfold gapped; split <;> rfl
    unfold ran
    split
    · rw [advance_form]; exact hgap
    · exact hgap
  rw [hbegun] at hticked
  exact ⟨congrArg Prod.fst hticked, congrArg Prod.snd hticked⟩

end Ticks

end Sys2Proof.Machine
end

section
/-! SUPPORT. The end of a step with a tenth tick in it: the Day Schedule's evaluation, and what a tick in which the cabinet
mode stays leaves (R71, R79, R83, R163, R31). -/

namespace Sys2Proof.Machine

set_option Elab.async false

namespace Ticks

open Acts Ending Modes Parked Causes Relays Commits Deliver Stages

variable {before s a b e t u v w : State} {l : List Byte} {g : Gid}

/-- A step from `before` whose tenth tick is made in `a`, and that does little after it; `s` is `before` as far as the tick
reads it. -/
structure Ticked (before s a u : State) : Prop where
  ticking : Ticking s a
  groups : before.seq = s.seq
  acts : Acts (fun _ => True) [.clk, .flt] a.tenthTick u
  seq : u.seq = a.tenthTick.seq
  calm : s.sup.mode.drains = true → s.cfg.pendingCommit = none

/-! ### The records at the tick -/

theorem cfg_tick (h : Ticked before s a u) : u.cfg = s.cfg :=
  (h.acts.cfg_eq.trans (acts_tick (G := fun _ => True) a).cfg_eq).trans h.ticking.cfg

theorem sup_tick (h : Ticked before s a u) : u.sup = a.tenthTick.sup := h.acts.sup_eq

/-- The end of the step, where no commit waits for it. -/
theorem ticked_closes (h : Ticked before s a u) (hp : u.sup.mode.drains = true → s.cfg.pendingCommit = none) :
    State.finish before u = State.closeAdditions before u := by
  refine tick_closes (a := a) (fun g => ?_) h.acts fun hd => ?_
  · unfold State.group; rw [h.groups, h.ticking.seq]
  · rw [cfg_tick h]; exact hp hd

/-- The evaluation of the tick, where it is due, or the state in which none is made. -/
theorem tenthTick_cases (h : Ticked before s a u) :
    (due s (taken a).clk.tod ∧ a.tenthTick = closed (answersOf (tickBegun a)) (taken a).evaluate) ∨
      (¬due s (taken a).clk.tod ∧ a.tenthTick = closed (answersOf (tickBegun a)) (taken a)) := by
  by_cases hd : due s (taken a).clk.tod
  · exact .inl ⟨hd, tenthTick_due h.ticking hd⟩
  · exact .inr ⟨hd, tenthTick_plain h.ticking hd⟩

/-- What stands from the rest of the tick to the end of a step without a commit. -/
theorem echo_ticked (h : Ticked before s a u) (hw : a.tenthTick = closed l w)
    (ht : t = State.closeAdditions before u) : Echo w t := by
  subst ht
  have hu : Stands (closed l w) u := by
    rw [← hw]
    exact stands_of_acts h.acts (by decide) ⟨by rw [h.seq], by rw [h.seq]⟩
  exact ((echo_closed l w).followed hu).followed (stands_closeAdditions u)

/-- An evaluation that starts no FLASH lets no waiting FLASH in where none waits. -/
theorem evaluate_waits (hn : e.sup.flashNext = none) :
    e.evaluate.sup.flashNext = none ∨ e.evaluate.sup.mode ≠ .startupRed := by
  rcases mode_evaluate e with hm | ⟨-, hm⟩ | ⟨-, hc⟩
  · left
    rw [(evaluate_stays hm).1]
    exact hn
  · right; rw [hm]; split <;> decide
  · right
    rcases hc with hc | hc <;> rw [hc] <;> decide

/-! ### The evaluation (R83) -/

theorem mode_tick_due (h : Ticked before s a u) (hd : due s (taken a).clk.tod) (hn : s.sup.flashNext = none) :
    u.sup.mode = (taken a).evaluate.sup.mode := by
  have halike := alike_taken h.ticking
  rw [sup_tick h, tenthTick_due h.ticking hd]
  exact mode_closed _ _ (evaluate_waits (halike.flashNext.trans hn))

theorem time_taken (h : Ticked before s a u) : (State.finish before u).clk.valid = (taken a).clk.valid ∧
    (State.finish before u).clk.date = (taken a).clk.date ∧ (State.finish before u).clk.tod = (taken a).clk.tod := by
  obtain ⟨hd, ht, hv, -⟩ := timed_fields (timed_finish (before := before) h.acts h.ticking)
  exact ⟨hv, hd, ht⟩

/-- The evaluation of the tick, at the end of its step. -/
theorem evaluates_ticked (h : Ticked before s a u) (hd : due s (taken a).clk.tod)
    (hn : s.cfg.pendingCommit = none ∨ s.sup.flashNext = none) :
    s.evaluates (State.finish before u) s.sch.forced := by
  have halike := alike_taken h.ticking
  have hsch : (taken a).sch = s.sch := sch_taken h.ticking
  have hu : u.sch = (taken a).evaluate.sch := by
    rw [h.acts.sch_eq, tenthTick_due h.ticking hd]
    exact (acts_closed (G := fun _ => True) _ _).sch_eq
  refine evaluates_of halike (congrArg Sch.forced hsch) (time_taken h) (fun hp => ?_) fun tm hp hs => ?_
  · have hcalm : u.sup.mode.drains = true → s.cfg.pendingCommit = none := fun hdr => by
      rcases hn with hn | hn
      · exact hn
      · refine hp.elim id fun hs => h.calm ?_
        rw [mode_tick_due h hd hn] at hdr
        rw [← halike.mode]
        exact drains_evaluate (mt (flashStarts_alike halike).mp hs) hdr
    have hend := ticked_closes h hcalm
    refine ⟨?_, ?_, echo_ticked h (tenthTick_due h.ticking hd) hend⟩
    · rw [hend, closeAdditions_cfg, cfg_tick h]
    · rw [hend, closeAdditions_sch, hu]
  · have hnone : s.sup.flashNext = none := hn.resolve_left fun hx => absurd (hp.symm.trans hx) nofun
    have hmode := mode_evaluate_starts ((flashStarts_alike halike).mpr hs)
    rw [← mode_tick_due h hd hnone] at hmode
    have hdr : u.sup.mode.drains = true := by rw [hmode]; split <;> rfl
    have hpu : u.cfg.pendingCommit = some tm := by rw [cfg_tick h]; exact hp
    rw [finish_drains hdr]
    refine ⟨u, commits_closeAdditions (commits_applyPending hpu fun hm => ?_), cfg_tick h, ?_⟩
    · rw [hm] at hdr; exact absurd hdr nofun
    · rw [hu, (Laws.evaluate_spec (taken a)).2.2.2.2.2]
      show (taken a).sch.forced = _
      rw [hsch]

/-- At any other tick the Day Schedule does nothing. -/
theorem plain_ticked (h : Ticked before s a u) (hd : ¬due s (taken a).clk.tod)
    (hn : s.cfg.pendingCommit = none ∨ s.sup.flashNext = none) (ht : t = State.finish before u) :
    t.sch = s.sch ∧ t.cfg = s.cfg ∧
      (s.sup.flashNext = none →
        t.seq.pendingPlan = s.seq.pendingPlan ∧ t.sup.mode = s.sup.mode ∧ t.sup.reason = s.sup.reason ∧
          t.sup.exit = s.sup.exit ∧ t.sup.saved = s.sup.saved) := by
  have halike := alike_taken h.ticking
  have hplain := tenthTick_plain h.ticking hd
  have hcalm : u.sup.mode.drains = true → s.cfg.pendingCommit = none := fun hdr => by
    refine hn.elim id fun hn => h.calm ?_
    rw [sup_tick h, hplain, mode_closed _ _ (.inl (halike.flashNext.trans hn)), halike.mode] at hdr
    exact hdr
  have hend := ht.trans (ticked_closes h hcalm)
  refine ⟨?_, ?_, fun hn => ?_⟩
  · rw [hend, closeAdditions_sch, h.acts.sch_eq, hplain, (acts_closed (G := fun _ => True) _ _).sch_eq]
    exact sch_taken h.ticking
  · rw [hend, closeAdditions_cfg, cfg_tick h]
  · have hecho := echo_ticked h hplain hend
    obtain ⟨h1, h2, -, h4, h5, -⟩ := hecho.stands (.inl (halike.flashNext.trans hn))
    exact ⟨h5.trans halike.pendingPlan, h1.trans halike.mode, h2.trans halike.reason, h4.trans halike.exit,
      hecho.saved.trans halike.saved⟩

/-- The FLASH of a red failure that waits in STARTUP_RED is entered (R163). -/
theorem red_ticked (h : Ticked before s a u) {r : Option Reason} {lat : Bool} (hm : s.sup.mode = .startupRed)
    (hf : s.sup.flashNext = some (r, lat)) (hp : s.cfg.pendingCommit = none)
    (hs : due s (taken a).clk.tod → ¬s.flashStarts (taken a).select) (ht : t = State.finish before u) :
    t.sup.mode = .flash ∧ t.sup.reason = r ∧ t.sup.latched = lat ∧ t.seq.coloursDue = true := by
  have halike := alike_taken h.ticking
  have hend := ht.trans (ticked_closes h fun _ => hp)
  rw [hend, closeAdditions_sup, closeAdditions_seq, sup_tick h, h.seq]
  rcases tenthTick_cases h with ⟨hd, heq⟩ | ⟨-, heq⟩ <;> rw [heq]
  · have hmode : (taken a).evaluate.sup.mode = (taken a).sup.mode := by
      rcases mode_evaluate (taken a) with h' | ⟨h', -⟩ | ⟨h', -⟩
      · exact h'
      · exact absurd ((flashStarts_alike halike).mp h') (hs hd)
      · rw [halike.mode, hm] at h'; exact absurd h' (by decide)
    refine closed_red ?_ (hmode.trans (halike.mode.trans hm))
    rw [(evaluate_stays hmode).1]
    exact halike.flashNext.trans hf
  · exact closed_red (halike.flashNext.trans hf) (halike.mode.trans hm)

/-! ### The answers (R79) -/

/-- Replies have joined the output queue, as far as it is read. -/
theorem output_of_acts {K : List Part} (h : Acts (fun _ => True) K v w) (hK : Part.link ∉ K := by decide) :
    ∃ x, w.lnk.output = v.lnk.output ++ x := (h.replied hK).2

/-- Each CLOCK_SET that the tick takes is answered OK. -/
theorem answers_ticked (h : Ticked before s a u) (hb : before.lnk.output = s.lnk.output) {tag : Byte} (ht : tag ∈ s.clk.setTags)
    (hp : s.clk.pendingSet ≠ none) : State.answers before (State.finish before u) tag 0x20#8 .ok := by
  have hmem : tag ∈ answersOf (tickBegun a) := by
    unfold answersOf
    rw [clk_begun, h.ticking.pendingSet, h.ticking.setTags, if_neg hp]
    exact ht
  obtain ⟨w, hw, haw⟩ : ∃ w, a.tenthTick = closed (answersOf (tickBegun a)) w ∧ Acts (fun _ => True) tickParts a w := by
    rcases tenthTick_cases h with ⟨-, heq⟩ | ⟨-, heq⟩
    · exact ⟨_, heq, (acts_taken a).trans acts_evaluate.up⟩
    · exact ⟨_, heq, acts_taken a⟩
  obtain ⟨x, hx⟩ := output_of_acts haw
  obtain ⟨y, hy, hall⟩ := setAnswered_output (answersOf (tickBegun a)) w
  obtain ⟨f, hf, hanswer⟩ := hall tag hmem
  have hclose : Acts (fun _ => True) tickParts (setAnswered (answersOf (tickBegun a)) w) u := by
    have hrest : Acts (fun _ => True) tickParts (setAnswered (answersOf (tickBegun a)) w) a.tenthTick := by
      rw [hw]; exact Acts.trans acts_takeFlashNext.up acts_startMaxTimer.up
    exact hrest.trans h.acts.up
  have hdrain : Acts (fun _ => True) inner u (State.takeInhibition before u.drainPending) :=
    acts_drainPending.trans (acts_takeInhibition _)
  obtain ⟨z, hz⟩ := output_of_acts hclose
  obtain ⟨m, hm⟩ := output_of_acts hdrain
  obtain ⟨n, hn⟩ := closeAdditions_output before (State.takeInhibition before u.drainPending)
  refine ⟨x ++ y ++ z ++ m ++ n, ?_, f, by simp [hf], hanswer⟩
  unfold State.finish
  rw [hn, hm, hz, hy, hx, h.ticking.output, hb]
  simp only [List.append_assoc]

/-! ### A tick in which the cabinet mode stays -/

/-- What a tick in which the mode stays leaves of the state at the clock's advance. -/
structure Stayed (b t : State) : Prop where
  seq : ∃ w : State, t.seq = w.startMaxTimer.seq ∧ w.seq = { b.seq with pendingPlan := w.seq.pendingPlan } ∧ w.cfg = t.cfg
  sup : t.sup = { b.sup with exit := t.sup.exit, saved := t.sup.saved, flashNext := t.sup.flashNext }
  det : t.det = b.det
  cbt : t.cbt = b.cbt
  cfg : t.cfg = b.cfg

/-- The evaluation of a tick leaves the mode where the rest of the tick leaves it the one before. -/
theorem evaluate_keeps (hm : (closed l e.evaluate).sup.mode = e.sup.mode) : e.evaluate.sup.mode = e.sup.mode := by
  by_cases hw : e.evaluate.sup.flashNext = none ∨ e.evaluate.sup.mode ≠ .startupRed
  · rw [← hm]; exact (mode_closed _ _ hw).symm
  · obtain ⟨hf, hr⟩ := not_or.mp hw
    rw [not_not] at hr
    rcases mode_evaluate e with h | ⟨-, h⟩ | ⟨-, h⟩
    · exact h
    · rw [hr] at h; split at h <;> exact absurd h nofun
    · unfold checking at h; rw [hr] at h; exact absurd h (by decide)

/-- The rest of the tick, where it leaves the mode. -/
theorem closed_stays (hm : (closed l w).sup.mode = w.sup.mode) :
    (∃ x : State, (closed l w).seq = x.startMaxTimer.seq ∧ x.seq = w.seq ∧ x.cfg = w.cfg) ∧
      (closed l w).sup = { w.sup with flashNext := (closed l w).sup.flashNext } ∧ (closed l w).det = w.det ∧
      (closed l w).cbt = w.cbt := by
  obtain ⟨pseq, psup, -, pcfg, -, pdet, pcbt, -⟩ := setAnswered_parts l w
  have hstart (x : State) : x.startMaxTimer.det = x.det ∧ x.startMaxTimer.cbt = x.cbt := by
    unfold State.startMaxTimer; split <;> exact ⟨rfl, rfl⟩
  rw [sup_closed]
  have hkept (f : Option (Option Reason × Bool)) (h : (setAnswered l w).takeFlashNext =
      (setAnswered l w).onSup fun u => { u with flashNext := f }) :
      (∃ x : State, (closed l w).seq = x.startMaxTimer.seq ∧ x.seq = w.seq ∧ x.cfg = w.cfg) ∧
        (setAnswered l w).takeFlashNext.sup = { w.sup with flashNext := (setAnswered l w).takeFlashNext.sup.flashNext } ∧
        (closed l w).det = w.det ∧ (closed l w).cbt = w.cbt := by
    refine ⟨⟨(setAnswered l w).takeFlashNext, rfl, ?_, ?_⟩, ?_, (hstart _).1.trans ?_, (hstart _).2.trans ?_⟩ <;> rw [h]
    · rw [State.onSup_seq, pseq]
    · rw [State.onSup_cfg, pcfg]
    · rw [State.onSup_sup, psup]
    · rw [State.onSup_det, pdet]
    · rw [State.onSup_cbt, pcbt]
  cases hf : w.sup.flashNext with
  | none => exact hkept (setAnswered l w).sup.flashNext (takeFlashNext_none (by rw [psup, hf]))
  | some x =>
    obtain ⟨r, lat⟩ := x
    have hred : (setAnswered l w).sup.mode ≠ .startupRed := fun hr => by
      rw [psup] at hr
      rw [hr, (closed_red hf hr).1] at hm
      exact absurd hm nofun
    rcases takeFlashNext_else hred with h | h
    · exact hkept (setAnswered l w).sup.flashNext h
    · exact hkept none h

/-- No commit ends a tick in which the mode stays. -/
theorem stays_closes (h : Ticked before s a u) (hm : (State.finish before u).sup.mode = s.sup.mode) :
    State.finish before u = State.closeAdditions before u := by
  have halike := alike_taken h.ticking
  refine ticked_closes h fun hd => ?_
  have hmode : u.applyPending.sup.mode = s.sup.mode := by rw [← hm, finish_drains hd, closeAdditions_sup]
  rcases applyPending_drained hd with hx | hx
  · rw [hmode] at hx; exact h.calm hx
  · rw [hmode] at hx
    have hcheck : (taken a).sup.mode = .startupCheck := halike.mode.trans hx
    exfalso
    rw [sup_tick h] at hd
    rcases tenthTick_cases h with ⟨-, heq⟩ | ⟨-, heq⟩ <;> rw [heq] at hd
    · have hkeep : (taken a).evaluate.sup.mode = .startupCheck := by
        rcases mode_evaluate (taken a) with h' | ⟨h', -⟩ | ⟨h', -⟩
        · exact h'.trans hcheck
        · have hst := (flashStarts_iff.mp h').2.2.2
          rw [hcheck] at hst
          exact absurd hst (by simp)
        · rw [hcheck] at h'; exact absurd h' (by decide)
      rw [mode_closed _ _ (.inr (by rw [hkeep]; decide)), hkeep] at hd
      exact absurd hd nofun
    · rw [mode_closed _ _ (.inr (by rw [hcheck]; decide)), hcheck] at hd
      exact absurd hd nofun

/-- A tick in which the mode stays. -/
theorem stayed_ticked (h : Ticked before s a u) (ht : t = State.finish before u) (hm : t.sup.mode = s.sup.mode) :
    Stayed (tickBegun a) t := by
  have halike := alike_taken h.ticking
  obtain ⟨cseq, csup, -, ccfg, -, cdet, ccbt, -⟩ := clockTaken_parts (tickBegun a)
  have hend := ht.trans (stays_closes h (ht ▸ hm))
  have hmode : a.tenthTick.sup.mode = (taken a).sup.mode := by
    rw [halike.mode, ← hm, hend, closeAdditions_sup, sup_tick h]
  have hcfg : t.cfg = (tickBegun a).cfg := by
    rw [hend, closeAdditions_cfg, cfg_tick h, ← halike.cfg]; exact ccfg
  have hseq : t.seq = a.tenthTick.seq := by rw [hend, closeAdditions_seq, h.seq]
  have hsup : t.sup = a.tenthTick.sup := by rw [hend, closeAdditions_sup, sup_tick h]
  have hdet : t.det = a.tenthTick.det := by rw [hend, closeAdditions_det, h.acts.det_eq]
  have hcbt : t.cbt = a.tenthTick.cbt := by rw [hend, closeAdditions_cbt, h.acts.cbt_eq]
  obtain ⟨w, hw, hwm, wsup, wseq, wdet, wcbt, wcfg⟩ : ∃ w : State, a.tenthTick = closed (answersOf (tickBegun a)) w ∧
      w.sup.mode = (taken a).sup.mode ∧
      w.sup = { (taken a).sup with exit := w.sup.exit, saved := w.sup.saved } ∧
      w.seq = { (taken a).seq with pendingPlan := w.seq.pendingPlan } ∧ w.det = (taken a).det ∧ w.cbt = (taken a).cbt ∧
      w.cfg = (taken a).cfg := by
    rcases tenthTick_cases h with ⟨-, heq⟩ | ⟨-, heq⟩
    · have hkeep := evaluate_keeps (heq ▸ hmode)
      obtain ⟨es, eq, ea⟩ := evaluate_stays hkeep
      exact ⟨_, heq, hkeep, es, eq, ea.det_eq, ea.cbt_eq, ea.cfg_eq⟩
    · exact ⟨_, heq, rfl, rfl, rfl, rfl, rfl, rfl⟩
  rw [hw] at hmode hseq hsup hdet hcbt
  obtain ⟨⟨x, hx, xseq, xcfg⟩, lsup, ldet, lcbt⟩ := closed_stays (hmode.trans hwm.symm)
  have hbt : (taken a).seq = (tickBegun a).seq ∧ (taken a).sup = (tickBegun a).sup := ⟨cseq, csup⟩
  rw [hbt.1] at wseq
  rw [hbt.2] at wsup
  refine ⟨⟨x, hseq.trans hx, by rw [xseq]; exact wseq, ?_⟩, ?_, ?_, ?_, hcfg⟩
  · rw [xcfg, wcfg, hcfg]; exact ccfg
  · rw [hsup, lsup, wsup]
  · rw [hdet, ldet, wdet]; exact cdet
  · rw [hcbt, lcbt, wcbt]; exact ccbt

end Ticks

end Sys2Proof.Machine
end

section
/-! SUPPORT. What a tenth tick in which the cabinet mode stays counts, and what the Day Schedule does at any tenth tick, as the
statements of the ticks say it (R4, R25, R34, R39, R50, R83, R88, R148, R156). -/

namespace Sys2Proof.Machine

set_option Elab.async false

namespace Ticks

open Acts Ending Modes Parked Causes Relays Commits Deliver Stages Inputs

variable {before s a b e t u v w x : State} {q q' r r' : Seq} {g : Gid} {p : PlanRec} {l : Nat}

/-! ### The Day Schedule -/

theorem select_taken (h : Ticked before s a u) (ht : t = State.finish before u) :
    (taken a).select = s.cfg.running.tm.select s.sch.forced t.clk.valid t.clk.date t.clk.tod := by
  obtain ⟨hv, hd, htod⟩ := time_taken h
  unfold State.select
  rw [sch_taken h.ticking, (alike_taken h.ticking).cfg, ht, hv, hd, htod]

theorem group_stayed (h : Stayed b t) (g : Gid) : t.group g = b.group g := by
  obtain ⟨w, ht, hw, -⟩ := h.seq
  have hgroups : w.startMaxTimer.seq.groups = w.seq.groups := by unfold State.startMaxTimer; split <;> rfl
  unfold State.group
  rw [ht, hgroups, hw]

theorem ways_stayed (h : Stayed b t) : t.seq.change = b.seq.change ∧ t.seq.dropped = b.seq.dropped := by
  obtain ⟨w, ht, hw, -⟩ := h.seq
  have hways : w.startMaxTimer.seq.change = w.seq.change ∧ w.startMaxTimer.seq.dropped = w.seq.dropped := by
    unfold State.startMaxTimer; split <;> exact ⟨rfl, rfl⟩
  rw [ht, hways.1, hways.2, hw]
  exact ⟨rfl, rfl⟩

/-- In NORMAL an inhibited group on its way to GREEN is dropped at the tick (R31). -/
theorem dropped_ticked (h : Ticked before s a u) (ht : t = State.finish before u) (hm : s.sup.mode = .normal)
    (hm' : t.sup.mode = .normal) (hi : (s.group g).inhibited = true) :
    (∀ at', s.seq.gainingInstant g = some at' →
      t.seq.gainingInstant g = none ∧ (g, (s.seq.joinedInstant g).getD at') ∈ t.seq.dropped) ∧
    ((s.group g).colour = .redAmber → (t.group g).colour = .red ∧
      (s.seq.gainingInstant g = none → (g, (s.seq.joinedInstant g).getD (s.seq.tick + 1)) ∈ t.seq.dropped)) := by
  have hstay := stayed_ticked h ht (hm'.trans hm.symm)
  have hgroup : a.group g = s.group g := by unfold State.group; rw [h.ticking.seq]
  obtain ⟨hch, hdr⟩ := ways_stayed hstay
  have hgain : t.seq.gainingInstant g = (tickBegun a).seq.gainingInstant g := by unfold Seq.gainingInstant; rw [hch]
  have hbegun := dropped_begun (a := a) (g := g) (by rw [h.ticking.sup, hm]) (by rw [hgroup, hi])
  rw [h.ticking.seq, hgroup] at hbegun
  rw [hgain, hdr, group_stayed hstay]
  exact hbegun

/-- The Day Schedule, the waiting FLASH, the requests that wait for the tick and the inhibited groups at a tick. -/
theorem tickSchedules_ticked (h : Ticked before s a u) (hb : before.lnk.output = s.lnk.output)
    (ht : t = State.finish before u) : s.tickSchedules t := by
  have htod : t.clk.tod = (taken a).clk.tod := ht ▸ (time_taken h).2.2
  refine ⟨fun d hd => ⟨fun hn => ⟨fun hdue => ?_, fun hdue => ?_⟩, fun r lat hm hf hp hs => ?_⟩, fun tag hmem hp => ?_,
    fun hm hm' g hi => dropped_ticked h ht hm hm' hi⟩
  · rw [hd, htod] at hdue
    rw [ht]
    exact evaluates_ticked h hdue hn
  · rw [hd, htod] at hdue
    exact plain_ticked h hdue hn ht
  · refine red_ticked h hm hf hp (fun hdue => ?_) ht
    rw [select_taken h ht]
    refine hs ?_
    rw [hd, htod]
    exact hdue
  · obtain ⟨x, hx, hf⟩ := answers_ticked h hb hmem hp
    rw [← ht] at hx
    exact ⟨x, hx.trans (by rw [hb]), hf⟩

/-! ### The sequencer record -/

/-- The sequencer record but for the groups, the maximum timer and the pending plan. -/
def Seq.counts (q : Seq) : Seq := { Seq.course q with maxTimer := none, maxLimit := 0, pendingPlan := none }

theorem counts_field {α : Type} (f : Seq → α) (h : Seq.counts q = Seq.counts r)
    (hf : ∀ q, f q = f (Seq.counts q) := by intros; rfl) : f q = f r := by rw [hf, h, ← hf]

theorem counts_startMaxTimer (w : State) : Seq.counts w.startMaxTimer.seq = Seq.counts w.seq := by
  unfold State.startMaxTimer; split <;> rfl

theorem counts_pending (q : Seq) (o : Option Pln) : Seq.counts { q with pendingPlan := o } = Seq.counts q := rfl

theorem counts_of_course (h : Seq.course q = Seq.course r) : Seq.counts q = Seq.counts r :=
  congrArg (fun q : Seq => { q with maxTimer := none, maxLimit := 0, pendingPlan := none }) h

theorem counts_stayed (h : Stayed (tickBegun a) t) : Seq.counts t.seq = Seq.counts (ran a) := by
  obtain ⟨w, ht, hw, -⟩ := h.seq
  rw [ht, counts_startMaxTimer, hw, counts_pending]
  exact counts_of_course (course_begun a)

/-- What no part of the tick writes. -/
def Seq.still (q : Seq) := (q.running, q.entry, q.active, q.shorten, q.holdBudget, q.greenStart, q.stageMin)

theorem still_ran (a : State) : Seq.still (ran a) = Seq.still a.seq := by
  have h := settled_ran a
  simp only [Seq.settled, Prod.mk.injEq] at h
  obtain ⟨h1, h2, h3, -, h5, h6, h7, h8, -⟩ := h
  unfold Seq.still
  rw [h1, h2, h3, h5, h6, h7, h8]

/-- The gap timer, the maximum timer and the list of the priority requests at the tick. -/
theorem timers_ran (a : State) :
    (ran a).gap = (if a.sup.mode = .normal then a.gapHold.getD (a.seq.gap - 1) else a.seq.gap) ∧
      (ran a).priority = tickHead a.seq.priority ∧ (ran a).maxTimer = a.seq.maxTimer.map (fun t => min 1200 (t + 1)) ∧
      (ran a).maxLimit = a.seq.maxLimit := by
  have hgap : (gapped a).gap = (if a.sup.mode = .normal then a.gapHold.getD (a.seq.gap - 1) else a.seq.gap) ∧
      (gapped a).priority = tickHead a.seq.priority ∧ (gapped a).maxTimer = a.seq.maxTimer.map (fun t => min 1200 (t + 1)) ∧
      (gapped a).maxLimit = a.seq.maxLimit := by
    unfold gapped
    split <;> exact ⟨rfl, rfl, rfl, rfl⟩
  unfold ran
  split
  · rw [advance_form]; exact hgap
  · exact hgap

/-! ### The maximum timer (R35) -/

/-- The selection does not rest on the maximum timer. -/
theorem picks_startMaxTimer (hseq : t.seq = w.startMaxTimer.seq) (hcfg : w.cfg = t.cfg) :
    t.selects = w.selects ∧ t.selection = w.selection ∧ t.maxGreen = w.maxGreen := by
  have hpick (m : Option Nat) (n : Nat) (h : t.seq = { w.seq with maxTimer := m, maxLimit := n }) :
      t.selects = w.selects ∧ t.selection = w.selection ∧ t.maxGreen = w.maxGreen := by
    have hplan : t.activePlan = w.activePlan := activePlan_of hcfg.symm (by rw [h])
    have hgroup (g : Gid) : t.group g = w.group g := by unfold State.group; rw [h]
    have hgreen (g : Gid) : t.isGreen g = w.isGreen g := by unfold State.isGreen; rw [hgroup]
    have hstage (b : Stg) : t.stage b = w.stage b := by unfold State.stage; rw [hcfg]
    have hcand (b : Stg) : t.candidate b = w.candidate b := by
      unfold State.candidate
      simp only [hplan, hgroup, hgreen, hstage, h]
    refine ⟨?_, ?_, ?_⟩
    · unfold State.selects; simp only [hplan, h]
    · unfold State.selection; simp only [hplan, hcand, h]
    · unfold State.maxGreen; simp only [hplan, h]
  unfold State.startMaxTimer at hseq
  split at hseq
  · exact hpick _ _ hseq
  · exact hpick w.seq.maxTimer w.seq.maxLimit hseq

/-- The maximum timer runs on, or starts where the selection finds a candidate. -/
theorem maxTimer_startMaxTimer (hseq : t.seq = w.startMaxTimer.seq) (hcfg : w.cfg = t.cfg) :
    (∀ n, w.seq.maxTimer = some n → t.seq.maxTimer = some n ∧ t.seq.maxLimit = w.seq.maxLimit) ∧
    (w.seq.maxTimer = none →
      (t.selects = true → t.selection ≠ none → t.seq.maxTimer = some 0 ∧ t.seq.maxLimit = t.maxGreen) ∧
        (t.selects = false ∨ t.selection = none → t.seq.maxTimer = none)) := by
  obtain ⟨hsel, hpick, hlim⟩ := picks_startMaxTimer hseq hcfg
  have hstart (h : ¬(w.selects && w.seq.maxTimer.isNone && w.selection.isSome) = true) : t.seq = w.seq := by
    rw [hseq]; unfold State.startMaxTimer; rw [if_neg h]
  refine ⟨fun n hn => ?_, fun hn => ⟨fun hs hp => ?_, fun hno => ?_⟩⟩
  · rw [hstart (by simp [hn])]
    exact ⟨hn, rfl⟩
  · rw [hsel] at hs
    rw [hpick] at hp
    have hstarts : (w.selects && w.seq.maxTimer.isNone && w.selection.isSome) = true := by
      simp [hs, hn, Option.isSome_iff_ne_none, hp]
    have heq : t.seq = { w.seq with maxTimer := some 0, maxLimit := w.maxGreen } := by
      rw [hseq]; unfold State.startMaxTimer; rw [if_pos hstarts]; rfl
    rw [heq, hlim]
    exact ⟨rfl, rfl⟩
  · rw [hsel, hpick] at hno
    rw [hstart (by rcases hno with h | h <;> simp [h])]
    exact hn

/-! ### The cycle position (R50, R60, R63) -/

/-- What the Plan Runner's tick reads and writes. -/
def Seq.cyc (q : Seq) := (q.pos, q.hold, q.cycleStart, q.changePoint, q.decision, q.reached, q.allowance, q.endDue)

theorem cycleTick_of (h : Seq.cycleTick p l q r) (hq : Seq.cyc q' = Seq.cyc q) (hr : Seq.cyc r' = Seq.cyc r)
    (hl : q'.priority = [] ↔ q.priority = []) : Seq.cycleTick p l q' r' := by
  simp only [Seq.cyc, Prod.mk.injEq] at hq hr
  obtain ⟨q1, q2, q3, q4, q5, q6, q7, q8⟩ := hq
  obtain ⟨r1, r2, r3, r4, r5, r6, r7, r8⟩ := hr
  unfold Seq.cycleTick at h ⊢
  rw [q2, q3, q4, q5, q6, q7, q8, r1, r2, r3, r4, r5, r6, r7, r8, ne_eq, hl]
  exact h

theorem reachedAt_eq (p : PlanRec) (l : Nat) : reachedAt p l = min (l + 1) p.cycle := by
  unfold reachedAt
  simp only [decide_eq_true_eq]
  split <;> omega

theorem arrived_iff : arrived p l q ↔ q.reached = true ∨ ∃ d, q.decision = some d ∧ p.endOf d = min (l + 1) p.cycle := by
  unfold arrived
  rw [reachedAt_eq, or_comm, Option.map_eq_some_iff]

/-- The cycle position, and what its wrap marks, where no hold counts. -/
theorem walked_spec (p : PlanRec) (l : Nat) (q : Seq) :
    (l + 1 < p.cycle → (walked p l q).pos = some (l + 1) ∧ (walked p l q).cycleStart = q.cycleStart ∧
      (walked p l q).changePoint = q.changePoint) ∧
    (p.cycle ≤ l + 1 → (walked p l q).pos = some 0 ∧ (walked p l q).cycleStart = true ∧ (walked p l q).changePoint = true) ∧
    (walked p l q).endDue = (q.endDue.map fun e => if e.jump = some (min (l + 1) p.cycle) then { e with jump := none } else e) := by
  unfold walked
  rw [reachedAt_eq]
  refine ⟨fun h => ?_, fun h => ?_, rfl⟩
  · simp [Nat.not_le.mpr h]
  · simp [h]

/-- The Plan Runner's tick, as R50 tells it. -/
theorem cycleTick_advance (hp : q.pos = some l) : Seq.cycleTick p l q (q.advance p) := by
  refine ⟨fun h hh => ?_, fun hh => ?_⟩
  · rw [advance_held p hp hh]
    exact ⟨rfl, hp, rfl, rfl, rfl, rfl, rfl, rfl⟩
  · obtain ⟨w1, w2, w3⟩ := walked_spec p l q
    by_cases ha : arrived p l q
    · have harr := arrived_iff.mp ha
      by_cases hq : q.priority = []
      · rw [advance_arrived p hp hh ha hq]
        exact ⟨hh, w1, w2, w3, fun hr hd => absurd harr (by rintro (h | ⟨d, h, he⟩); exacts [absurd (h.symm.trans hr) nofun, hd d h he]),
          fun _ => ⟨fun _ => ⟨rfl, rfl, rfl⟩, fun hn => absurd hq hn⟩⟩
      · rw [advance_passed p hp hh ha hq]
        exact ⟨hh, w1, w2, w3, fun hr hd => absurd harr (by rintro (h | ⟨d, h, he⟩); exacts [absurd (h.symm.trans hr) nofun, hd d h he]),
          fun _ => ⟨fun hn => absurd hn hq, fun _ => ⟨rfl, rfl, rfl⟩⟩⟩
    · rw [advance_on p hp hh ha]
      rw [arrived_iff, not_or] at ha
      obtain ⟨hr, hd⟩ := ha
      exact ⟨hh, w1, w2, w3, fun hr hd => ⟨rfl, hr, rfl⟩, fun hor => absurd hor (not_or.mpr ⟨hr, hd⟩)⟩

theorem cyc_gapped (a : State) : Seq.cyc (gapped a) = Seq.cyc a.seq := by unfold gapped; split <;> rfl

theorem priority_gapped (a : State) : (gapped a).priority = tickHead a.seq.priority := by unfold gapped; split <;> rfl

theorem tickHead_nil {l : List PriorityReq} : tickHead l = [] ↔ l = [] := by cases l <;> simp [tickHead]

/-- The cycle of a coordinated plan at a tick of NORMAL. -/
theorem cycle_ran (hm : a.sup.mode = .normal) (hc : a.activePlan.coordinated = true) (hp : a.seq.pos = some l) :
    Seq.cycleTick a.activePlan l a.seq (ran a) := by
  have hran : ran a = (gapped a).advance a.activePlan := by unfold ran; rw [if_pos ⟨hm, hc⟩]
  have hpos : (gapped a).pos = some l := (congrArg (·.1) (cyc_gapped a)).trans hp
  rw [hran]
  refine cycleTick_of (cycleTick_advance hpos) (cyc_gapped a).symm rfl ?_
  rw [priority_gapped, tickHead_nil]

/-- At any other tick the cycle stands. -/
theorem cyc_ran (h : a.sup.mode ≠ .normal ∨ a.activePlan.coordinated = false ∨ a.seq.pos = none) :
    Seq.cyc (ran a) = Seq.cyc a.seq := by
  unfold ran
  split
  · next hc =>
    obtain ⟨hm, hp⟩ := hc
    have hpos : a.seq.pos = none := by
      rcases h with h | h | h
      · exact absurd hm h
      · exact absurd (h.symm.trans hp) nofun
      · exact h
    rw [advance_idle _ ((congrArg (·.1) (cyc_gapped a)).trans hpos)]
    exact cyc_gapped a
  · exact cyc_gapped a

/-! ### The supervisor's times (R156, R160, R165 to R167) -/

theorem phaseTime_tick (u : Sup) (w : Bool) : (u.tick w).phaseTime =
    if u.mode = .startupFlash ∨ u.mode = .startupRed then min 600 (u.phaseTime + 1) else u.phaseTime := by
  unfold Sup.tick
  cases u.mode <;> rfl

theorem grace_tick (u : Sup) (w : Bool) (g : Gid) :
    (∀ n, u.grace.get g = .running n → (u.tick w).grace.get g = .running (min 600 (n + 1))) ∧
      ((∀ n, u.grace.get g ≠ .running n) → (u.tick w).grace.get g = u.grace.get g) := by
  have hget : (u.tick w).grace.get g =
      (fun g : Grace => match g with | .running t => .running (min 600 (t + 1)) | x => x) (u.grace.get g) := Tab.get_map _ _ _
  rw [hget]
  refine ⟨fun n hn => by rw [hn], fun hn => ?_⟩
  cases h : u.grace.get g with
  | running n => exact absurd h (hn n)
  | _ => rfl

theorem inSoftFallback_iff (u : Sup) : u.inSoftFallback = true ↔ u.latched = false ∧
    ((u.mode = .flash ∧ u.reason = some .redFail) ∨ (u.mode = .dark ∧ u.reason = some .contactor)) := by
  unfold Sup.inSoftFallback
  simp

theorem holdoff_tick (u : Sup) (w : Bool) :
    (u.inSoftFallback = true → w = false → (u.tick w).holdoff = u.holdoff.map fun t => min 36000 (t + 1)) ∧
      (¬u.inSoftFallback = true ∨ w = true → (u.tick w).holdoff = u.holdoff) := by
  unfold Sup.tick
  refine ⟨fun hf hw => ?_, fun h => ?_⟩
  · subst hw; simp [hf]
  · rcases h with h | h <;> simp [h]

theorem probation_tick (u : Sup) (w : Bool) : (u.tick w).probation =
    if u.recovering = true ∧ u.mode = .normal then min 36000 (u.probation + 1) else u.probation := by
  unfold Sup.tick
  refine if_congr ?_ rfl rfl
  rw [Bool.and_eq_true, beq_iff_eq]

/-- The supervisor's times at a tick in which the mode stays. -/
theorem sup_stayed (h : Ticking s a) (ht : Stayed (tickBegun a) t) : ∃ x : Sup, Sup.core x = Sup.core s.sup ∧
    x.grace = s.sup.grace ∧ t.sup.phaseTime = (x.tick s.waitingSupply).phaseTime ∧
    t.sup.grace = (x.tick s.waitingSupply).grace ∧ t.sup.holdoff = (x.tick s.waitingSupply).holdoff ∧
    t.sup.probation = (x.tick s.waitingSupply).probation := by
  obtain ⟨x, hx, hcore, hgrace⟩ := sup_begun a
  have hw : a.waitingSupply = s.waitingSupply := waitingSupply_of_kept (by rw [h.sup]) (by rw [h.sup])
  rw [h.sup] at hcore hgrace
  rw [hw] at hx
  refine ⟨x, hcore, hgrace, ?_⟩
  rw [ht.sup, ← hx]
  exact ⟨rfl, rfl, rfl, rfl⟩

end Ticks

end Sys2Proof.Machine
end

section
/-! SUPPORT. What a tenth tick in which the cabinet mode stays counts, and the clock at the end of its step (R71, R75). -/

namespace Sys2Proof.Machine

set_option Elab.async false

namespace Ticks

open Acts Ending Modes Parked Causes Relays Commits Deliver Stages Inputs

variable {before s a b e t u v w x : State} {g : Gid} {l : Nat}

theorem gapHold_ticking (h : Ticking s a) : a.gapHold = s.gapHold :=
  Grounds.gapHold (s := s) (t := a) ⟨h.cfg, by rw [h.seq], by rw [h.seq], fun g => by unfold State.group; rw [h.seq]⟩ h.det

theorem head_tick {h : PriorityReq} {rest l : List PriorityReq} (hl : l = h :: rest) :
    tickHead l = { h with service := min 2550 (h.service + 1) } :: rest := by rw [hl]; rfl

/-- What a tick in which the mode stays counts. -/
theorem tickCounts_ticked (h : Ticked before s a u) (ht : t = State.finish before u) (hm : t.sup.mode = s.sup.mode) :
    s.tickCounts t := by
  have hstay := stayed_ticked h ht hm
  have hcounts := counts_stayed hstay
  obtain ⟨hseq, hsup, hcfg, hdet, hcbt, -⟩ := h.ticking
  have hplan : a.activePlan = s.activePlan := activePlan_of hcfg (by rw [hseq])
  obtain ⟨tgap, tprio, tmax, tlim⟩ := timers_ran a
  rw [hsup, gapHold_ticking h.ticking, hseq] at tgap
  rw [hseq] at tprio tmax tlim
  have hgap : t.seq.gap = _ := (counts_field Seq.gap hcounts).trans tgap
  have hprio : t.seq.priority = _ := (counts_field Seq.priority hcounts).trans tprio
  have hcyc : Seq.cyc t.seq = Seq.cyc (ran a) := counts_field Seq.cyc hcounts
  have hstill : Seq.still t.seq = Seq.still s.seq := (counts_field Seq.still hcounts).trans ((still_ran a).trans (by rw [hseq]))
  simp only [Seq.still, Prod.mk.injEq] at hstill
  obtain ⟨s1, s2, s3, s4, s5, s6, s7⟩ := hstill
  obtain ⟨w, wt, wb, wcfg⟩ := hstay.seq
  obtain ⟨mruns, mstarts⟩ := maxTimer_startMaxTimer wt wcfg
  have hw : w.seq.maxTimer = s.seq.maxTimer.map (fun t => min 1200 (t + 1)) ∧ w.seq.maxLimit = s.seq.maxLimit := by
    have hb := course_begun a
    rw [wb]
    exact ⟨(course_field Seq.maxTimer hb).trans tmax, (course_field Seq.maxLimit hb).trans tlim⟩
  obtain ⟨x, hcore, hgrace, xphase, xgrace, xhold, xprob⟩ := sup_stayed h.ticking hstay
  have xm : x.mode = s.sup.mode := core_field Sup.mode hcore
  have xr : x.reason = s.sup.reason := core_field Sup.reason hcore
  have xl : x.latched = s.sup.latched := core_field Sup.latched hcore
  have xp : x.phaseTime = s.sup.phaseTime := core_field Sup.phaseTime hcore
  have xh : x.holdoff = s.sup.holdoff := core_field Sup.holdoff hcore
  have xv : x.recovering = s.sup.recovering := core_field Sup.recovering hcore
  have xb : x.probation = s.sup.probation := core_field Sup.probation hcore
  rw [phaseTime_tick, xm, xp] at xphase
  have hhold := holdoff_tick x s.waitingSupply
  rw [inSoftFallback_iff, ← xhold, xm, xr, xl, xh] at hhold
  rw [probation_tick, xv, xm, xb] at xprob
  obtain ⟨sp, ss⟩ := sweep_begun a
  rw [hcbt] at sp ss
  refine ⟨fun g hc => ?_, fun hn => ⟨fun v hv => ?_, fun hv => ?_⟩, fun hn => ?_, fun n hn => ?_, fun hn => ?_, fun hp => ?_,
    fun r rest hp => ?_, fun hn hc l hl => ?_, fun hno => ?_, s1, s2, s3, s4, s5, s6, s7, fun d => ?_, ?_, ?_, xphase, fun g n hg => ?_,
    fun g hg => ?_, fun hl hw hr => ?_, fun hno => ?_, xprob⟩
  · have hga : a.group g = s.group g := by unfold State.group; rw [hseq]
    rw [group_stayed hstay] at hc ⊢
    rw [timeIn_begun a g (hc.trans (by rw [hga])), hga]
  · rw [hgap, if_pos hn, hv]; rfl
  · rw [hgap, if_pos hn, hv]; rfl
  · rw [hgap, if_neg hn]
  · obtain ⟨m1, m2⟩ := mruns (min 1200 (n + 1)) (by rw [hw.1, hn]; rfl)
    exact ⟨m1, m2.trans hw.2⟩
  · exact mstarts (by rw [hw.1, hn]; rfl)
  · rw [hprio, tickHead_nil]; exact hp
  · rw [hprio]; exact head_tick hp
  · rw [← hplan] at hc ⊢
    exact cycleTick_of (cycle_ran (hsup ▸ hn) hc (hseq ▸ hl)) (by rw [hseq]) hcyc (by rw [hseq])
  · have hs := hcyc.trans (cyc_ran (by rw [hsup, hplan, hseq]; exact hno))
    rw [hseq] at hs
    simp only [Seq.cyc, Prod.mk.injEq] at hs
    exact hs
  · have hin := input_begun a d
    have hused : a.inputUsed d = s.inputUsed d := by unfold State.inputUsed State.detector; rw [hcfg]
    have hia : a.input d = s.input d := by unfold State.input; rw [hdet]
    rw [hused, hia] at hin
    rw [← hin]
    unfold State.input
    rw [hstay.det]
  · rw [hstay.cbt, sp]
  · rw [hstay.cbt, ss]
  · rw [xgrace]; exact (grace_tick x _ g).1 n (by rw [hgrace]; exact hg)
  · rw [xgrace, (grace_tick x _ g).2 (by rw [hgrace]; exact hg), hgrace]
  · exact hhold.1 ⟨hl, hr⟩ hw
  · refine hhold.2 ?_
    rcases hno with h | h | h
    · exact .inl fun hs => absurd (h.symm.trans hs.1) nofun
    · exact .inr h
    · exact .inl fun hs => h hs.2

/-! ### The clock's source and its mains count at the end of a step -/

theorem clk_retakeTiming (before : State) : (s.retakeTiming before).clk = s.copyClockSettings.clk := by
  obtain ⟨b, hb⟩ : ∃ b, b = s.copyClockSettings.forAll fun (t : State) (d : Det) => t.compareInput before d := ⟨_, rfl⟩
  obtain ⟨c, hc⟩ : ∃ c, c = b.forAll (follow before) := ⟨_, rfl⟩
  have heq : s.retakeTiming before =
      ((((((State.refreshStanding before c).evalAllRedHealth).dropUndefinedTargets.retakeRecovery before).retakeGraces
        before).retakeAttention before).refreshGrace).holdGap := by
    rw [hc, hb]; rfl
  have hinputs : b.clk = s.copyClockSettings.clk := by
    rw [hb]; exact Frames.forAll_keeps State.clk (fun _ d => (acts_compareInput (G := fun _ => True) _ d).clk_eq) _
  have hwear : c.clk = b.clk := by
    rw [hc]
    refine Frames.forAll_keeps State.clk (fun w c => ?_) _
    exact (acts_judgeWear (G := fun _ => True) c).clk_eq.trans (acts_compareSettings (G := fun _ => True) before c).clk_eq
  have hrest : Acts (fun _ => True) afterWear c (s.retakeTiming before) := by
    rw [heq]
    have hsup {t : State} : Acts (fun _ => True) afterWear t ((t.retakeRecovery before).retakeGraces before) :=
      (acts_sup _ rfl rfl rfl).up.trans (acts_sup _ rfl rfl rfl).up
    exact Acts.trans (Acts.trans (Acts.trans (Acts.trans (Acts.trans (Acts.trans (of_edits (edits_refreshStanding _)).up
      (of_edits edits_evalAllRedHealth).up) acts_dropUndefinedTargets.up) hsup) (acts_retakeAttention _).up)
      (of_edits (.one (.grace (K := [.grace]) (by decide)))).up) acts_holdGap.up
  rw [hrest.clk_eq, hwear, hinputs]

/-- A clock's copy of its settings keeps the mains count, and never takes the source to MAINS (R75). -/
theorem copied_copyClockSettings : s.copyClockSettings.clk.mainsCount = s.clk.mainsCount ∧
    (s.copyClockSettings.clk.source = s.clk.source ∨ s.copyClockSettings.clk.source = .crystal) := by
  unfold State.copyClockSettings
  dsimp only
  split
  · exact ⟨rfl, .inl rfl⟩
  · split
    · exact ⟨rfl, .inr rfl⟩
    · exact ⟨rfl, .inl rfl⟩

theorem copied_finish (before u : State) : (State.finish before u).clk.mainsCount = u.clk.mainsCount ∧
    ((State.finish before u).clk.source = u.clk.source ∨ (State.finish before u).clk.source = .crystal) := by
  have htake (v : State) : (State.takeInhibition before v).clk = v.clk :=
    (acts_takeInhibition_green (G := fun _ => True) before).clk_eq
  have hend : (State.finish before u).clk = u.drainPending.clk := (closeAdditions_clk _ _).trans (htake _)
  rw [hend]
  unfold State.drainPending
  split
  · cases hp : u.cfg.pendingCommit with
    | none => rw [applyPending_of_none hp]; exact ⟨rfl, .inl rfl⟩
    | some tm =>
      have hactive : (retaken u tm).scheduleAtCommit.clk = u.applyPending.clk := by
        rw [applyPending_eq hp]; exact (acts_retakeActive (G := fun _ => True) _).clk_eq.symm
      have hsched : (retaken u tm).scheduleAtCommit.clk = (retaken u tm).clk :=
        (acts_scheduleAtCommit (G := fun _ => True)).clk_eq
      rw [← hactive, hsched]
      unfold retaken
      rw [clk_retakeTiming]
      exact copied_copyClockSettings
  · exact ⟨rfl, .inl rfl⟩

/-- The clock after the tick is that of its own advance. -/
theorem clk_tick (h : Ticked before s a u) : a.tenthTick.clk = (taken a).clk := by
  rcases tenthTick_cases h with ⟨-, heq⟩ | ⟨-, heq⟩
  · rw [heq, (acts_closed (G := fun _ => True) _ _).clk_eq, (Laws.evaluate_spec (taken a)).2.2.2.1]
  · rw [heq, (acts_closed (G := fun _ => True) _ _).clk_eq]

theorem clock_grows {K : List Part} (h : Acts (fun _ => True) K v w) (hv : v.flt.pendingSet.clock = true)
    (hK : Part.table ∉ K := by decide) : w.flt.pendingSet.clock = true :=
  (PendingSet.bits_of_union (h.pendingSet_grows hK)).2.2.2 hv

theorem clock_finish (before : State) (hu : u.flt.pendingSet.clock = true) :
    (State.finish before u).flt.pendingSet.clock = true := by
  have hend : Acts (fun _ => True) inner u (State.takeInhibition before u.drainPending) :=
    acts_drainPending.trans (acts_takeInhibition _)
  unfold State.finish
  rw [closeAdditions_pendingSet]
  exact clock_grows hend hu

/-- A CLOCK that the clock's advance added is in the set at the end of the step. -/
theorem clock_ticked (h : Ticked before s a u) (hc : (taken a).flt.pendingSet.clock = true) :
    (State.finish before u).flt.pendingSet.clock = true := by
  refine clock_finish before (clock_grows h.acts ?_)
  rcases tenthTick_cases h with ⟨-, heq⟩ | ⟨-, heq⟩ <;> rw [heq]
  · exact clock_grows (acts_closed _ _) (clock_grows acts_evaluate hc)
  · exact clock_grows (acts_closed _ _) hc

end Ticks

end Sys2Proof.Machine
end

section
/-! PROOFS. The tenth tick of the crystal, of the mains and at the loss of mains timing (O36, O37, O38). -/

namespace Sys2Proof.Machine

set_option Elab.async false

namespace Ticks

open Acts Ending Modes Parked Causes Relays Commits Deliver Stages Inputs

variable {before s a b e t u v w x : State} {g : Gid} {l : Nat}

/-! ### The date -/

/-- A date within the calendar, but its last, has a next one. -/
theorem next_within {d : Date} (h : d ≠ ⟨2199, 12, 31⟩) (hy : d.year ≤ 2199) (h2 : d.day ≤ monthLength d.year d.month)
    (h4 : d.month ≤ 12) : d.next.2 = false := by
  unfold Date.next
  split
  · rfl
  · next hday =>
    split
    · rfl
    · next hmonth =>
      split
      · rfl
      · next hyear =>
        obtain ⟨y, m, n⟩ := d
        dsimp only at *
        obtain rfl : y = 2199 := by omega
        obtain rfl : m = 12 := by omega
        have hlen : monthLength 2199 12 = 31 := by decide
        rw [hlen] at hday h2
        obtain rfl : n = 31 := by omega
        exact absurd rfl h

theorem next_last : (⟨2199, 12, 31⟩ : Date).next = (⟨2000, 1, 1⟩, true) := by decide

/-! ### The time at the end of the step -/

/-- The time at the end of the step, by the clock that the tick meets. -/
theorem timed_ticked (h : Ticked before s a u) (ht : t = State.finish before u) :
    t.clk.trim = a.clk.trim ∧ t.clk.interval = a.clk.interval ∧ t.clk.pattern = a.clk.pattern ∧ t.clk.pendingSet = none ∧
      t.clk.divider = a.clk.divider ∧ t.clk.sinceCrossing = a.clk.sinceCrossing ∧ t.clk.secs = (taken a).clk.secs ∧
      t.clk.setTags = (taken a).clk.setTags := by
  obtain ⟨-, -, -, f4, f5, f6, f7, f8, f9, f10, f11⟩ := timed_fields (timed_finish (before := before) h.acts h.ticking)
  obtain ⟨k1, k2, k3, k4, -, -, -, k8, -, k10⟩ := clk_clockTaken (tickBegun a)
  rw [clk_begun] at k1 k2 k3 k8 k10
  rw [ht]
  exact ⟨f4.trans k1, f5.trans k2, f6.trans k3, f8.trans k4, f11.trans k8, f10.trans k10, f7, f9⟩

/-- The time at a tick that takes a CLOCK_SET (R79). -/
theorem set_ticked (h : Ticked before s a u) (ht : t = State.finish before u) {d : Date} {tod : Nat}
    (hp : s.clk.pendingSet = some (d, tod)) : t.clk.date = d ∧ t.clk.tod = tod ∧ t.clk.valid = true ∧ t.clk.setTags = [] ∧
      t.clk.secs = s.clk.secs ∧ t.flt.pendingSet.clock = true := by
  obtain ⟨hv, hdate, htod⟩ := time_taken h
  obtain ⟨-, -, -, -, -, -, hsecs, htags⟩ := timed_ticked h ht
  obtain ⟨c1, c2, c3, c4, c5, c6⟩ := clock_set (b := tickBegun a) (by rw [clk_begun, h.ticking.pendingSet, hp])
  rw [clk_begun, h.ticking.secs] at c5
  refine ⟨?_, ?_, ?_, htags.trans c4, hsecs.trans c5, ht ▸ clock_ticked h c6⟩ <;> rw [ht]
  · exact hdate.trans c1
  · exact htod.trans c2
  · exact hv.trans c3

/-- The time at a tick without one. -/
theorem step_ticked (h : Ticked before s a u) (ht : t = State.finish before u) (hp : s.clk.pendingSet = none) :
    t.clk.date = (advanceTenth s.clk.date s.clk.tod).1 ∧ t.clk.tod = (advanceTenth s.clk.date s.clk.tod).2.1 ∧
      t.clk.valid = (s.clk.valid && !(advanceTenth s.clk.date s.clk.tod).2.2) ∧
      t.clk.secs = secondsAfter s.clk.secs t.clk.tod ∧
      ((advanceTenth s.clk.date s.clk.tod).2.2 = true → t.flt.pendingSet.clock = true) := by
  obtain ⟨hv, hdate, htod⟩ := time_taken h
  obtain ⟨-, -, -, -, -, -, hsecs, -⟩ := timed_ticked h ht
  have hpend : (tickBegun a).clk.pendingSet = none := by rw [clk_begun, h.ticking.pendingSet, hp]
  have hends := clock_ends hpend
  obtain ⟨c1, c2, c3, -, c5⟩ := clock_step hpend
  rw [clk_begun, h.ticking.date, h.ticking.tod] at hends c1 c2 c3 c5
  rw [h.ticking.valid] at c3
  rw [h.ticking.secs, ← c2] at c5
  have htod' : t.clk.tod = (taken a).clk.tod := by rw [ht, htod]
  refine ⟨?_, htod'.trans c2, ?_, hsecs.trans (c5.trans ?_), fun he => ht ▸ clock_ticked h (hends he)⟩
  · rw [ht, hdate]; exact c1
  · rw [ht, hv]; exact c3
  · rw [htod']; rfl

theorem within_ticked (h : Ticked before s a u) (ht : t = State.finish before u) (hp : s.clk.pendingSet = none)
    (hd : s.clk.tod + 1 < 864000) : t.clk.date = s.clk.date ∧ t.clk.tod = s.clk.tod + 1 ∧ t.clk.valid = s.clk.valid := by
  obtain ⟨h1, h2, h3, -⟩ := step_ticked h ht hp
  rw [advanceTenth_within hd] at h1 h2 h3
  exact ⟨h1, h2, h3.trans (Bool.and_true _)⟩

theorem takeCrystalTick_eq (w : State) : w.takeCrystalTick = (w.onClk Clk.nextTick).tenthTick.returnToMains := rfl

theorem seq_returnToMains (w : State) : w.returnToMains.seq = w.seq := by unfold State.returnToMains; split <;> rfl

/-! ### Crossings and their loss (R73, R74) -/

/-- A crossing seen at the supply monitor. -/
def seen (s : State) : State := s.onSup Sup.seeCrossing

/-- A crossing counted as well. -/
def crossed (s : State) : State := (seen s).onClk Clk.countCrossing

/-- The mains timing lost. -/
def lost (s : State) : State := (s.onClk fun k => { k with source := .crystal, stability := 0 }).addEvents PendingSet.ofClock

theorem counts_iff {k : Clk} : k.counts = true ↔ 800 ≤ k.sinceCrossing * k.freq.hertz := decide_eq_true_iff

theorem late_iff {k : Clk} : k.late = true ↔ 1200 < k.sinceCrossing * k.freq.hertz := decide_eq_true_iff

theorem takeCrossing_uncounted (h : ¬s.clk.counts = true) : s.takeCrossing = seen s := if_neg h

theorem takeCrossing_counted (h : s.clk.counts = true) : s.takeCrossing =
    if (crossed s).clk.source = .mains ∧ (crossed s).clk.freq.perTick ≤ (crossed s).clk.mainsCount then
      ((crossed s).onClk Clk.restartDivider).tenthTick
    else crossed s := if_pos h

theorem mainsCount_taken (a : State) : (taken a).clk.mainsCount = a.clk.mainsCount := by
  obtain ⟨-, -, -, -, -, -, -, -, hcount, -⟩ := clk_clockTaken (tickBegun a)
  rw [clk_begun] at hcount
  exact hcount

theorem mainsCount_crossed_crystal (h : s.clk.source = .crystal) : (crossed s).clk.mainsCount = s.clk.mainsCount :=
  if_neg (by show s.clk.source ≠ _; rw [h]; decide)

theorem mainsCount_crossed (h : s.clk.source = .mains) : (crossed s).clk.mainsCount = s.clk.mainsCount + 1 := if_pos h

/-- A crossing that makes no tick ends its step with the additions counted. -/
theorem finish_crossing (hb : s.betweenSteps) (hsup : u.sup.mode = s.sup.mode) (hcfg : u.cfg = s.cfg) (hseq : u.seq = s.seq)
    (hflt : u.flt = s.flt) : State.finish s u = u := by
  have hend : State.finish s u = State.closeAdditions s u := by
    refine finish_closes (noCommit_of_kept hb hsup hcfg) fun g hg => ?_
    unfold State.group at hg ⊢
    rwa [hseq] at hg
  rw [hend]
  unfold State.closeAdditions
  rw [hflt, hb.1]
  rfl

/-- No step moves the supply gap, but a crossing and the millisecond. -/
theorem supplyGap_finish (before u : State) : (State.finish before u).sup.supplyGap = u.sup.supplyGap := by
  have hend : Acts (fun _ => True) inner u (State.takeInhibition before u.drainPending) :=
    acts_drainPending.trans (acts_takeInhibition _)
  have hsup : (State.finish before u).sup = (State.takeInhibition before u.drainPending).sup := closeAdditions_sup _ _
  rw [hsup]
  exact congrArg (·.2.1) hend.supplied_eq

theorem supplyGap_tick (a : State) : a.tenthTick.sup.supplyGap = a.sup.supplyGap :=
  congrArg (·.2.1) (acts_tick (G := fun _ => True) a).supplied_eq

end Ticks

open Acts Ending Ticks in
/-- Settles O36: the tick block by block, up to the end of its step (`Ticks.tickCounts_ticked`, `Ticks.tickSchedules_ticked`). -/
theorem crystalTickAdvancesTime : Obligations.CrystalTickAdvancesTime := by
  unfold Obligations.CrystalTickAdvancesTime
  intro s hb hsource
  have hticked : Ticked s s (s.onClk Clk.nextTick) (s.onClk Clk.nextTick).tenthTick.returnToMains :=
    { ticking := ⟨rfl, rfl, rfl, rfl, rfl, rfl, rfl, rfl, rfl, rfl, rfl, rfl, rfl, rfl⟩
      groups := rfl
      acts := acts_returnToMains
      seq := seq_returnToMains _
      calm := hb.2 }
  obtain ⟨t, ht⟩ : ∃ t, t = State.finish s (s.onClk Clk.nextTick).tenthTick.returnToMains := ⟨_, rfl⟩
  have hexec : exec .crystalTick s = .next t := by
    rw [ht]; exact congrArg Host.Outcome.next (if_pos hsource)
  have htick := ticked_finish (before := s) hticked.acts
  rw [← ht] at htick
  obtain ⟨htrim, hint, hpat, hpend, -⟩ := timed_ticked hticked ht
  refine ⟨t, hexec, htick.1, htick.2, hpat, hint, htrim, hpend, fun d tod hp => set_ticked hticked ht hp,
    fun hp hd => within_ticked hticked ht hp hd, fun hp hd hlast hy _ hday _ hmonth => ?_, fun hp hd hlast => ?_,
    fun hpref hstab hp => ?_, fun hp => ?_, tickCounts_ticked hticked ht, tickSchedules_ticked hticked rfl ht⟩
  · obtain ⟨h1, h2, h3, -⟩ := step_ticked hticked ht hp
    rw [advanceTenth_midnight hd] at h1 h2 h3
    rw [next_within hlast hy hday hmonth] at h3
    exact ⟨h1, h2, h3.trans (Bool.and_true _)⟩
  · obtain ⟨h1, h2, h3, -, h5⟩ := step_ticked hticked ht hp
    rw [advanceTenth_midnight hd, hlast, next_last] at h1 h2 h3 h5
    exact ⟨h1, h2, h3.trans (Bool.and_false _), h5 rfl⟩
  · have hclk : t.clk = (s.onClk Clk.nextTick).tenthTick.returnToMains.clk := by
      rw [ht, ticked_closes hticked fun _ => hp, closeAdditions_clk]
    obtain ⟨-, -, -, -, kpref, ksource, kstab, -⟩ := clk_clockTaken (tickBegun (s.onClk Clk.nextTick))
    rw [clk_begun] at kpref ksource kstab
    have hmeets : (s.onClk Clk.nextTick).tenthTick.clk.preference = .mains ∧
        (s.onClk Clk.nextTick).tenthTick.clk.source = .crystal ∧ 2000 ≤ (s.onClk Clk.nextTick).tenthTick.clk.stability := by
      rw [clk_tick hticked]
      exact ⟨kpref.trans hpref, ksource.trans hsource, hstab.trans_eq kstab.symm⟩
    have hreturns : (s.onClk Clk.nextTick).tenthTick.returnToMains =
        ((s.onClk Clk.nextTick).tenthTick.onClk fun k => { k with source := .mains, mainsCount := 0 }).addEvents
          PendingSet.ofClock := if_pos hmeets
    rw [hclk, hreturns]
    exact ⟨rfl, rfl⟩
  · exact (step_ticked hticked ht hp).2.2.2.1

open Acts Ending Ticks Modes Causes in
/-- Settles O37: a crossing too soon changes the supply monitor alone, a counted one the clock, and the last of a tenth makes
the tick (`Ticks.tickCounts_ticked`, `Ticks.tickSchedules_ticked`). -/
theorem zeroCrossingCountsAndTicks : Obligations.ZeroCrossingCountsAndTicks := by
  unfold Obligations.ZeroCrossingCountsAndTicks
  intro s hb
  obtain ⟨t, ht⟩ : ∃ t, t = State.finish s s.takeCrossing := ⟨_, rfl⟩
  have hexec : exec .zeroCrossing s = .next t := ht ▸ rfl
  by_cases hc : s.clk.counts = true
  · rw [takeCrossing_counted hc] at ht
    have hcount := counts_iff.mp hc
    by_cases hticks : (crossed s).clk.source = .mains ∧ (crossed s).clk.freq.perTick ≤ (crossed s).clk.mainsCount
    · rw [if_pos hticks] at ht
      obtain ⟨hmains, hlast⟩ := hticks
      have hsource : s.clk.source = .mains := hmains
      have hticked : Ticked s (seen s) ((crossed s).onClk Clk.restartDivider)
          ((crossed s).onClk Clk.restartDivider).tenthTick :=
        { ticking := ⟨rfl, rfl, rfl, rfl, rfl, rfl, rfl, rfl, rfl, rfl, rfl, rfl, rfl, rfl⟩
          groups := rfl
          acts := Acts.refl _
          seq := rfl
          calm := hb.2 }
      have htick := ticked_finish (before := s) hticked.acts
      rw [← ht] at htick
      obtain ⟨-, hint, hpat, -, hdiv, hsince, -⟩ := timed_ticked hticked ht
      have hzero : t.clk.mainsCount = 0 := by
        rw [ht, (copied_finish _ _).1, clk_tick hticked, mainsCount_taken]
        rfl
      have hwithin := within_ticked hticked ht
      have hcounts := tickCounts_ticked hticked ht
      have hschedules := tickSchedules_ticked hticked rfl ht
      refine ⟨t, hexec, ?_, fun hno => absurd hcount (Nat.not_le.mpr hno), fun _ => ⟨hsince, fun hx => ?_, fun _ hx => ?_,
        fun _ _ => ⟨htick.1, htick.2, hzero, hpat, hdiv, hint, hwithin, hcounts,
          hschedules⟩⟩⟩
      · rw [ht, supplyGap_finish, supplyGap_tick]; rfl
      · exact absurd (hx.symm.trans hsource) nofun
      · rw [mainsCount_crossed hsource] at hlast
        exact absurd hlast (Nat.not_le.mpr hx)
    · rw [if_neg hticks, finish_crossing (u := crossed s) hb rfl rfl rfl rfl] at ht
      subst ht
      refine ⟨crossed s, hexec, rfl, fun hno => absurd hcount (Nat.not_le.mpr hno), fun _ => ⟨rfl, fun hx => ⟨rfl, ?_, ?_⟩,
        fun hx _ => ⟨rfl, mainsCount_crossed hx⟩, fun hx hn => ?_⟩⟩
      · exact mainsCount_crossed_crystal hx
      · exact if_congr late_iff rfl rfl
      · exact absurd ⟨hx, (mainsCount_crossed hx).symm ▸ hn⟩ hticks
  · have hno := mt counts_iff.mpr hc
    rw [takeCrossing_uncounted hc, finish_crossing (u := seen s) hb rfl rfl rfl rfl] at ht
    subst ht
    exact ⟨seen s, hexec, rfl, fun _ => ⟨rfl, rfl, rfl, rfl, rfl, rfl, rfl⟩, fun hx => absurd hx hno⟩

open Acts Ending Ticks Modes Causes in
/-- Settles O38: with a tenth completed the loss makes a tick of the crystal, and a gap of 50 ms ends the two stability
times. -/
theorem mainsLossTurnsToCrystal : Obligations.MainsLossTurnsToCrystal := by
  unfold Obligations.MainsLossTurnsToCrystal
  refine ⟨fun s hb hsource hsince => ?_, fun s hsince hgap => ?_⟩
  · obtain ⟨t, ht⟩ : ∃ t, t = State.finish s s.loseMains := ⟨_, rfl⟩
    have hdue : s.mainsLossDue = true := by unfold State.mainsLossDue; rw [hsource, hsince]; rfl
    have hexec : exec .mainsTimingLoss s = .next t := by
      rw [ht]; exact congrArg Host.Outcome.next (if_pos hdue)
    have hdone : (lost s).clk.dividerDone = true ↔ 1000 * s.clk.length ≤ s.clk.divider := decide_eq_true_iff
    have hlose : s.loseMains = if (lost s).clk.dividerDone = true then (lost s).takeCrystalTick else lost s := rfl
    have hclock : (lost s).flt.pendingSet.clock = true := Bool.or_true _
    by_cases hd : 1000 * s.clk.length ≤ s.clk.divider
    · rw [hlose, if_pos (hdone.mpr hd), takeCrystalTick_eq] at ht
      have hticked : Ticked s s ((lost s).onClk Clk.nextTick) ((lost s).onClk Clk.nextTick).tenthTick.returnToMains :=
        { ticking := ⟨rfl, rfl, rfl, rfl, rfl, rfl, rfl, rfl, rfl, rfl, rfl, rfl, rfl, rfl⟩
          groups := rfl
          acts := acts_returnToMains
          seq := seq_returnToMains _
          calm := hb.2 }
      obtain ⟨-, -, -, -, hdiv, -⟩ := timed_ticked hticked ht
      have htick := ticked_finish (before := s) hticked.acts
      rw [← ht] at htick
      obtain ⟨-, -, -, -, -, ksource, kstab, -⟩ := clk_clockTaken (tickBegun ((lost s).onClk Clk.nextTick))
      rw [clk_begun] at ksource kstab
      have hstays : ((lost s).onClk Clk.nextTick).tenthTick.returnToMains = ((lost s).onClk Clk.nextTick).tenthTick := by
        refine if_neg fun hm => ?_
        have hstab := hm.2.2
        rw [clk_tick hticked] at hstab
        rw [show (taken ((lost s).onClk Clk.nextTick)).clk.stability = 0 from kstab] at hstab
        exact absurd hstab (by decide)
      refine ⟨t, hexec, ?_, ?_, fun hn => absurd hd (Nat.not_le.mpr hn), fun _ => ⟨htick.1, hdiv, tickCounts_ticked hticked ht,
        tickSchedules_ticked hticked rfl ht⟩⟩
      · have hcrystal : ((lost s).onClk Clk.nextTick).tenthTick.returnToMains.clk.source = .crystal := by
          rw [hstays, clk_tick hticked]; exact ksource
        rw [ht]
        exact (copied_finish s _).2.elim (fun h => h.trans hcrystal) id
      · rw [ht]
        exact clock_finish s (clock_grows hticked.acts (clock_grows (acts_tick _) hclock))
    · rw [hlose, if_neg (mt hdone.mp hd)] at ht
      have hend : t = State.closeAdditions s (lost s) := by
        rw [ht]
        exact finish_closes (noCommit_of_kept hb rfl rfl) fun g hg => hg
      refine ⟨t, hexec, ?_, ?_, fun _ => ⟨?_, ?_⟩, fun hx => absurd hx hd⟩ <;> rw [hend]
      · rw [closeAdditions_clk]; rfl
      · rw [closeAdditions_pendingSet]; exact hclock
      · rw [closeAdditions_seq]; rfl
      · rw [closeAdditions_clk]; rfl
  · have hclk : Clk.afterGap s.clk = { s.clk with stability := 0 } := if_pos hsince.ge
    have hsup : Sup.afterGap s.sup = { s.sup with supplyStable := 0, crossingSeen := false } := if_pos hgap
    show Host.Outcome.next { s with clk := Clk.afterGap s.clk, sup := Sup.afterGap s.sup } = _
    rw [hclk, hsup]

end Sys2Proof.Machine
end

section
/-! SUPPORT. The commands brought to the groups' colours, from any state (R3, R14, R112). -/

namespace Sys2Proof.Machine

set_option Elab.async false

namespace Rebuild

open Acts Ending Relays Causes Probes

variable {G : Gid → Prop} {K : List Part} {s t u v w : State} {c k : Ch} {r r' : ChanRun}

/-! ### A coil leaves the indication and the standing findings (R109) -/

/-- A fault that no coil's start or stop ends or makes. -/
def lasting (f : RelayFault) : Prop := f = .failToOpen ∨ f = .foreignVoltage

/-- A channel's record with another command and coil. -/
def steady (r r' : ChanRun) : Prop :=
  r'.indication = r.indication ∧ (lasting r'.fault ∨ lasting r.fault → r'.fault = r.fault)

theorem steady_refl (r : ChanRun) : steady r r := ⟨rfl, fun _ => rfl⟩

theorem steady_of_eq (h : r = r') : steady r r' := h ▸ steady_refl r

theorem steady_of (hi : r'.indication = r.indication) (hf : r'.fault = r.fault) : steady r r' := ⟨hi, fun _ => hf⟩

theorem steady_trans {a b d : ChanRun} (h : steady a b) (h' : steady b d) : steady a d := by
  obtain ⟨i, f⟩ := h
  obtain ⟨i', f'⟩ := h'
  refine ⟨i'.trans i, fun hl => ?_⟩
  rcases hl with hl | hl
  · have he := f' (.inl hl)
    exact he.trans (f (.inl (he ▸ hl)))
  · have he := f (.inr hl)
    exact (f' (.inr (he ▸ hl))).trans he

theorem steady_putChan {new : ChanRun} (hi : new.indication = (s.chan c).indication) (hf : new.fault = (s.chan c).fault) :
    steady (s.chan c) ((s.putChan c new).chan c) := by
  obtain ⟨⟨x, hx⟩, -⟩ := putChan_spec (s := s) c new
  rw [hx]
  exact steady_of hi hf

theorem lasting_after {x : RelayFault} (h : lasting (RelayFault.after x .failToClose) ∨ lasting x) :
    RelayFault.after x .failToClose = x := by
  unfold RelayFault.after at h ⊢
  split
  · next hx =>
    rw [if_pos hx] at h
    subst hx
    exact absurd h (by unfold lasting; decide)
  · rfl

theorem steady_coilStart : steady (s.chan c) ((s.coilStart c).chan c) := by
  unfold State.coilStart
  dsimp only
  split
  · split
    · obtain ⟨⟨x, hc⟩, -⟩ := completePullIn_spec (s := s.onChan c fun _ =>
        { s.chan c with relay := .pullingIn, drive := .full, fullTime := some 0, limit := some ⟨0, (s.settings c).pullIn⟩ }) c
      rw [State.onChan_self] at hc
      rw [hc]
      exact ⟨rfl, lasting_after⟩
    · exact steady_putChan rfl rfl
  · exact steady_putChan rfl rfl

theorem steady_coilStop : steady (s.chan c) ((s.coilStop c).chan c) := by
  unfold State.coilStop
  dsimp only
  split
  · exact steady_putChan rfl rfl
  · exact steady_putChan rfl rfl

theorem steady_updateCoil : steady (s.chan c) ((s.updateCoil c).chan c) := by
  unfold State.updateCoil
  dsimp only
  split
  · split
    · have hchan : (s.claimChannel c).chan c = s.chan c := by unfold State.chan; rw [out_claimChannel]
      rw [hchan]
      exact steady_refl _
    · split
      · exact steady_refl _
      · exact steady_coilStart
  · split
    · exact steady_coilStop
    · exact steady_refl _

/-! ### One channel's command (R3) -/

/-- A channel's record after its command followed its group. -/
def synced (s : State) (r : ChanRun) (c : Ch) (r' : ChanRun) : Prop :=
  r'.command = s.commandFor c ∧ (r.command = s.commandFor c → r' = r) ∧ steady r r'

/-- The state before a command that turns FLASHING may start the generator. -/
def generated (s : State) (c : Ch) : State :=
  if s.commandFor c = .flashing && !s.out.flash.running then s.startFlashGen else s

theorem syncCommand_new (h : (s.chan c).command ≠ s.commandFor c) : s.syncCommand c =
    ((generated s c).putChan c { (generated s c).chan c with command := s.commandFor c }).updateCoil c := if_neg h

theorem chan_generated (c k : Ch) : (generated s c).chan k = s.chan k := by
  unfold generated; split <;> rfl

theorem steady_setCommand (w : State) (cmd : Command) :
    steady (w.chan c) ((w.putChan c { w.chan c with command := cmd }).chan c) := steady_putChan rfl rfl

theorem synced_syncCommand (s : State) (c : Ch) : synced s (s.chan c) c ((s.syncCommand c).chan c) := by
  by_cases h : (s.chan c).command = s.commandFor c
  · have hid : s.syncCommand c = s := if_pos h
    rw [hid]
    exact ⟨h, fun _ => rfl, steady_refl _⟩
  · rw [syncCommand_new h]
    have hput := steady_trans (steady_of_eq (chan_generated c c).symm) (steady_setCommand (generated s c) (s.commandFor c))
    refine ⟨?_, fun h' => absurd h' h, steady_trans hput steady_updateCoil⟩
    rw [(updateCoil_spec c).1, chan_putChan_command]

theorem chan_syncCommand_other (h : c ≠ k) : (s.syncCommand c).chan k = s.chan k := by
  unfold State.syncCommand
  dsimp only
  split
  · rfl
  · have hput (w : State) (r : ChanRun) : ((w.putChan c r).updateCoil c).chan k = w.chan k :=
      ((updateCoil_spec c).2.2.1.1 k h.symm).trans ((putChan_spec c r).2.1.1 k h.symm).1
    rw [hput]
    split <;> rfl

theorem colours_syncCommand (c : Ch) : colours (s.syncCommand c) = colours s := (edits_syncCommand c).colours_eq

theorem cfg_syncCommand (c : Ch) : (s.syncCommand c).cfg = s.cfg := Frames.cfg_of_base (Frames.base_syncCommand s c)

/-- Every channel after the commands followed the groups. -/
theorem synced_syncCommands (s : State) (c : Ch) : synced s (s.chan c) c (s.syncCommands.chan c) := by
  have hall := Relays.chans_forAll (s := s) (f := State.syncCommand) (g := fun r c r' => synced s r c r')
    (I := fun t => t.cfg = s.cfg ∧ colours t = colours s)
    (fun t c h => ⟨(cfg_syncCommand c).trans h.1, (colours_syncCommand c).trans h.2⟩)
    (fun _ _ _ h => chan_syncCommand_other h)
    (fun t c h => by
      have hs := synced_syncCommand t c
      unfold synced at hs ⊢
      rw [← commandFor_of_same h.1 h.2 c]
      exact hs) ⟨rfl, rfl⟩ c
  have hsettle (w : State) : w.settleFlashGen.chan c = w.chan c := by
    unfold State.settleFlashGen; split <;> rfl
  unfold State.syncCommands
  rw [hsettle]
  exact hall

/-- Once the commands have followed the groups each is the one that its group gives (R3). -/
theorem followsColours_syncCommands : s.syncCommands.followsColours := fun c => by
  rw [(synced_syncCommands s c).1]
  exact (commandFor_of_same cfg_syncCommands colours_syncCommands c).symm

/-! ### The commands where no probe works -/

/-- What the commands may write where no probe works. -/
abbrev idleParts : List Part := .flash :: .command :: relayParts

/-- No probe works, so that a claim on its channels ends none. -/
def still (s : State) : Prop := s.cbt.probe = none ∨ s.cbt.phase.working = false

theorem still_of_cbt (h : t.cbt = s.cbt) (hs : still s) : still t := by unfold still; rw [h]; exact hs

theorem abandonProbe_still (h : still s) : s.abandonProbe = s := by
  rcases h with h | h
  · unfold State.abandonProbe; rw [h]
  · exact abandonProbe_idle h

theorem claimChannel_still (h : still s) : s.claimChannel c = s := by
  unfold State.claimChannel
  rw [abandonProbe_still h]
  exact ite_self _

theorem acts_updateCoil_idle (c : Ch) (h : still s) : Acts G idleParts s (s.updateCoil c) := by
  unfold State.updateCoil
  dsimp only
  rw [claimChannel_still h]
  exact either (fun _ => either (fun _ => refl _) fun hb => either (fun _ => refl _)
    fun _ => (of_edits (edits_coilStart c (not_not.mp hb))).up)
    fun _ => either (fun _ => (of_edits (edits_coilStop c)).up) fun _ => refl _

theorem acts_setCommand (w : State) (cmd : Command) :
    Acts G idleParts w (w.putChan c { w.chan c with command := cmd }) := by
  have h : Edits [.chan, .lamp, .shown, .command] w (w.putChan c { w.chan c with command := cmd }) :=
    edits_putChan_command c fun h => h
  exact (of_edits h).up

theorem acts_syncCommand_idle (c : Ch) (h : still s) : Acts G idleParts s (s.syncCommand c) := by
  by_cases hc : (s.chan c).command = s.commandFor c
  · exact of_eq (if_pos hc)
  · rw [syncCommand_new hc]
    have hput (w : State) (r : ChanRun) : (w.putChan c r).cbt = w.cbt := (putChan_spec c r).2.1.2.2.2.1
    have hgen : (generated s c).cbt = s.cbt := by unfold generated; split <;> rfl
    refine Acts.trans (Acts.trans ?_ (acts_setCommand _ _))
      (acts_updateCoil_idle c (still_of_cbt ((hput _ _).trans hgen) h))
    exact either (fun _ => (of_edits edits_startFlashGen).up) fun _ => refl _

theorem acts_syncCommands_idle (h : still s) : Acts G idleParts s s.syncCommands := by
  have hall : Acts G idleParts s (s.forAll State.syncCommand) ∧ still (s.forAll State.syncCommand) :=
    Frames.forAll_invariant (P := fun t => Acts G idleParts s t ∧ still t) (f := State.syncCommand)
      (fun t c ht => by
        have hone := acts_syncCommand_idle (G := G) c ht.2
        exact ⟨ht.1.trans hone, still_of_cbt hone.cbt_eq ht.2⟩)
      ⟨refl _, h⟩
  exact hall.1.trans (of_edits edits_settleFlashGen).up

end Rebuild

end Sys2Proof.Machine
end

section
/-! SUPPORT. What every block does with new timing records leaves of the groups, the channels and the tester, and what it
judges again (R118, R129, R190). -/

namespace Sys2Proof.Machine

set_option Elab.async false

namespace Rebuild

open Acts Ending Relays Causes Probes Parked Commits Samples Maintenance

variable {G : Gid → Prop} {K : List Part} {before s t u v w : State} {c k : Ch} {g : Gid}

/-! ### A group's record but for demand, red health and inhibition -/

/-- A group's colour state with its time, its green end, its latch and its observed green. -/
def bareOf (s : State) (g : Gid) : Colour × Nat × Option Nat × Bool × Bool :=
  ((s.group g).colour, (s.group g).timeIn, (s.group g).greenEnd, (s.group g).latch, (s.group g).observedGreen)

theorem bare_of_groups (h : t.seq.groups = s.seq.groups) : bareOf t = bareOf s := by
  funext g; unfold bareOf State.group; rw [h]

theorem bare_of_acts (h : Acts G K s t)
    (hK : Part.colour ∉ K ∧ Part.demand ∉ K ∧ Part.shown ∉ K ∧ Part.seq ∉ K := by decide) : bareOf t = bareOf s := by
  obtain ⟨hc, hd, hs, hq⟩ := hK
  funext g
  have hphase := h.phase_eq g ⟨hc, hq⟩
  unfold phaseOf at hphase
  simp only [Prod.mk.injEq] at hphase
  obtain ⟨p1, p2, p3, -⟩ := hphase
  unfold bareOf
  rw [p1, p2, p3, (h.demand_eq g ⟨hc, hd⟩).2, h.shown_eq g hs]

theorem bare_refreshStanding : bareOf (State.refreshStanding before s) = bareOf s := by
  funext g
  unfold bareOf State.refreshStanding State.group
  rw [State.onSeq_seq, Tab.get_ofFn]

theorem bare_recomputeDemand : bareOf s.recomputeDemand = bareOf s := by
  funext g
  unfold bareOf State.recomputeDemand State.group
  rw [State.onSeq_seq, Tab.get_ofFn]

/-! ### The requests that leave the list -/

theorem groups_returnToPlan (b : Stg) : (s.returnToPlan b).seq.groups = s.seq.groups := by
  have hallow (w : State) : w.refreshAllowance.seq.groups = w.seq.groups := by
    unfold State.refreshAllowance
    rfl
  unfold State.returnToPlan
  dsimp only
  split
  · split
    · split
      · rw [hallow]; rfl
      · rfl
    · rfl
  · rfl

theorem groups_serveHead : s.serveHead.seq.groups = s.seq.groups := by
  unfold State.serveHead
  split
  · rfl
  · split
    · rfl
    · split
      · rfl
      · rfl

theorem groups_removeRequest (d : Det) : (s.removeRequest d).seq.groups = s.seq.groups := by
  unfold State.removeRequest
  split
  · rfl
  · split
    · dsimp only
      split
      · rw [groups_returnToPlan]; rfl
      · rw [groups_serveHead]; rfl
    · rfl

theorem groups_releaseInput (d : Det) : (s.releaseInput d).seq.groups = s.seq.groups := by
  unfold State.releaseInput
  dsimp only
  split
  · exact groups_removeRequest d
  · exact groups_removeRequest d

theorem groups_endStuck (d : Det) : (s.endStuck d).seq.groups = s.seq.groups := by
  unfold State.endStuck; split <;> rfl

theorem groups_compareInput (d : Det) : (s.compareInput before d).seq.groups = s.seq.groups := by
  have hrelease (old : DetectorRec) :
      (if (s.input d).accepted && old.kind == some DetKind.priority then s.releaseInput d else s).seq.groups = s.seq.groups := by
    split
    · exact groups_releaseInput d
    · rfl
  unfold State.compareInput State.restartInput
  dsimp only
  split
  · rfl
  · exact (groups_endStuck d).trans (hrelease _)

theorem groups_dropUndefinedTargets : s.dropUndefinedTargets.seq.groups = s.seq.groups := by
  have hgo (l : List PriorityReq) (w : State) (hw : w.seq.groups = s.seq.groups) :
      (l.foldl (fun t r => if (t.stage r.target).isEmpty then t.removeRequest r.input else t) w).seq.groups = s.seq.groups := by
    induction l generalizing w with
    | nil => exact hw
    | cons r l ih =>
      refine ih _ ?_
      dsimp only
      split
      · rw [groups_removeRequest, hw]
      · exact hw
  exact hgo _ s rfl

theorem groups_holdGap : s.holdGap.seq.groups = s.seq.groups := by unfold State.holdGap; split <;> rfl

/-! ### The steps of the blocks -/

/-- The inputs compared, after the clock's settings. -/
def compared (before s : State) : State := s.copyClockSettings.forAll fun (t : State) (d : Det) => t.compareInput before d

/-- The channels' settings compared and their wear judged. -/
def followed (before s : State) : State := (compared before s).forAll (follow before)

/-- The red health judged. -/
def healed (before s : State) : State := (State.refreshStanding before (followed before s)).evalAllRedHealth

theorem retakeTiming_eq (before s : State) : s.retakeTiming before =
    (((((healed before s).dropUndefinedTargets.retakeRecovery before).retakeGraces before).retakeAttention before).refreshGrace).holdGap :=
  rfl

theorem seq_retakeAttention : (s.retakeAttention before).seq = s.seq := by unfold State.retakeAttention; split <;> rfl

/-- The groups are left as they are once red health was judged. -/
theorem groups_retakeTiming : (s.retakeTiming before).seq.groups = (healed before s).seq.groups := by
  rw [retakeTiming_eq, groups_holdGap]
  generalize healed before s = w
  have hgrace (x : State) : x.refreshGrace.seq = x.seq := rfl
  have hsup (x : State) : ((x.retakeRecovery before).retakeGraces before).seq = x.seq := rfl
  rw [hgrace, seq_retakeAttention, hsup, groups_dropUndefinedTargets]

theorem acts_followed (before s : State) : Acts G [.lamp, .healthy, .flt, .lampFault, .wear] (compared before s) (followed before s) :=
  forAll _ fun _ _ => (acts_compareSettings _ _).up.trans (acts_judgeWear _).up

theorem acts_standing (before : State) : Acts G [.demand] s (State.refreshStanding before s) := of_edits (edits_refreshStanding _)

theorem acts_evalAll : Acts G redParts s s.evalAllRedHealth := of_edits edits_evalAllRedHealth

theorem groups_compared (before s : State) : (compared before s).seq.groups = s.seq.groups := by
  have hclk : s.copyClockSettings.seq = s.seq := by
    unfold State.copyClockSettings
    dsimp only
    split
    · rfl
    · split <;> rfl
  unfold compared
  rw [Frames.forAll_keeps (fun w : State => w.seq.groups) fun _ d => groups_compareInput d, hclk]

theorem bare_retakeTiming (before s : State) : bareOf (s.retakeTiming before) = bareOf s := by
  rw [bare_of_groups groups_retakeTiming]
  unfold healed
  rw [bare_of_acts (acts_evalAll (G := fun _ => True)), bare_refreshStanding,
    bare_of_acts (acts_followed (G := fun _ => True) before s), bare_of_groups (groups_compared before s)]

/-! ### Red health and inhibition (R129, R30) -/

/-- Every inhibited flag is what the red health of the groups makes it. -/
def inhibits (s : State) : Prop := ∀ g, (s.group g).inhibited = s.inhibitedBy g

/-- Every red health is that of the healthy red heads. -/
def heals (s : State) : Prop := ∀ g, (s.group g).redHealth = s.redHealthOf g

theorem inhibitedBy_of (hcfg : t.cfg = s.cfg) (h : ∀ g, (t.group g).redHealth = (s.group g).redHealth) (g : Gid) :
    t.inhibitedBy g = s.inhibitedBy g := by
  unfold State.inhibitedBy State.fitted State.kind State.groupRec State.conflicting
  simp only [hcfg, h]

theorem inhibits_of (hs : inhibits s) (hcfg : t.cfg = s.cfg)
    (h : ∀ g, (t.group g).redHealth = (s.group g).redHealth ∧ (t.group g).inhibited = (s.group g).inhibited) : inhibits t :=
  fun g => by rw [(h g).2, hs g, inhibitedBy_of hcfg fun g => (h g).1]

theorem inhibits_of_acts (h : Acts G K s t) (hs : inhibits s) (hK : Part.health ∉ K ∧ Part.cfg ∉ K := by decide) : inhibits t :=
  inhibits_of hs (h.cfg_eq hK.2) fun g => h.health_eq g hK.1

theorem inhibits_refreshInhibited : inhibits s.refreshInhibited := fun g => by
  have hg : (s.refreshInhibited.group g).inhibited = s.inhibitedBy g := by
    unfold State.group State.refreshInhibited
    rw [State.onSeq_seq, Tab.get_ofFn]
  rw [hg]
  exact (inhibitedBy_of (t := s.refreshInhibited) (s := s) rfl (fun _ => redHealth_refreshInhibited) g).symm

theorem inhibits_evalRedHealth (hs : inhibits s) : inhibits (s.evalRedHealth g) := by
  have hnew (w : State) (hq : w.seq = ((s.onGroup g fun r => { r with redHealth := s.redHealthOf g }).refreshInhibited).seq)
      (hcfg : w.cfg = s.cfg) : inhibits w := by
    have hgroup (k : Gid) : w.group k =
        ((s.onGroup g fun r => { r with redHealth := s.redHealthOf g }).refreshInhibited).group k := by
      unfold State.group; rw [hq]
    have hjudged := inhibits_refreshInhibited (s := s.onGroup g fun r => { r with redHealth := s.redHealthOf g })
    exact inhibits_of hjudged hcfg fun k => by rw [hgroup]; exact ⟨rfl, rfl⟩
  unfold State.evalRedHealth
  dsimp only
  split
  · exact hs
  · split
    · exact hnew _ rfl rfl
    · split
      · exact hnew _ rfl rfl
      · exact hnew _ rfl rfl

theorem inhibits_evalAllRedHealth (hs : inhibits s) : inhibits s.evalAllRedHealth :=
  Frames.forAll_invariant (fun _ _ h => inhibits_evalRedHealth h) hs

theorem heals_evalAllRedHealth : heals s.evalAllRedHealth := fun g => redHealth_evalAllRedHealth g

theorem heals_of (hs : heals s) (hcfg : t.cfg = s.cfg) (hl : t.lmp = s.lmp)
    (h : ∀ g, (t.group g).redHealth = (s.group g).redHealth) : heals t := fun g => by
  rw [h, hs g]
  exact (redHealthOf_of hcfg fun c => by unfold State.lamp; rw [hl]).symm

theorem heals_of_acts (h : Acts G K s t) (hs : heals s) (hK : Part.health ∉ K ∧ Part.cfg ∉ K ∧ Part.lamp ∉ K := by decide) :
    heals t :=
  heals_of hs (h.cfg_eq hK.2.1) (h.lmp_eq hK.2.2) fun g => (h.health_eq g hK.1).1

/-- The last steps of the blocks leave the groups, the lamps and the configuration. -/
theorem rest_retakeTiming (before s : State) : (s.retakeTiming before).cfg = (healed before s).cfg ∧
    (s.retakeTiming before).lmp = (healed before s).lmp ∧ ∀ g, (s.retakeTiming before).group g = (healed before s).group g := by
  have hsup {t : State} : Acts (fun _ => True) [.seq, .sup, .flt, .grace] t ((t.retakeRecovery before).retakeGraces before) :=
    (acts_sup _ rfl rfl rfl).up.trans (acts_sup _ rfl rfl rfl).up
  have hacts : Acts (fun _ => True) [.seq, .sup, .flt, .grace] (healed before s) (s.retakeTiming before) := by
    rw [retakeTiming_eq]
    exact Acts.trans (Acts.trans (Acts.trans (Acts.trans acts_dropUndefinedTargets.up hsup) (acts_retakeAttention _).up)
      (of_edits (.one (.grace (K := [.grace]) (by decide)))).up) acts_holdGap.up
  refine ⟨hacts.cfg_eq, hacts.lmp_eq, fun g => ?_⟩
  unfold State.group
  rw [groups_retakeTiming]

theorem heals_retakeTiming (before s : State) : heals (s.retakeTiming before) := by
  obtain ⟨hcfg, hl, hg⟩ := rest_retakeTiming before s
  exact heals_of (heals_evalAllRedHealth (s := State.refreshStanding before (followed before s))) hcfg hl fun g => by rw [hg]; rfl

theorem inhibits_retakeTiming (before : State) (hs : inhibits s) : inhibits (s.retakeTiming before) := by
  obtain ⟨hcfg, -, hg⟩ := rest_retakeTiming before s
  have hinputs : Acts (fun _ => True) [.clk, .flt, .det, .stuck, .seq] s (compared before s) :=
    acts_copyClockSettings.up.trans (forAll _ fun _ _ => (acts_compareInput _ _).up)
  have hstanding := inhibits_of_acts (acts_standing (G := fun _ => True) before)
    (inhibits_of_acts (acts_followed (G := fun _ => True) before s) (inhibits_of_acts hinputs hs))
  exact inhibits_of (inhibits_evalAllRedHealth hstanding) hcfg fun g => by rw [hg]; exact ⟨rfl, rfl⟩

end Rebuild

end Sys2Proof.Machine
end

section
/-! SUPPORT. The lamp records and the entries of a structural commit through what every block does with its timing records
(R14, R118). -/

namespace Sys2Proof.Machine

set_option Elab.async false

namespace Rebuild

open Acts Ending Modes Relays Causes Probes Parked Commits Samples Maintenance

variable {G : Gid → Prop} {K : List Part} {before s t u v w : State} {c k : Ch} {g : Gid} {l : LampRec} {st : ChanSettings}
  {held m : Bool}

/-! ### A lamp record that has learned nothing (R14) -/

/-- A lamp record of a structural commit, by its settings, whether its command is FLASHING, and the maintenance set. -/
def fresh (st : ChanSettings) (held m : Bool) (l : LampRec) : Prop :=
  l.iref = (if st.refMode = .fixed then some st.fixedRef else none) ∧
    l.learn = (if st.refMode = .fixed then .learned else .unlearned) ∧ l.healthy = none ∧ l.set = none ∧ l.run = none ∧
    l.maintenance = m ∧ l.verdict = (if held then .held else .unknown) ∧ (held = true → l.saved = some .unknown)

theorem fresh_relearned (h : fresh st held m l) : fresh st held m ((l.restartReference st).withVerdict .unknown none) := by
  obtain ⟨-, -, -, -, -, hm, hv, -⟩ := h
  obtain ⟨hm', hv', hset, -, hlearn, hfixed⟩ := restartReference_spec l st
  obtain ⟨w1, w2, w3, w4, w5, w6, w7⟩ := withVerdict_unknown (l.restartReference st)
  have hmode : (l.restartReference st).iref = (if st.refMode = .fixed then some st.fixedRef else none) ∧
      (l.restartReference st).learn = (if st.refMode = .fixed then .learned else .unlearned) := by
    cases hst : st.refMode with
    | learn => exact hlearn hst
    | fixed => exact hfixed hst
  rw [hv', hv] at w7
  refine ⟨w4.trans hmode.1, w5.trans hmode.2, w1, w3.trans hset, w2, (w6.trans hm').trans hm, ?_, fun hh => ?_⟩
  · cases held with
    | true => exact w7.1
    | false => exact w7
  · subst hh
    exact w7.2

theorem fresh_of_leak {n : Option Nat} {b : Bool} (h : fresh st held m l) : fresh st held m { l with leak := n, leakAsked := b } := h

theorem lamp_refreshLeak_other (h : c ≠ k) : (s.refreshLeak c).lamp k = s.lamp k :=
  ((refreshLeak_frame (s := s) c).1.1 k h.symm).2

theorem fresh_refreshLeak (h : fresh st held m (s.lamp c)) : fresh st held m ((s.refreshLeak c).lamp c) := by
  unfold State.refreshLeak
  split
  · split
    · exact h
    · rw [State.onLamp_self]; exact fresh_of_leak h
  · rw [State.onLamp_self]; exact fresh_of_leak h

theorem lamp_judgeWear (c k : Ch) : (s.judgeWear c).lamp k = s.lamp k := by
  unfold State.lamp; rw [(acts_judgeWear (G := fun _ => True) c).lmp_eq]

theorem lamp_follow_other (h : c ≠ k) : (follow before s c).lamp k = s.lamp k := by
  unfold follow
  rw [lamp_judgeWear]
  unfold State.compareSettings
  dsimp only
  split
  · rfl
  · exact lamp_relearn_other h.symm

theorem fresh_follow (h : fresh (s.settings c) held m (s.lamp c)) : fresh (s.settings c) held m ((follow before s c).lamp c) := by
  unfold follow
  rw [lamp_judgeWear]
  unfold State.compareSettings
  dsimp only
  split
  · exact h
  · rw [lamp_relearn]; exact fresh_relearned h

theorem lamp_retakeTiming (before s : State) (c : Ch) : (s.retakeTiming before).lamp c = (followed before s).lamp c := by
  have hl : (healed before s).lmp = (followed before s).lmp :=
    (acts_evalAll (G := fun _ => True)).lmp_eq.trans (acts_standing (G := fun _ => True) before).lmp_eq
  unfold State.lamp
  rw [(rest_retakeTiming before s).2.1, hl]

theorem acts_compared (before s : State) : Acts G [.clk, .flt, .det, .stuck, .seq] s (compared before s) :=
  acts_copyClockSettings.up.trans (forAll _ fun _ _ => (acts_compareInput _ _).up)

theorem fresh_retakeTiming (before : State) (h : fresh (s.settings c) held m (s.lamp c)) :
    fresh (s.settings c) held m ((s.retakeTiming before).lamp c) := by
  have hcompared : (compared before s).cfg = s.cfg ∧ (compared before s).lamp c = s.lamp c :=
    ⟨(acts_compared (G := fun _ => True) before s).cfg_eq, by
      unfold State.lamp; rw [(acts_compared (G := fun _ => True) before s).lmp_eq]⟩
  have hcfg (t : State) (i : Ch) : (follow before t i).cfg = t.cfg :=
    (acts_judgeWear (G := fun _ => True) i).cfg_eq.trans (acts_compareSettings (G := fun _ => True) before i).cfg_eq
  obtain ⟨w, hw, hp, he⟩ := forAll_own (f := follow before) (p := State.lamp) (I := fun t => t.cfg = s.cfg)
    (fun t i ht => (hcfg t i).trans ht) (fun _ _ _ hne => lamp_follow_other hne) (compared before s) hcompared.1 c
  have hset : w.settings c = s.settings c := settings_of_cfg hw c
  rw [lamp_retakeTiming]
  unfold followed
  rw [he, ← hset]
  refine fresh_follow ?_
  rw [hp, hcompared.2, hset]
  exact h

/-! ### The entries that a structural commit makes CLEARED (R14) -/

/-- An entry that a structural commit makes CLEARED. -/
def ended (f : FaultEntry) : Prop :=
  (∃ e, f.subject = .entry e) ∧ f.kind = .testStarved ∨
    (∃ c, f.subject = .channel c) ∧
      (f.kind = .lampPartial ∨ f.kind = .lampFailed ∨ f.kind = .lampOvercurrent ∨ f.kind = .circuitOpen ∨
        f.kind = .earthLeak ∨ f.kind = .crossNuisance)

/-- No such entry is ACTIVE among those that `P` tells. -/
def quietFor (P : FaultEntry → Prop) (s : State) : Prop := ∀ f ∈ s.flt.entries, P f → f.active = false

variable {P : FaultEntry → Prop}

theorem quietFor_clear (k : FaultKind) (x : Subject) (h : quietFor P s) : quietFor P (s.clearFault k x) := fun e he hp => by
  by_contra ha
  rw [Bool.not_eq_false] at ha
  exact absurd ((h e (active_of_clear he ha).1 hp).symm.trans ha) nofun

theorem quietFor_of_flt (hf : t.flt.entries = s.flt.entries) (h : quietFor P s) : quietFor P t := by
  unfold quietFor; rw [hf]; exact h

theorem quietFor_of_acts (ha : Acts G K s t) (h : quietFor P s) (hP : ∀ e, P e → e.kind.part ∉ K)
    (hK : Part.table ∉ K := by decide) : quietFor P t :=
  fun e he hp => h e (ha.entry_old he (hP e hp) hK) hp

/-- The parts of such entries. -/
theorem part_of_ended {f : FaultEntry} (h : ended f) : f.kind.part = .starved ∨ f.kind.part = .lampFault ∨ f.kind.part = .crossing := by
  rcases h with ⟨-, h⟩ | ⟨-, h | h | h | h | h | h⟩ <;> rw [h]
  · exact .inl rfl
  · exact .inr (.inl rfl)
  · exact .inr (.inl rfl)
  · exact .inr (.inl rfl)
  · exact .inr (.inl rfl)
  · exact .inr (.inr rfl)
  · exact .inr (.inr rfl)

theorem ended_acts (ha : Acts G K s t) (h : quietFor ended s)
    (hK : Part.table ∉ K ∧ Part.starved ∉ K ∧ Part.lampFault ∉ K ∧ Part.crossing ∉ K := by decide) : quietFor ended t := by
  obtain ⟨ht, hs, hl, hc⟩ := hK
  refine quietFor_of_acts ha h (fun e he => ?_) ht
  rcases part_of_ended he with hp | hp | hp <;> rw [hp]
  · exact hs
  · exact hl
  · exact hc

theorem quietFor_clearLampFaults (c : Ch) (h : quietFor P s) : quietFor P (s.clearLampFaults c) :=
  quietFor_clear _ _ (quietFor_clear _ _ (quietFor_clear _ _ (quietFor_clear _ _ h)))

theorem ended_follow (c : Ch) (h : quietFor ended s) : quietFor ended (follow before s c) := by
  refine ended_acts (acts_judgeWear (G := fun _ => True) c) ?_
  unfold State.compareSettings
  dsimp only
  split
  · exact h
  · unfold State.relearn
    exact quietFor_clearLampFaults c (quietFor_of_flt rfl h)

theorem ended_retakeTiming (before : State) (h : quietFor ended s) : quietFor ended (s.retakeTiming before) := by
  have hsup {t : State} : Acts (fun _ => True) [.seq, .sup, .flt, .grace] t ((t.retakeRecovery before).retakeGraces before) :=
    (acts_sup _ rfl rfl rfl).up.trans (acts_sup _ rfl rfl rfl).up
  have hrest : Acts (fun _ => True) [.seq, .sup, .flt, .grace] (healed before s) (s.retakeTiming before) := by
    rw [retakeTiming_eq]
    exact Acts.trans (Acts.trans (Acts.trans (Acts.trans acts_dropUndefinedTargets.up hsup) (acts_retakeAttention _).up)
      (of_edits (.one (.grace (K := [.grace]) (by decide)))).up) acts_holdGap.up
  refine ended_acts hrest (ended_acts (acts_evalAll (G := fun _ => True)) (ended_acts (acts_standing (G := fun _ => True) before) ?_))
  exact Frames.forAll_invariant (fun _ c ht => ended_follow c ht) (ended_acts (acts_compared (G := fun _ => True) before s) h)

end Rebuild

end Sys2Proof.Machine
end

section
/-! SUPPORT. The tester and the runtime records after a structural commit (R14, R154). -/

namespace Sys2Proof.Machine

set_option Elab.async false

namespace Rebuild

open Acts Ending Modes Relays Causes Probes Parked Commits Samples Maintenance

variable {G : Gid → Prop} {K : List Part} {before s b t u v w : State} {c k : Ch} {g : Gid}

/-! ### The Cable Tester (R154) -/

/-- What an abandonment leaves of the tester: the period with the sweep's time and place, and the quiet channels. -/
def courseOf (s : State) := (s.cbt.period, s.cbt.sweepTime, s.cbt.quietSince, s.cbt.walk, s.cbt.uncounted)

theorem course_recordAbandoned (run : ProbeRun) : courseOf (s.recordAbandoned run) = courseOf s := by
  have hdefer (w : State) (e : PEnt) : courseOf (w.deferAgain e) = courseOf w := by rw [deferAgain_eq]; rfl
  have hstarve (w : State) (e : PEnt) : courseOf (w.countStarved e) = courseOf w := by
    unfold courseOf; rw [(countStarved_spec w e).2.1]
  have hanswer (w : State) (o : Origin) (r : ProbeResult) (m : Option Nat) : courseOf (w.answerProbe o r m) = courseOf w := by
    unfold courseOf; rw [(answerProbe_spec w o r m).1]
  unfold State.recordAbandoned
  dsimp only
  rw [hanswer]
  split
  · rw [hstarve, hdefer]; rfl
  · rw [hdefer]; rfl

/-- A structural commit abandons the probe that works, and leaves the sweep where it stands. -/
theorem abandonProbe_course (s : State) : courseOf s.abandonProbe = courseOf s ∧ still s.abandonProbe ∧
    (s.cbt.probe ≠ none → s.abandonProbe.cbt.phase.working = false) := by
  cases hp : s.cbt.probe with
  | none =>
    have hself : s.abandonProbe = s := abandonProbe_still (.inl hp)
    rw [hself]
    exact ⟨rfl, .inl hp, fun h => absurd rfl h⟩
  | some run =>
    by_cases hw : s.cbt.phase.working = true
    · have heq : s.abandonProbe = (s.onCbt fun b => { b with phase := .releasing, phaseTime := 0 }).recordAbandoned run := by
        unfold State.abandonProbe; rw [hp]; exact if_pos hw
      have hoff := not_working_of (abandonProbe_ends hp hw (t := s) rfl rfl).2
      refine ⟨?_, .inr hoff, fun _ => hoff⟩
      rw [heq, course_recordAbandoned]
      rfl
    · have hoff : s.cbt.phase.working = false := by simpa using hw
      have hself : s.abandonProbe = s := abandonProbe_still (.inr hoff)
      rw [hself]
      exact ⟨rfl, .inr hoff, fun _ => hoff⟩

/-- The tester's record after a structural commit. -/
def emptied (s : State) : State :=
  s.abandonProbe.onCbt fun b =>
    { b with
      results := Tab.fill 64 ResultRec.reset
      cable := Tab.fill 48 .untested
      urgent := []
      deferred := []
      walk := if b.period.isSome then 1 else b.walk
      uncounted := b.uncounted || b.period.isSome
      probe := b.probe.map fun p => { p with sweepEnded := false } }

theorem resetTester_eq (s : State) :
    s.resetTester = (emptied s).forAll fun (t : State) (e : PEnt) => t.clearFault .testStarved (.entry e) := by
  unfold State.resetTester
  rfl

theorem cbt_resetTester (s : State) : s.resetTester.cbt = (emptied s).cbt := by
  have hclear (w : State) (k : FaultKind) (x : Subject) : (w.clearFault k x).cbt = w.cbt := rfl
  rw [resetTester_eq]
  generalize emptied s = w
  exact Frames.forAll_keeps State.cbt (fun _ _ => hclear _ _ _) _

theorem still_resetTester (s : State) : still s.resetTester := by
  have h := (abandonProbe_course s).2.1
  unfold still at h ⊢
  rw [cbt_resetTester]
  refine h.imp (fun hp => ?_) id
  show s.abandonProbe.cbt.probe.map _ = none
  rw [hp]
  rfl

/-- What no part of a structural commit's tester reaches. -/
theorem acts_resetTester (s : State) : Acts G [.answer, .cbt, .flt, .starved] s s.resetTester := by
  have hempty : Acts G [.answer, .cbt, .flt, .starved] s (emptied s) :=
    (of_edits edits_abandonProbe).trans (of_edits (.one (.cbt _ (by decide) (fun _ => urgentOk_nil rfl) (.inl (by
      unfold Cbt.owesReply
      dsimp only
      cases s.abandonProbe.cbt.probe with
      | none => rfl
      | some p => obtain ⟨e, o, w⟩ := p; cases o <;> rfl)))))
  rw [resetTester_eq]
  exact hempty.trans (forAll _ fun _ _ => of_edits (edits_clearFault _ _))

/-- The tester's record, field by field. -/
theorem tester_resetTester (s : State) :
    (∀ c, s.resetTester.cbt.cable.get c = .untested) ∧ (∀ e, s.resetTester.result e = ⟨.none, 0, .none, none, none, none, 0, false⟩) ∧
      s.resetTester.cbt.urgent = [] ∧ s.resetTester.cbt.deferred = [] ∧
      (s.cbt.probe ≠ none → s.resetTester.cbt.phase ≠ .closing ∧ s.resetTester.cbt.phase ≠ .measuring) ∧
      s.resetTester.cbt.period = s.cbt.period ∧ s.resetTester.cbt.sweepTime = s.cbt.sweepTime ∧
      s.resetTester.cbt.quietSince = s.cbt.quietSince ∧
      s.resetTester.cbt.walk = (if s.cbt.period ≠ none then 1 else s.cbt.walk) ∧
      (s.cbt.period ≠ none → s.resetTester.cbt.uncounted = true) := by
  obtain ⟨hcourse, -, hoff⟩ := abandonProbe_course s
  simp only [courseOf, Prod.mk.injEq] at hcourse
  obtain ⟨hp, ht, hq, hw, -⟩ := hcourse
  unfold State.result
  rw [cbt_resetTester]
  refine ⟨fun c => Tab.get_fill _ _, fun e => (Tab.get_fill _ _).trans rfl, rfl, rfl, fun hn => ?_, hp, ht, hq, ?_, fun hn => ?_⟩
  · have h : (emptied s).cbt.phase.working = false := hoff hn
    constructor <;> intro he <;> rw [he] at h <;> exact absurd h nofun
  · show (if s.abandonProbe.cbt.period.isSome = true then 1 else s.abandonProbe.cbt.walk) = _
    rw [hp, hw]
    cases s.cbt.period <;> rfl
  · show (s.abandonProbe.cbt.uncounted || s.abandonProbe.cbt.period.isSome) = true
    rw [hp, Option.isSome_iff_ne_none.mpr hn, Bool.or_true]

/-- No entry of a starved test stays ACTIVE. -/
theorem quiet_resetTester (s : State) :
    quietFor (fun f => (∃ e, f.subject = .entry e) ∧ f.kind = .testStarved) s.resetTester := by
  rw [resetTester_eq]
  rintro f hf ⟨⟨e, he⟩, hk⟩
  refine forAll_reaches (Q := fun (e : PEnt) (t : State) => ∀ f ∈ t.flt.entries, f.kind = .testStarved → f.subject = .entry e →
    f.active = false) (f := fun (t : State) (e : PEnt) => t.clearFault .testStarved (.entry e))
    (fun t i => Laws.clear_inactive t.flt _ _) (fun t i j h => ?_) (emptied s) e f hf hk he
  intro f hf hk hx
  exact quietFor_clear (P := fun f => f.kind = .testStarved ∧ f.subject = .entry j) _ _
    (fun f hf hp => h f hf hp.1 hp.2) f hf ⟨hk, hx⟩

end Rebuild

end Sys2Proof.Machine
end

section
/-! SUPPORT. The runtime records after a structural commit, before the standing relay faults are reported again (R14). -/

namespace Sys2Proof.Machine

set_option Elab.async false

namespace Rebuild

open Acts Ending Modes Relays Causes Probes Parked Commits Samples Maintenance

variable {G : Gid → Prop} {K : List Part} {before s b t u v w : State} {c k : Ch} {g : Gid}

/-! ### The stages -/

/-- Every group's record begun anew. -/
def regrouped (before s : State) : State := s.forAll fun (t : State) (g : Gid) => t.reinitGroup before g

/-- One channel's lamp record and entries begun anew. -/
def relamped (s : State) (c : Ch) : State := ((s.reinitLamp c).clearChannelEntries c).refreshLeak c

/-- Every lamp record begun anew, under the commands of the new colours. -/
def relit (before s : State) : State := (regrouped before s).syncCommands.forAll relamped

/-- Red health and inhibition judged on the new lamp records. -/
def rejudged (before s : State) : State := (relit before s).evalAllRedHealth.refreshInhibited

theorem rebuilt_eq (before s : State) : s.rebuilt before = ((rejudged before s).forAll State.refreshGreen).refreshConflicts := rfl

/-! ### What each stage leaves -/

theorem regrouped_frame (before s : State) : (regrouped before s).cfg = s.cfg ∧ (regrouped before s).out = s.out ∧
    (regrouped before s).lmp = s.lmp ∧ (regrouped before s).cbt = s.cbt ∧ (regrouped before s).sup = s.sup :=
  ⟨Frames.forAll_keeps State.cfg (fun _ _ => State.onGroup_cfg _ _ _) s,
    Frames.forAll_keeps State.out (fun _ _ => State.onGroup_out _ _ _) s,
    Frames.forAll_keeps State.lmp (fun _ _ => State.onGroup_lmp _ _ _) s,
    Frames.forAll_keeps State.cbt (fun _ _ => State.onGroup_cbt _ _ _) s,
    Frames.forAll_keeps State.sup (fun _ _ => State.onGroup_sup _ _ _) s⟩

/-- The blocks that a lamp record begun anew leaves. -/
def besides (s : State) : Cfg × Seq × Out × Cbt := (s.cfg, s.seq, s.out, s.cbt)

theorem besides_relamped (c : Ch) : besides (relamped s c) = besides s := by
  have hlamp (w : State) : besides (w.reinitLamp c) = besides w := rfl
  have hclear (w : State) (k : FaultKind) (x : Subject) : besides (w.clearFault k x) = besides w := rfl
  have hleak (w : State) : besides (w.refreshLeak c) = besides w := by
    unfold State.refreshLeak
    split
    · split
      · rfl
      · rfl
    · rfl
  unfold relamped State.clearChannelEntries State.clearLampFaults
  simp only [hleak, hclear, hlamp]

theorem besides_relit (before s : State) : besides (relit before s) = besides (regrouped before s).syncCommands :=
  Frames.forAll_keeps besides (fun _ c => besides_relamped c) _

theorem relit_frame (before s : State) : (relit before s).cfg = (regrouped before s).syncCommands.cfg ∧
    (relit before s).seq = (regrouped before s).syncCommands.seq ∧ (relit before s).out = (regrouped before s).syncCommands.out ∧
    (relit before s).cbt = (regrouped before s).syncCommands.cbt := by
  have h := besides_relit before s
  generalize relit before s = w at h ⊢
  generalize (regrouped before s).syncCommands = v at h ⊢
  unfold besides at h
  simp only [Prod.mk.injEq] at h
  exact h

/-- What the stages after the lamp records may write. -/
theorem acts_rejudged (before s : State) : Acts G redParts (relit before s) (rejudged before s) :=
  acts_evalAll.trans (of_edits (.one (.inhibit (by decide))))

theorem acts_rebuilt (before s : State) : Acts G [.shown] (rejudged before s) (s.rebuilt before) := by
  rw [rebuilt_eq]
  exact (forAll _ fun _ _ => of_edits (.one (.green _ (by decide)))).trans (of_edits (.one (.conflicts (by decide))))

end Rebuild

end Sys2Proof.Machine
end

section
/-! SUPPORT. The groups, channels, lamps and entries after a structural commit, before the standing relay faults are
reported again (R14, R109, R117). -/

namespace Sys2Proof.Machine

set_option Elab.async false

namespace Rebuild

open Acts Ending Modes Relays Causes Probes Parked Commits Samples Maintenance

variable {G : Gid → Prop} {K : List Part} {before s b t u v w : State} {c k : Ch} {g : Gid}

/-! ### The blocks as they were -/

theorem cfg_rejudged (before s : State) : (rejudged before s).cfg = s.cfg := by
  have hrelit := (relit_frame before s).1
  rw [(acts_rejudged (G := fun _ => True) before s).cfg_eq, hrelit, cfg_syncCommands, (regrouped_frame before s).1]

theorem out_rejudged (before s : State) : (rejudged before s).out = (regrouped before s).syncCommands.out := by
  have hrelit := (relit_frame before s).2.2.1
  exact (acts_rejudged (G := fun _ => True) before s).out_eq.trans hrelit

theorem cfg_rebuilt (before s : State) : (s.rebuilt before).cfg = s.cfg :=
  (acts_rebuilt (G := fun _ => True) before s).cfg_eq.trans (cfg_rejudged before s)

theorem cbt_rebuilt (before : State) (h : still s) : (s.rebuilt before).cbt = s.cbt := by
  have hg := (regrouped_frame before s).2.2.2.1
  have hrelit := (relit_frame before s).2.2.2
  rw [(acts_rebuilt (G := fun _ => True) before s).cbt_eq, (acts_rejudged (G := fun _ => True) before s).cbt_eq, hrelit,
    (acts_syncCommands_idle (G := fun _ => True) (still_of_cbt hg h)).cbt_eq, hg]

/-! ### The groups (R14) -/

/-- A group's record begun anew, but for its demand, red health, inhibition and observed green. -/
def begun (before s : State) (g : Gid) : Colour × Nat × Option Nat × Bool :=
  (rebuiltColour s g, 0, if before.fitted g && s.fitted g then (s.group g).greenEnd else none, false)

/-- These fields of a group's record. -/
def shownOf (s : State) (g : Gid) : Colour × Nat × Option Nat × Bool :=
  ((s.group g).colour, (s.group g).timeIn, (s.group g).greenEnd, (s.group g).latch)

theorem shown_of_bare (h : bareOf t = bareOf s) (g : Gid) : shownOf t g = shownOf s g := by
  have hg := congrFun h g
  simp only [bareOf, Prod.mk.injEq] at hg
  obtain ⟨h1, h2, h3, h4, -⟩ := hg
  unfold shownOf
  rw [h1, h2, h3, h4]

theorem shown_reinitGroup : shownOf (s.reinitGroup before g) g = begun before s g := by
  unfold shownOf State.reinitGroup
  rw [State.onGroup_self]
  rfl

theorem group_reinitGroup_other {j : Gid} (h : g ≠ j) : (s.reinitGroup before g).group j = s.group j :=
  State.onGroup_other _ _ h

theorem begun_of (hcfg : t.cfg = s.cfg) (hsup : t.sup = s.sup) (hg : t.group g = s.group g) :
    begun before t g = begun before s g := by
  unfold begun rebuiltColour State.fitted State.kind State.groupRec
  rw [hcfg, hsup, hg]

theorem shown_regrouped (before s : State) (g : Gid) : shownOf (regrouped before s) g = begun before s g := by
  obtain ⟨w, ⟨hcfg, hsup⟩, hp, he⟩ := forAll_own (f := fun (t : State) (g : Gid) => t.reinitGroup before g) (p := State.group)
    (I := fun t => t.cfg = s.cfg ∧ t.sup = s.sup)
    (fun t i ht => ⟨(State.onGroup_cfg _ _ _).trans ht.1, (State.onGroup_sup _ _ _).trans ht.2⟩)
    (fun _ _ _ hne => group_reinitGroup_other hne) s ⟨rfl, rfl⟩ g
  have hown := shown_reinitGroup (s := w) (before := before) (g := g)
  unfold shownOf at hown ⊢
  unfold regrouped
  rw [he, hown]
  exact begun_of hcfg hsup hp

theorem shown_of_acts (h : Acts G K s t)
    (hK : Part.colour ∉ K ∧ Part.demand ∉ K ∧ Part.seq ∉ K := by decide) (g : Gid) : shownOf t g = shownOf s g := by
  obtain ⟨hc, hd, hq⟩ := hK
  have hphase := h.phase_eq g ⟨hc, hq⟩
  unfold phaseOf at hphase
  simp only [Prod.mk.injEq] at hphase
  obtain ⟨p1, p2, p3, -⟩ := hphase
  unfold shownOf
  rw [p1, p2, p3, (h.demand_eq g ⟨hc, hd⟩).2]

theorem shown_rebuilt (before : State) (h : still s) (g : Gid) : shownOf (s.rebuilt before) g = begun before s g := by
  have hrelit := (relit_frame before s).2.1
  have hgroup : shownOf (relit before s) g = shownOf (regrouped before s).syncCommands g := by
    unfold shownOf State.group; rw [hrelit]
  rw [shown_of_acts (acts_rebuilt (G := fun _ => True) before s), shown_of_acts (acts_rejudged (G := fun _ => True) before s),
    hgroup, shown_of_acts (acts_syncCommands_idle (G := fun _ => True) (still_of_cbt (regrouped_frame before s).2.2.2.1 h)),
    shown_regrouped]

/-! ### The observed greens (R7) -/

/-- The observed green of a group is whether a channel of its GREEN list shows. -/
def sees (s : State) (g : Gid) : Prop := (s.group g).observedGreen = s.showsGreen g

theorem showsGreen_of (hcfg : t.cfg = s.cfg) (hc : ∀ c, (t.chan c).showing = (s.chan c).showing) (g : Gid) :
    t.showsGreen g = s.showsGreen g := by
  unfold State.showsGreen State.fitted State.kind State.groupRec
  simp only [hcfg, hc]

theorem refreshGreen_frame (g : Gid) : (s.refreshGreen g).cfg = s.cfg ∧ (s.refreshGreen g).out = s.out ∧
    ∀ j, g ≠ j → (s.refreshGreen g).group j = s.group j := by
  unfold State.refreshGreen
  split
  · exact ⟨rfl, rfl, fun _ _ => rfl⟩
  · exact ⟨rfl, rfl, fun _ hj => State.onGroup_other _ _ hj⟩

theorem showsGreen_refreshGreen (g j : Gid) : (s.refreshGreen g).showsGreen j = s.showsGreen j :=
  showsGreen_of (refreshGreen_frame g).1 (fun c => by unfold State.chan; rw [(refreshGreen_frame g).2.1]) j

theorem sees_refreshGreen (g : Gid) : sees (s.refreshGreen g) g := by
  unfold sees
  rw [showsGreen_refreshGreen]
  unfold State.refreshGreen
  split
  · assumption
  · exact congrArg GroupRun.observedGreen (State.onGroup_self _ _ _)

theorem sees_refreshGreen_other {j : Gid} (g : Gid) (h : sees s j) : sees (s.refreshGreen g) j := by
  by_cases hj : g = j
  · subst hj; exact sees_refreshGreen g
  · unfold sees at h ⊢
    rw [showsGreen_refreshGreen, (refreshGreen_frame g).2.2 j hj, h]

theorem sees_rebuilt (before s : State) (g : Gid) : sees (s.rebuilt before) g := by
  have h := forAll_reaches (Q := fun g t => sees t g) (f := State.refreshGreen) (fun _ i => sees_refreshGreen i)
    (fun _ i _ hj => sees_refreshGreen_other i hj) (rejudged before s) g
  have hkeep (w : State) (hw : sees w g) : sees w.refreshConflicts g := hw
  rw [rebuilt_eq]
  exact hkeep _ h

/-! ### The channels (R3, R109) -/

theorem chan_rebuilt (before s : State) (c : Ch) :
    (s.rebuilt before).chan c = (regrouped before s).syncCommands.chan c := by
  have hout := (acts_rebuilt (G := fun _ => True) before s).out_eq
  unfold State.chan
  rw [hout, out_rejudged]

theorem commandFor_rebuilt (before s : State) (c : Ch) : (s.rebuilt before).commandFor c = (regrouped before s).commandFor c := by
  refine commandFor_of_same ?_ ?_ c
  · rw [cfg_rebuilt, (regrouped_frame before s).1]
  · funext k
    rw [colours_rebuilt]
    unfold regrouped
    rw [colours_reinitGroups]

theorem synced_rebuilt (before s : State) (c : Ch) : synced (s.rebuilt before) (s.chan c) c ((s.rebuilt before).chan c) := by
  have h := synced_syncCommands (regrouped before s) c
  have hchan : (regrouped before s).chan c = s.chan c := by unfold State.chan; rw [(regrouped_frame before s).2.1]
  rw [hchan] at h
  unfold synced at h ⊢
  rw [commandFor_rebuilt, chan_rebuilt]
  exact h

/-! ### Red health and inhibition (R129, R30) -/

theorem inhibits_rebuilt (before s : State) : inhibits (s.rebuilt before) :=
  inhibits_of_acts (acts_rebuilt (G := fun _ => True) before s) inhibits_refreshInhibited

end Rebuild

end Sys2Proof.Machine
end

section
/-! SUPPORT. The lamp records and the entries after a structural commit, before the standing relay faults are reported again
(R14, R117). -/

namespace Sys2Proof.Machine

set_option Elab.async false

namespace Rebuild

open Acts Ending Modes Relays Causes Probes Parked Commits Samples Maintenance

variable {G : Gid → Prop} {K : List Part} {before s b t u v w : State} {c k : Ch} {g : Gid}

/-! ### The lamp records -/

/-- Whether a channel's command is FLASHING. -/
def heldBy (r : ChanRun) : Bool := decide (r.command = .flashing)

theorem fresh_reinitLamp (s : State) (c : Ch) :
    fresh (s.settings c) (heldBy (s.chan c)) (s.lamp c).maintenance ((s.reinitLamp c).lamp c) := by
  unfold State.reinitLamp fresh heldBy
  rw [State.onLamp_self]
  refine ⟨rfl, rfl, rfl, rfl, rfl, rfl, ?_, fun h => if_pos (of_decide_eq_true h)⟩
  simp only [decide_eq_true_eq]

theorem lamp_clearChannelEntries (c k : Ch) : (s.clearChannelEntries c).lamp k = s.lamp k := by
  have hclear (w : State) (k : FaultKind) (x : Subject) (j : Ch) : (w.clearFault k x).lamp j = w.lamp j := rfl
  unfold State.clearChannelEntries State.clearLampFaults
  simp only [hclear]

theorem fresh_relamped (s : State) (c : Ch) :
    fresh (s.settings c) (heldBy (s.chan c)) (s.lamp c).maintenance ((relamped s c).lamp c) := by
  unfold relamped
  refine fresh_refreshLeak ?_
  rw [lamp_clearChannelEntries]
  exact fresh_reinitLamp s c

theorem lamp_relamped_other (h : c ≠ k) : (relamped s c).lamp k = s.lamp k := by
  unfold relamped
  rw [lamp_refreshLeak_other h, lamp_clearChannelEntries]
  exact State.onLamp_other _ _ h

theorem relamped_frame (c : Ch) : (relamped s c).cfg = s.cfg ∧ (relamped s c).out = s.out := by
  have h := besides_relamped (s := s) c
  generalize relamped s c = w at h ⊢
  unfold besides at h
  simp only [Prod.mk.injEq] at h
  exact ⟨h.1, h.2.2.1⟩

theorem fresh_relit (before s : State) (c : Ch) :
    fresh ((relit before s).settings c) (heldBy ((relit before s).chan c)) ((regrouped before s).syncCommands.lamp c).maintenance
      ((relit before s).lamp c) := by
  obtain ⟨w, ⟨hcfg, hout⟩, hp, he⟩ := forAll_own (f := relamped) (p := State.lamp)
    (I := fun t => t.cfg = (relit before s).cfg ∧ t.out = (relit before s).out)
    (fun t i ht => ⟨(relamped_frame i).1.trans ht.1, (relamped_frame i).2.trans ht.2⟩)
    (fun _ _ _ hne => lamp_relamped_other hne) (regrouped before s).syncCommands
    ⟨(relit_frame before s).1.symm, (relit_frame before s).2.2.1.symm⟩ c
  have hchan : w.chan c = (relit before s).chan c := by unfold State.chan; rw [hout]
  have h := fresh_relamped w c
  rw [settings_of_cfg hcfg c, hchan, hp] at h
  have hlamp : (relit before s).lamp c = (relamped w c).lamp c := he
  rw [hlamp]
  exact h

theorem maintenance_of_trails {l l' : LampRec} (h : l.trails l') : l'.maintenance = l.maintenance := h.1

/-- A channel's lamp record after a structural commit (R14). -/
theorem fresh_rebuilt (before : State) (h : still s) (c : Ch) :
    fresh ((s.rebuilt before).settings c) (decide ((s.rebuilt before).commandFor c = .flashing)) (s.lamp c).maintenance
      ((s.rebuilt before).lamp c) := by
  obtain ⟨hgc, hgo, hgl, hgb, -⟩ := regrouped_frame before s
  have hlamp : (s.rebuilt before).lamp c = (relit before s).lamp c := by
    unfold State.lamp
    rw [(acts_rebuilt (G := fun _ => True) before s).lmp_eq, (acts_rejudged (G := fun _ => True) before s).lmp_eq]
  have hcfg : (s.rebuilt before).cfg = (relit before s).cfg :=
    (acts_rebuilt (G := fun _ => True) before s).cfg_eq.trans (acts_rejudged (G := fun _ => True) before s).cfg_eq
  have hchan : (s.rebuilt before).chan c = (relit before s).chan c := by
    rw [chan_rebuilt]; unfold State.chan; rw [(relit_frame before s).2.2.1]
  have hheld : heldBy ((relit before s).chan c) = decide ((s.rebuilt before).commandFor c = .flashing) := by
    unfold heldBy
    rw [← hchan, (synced_rebuilt before s c).1]
  have hmaint : ((regrouped before s).syncCommands.lamp c).maintenance = (s.lamp c).maintenance := by
    rw [maintenance_of_trails ((acts_syncCommands_idle (G := fun _ => True) (still_of_cbt hgb h)).trails c)]
    unfold State.lamp
    rw [hgl]
  have hf := fresh_relit before s c
  rw [hheld, hmaint, settings_of_cfg hcfg.symm c] at hf
  rw [hlamp]
  exact hf

/-! ### The entries -/

/-- The channel entries that a structural commit makes CLEARED. -/
def wiped (c : Ch) (f : FaultEntry) : Prop :=
  f.subject = .channel c ∧ (f.kind = .lampPartial ∨ f.kind = .lampFailed ∨ f.kind = .lampOvercurrent ∨
    f.kind = .circuitOpen ∨ f.kind = .earthLeak ∨ f.kind = .crossNuisance)

/-- No entry of a kind and a subject is ACTIVE. -/
def silent (k : FaultKind) (x : Subject) (s : State) : Prop := quietFor (fun f => f.kind = k ∧ f.subject = x) s

theorem silent_self (k : FaultKind) (x : Subject) : silent k x (s.clearFault k x) :=
  fun f hf hp => Laws.clear_inactive s.flt _ _ f hf hp.1 hp.2

theorem quietFor_refreshLeak {P : FaultEntry → Prop} (c : Ch) (h : quietFor P s) : quietFor P (s.refreshLeak c) :=
  quietFor_of_flt (congrArg Flt.entries (refreshLeak_frame c).2.1) h

theorem quiet_relamped_keeps {P : FaultEntry → Prop} (c : Ch) (h : quietFor P s) : quietFor P (relamped s c) := by
  unfold relamped State.clearChannelEntries
  refine quietFor_refreshLeak c (quietFor_clear _ _ (quietFor_clear _ _ (quietFor_clearLampFaults c ?_)))
  exact quietFor_of_flt rfl h

theorem wiped_relamped (s : State) (c : Ch) : quietFor (wiped c) (relamped s c) := by
  unfold relamped State.clearChannelEntries State.clearLampFaults
  refine quietFor_refreshLeak c ?_
  generalize s.reinitLamp c = w
  rintro f hf ⟨hx, hk⟩
  have hkeep {k : FaultKind} {v : State} (h : silent k (.channel c) v) (k' : FaultKind) (x : Subject) :
      silent k (.channel c) (v.clearFault k' x) := quietFor_clear _ _ h
  rcases hk with hk | hk | hk | hk | hk | hk
  · exact hkeep (hkeep (hkeep (hkeep (hkeep (silent_self _ _) _ _) _ _) _ _) _ _) _ _ f hf ⟨hk, hx⟩
  · exact hkeep (hkeep (hkeep (hkeep (silent_self _ _) _ _) _ _) _ _) _ _ f hf ⟨hk, hx⟩
  · exact hkeep (hkeep (hkeep (silent_self _ _) _ _) _ _) _ _ f hf ⟨hk, hx⟩
  · exact hkeep (hkeep (silent_self _ _) _ _) _ _ f hf ⟨hk, hx⟩
  · exact hkeep (silent_self _ _) _ _ f hf ⟨hk, hx⟩
  · exact silent_self _ _ f hf ⟨hk, hx⟩

theorem wiped_relit (before s : State) (c : Ch) : quietFor (wiped c) (relit before s) :=
  forAll_reaches (Q := fun c t => quietFor (wiped c) t) (f := relamped) (fun t i => wiped_relamped t i)
    (fun _ i _ h => quiet_relamped_keeps i h) (regrouped before s).syncCommands c

/-- An entry of a starved test. -/
def starvedTest (f : FaultEntry) : Prop := (∃ e, f.subject = .entry e) ∧ f.kind = .testStarved

theorem starved_rebuilt (before : State) (h : still s) (hq : quietFor starvedTest s) : quietFor starvedTest (relit before s) := by
  have hflt : (regrouped before s).flt = s.flt := Frames.forAll_keeps State.flt (fun _ _ => State.onGroup_flt _ _ _) s
  have hsync : quietFor starvedTest (regrouped before s).syncCommands :=
    quietFor_of_acts (acts_syncCommands_idle (G := fun _ => True) (still_of_cbt (regrouped_frame before s).2.2.2.1 h))
      (quietFor_of_flt (congrArg Flt.entries hflt) hq) fun e he => by rw [he.2]; decide
  exact Frames.forAll_invariant (fun _ c ht => quiet_relamped_keeps c ht) hsync

theorem ended_rebuilt (before : State) (h : still s) (hq : quietFor starvedTest s) : quietFor ended (s.rebuilt before) := by
  have hrelit : quietFor ended (relit before s) := by
    rintro f hf (⟨hx, hk⟩ | ⟨⟨c, hx⟩, hk⟩)
    · exact starved_rebuilt before h hq f hf ⟨hx, hk⟩
    · exact wiped_relit before s c f hf ⟨hx, hk⟩
  exact ended_acts (acts_rebuilt (G := fun _ => True) before s) (ended_acts (acts_rejudged (G := fun _ => True) before s) hrelit)

end Rebuild

end Sys2Proof.Machine
end

section
/-! SUPPORT. The standing relay faults reported again after a structural commit (R109, R159). -/

namespace Sys2Proof.Machine

set_option Elab.async false

namespace Rebuild

open Acts Ending Modes Relays Causes Probes Parked Commits Samples Maintenance

variable {G : Gid → Prop} {K : List Part} {before s b t u v w : State} {c k : Ch} {g : Gid}

/-! ### One channel -/

/-- The commit makes a channel with a standing relay fault a GREEN one (R109). -/
def hardens (before s : State) (c : Ch) : Prop :=
  lasting (s.chan c).fault ∧ (before.chanRec c).aspect ≠ some .green ∧ (s.chanRec c).aspect = some .green

/-- A fault reported again that no GREEN aspect makes a hard one. -/
theorem acts_reclass_soft (h : ¬hardens before s c) : Acts G [.flt, .relayFault] s (s.reclassRelayFault before c) := by
  unfold State.reclassRelayFault
  dsimp only
  split
  · next hc =>
    obtain ⟨hne, hf⟩ := hc
    have hgreen : (s.chanRec c).aspect ≠ some .green := fun hg => h ⟨hf, fun hb => hne (hb.trans hg.symm), hg⟩
    have hnone (f : RelayFault) : s.hardReason c f = none := by
      unfold State.hardReason State.greenAspect
      rw [if_neg]
      rw [beq_eq_false_iff_ne.mpr hgreen]
      exact Bool.false_ne_true
    unfold State.reportRelayFault
    dsimp only
    rw [hnone]
    rcases hf with hf | hf
    · rw [hf]
      exact of_edits (.one (.report _ _ _ (by decide) (by decide) nofun))
    · rw [hf]
      exact of_edits (.one (.report _ _ _ (by decide) (by decide) nofun))
  · exact refl _

/-- A hard fault's DARK. -/
def struck (s : State) : Prop :=
  s.sup.mode = .dark ∧ s.sup.latched = true

/-- The cabinet can be taken to DARK by a hard fault. -/
def takable (s : State) : Prop := s.waitingSupply = false ∨ s.sup.mode = .dark

theorem struck_of_core (h : Sup.core t.sup = Sup.core s.sup) (hs : struck s) : struck t := by
  obtain ⟨hm, -, hl, -⟩ := fields_of_retaken (retaken_of_core h)
  unfold struck
  rw [hm, hl]
  exact hs

theorem takable_of_core (h : Sup.core t.sup = Sup.core s.sup) (hs : takable s) : takable t := by
  obtain ⟨hm, -, -, -, -, -, -, -, hv, hp, -⟩ := fields_of_retaken (retaken_of_core h)
  unfold takable State.waitingSupply
  rw [hm, hp, hv]
  exact hs

theorem struck_hardFault (r : Reason) (h : takable s) : struck (s.hardFault r) := by
  unfold State.hardFault State.takeCause
  split
  · next hw =>
    have hm : s.sup.mode = .dark := h.resolve_left (by rw [hw]; decide)
    unfold State.takeWhileWaiting struck
    dsimp only
    rw [Laws.onMode_sup]
    exact ⟨hm, rfl⟩
  · by_cases hm : s.sup.mode = .dark
    · by_cases hl : s.sup.latched = true
      · dsimp only
        rw [latchedDark_again hm hl]
        exact ⟨hm, hl⟩
      · unfold State.takeLatchedDark State.latchWith struck
        dsimp only
        simp only [hm, hl]
        rw [if_neg Bool.false_ne_true, Laws.onMode_sup]
        exact ⟨hm, rfl⟩
    · dsimp only
      rw [latchedDark_enters hm fun _ => rfl]
      obtain ⟨hdark, -, hlatched, -⟩ :=
        fields_of_retaken (retaken_of_core (core_enterDark (s := s.onSup recoveryEnded) (some r) true))
      exact ⟨hdark, hlatched⟩

theorem struck_reportRelayFault (f : RelayFault) (h : takable s) (hd : struck s ∨ (s.hardReason c f).isSome = true) :
    struck (s.reportRelayFault c f) := by
  have hreport (k : FaultKind) (x : Subject) (b : Bool) : (s.reportAs k x b).sup = s.sup := rfl
  have hfirst : (match f.kind with
      | some k => s.reportAs k (.channel c) (s.hardReason c f).isSome
      | none => s).sup = s.sup := by
    split
    · exact hreport _ _ _
    · rfl
  unfold State.reportRelayFault
  dsimp only
  split
  · exact struck_hardFault _ (takable_of_core (congrArg Sup.core hfirst) h)
  · next hn =>
    rw [hn] at hd
    exact struck_of_core (congrArg Sup.core hfirst) (hd.resolve_right nofun)

theorem takable_of_struck (h : struck s) : takable s := .inr h.1

theorem struck_reclass (c : Ch) (h : struck s) : struck (s.reclassRelayFault before c) := by
  unfold State.reclassRelayFault
  dsimp only
  split
  · exact struck_reportRelayFault _ (takable_of_struck h) (.inl h)
  · exact h

theorem struck_of_hardens (ht : takable s) (h : hardens before s c) : struck (s.reclassRelayFault before c) := by
  obtain ⟨hf, hb, hg⟩ := h
  have hgreen : s.greenAspect c = true := by unfold State.greenAspect; rw [hg]; rfl
  have hcond : (before.chanRec c).aspect ≠ (s.chanRec c).aspect ∧
      ((s.chan c).fault = .failToOpen ∨ (s.chan c).fault = .foreignVoltage) := ⟨fun he => hb (he.trans hg), hf⟩
  have heq : s.reclassRelayFault before c = s.reportRelayFault c (s.chan c).fault := if_pos hcond
  rw [heq]
  refine struck_reportRelayFault _ ht (.inr ?_)
  unfold State.hardReason
  rw [if_pos hgreen]
  rcases hf with hf | hf
  · rw [hf]; rfl
  · rw [hf]; rfl

/-! ### All of them -/

theorem hardens_of (hcfg : t.cfg = s.cfg) (hout : t.out = s.out) : hardens before t c ↔ hardens before s c := by
  unfold hardens State.chan State.chanRec
  rw [hcfg, hout]

/-- Where the commit makes no such channel a GREEN one, the entries are all that changes. -/
theorem acts_reinitRecords_soft (h : ∀ c, ¬hardens before (s.rebuilt before) c) :
    Acts G [.flt, .relayFault] (s.rebuilt before) (s.reinitRecords before) := by
  rw [State.reinitRecords_eq]
  generalize s.rebuilt before = r at h ⊢
  exact (Frames.forAll_invariant (f := fun (t : State) (c : Ch) => t.reclassRelayFault before c)
    (P := fun t => Acts G [.flt, .relayFault] r t)
    (fun t c ht => ht.trans (acts_reclass_soft fun hc => h c ((hardens_of ht.cfg_eq ht.out_eq).mp hc))) (refl r) :)

/-- Something that an invariant of every change lets one change bring about, and that the others keep, stands at the end. -/
theorem forAll_brings {n : Nat} {Q I : State → Prop} {f : State → Fin n → State} (j : Fin n)
    (hI : ∀ t i, I t → I (f t i)) (hset : ∀ t, I t → Q (f t j)) (hkeep : ∀ t i, Q t → Q (f t i)) (s : State) (hs : I s) :
    Q (s.forAll f) := by
  have hlater (l : List (Fin n)) (t : State) (h : Q t) : Q (l.foldl f t) := by
    induction l generalizing t with
    | nil => exact h
    | cons a l ih => exact ih _ (hkeep t a h)
  have go (l : List (Fin n)) (hj : j ∈ l) (t : State) (ht : I t) : Q (l.foldl f t) := by
    induction l generalizing t with
    | nil => exact absurd hj List.not_mem_nil
    | cons a l ih =>
      rcases List.mem_cons.mp hj with rfl | hj
      · exact hlater l _ (hset t ht)
      · exact ih hj _ (hI t a ht)
  exact go _ (List.mem_finRange j) s hs

/-- Where it makes one a GREEN one, the cabinet is dark (R109). -/
theorem struck_reinitRecords (ht : takable (s.rebuilt before)) (h : hardens before (s.rebuilt before) c) :
    struck (s.reinitRecords before) := by
  rw [State.reinitRecords_eq]
  generalize s.rebuilt before = r at ht h ⊢
  have hstep (t : State) (i : Ch) (hI : struck t ∨ Acts (fun _ => True) [.flt, .relayFault] r t) :
      struck (t.reclassRelayFault before i) ∨ Acts (fun _ => True) [.flt, .relayFault] r (t.reclassRelayFault before i) := by
    rcases hI with hd | ha
    · exact .inl (struck_reclass i hd)
    · by_cases hi : hardens before t i
      · exact .inl (struck_of_hardens (takable_of_core ha.core_eq ht) hi)
      · exact .inr (ha.trans (acts_reclass_soft hi))
  refine forAll_brings (Q := struck) (I := fun t => struck t ∨ Acts (fun _ => True) [.flt, .relayFault] r t) c hstep
    (fun t hI => ?_) (fun _ i hd => struck_reclass i hd) r (.inr (refl r))
  rcases hI with hd | ha
  · exact struck_reclass c hd
  · exact struck_of_hardens (takable_of_core ha.core_eq ht) ((hardens_of ha.cfg_eq ha.out_eq).mpr h)

end Rebuild

end Sys2Proof.Machine
end

section
/-! SUPPORT. The Day Schedule at a commit in UNCONFIGURED, FLASH or DARK where no scheduled FLASH is in force (R83, R167,
R190). -/

namespace Sys2Proof.Machine

set_option Elab.async false

namespace Rebuild

open Acts Ending Modes Relays Causes Probes Parked Commits Samples Maintenance Deliver

variable {G : Gid → Prop} {K : List Part} {before s b t u v w : State} {c k : Ch} {g : Gid}

/-! ### An evaluation that leaves the mode -/

/-- A mode that a structural commit meets, with no scheduled FLASH in force. -/
def rested (s : State) : Prop := s.sup.mode.takesStructure = true ∧ ¬scheduled s

/-- The mode, the reason and the latched flag stand. -/
def steers (s t : State) : Prop := t.sup.mode = s.sup.mode ∧ t.sup.reason = s.sup.reason ∧ t.sup.latched = s.sup.latched

theorem steers_trans (h : steers s t) (h' : steers t u) : steers s u :=
  ⟨h'.1.trans h.1, h'.2.1.trans h.2.1, h'.2.2.trans h.2.2⟩

theorem steers_of_retaken (h : s.sup.retaken t.sup) : steers s t := by
  obtain ⟨hm, hr, hl, -⟩ := fields_of_retaken h
  exact ⟨hm, hr, hl⟩

theorem steers_of_core (h : Sup.core t.sup = Sup.core s.sup) : steers s t := steers_of_retaken (retaken_of_core h)

theorem steers_of_sup (h : t.sup = s.sup) : steers s t := steers_of_core (congrArg Sup.core h)

theorem mode_of_takesStructure {m : Mode} (h : m.takesStructure = true) : m = .unconfigured ∨ m = .flash ∨ m = .dark := by
  revert h; cases m <;> decide

theorem rested_of_steers (h : steers s t) (hs : ¬(s.sup.mode = .flash ∧ s.sup.reason = some .hostRequest ∧ s.sup.latched = false))
    (hm : s.sup.mode.takesStructure = true) : rested t := by
  obtain ⟨h1, h2, h3⟩ := h
  refine ⟨by rw [h1]; exact hm, fun hsch => ?_⟩
  obtain ⟨-, hmode, hr, hl⟩ := hsch
  rw [h1] at hmode
  refine hs ⟨hmode.resolve_right fun hc => ?_, h2.symm.trans hr, h3.symm.trans hl⟩
  rw [hc] at hm
  exact absurd hm (by decide)

theorem scheduledFlashStart_rested (h : s.sup.mode.takesStructure = true) : s.scheduledFlashStart = s := by
  refine scheduledFlashStart_stays (fun hs => ?_) (.inr fun hc => ?_)
  · obtain ⟨-, hm | hm | ⟨hm, -⟩⟩ := hs
    · rw [hm] at h; exact absurd h (by decide)
    · rw [hm] at h; exact absurd h (by decide)
    · rw [hm] at h; exact absurd h (by decide)
  · rw [hc] at h; exact absurd h (by decide)

/-- What such an evaluation may write: a FLASH that a supply loss saved may end there. -/
abbrev restParts : List Part := .sup :: selectParts

theorem acts_flashEnded (w : Bool) : Acts G restParts s (s.onSup (flashEnded w)) := by
  have hkept (u : Sup) : (flashEnded w u).grace = u.grace ∧ (flashEnded w u).conflicts = u.conflicts ∧
      (flashEnded w u).supplied = u.supplied := by
    unfold flashEnded
    split
    · exact ⟨rfl, rfl, rfl⟩
    · split
      · exact ⟨rfl, rfl, rfl⟩
      · exact ⟨rfl, rfl, rfl⟩
  obtain ⟨hg, hc, hsp⟩ := hkept s.sup
  exact one (.sup _ (by decide) (flashEnded_fields w s.sup).1 (.inl hg) (.inl hc) (.inl hsp))

theorem steers_flashEnded (w : Bool) : steers s (s.onSup (flashEnded w)) := by
  obtain ⟨hm, hr, hl, -⟩ := flashEnded_fields w s.sup
  exact ⟨hm, hr, hl⟩

theorem evaluate_rested (h : rested s) : Acts G restParts s s.evaluate ∧ steers s s.evaluate := by
  obtain ⟨hm, hns⟩ := h
  have hjudged : Acts G restParts s (judged s) := acts_judged.up
  have hann : Acts G restParts s (announced s) := acts_announced.up
  have hmode : (announced s).sup.mode.takesStructure = true := by rw [sup_announced]; exact hm
  by_cases hc : s.sch.action = some s.select.action
  · rw [evaluate_same hc]
    exact ⟨hjudged, steers_of_sup (acts_judged (G := fun _ => True)).sup_eq⟩
  · cases ha : s.select.action with
    | flash =>
      rw [evaluate_flash hc ha, scheduledFlashStart_rested hmode]
      exact ⟨hann, steers_of_sup sup_announced⟩
    | plan p =>
      have hnormal (x : State) (hx : x.sup.mode = s.sup.mode) : x.deliverPlan p = x :=
        deliverPlan_stays p fun hn => by rw [← hx, hn] at hm; exact absurd hm (by decide)
      rw [evaluate_plan hc ha]
      unfold handed
      split
      · rw [scheduledFlashEnd_else (mt scheduled_announced.mp hns)]
        have hst := steers_trans (steers_of_sup sup_announced) (steers_flashEnded (s := announced s) (announced s).waitingSupply)
        rw [hnormal _ hst.1]
        exact ⟨hann.trans (acts_flashEnded _), hst⟩
      · rw [hnormal _ (by rw [sup_announced])]
        exact ⟨hann, steers_of_sup sup_announced⟩

theorem scheduleAtCommit_rested (h : rested s) : Acts G restParts s s.scheduleAtCommit ∧ steers s s.scheduleAtCommit := by
  have hre (x : State) (hx : rested x) : Acts G restParts x x.reevaluate ∧ steers x x.reevaluate := by
    unfold State.reevaluate
    split
    · exact ⟨refl _, rfl, rfl, rfl⟩
    · exact evaluate_rested hx
  unfold State.scheduleAtCommit
  split
  · have hfree : rested (s.onSch fun h => { h with forced := none }) := h
    obtain ⟨ha, hs⟩ := hre _ hfree
    exact ⟨Acts.trans (Acts.trans (one (.sch _ (by decide))) ha) (of_edits (edits_report _ _)), hs⟩
  · exact hre s h

/-! ### The end of the step -/

/-- Outside NORMAL, with no commit left, the end of a step counts the additions. -/
theorem finish_rested (hn : u.cfg.pendingCommit = none) (hm : u.sup.mode ≠ .normal) :
    State.finish before u = State.closeAdditions before u := by
  rw [finish_of_noCommit fun _ => hn, takeInhibition_of_mode hm]

/-- What a step with no scheduled FLASH leaves after the Day Schedule's evaluation and its reply. -/
theorem finish_scheduled (h : rested w) (hp : w.cfg.pendingCommit = none) (tag code : Byte) (st : Status) (r : List Byte) :
    ∃ x, State.finish before ((w.scheduleAtCommit.retakeActive before).reply tag code st r) =
      State.closeAdditions before (x.reply tag code st r) ∧ Acts (fun _ => True) restParts w x ∧ steers w x := by
  obtain ⟨hacts, hst⟩ := scheduleAtCommit_rested (G := fun _ => True) h
  have hmode : w.scheduleAtCommit.sup.mode ≠ .normal := fun hn => by
    have := h.1
    rw [← hst.1, hn] at this
    exact absurd this (by decide)
  refine ⟨w.scheduleAtCommit, ?_, hacts, hst⟩
  rw [retakeActive_of_mode before hmode]
  refine finish_rested ?_ hmode
  show w.scheduleAtCommit.cfg.pendingCommit = none
  rw [hacts.cfg_eq]
  exact hp

end Rebuild

end Sys2Proof.Machine
end

section
/-! SUPPORT. A commit that EDIT_COMMIT applies: the records in force, COMMIT_APPLIED, the wear and the reply (R110, R190). -/

namespace Sys2Proof.Machine

set_option Elab.async false

namespace Rebuild

open Acts Ending Modes Relays Causes Probes Parked Commits Samples Maintenance Deliver Selects

variable {G : Gid → Prop} {K : List Part} {before s b t u v w : State} {c k : Ch} {g : Gid} {new : ConfigSet}

/-! ### The steps of an application -/

/-- The new records in force and the tester begun anew. -/
def emptiedBy (s : State) (new : ConfigSet) : State := (s.install new).resetTester

/-- The runtime records begun anew, and the standing faults reported again. -/
def recast (s : State) (new : ConfigSet) : State := (emptiedBy s new).reinitRecords s

/-- What the blocks did with the new records, before the Day Schedule's evaluation. -/
def followedBy (s : State) (new : ConfigSet) : State :=
  if new.st = s.cfg.running.st then (s.install new).retakeTiming s else ((recast s new).retakeTiming s).recomputeDemand

theorem applyCommit_eq (s : State) (new : ConfigSet) :
    s.applyCommit new = (followedBy s new).scheduleAtCommit.retakeActive s := by
  unfold State.applyCommit followedBy recast emptiedBy
  dsimp only

/-! ### The records in force -/

theorem acts_recast_cabinet (s : State) (new : ConfigSet) : Acts G cabinet ((emptiedBy s new).rebuilt s) (recast s new) := by
  unfold recast
  rw [State.reinitRecords_eq]
  exact forAll _ fun _ _ => acts_reclassRelayFault _ _

theorem cfg_emptiedBy (s : State) (new : ConfigSet) :
    (emptiedBy s new).cfg = { s.cfg with running := new, committed := true } :=
  (acts_resetTester (G := fun _ => True) (s.install new)).cfg_eq

theorem cfg_recast (s : State) (new : ConfigSet) : (recast s new).cfg = { s.cfg with running := new, committed := true } := by
  rw [(acts_recast_cabinet (G := fun _ => True) s new).cfg_eq, cfg_rebuilt, cfg_emptiedBy]

theorem cfg_recomputeDemand : s.recomputeDemand.cfg = s.cfg := rfl

theorem cfg_followedBy (s : State) (new : ConfigSet) :
    (followedBy s new).cfg = { s.cfg with running := new, committed := true } := by
  unfold followedBy
  split
  · exact (acts_retakeTiming (G := fun _ => True) s).cfg_eq
  · rw [cfg_recomputeDemand, (acts_retakeTiming (G := fun _ => True) s).cfg_eq, cfg_recast]

/-! ### COMMIT_APPLIED -/

/-- COMMIT_APPLIED stands in the pending set. -/
def applied (s : State) : Prop := s.flt.pendingSet.commitApplied = true

theorem applied_grows {a f : Flt} (h : a.within K f) (hs : a.pendingSet.commitApplied = true) (hK : Part.table ∉ K) :
    f.pendingSet.commitApplied = true :=
  (PendingSet.bits_of_union (h hK).1).2.2.1 hs

theorem law_applied (hK : Part.table ∉ K) : Law K applied where
  groups _ _ _ h := h
  seq _ _ _ _ _ _ h := h
  timers _ _ h := h
  sup _ _ _ h := h
  lmp _ _ _ _ h := h
  out _ _ _ h := h
  chan _ _ _ _ _ _ _ h := h
  flt _ _ _ _ hf h := applied_grows hf h hK
  cbt _ _ _ _ h := h
  sch _ _ _ h := h
  clk _ _ _ _ h := h
  det _ _ _ h := h
  cfg _ _ _ h := h
  link _ _ _ _ h := h

theorem applied_acts (h : Acts G K s t) (hs : applied s) (hK : Part.table ∉ K := by decide) : applied t :=
  (law_applied hK).acts h hs

theorem applied_install : applied (s.install new) := Bool.or_true _

theorem applied_recast (s : State) (new : ConfigSet) : applied (recast s new) := by
  have hlaw : Law inner applied := law_applied (by decide)
  have hempty : applied (emptiedBy s new) :=
    hlaw.resetTester (by decide) (by decide) (by decide) (by decide) applied_install
  exact applied_acts (acts_recast_cabinet (G := fun _ => True) s new) (hlaw.rebuilt (by decide) (by decide) (by decide) (by decide)
    (by decide) (by decide) (by decide) (by decide) (by decide) s hempty)

theorem applied_followedBy (s : State) (new : ConfigSet) : applied (followedBy s new) := by
  have hdemand (w : State) (h : applied w) : applied w.recomputeDemand := h
  unfold followedBy
  split
  · exact applied_acts (acts_retakeTiming (G := fun _ => True) s) applied_install
  · exact hdemand _ (applied_acts (acts_retakeTiming (G := fun _ => True) s) (applied_recast s new))

/-! ### The wear (R110) -/

theorem wearJudged_recomputeDemand (h : s.wearJudged) : s.recomputeDemand.wearJudged := h

theorem wearJudged_followedBy (s : State) (new : ConfigSet) : (followedBy s new).wearJudged := by
  unfold followedBy
  split
  · exact wearJudged_retakeTiming s
  · exact wearJudged_recomputeDemand (wearJudged_retakeTiming s)

/-! ### The mode is not NORMAL after it -/

theorem not_normal_hardFault (r : Reason) (h : s.sup.mode ≠ .normal) : (s.hardFault r).sup.mode ≠ .normal := by
  by_cases ht : takable s
  · rw [(struck_hardFault r ht).1]; decide
  · have hw : s.waitingSupply = true := by
      by_contra hw
      exact ht (.inl (by simpa using hw))
    unfold State.hardFault State.takeCause State.takeWhileWaiting
    rw [if_pos hw]
    dsimp only
    rw [Laws.onMode_sup]
    exact h

theorem not_normal_reclass (c : Ch) (h : s.sup.mode ≠ .normal) : (s.reclassRelayFault before c).sup.mode ≠ .normal := by
  have hfirst (f : RelayFault) : (match f.kind with
      | some k => s.reportAs k (.channel c) (s.hardReason c f).isSome
      | none => s).sup.mode ≠ .normal := by
    split
    · exact h
    · exact h
  unfold State.reclassRelayFault State.reportRelayFault
  dsimp only
  split
  · split
    · exact not_normal_hardFault _ (hfirst _)
    · exact hfirst _
  · exact h

theorem mode_emptiedBy (s : State) (new : ConfigSet) : Sup.core ((emptiedBy s new).rebuilt s).sup = Sup.core s.sup := by
  have hone : Acts (fun _ => True) (.cfg :: .demand :: .health :: .healthy :: .lampFault :: .redFault :: .crossing :: .alarm :: .grace
      :: .colour :: electric) s ((emptiedBy s new).rebuilt s) :=
    one (.rebuild new (by decide) (by decide) (by decide) (by decide) (by decide) (by decide) (by decide) (by decide) (by decide)
      (by decide) (by decide))
  exact hone.core_eq

theorem not_normal_recast (h : s.sup.mode ≠ .normal) : (recast s new).sup.mode ≠ .normal := by
  have hmode : ((emptiedBy s new).rebuilt s).sup.mode = s.sup.mode := (steers_of_core (mode_emptiedBy s new)).1
  unfold recast
  rw [State.reinitRecords_eq]
  exact Frames.forAll_invariant (P := fun t : State => t.sup.mode ≠ .normal) (fun _ c ht => not_normal_reclass c ht)
    (by rw [hmode]; exact h)

theorem not_normal_followedBy (h : s.sup.mode ≠ .normal) : (followedBy s new).sup.mode ≠ .normal := by
  have hretake (w : State) (hw : w.sup.mode ≠ .normal) : (w.retakeTiming s).sup.mode ≠ .normal := by
    rw [(steers_of_retaken (retaken_retakeTiming s)).1]; exact hw
  have hdemand (w : State) (hw : w.sup.mode ≠ .normal) : w.recomputeDemand.sup.mode ≠ .normal := hw
  unfold followedBy
  split
  · exact hretake _ h
  · exact hdemand _ (hretake _ (not_normal_recast h))

theorem not_normal_scheduleAtCommit (h : s.sup.mode ≠ .normal) : s.scheduleAtCommit.sup.mode ≠ .normal := by
  unfold State.scheduleAtCommit
  split
  · exact reevaluate_not_normal (e := s.onSch fun h => { h with forced := none }) h
  · exact reevaluate_not_normal h

/-! ### The end of the step -/

/-- A commit applied outside NORMAL: what it leaves, up to the counting of the additions. -/
theorem applied_ends (hm : s.sup.mode ≠ .normal) (hp : s.cfg.pendingCommit = none) (tag code : Byte) (st : Status) (r : List Byte) :
    State.finish before ((s.applyCommit new).reply tag code st r) =
        State.closeAdditions before ((s.applyCommit new).reply tag code st r) ∧
      (s.applyCommit new).cfg = { s.cfg with running := new, committed := true } ∧ applied (s.applyCommit new) ∧
      (s.applyCommit new).wearJudged := by
  have hsched : Acts (fun _ => True) scheduleParts (followedBy s new) (followedBy s new).scheduleAtCommit := acts_scheduleAtCommit
  have hmode : (followedBy s new).scheduleAtCommit.sup.mode ≠ .normal := not_normal_scheduleAtCommit (not_normal_followedBy hm)
  have heq : s.applyCommit new = (followedBy s new).scheduleAtCommit := by
    rw [applyCommit_eq, retakeActive_of_mode s hmode]
  have hcfg : (s.applyCommit new).cfg = { s.cfg with running := new, committed := true } := by
    rw [heq, hsched.cfg_eq, cfg_followedBy]
  refine ⟨finish_rested ?_ ?_, hcfg, ?_, ?_⟩
  · show (s.applyCommit new).cfg.pendingCommit = none
    rw [hcfg]
    exact hp
  · show (s.applyCommit new).sup.mode ≠ .normal
    rw [heq]
    exact hmode
  · rw [heq]
    exact applied_acts hsched (applied_followedBy s new)
  · rw [heq]
    exact wearJudged_unworn hsched (wearJudged_followedBy s new) (by decide) hsched.cfg_eq

end Rebuild

end Sys2Proof.Machine
end

section
/-! SUPPORT. Every record after an applied structural commit, before the Day Schedule's evaluation (R14, R109, R154). -/

namespace Sys2Proof.Machine

set_option Elab.async false

namespace Rebuild

open Acts Ending Modes Relays Causes Probes Parked Commits Samples Maintenance Deliver

variable {G : Gid → Prop} {K : List Part} {before s b t u v w : State} {c k : Ch} {g : Gid} {new : ConfigSet}

/-! ### The records begun anew -/

/-- The commit makes no channel with a standing relay fault a GREEN one (R109). -/
def softens (s : State) (new : ConfigSet) : Prop := ∀ c, ¬hardens s ((emptiedBy s new).rebuilt s) c

theorem followedBy_structural (h : new.st ≠ s.cfg.running.st) :
    followedBy s new = ((recast s new).retakeTiming s).recomputeDemand := if_neg h

theorem still_emptiedBy (s : State) (new : ConfigSet) : still (emptiedBy s new) := still_resetTester _

theorem acts_recast (h : softens s new) : Acts G [.flt, .relayFault] ((emptiedBy s new).rebuilt s) (recast s new) :=
  acts_reinitRecords_soft h

theorem acts_emptiedBy (s : State) (new : ConfigSet) : Acts G [.answer, .cbt, .flt, .starved] (s.install new) (emptiedBy s new) :=
  acts_resetTester _

/-- The blocks that the records in force leave. -/
theorem install_frame (s : State) (new : ConfigSet) : (s.install new).seq = s.seq ∧ (s.install new).sup = s.sup ∧
    (s.install new).out = s.out ∧ (s.install new).lmp = s.lmp ∧ (s.install new).cbt = s.cbt := ⟨rfl, rfl, rfl, rfl, rfl⟩

theorem group_emptiedBy (s : State) (new : ConfigSet) (g : Gid) : phaseOf (emptiedBy s new) g = phaseOf s g := by
  have h : phaseOf (s.install new) g = phaseOf s g := by
    unfold phaseOf State.group; rw [(install_frame s new).1]
  rw [(acts_emptiedBy (G := fun _ => True) s new).phase_eq g, h]

theorem chan_emptiedBy (s : State) (new : ConfigSet) (c : Ch) : (emptiedBy s new).chan c = s.chan c := by
  rw [(acts_emptiedBy (G := fun _ => True) s new).chan_eq c]
  unfold State.chan
  rw [(install_frame s new).2.2.1]

theorem lamp_emptiedBy (s : State) (new : ConfigSet) (c : Ch) : (emptiedBy s new).lamp c = s.lamp c := by
  unfold State.lamp
  rw [(acts_emptiedBy (G := fun _ => True) s new).lmp_eq, (install_frame s new).2.2.2.1]

/-! ### The groups -/

/-- What the blocks did with the new records leaves of the records begun anew. -/
theorem cfg_follows (s : State) (w : State) : ((w.retakeTiming s).recomputeDemand).cfg = w.cfg := by
  rw [cfg_recomputeDemand, (acts_retakeTiming (G := fun _ => True) s).cfg_eq]

theorem bare_follows (s w : State) : bareOf ((w.retakeTiming s).recomputeDemand) = bareOf w := by
  rw [bare_recomputeDemand, bare_retakeTiming]

theorem health_recomputeDemand (g : Gid) : (s.recomputeDemand.group g).redHealth = (s.group g).redHealth ∧
    (s.recomputeDemand.group g).inhibited = (s.group g).inhibited := by
  unfold State.recomputeDemand State.group
  rw [State.onSeq_seq, Tab.get_ofFn]
  exact ⟨rfl, rfl⟩

theorem demand_recomputeDemand (g : Gid) : (s.recomputeDemand.group g).demand = s.recomputeDemand.standing g := by
  have hst : s.recomputeDemand.standing g = s.standing g := rfl
  rw [hst]
  unfold State.recomputeDemand State.group
  rw [State.onSeq_seq, Tab.get_ofFn]

theorem heals_follows (s w : State) : heals ((w.retakeTiming s).recomputeDemand) :=
  heals_of (heals_retakeTiming s w) rfl rfl fun g => (health_recomputeDemand g).1

theorem inhibits_follows (s : State) (h : inhibits w) : inhibits ((w.retakeTiming s).recomputeDemand) :=
  inhibits_of (inhibits_retakeTiming s h) rfl fun g => health_recomputeDemand g

/-- A group's record after an applied structural commit. -/
def groupAnew (s w : State) (g : Gid) : Prop :=
  shownOf w g = begun s (emptiedBy s w.cfg.running) g ∧ (w.group g).demand = w.standing g ∧
    (w.group g).redHealth = w.redHealthOf g ∧ (w.group g).inhibited = w.inhibitedBy g ∧ sees w g

theorem chan_follows (s w : State) (c : Ch) : ((w.retakeTiming s).recomputeDemand).chan c = w.chan c := by
  have h (x : State) : x.recomputeDemand.chan c = x.chan c := rfl
  rw [h, (acts_retakeTiming (G := fun _ => True) s).chan_eq c]

theorem sees_of (hcfg : t.cfg = s.cfg) (hc : ∀ c, t.chan c = s.chan c) (hb : bareOf t = bareOf s) (h : sees s g) : sees t g := by
  have hg := congrFun hb g
  simp only [bareOf, Prod.mk.injEq] at hg
  obtain ⟨-, -, -, -, ho⟩ := hg
  unfold sees at h ⊢
  rw [ho, h]
  exact (showsGreen_of hcfg (fun c => by rw [hc]) g).symm

theorem group_followedBy (hne : new.st ≠ s.cfg.running.st) (h : softens s new) (g : Gid) : groupAnew s (followedBy s new) g := by
  have hrun : (followedBy s new).cfg.running = new := by rw [cfg_followedBy]
  have hsoft : Acts (fun _ => True) [.flt, .relayFault] ((emptiedBy s new).rebuilt s) (recast s new) := acts_recast h
  unfold groupAnew
  rw [hrun, followedBy_structural hne]
  refine ⟨?_, demand_recomputeDemand g, heals_follows s _ g, inhibits_follows s (inhibits_of_acts hsoft (inhibits_rebuilt s _)) g,
    sees_of (cfg_follows s _) (chan_follows s _) (bare_follows s _)
      (sees_of hsoft.cfg_eq (fun c => hsoft.chan_eq c) (bare_of_acts hsoft) (sees_rebuilt s _ g))⟩
  rw [shown_of_bare (bare_follows s _), shown_of_acts hsoft, shown_rebuilt s (still_emptiedBy s new)]

/-! ### The channels and the lamps -/

/-- A channel's records after an applied structural commit. -/
def chanAnew (s w : State) (c : Ch) : Prop :=
  synced w (s.chan c) c (w.chan c) ∧
    fresh (w.settings c) (decide (w.commandFor c = .flashing)) (s.lamp c).maintenance (w.lamp c)

theorem colours_of_bare (h : bareOf t = bareOf s) : colours t = colours s := by
  funext g
  exact congrArg Prod.fst (congrFun h g)

theorem chan_followedBy (hne : new.st ≠ s.cfg.running.st) (h : softens s new) (c : Ch) : chanAnew s (followedBy s new) c := by
  have hsoft : Acts (fun _ => True) [.flt, .relayFault] ((emptiedBy s new).rebuilt s) (recast s new) := acts_recast h
  have hcfg : (followedBy s new).cfg = (recast s new).cfg := by rw [followedBy_structural hne, cfg_follows]
  have hcmd : (followedBy s new).commandFor c = ((emptiedBy s new).rebuilt s).commandFor c := by
    refine commandFor_of_same (hcfg.trans hsoft.cfg_eq) ?_ c
    rw [followedBy_structural hne, colours_of_bare (bare_follows s _), colours_of_bare (bare_of_acts hsoft)]
  have hchan : (followedBy s new).chan c = ((emptiedBy s new).rebuilt s).chan c := by
    rw [followedBy_structural hne, chan_follows, hsoft.chan_eq c]
  constructor
  · have hs := synced_rebuilt s (emptiedBy s new) c
    rw [chan_emptiedBy] at hs
    unfold synced at hs ⊢
    rw [hcmd, hchan]
    exact hs
  · have hlast (x : State) : x.recomputeDemand.lamp c = x.lamp c := rfl
    have hset : (followedBy s new).settings c = (recast s new).settings c := settings_of_cfg hcfg c
    have hf := fresh_rebuilt s (still_emptiedBy s new) c
    rw [← settings_of_cfg hsoft.cfg_eq c, lamp_emptiedBy, ← hcmd] at hf
    have hlamp : (recast s new).lamp c = ((emptiedBy s new).rebuilt s).lamp c := by unfold State.lamp; rw [hsoft.lmp_eq]
    rw [hset, followedBy_structural hne, hlast, ← followedBy_structural hne]
    refine fresh_retakeTiming s ?_
    rw [hlamp]
    exact hf

/-! ### The tester, the entries and the mode -/

theorem cbt_followedBy (hne : new.st ≠ s.cfg.running.st) (h : softens s new) :
    (followedBy s new).cbt = (emptiedBy s new).cbt := by
  have hlast (x : State) : x.recomputeDemand.cbt = x.cbt := rfl
  rw [followedBy_structural hne, hlast, (acts_retakeTiming (G := fun _ => True) s).cbt_eq,
    (acts_recast (G := fun _ => True) h).cbt_eq, cbt_rebuilt s (still_emptiedBy s new)]

theorem quiet_followedBy (hne : new.st ≠ s.cfg.running.st) (h : softens s new) : quietFor ended (followedBy s new) := by
  have hlast (x : State) (hx : quietFor ended x) : quietFor ended x.recomputeDemand := hx
  rw [followedBy_structural hne]
  exact hlast _ (ended_retakeTiming s (ended_acts (acts_recast (G := fun _ => True) h)
    (ended_rebuilt s (still_emptiedBy s new) (quiet_resetTester _))))

theorem sup_followedBy (hne : new.st ≠ s.cfg.running.st) (h : softens s new) : steers s (followedBy s new) := by
  have hlast (x : State) : steers x x.recomputeDemand := ⟨rfl, rfl, rfl⟩
  rw [followedBy_structural hne]
  exact steers_trans (steers_of_core (mode_emptiedBy s new)) (steers_trans (steers_of_core (acts_recast (G := fun _ => True) h).core_eq)
    (steers_trans (steers_of_retaken (retaken_retakeTiming s)) (hlast _)))

/-! ### A hard fault -/

/-- Where the commit makes one a GREEN one, the blocks meet the DARK of a hard fault. -/
theorem struck_followedBy (hne : new.st ≠ s.cfg.running.st) (ht : takable s)
    (h : hardens s ((emptiedBy s new).rebuilt s) c) : struck (followedBy s new) := by
  have hlast (x : State) (hx : struck x) : struck x.recomputeDemand := hx
  have hretake (x : State) (hx : struck x) : struck (x.retakeTiming s) := by
    obtain ⟨hm, -, hl⟩ := steers_of_retaken (retaken_retakeTiming (s := x) s)
    exact ⟨hm.trans hx.1, hl.trans hx.2⟩
  rw [followedBy_structural hne]
  exact hlast _ (hretake _ (struck_reinitRecords (takable_of_core (mode_emptiedBy s new) ht) h))

end Rebuild

end Sys2Proof.Machine
end

section
/-! SUPPORT. What an applied structural commit leaves after the Day Schedule's evaluation, the reply and the end of the step
(R14, R154, R190). -/

namespace Sys2Proof.Machine

set_option Elab.async false

namespace Rebuild

open Acts Ending Modes Relays Causes Probes Parked Commits Samples Maintenance Deliver

variable {G : Gid → Prop} {K : List Part} {before s b t u v w x : State} {c k : Ch} {g : Gid} {new : ConfigSet}

/-! ### The records that the evaluation and the reply leave -/

/-- The configuration, the groups, the channels, the lamps, the inputs and the tester stand. -/
def leaves (w t : State) : Prop :=
  t.cfg = w.cfg ∧ (∀ g, t.group g = w.group g) ∧ (∀ c, t.chan c = w.chan c) ∧ (∀ c, t.lamp c = w.lamp c) ∧ t.det = w.det ∧
    t.cbt = w.cbt

theorem leaves_of_acts (h : Acts G restParts s t) : leaves s t :=
  ⟨h.cfg_eq, fun g => h.group_eq g, fun c => h.chan_eq c, fun c => by unfold State.lamp; rw [h.lmp_eq], h.det_eq, h.cbt_eq⟩

theorem leaves_closed (before : State) (h : leaves w x) (tag code : Byte) (st : Status) (r : List Byte) :
    leaves w (State.closeAdditions before (x.reply tag code st r)) := by
  obtain ⟨h1, h2, h3, h4, h5, h6⟩ := h
  exact ⟨(closeAdditions_cfg _ _).trans h1, fun g => (closeAdditions_group _ _ g).trans (h2 g),
    fun c => (closeAdditions_chan _ _ c).trans (h3 c), fun c => (closeAdditions_lamp _ _ c).trans (h4 c),
    (closeAdditions_det _ _).trans h5, (closeAdditions_cbt _ _).trans h6⟩

theorem standing_of (hcfg : t.cfg = s.cfg) (hdet : t.det = s.det) (g : Gid) : t.standing g = s.standing g := by
  unfold State.standing State.fitted State.kind State.groupRec State.gt State.stuckServes State.inputUsed State.detector State.input
  rw [hcfg, hdet]

theorem groupAnew_of (h : leaves w t) (hg : groupAnew s w g) : groupAnew s t g := by
  obtain ⟨hcfg, hgroup, hchan, hlamp, hdet, -⟩ := h
  obtain ⟨h1, h2, h3, h4, h5⟩ := hg
  unfold shownOf at h1
  unfold sees at h5
  unfold groupAnew shownOf sees
  rw [hgroup, hcfg, standing_of hcfg hdet, redHealthOf_of hcfg (fun c => by rw [hlamp]), inhibitedBy_of hcfg (fun g => by rw [hgroup]),
    showsGreen_of hcfg fun c => by rw [hchan]]
  exact ⟨h1, h2, h3, h4, h5⟩

theorem chanAnew_of (h : leaves w t) (hc : chanAnew s w c) : chanAnew s t c := by
  obtain ⟨hcfg, hgroup, hchan, hlamp, -⟩ := h
  have hcmd : t.commandFor c = w.commandFor c := commandFor_of_same hcfg (funext fun g => by unfold colours; rw [hgroup]) c
  unfold chanAnew synced at hc ⊢
  rw [hcmd, hchan, hlamp, settings_of_cfg hcfg c]
  exact hc

/-! ### The fields, as R14 and R154 say them -/

/-- A group's fields after the commit (R14). -/
theorem fields_of_groupAnew (h : groupAnew s t g) :
    (t.group g).colour =
      (if s.sup.mode = .flash ∧ t.kind g = some .traffic then .flashAmber
      else if s.sup.mode = .flash ∧ t.kind g ≠ none then .off
      else .darkAll) ∧
    (t.group g).timeIn = 0 ∧ (t.group g).latch = false ∧
    (t.group g).greenEnd = (if s.kind g ≠ none ∧ t.kind g ≠ none then (s.group g).greenEnd else none) ∧
    (t.group g).demand = t.standing g ∧ (t.group g).redHealth = t.redHealthOf g ∧
    (t.group g).inhibited = t.inhibitedBy g ∧ (t.group g).observedGreen = t.showsGreen g := by
  obtain ⟨hshown, hdemand, hhealth, hinhibited, hsees⟩ := h
  have hkind : (emptiedBy s t.cfg.running).kind g = t.kind g := by
    unfold State.kind State.groupRec; rw [cfg_emptiedBy]
  have hmode : (emptiedBy s t.cfg.running).sup.mode = s.sup.mode :=
    (steers_of_core (acts_emptiedBy (G := fun _ => True) s t.cfg.running).core_eq).1
  have hend : ((emptiedBy s t.cfg.running).group g).greenEnd = (s.group g).greenEnd := by
    have hp := group_emptiedBy s t.cfg.running g
    unfold phaseOf at hp
    simp only [Prod.mk.injEq] at hp
    exact hp.2.2.1
  unfold shownOf begun rebuiltColour State.fitted at hshown
  simp only [Prod.mk.injEq, hkind, hmode, hend] at hshown
  obtain ⟨hcolour, htime, hgreen, hlatch⟩ := hshown
  refine ⟨?_, htime, hlatch, ?_, hdemand, hhealth, hinhibited, hsees⟩
  · rw [hcolour]
    cases t.kind g with
    | none => simp
    | some kd =>
      by_cases hf : s.sup.mode = .flash
      · cases kd <;> simp [hf, flashColour]
      · simp [hf]
  · rw [hgreen]
    simp only [Bool.and_eq_true, Option.isSome_iff_ne_none]

/-- A channel's and a lamp's fields after the commit (R14, R109, R117). -/
theorem fields_of_chanAnew (h : chanAnew s t c) :
    (t.chan c).command = t.commandFor c ∧ (t.chan c).indication = (s.chan c).indication ∧
    ((s.chan c).command = t.commandFor c → t.chan c = s.chan c) ∧
    (t.lamp c).iref = (if (t.settings c).refMode = .fixed then some (t.settings c).fixedRef else none) ∧
    (t.lamp c).learn = (if (t.settings c).refMode = .fixed then .learned else .unlearned) ∧
    (t.lamp c).healthy = none ∧ (t.lamp c).set = none ∧ (t.lamp c).run = none ∧
    (t.lamp c).maintenance = (s.lamp c).maintenance ∧
    (t.lamp c).verdict = (if t.commandFor c = .flashing then .held else .unknown) ∧
    (t.commandFor c = .flashing → (t.lamp c).saved = some .unknown) := by
  obtain ⟨⟨hcommand, hsame, hindication, -⟩, hiref, hlearn, hhealthy, hset, hrun, hmaint, hverdict, hsaved⟩ := h
  simp only [decide_eq_true_eq] at hverdict hsaved
  exact ⟨hcommand, hindication, hsame, hiref, hlearn, hhealthy, hset, hrun, hmaint, hverdict, hsaved⟩

/-- The tester's record after the commit (R154). -/
theorem fields_of_cbt (h : t.cbt = (emptiedBy s new).cbt) :
    (∀ c, t.cbt.cable.get c = .untested) ∧ (∀ e : PEnt, t.result e = ⟨.none, 0, .none, none, none, none, 0, false⟩) ∧
    t.cbt.urgent = [] ∧ t.cbt.deferred = [] ∧ (s.cbt.probe ≠ none → t.cbt.phase ≠ .closing ∧ t.cbt.phase ≠ .measuring) ∧
    t.cbt.period = s.cbt.period ∧ t.cbt.sweepTime = s.cbt.sweepTime ∧ t.cbt.quietSince = s.cbt.quietSince ∧
    t.cbt.walk = (if s.cbt.period ≠ none then 1 else s.cbt.walk) ∧ (s.cbt.period ≠ none → t.cbt.uncounted = true) := by
  have htester := tester_resetTester (s.install new)
  have hcbt := (install_frame s new).2.2.2.2
  rw [hcbt] at htester
  unfold State.result at htester ⊢
  rw [h]
  exact htester

/-! ### The commit on the records of the request -/

/-- The state that the commit meets: a slot reserved, the buffer closed. -/
def unbuffered (s : State) : State := s.reserve.onCfg fun c => { c with buffer := none }

theorem unbuffered_frame (s : State) : (unbuffered s).sup = s.sup ∧ (unbuffered s).seq = s.seq ∧ (unbuffered s).out = s.out ∧
    (unbuffered s).lmp = s.lmp ∧ (unbuffered s).cbt = s.cbt ∧ (unbuffered s).cfg = { s.cfg with buffer := none } :=
  ⟨rfl, rfl, rfl, rfl, rfl, rfl⟩

/-- A channel that the commit makes a GREEN one, by the records of the request. -/
theorem hardens_iff : hardens s ((emptiedBy s new).rebuilt s) c ↔
    lasting (s.chan c).fault ∧ (s.chanRec c).aspect ≠ some .green ∧ (new.st.channels.get c).aspect = some .green := by
  obtain ⟨-, -, -, hfault⟩ := synced_rebuilt s (emptiedBy s new) c
  rw [chan_emptiedBy] at hfault
  have hrec : (((emptiedBy s new).rebuilt s).chanRec c) = new.st.channels.get c := by
    unfold State.chanRec; rw [cfg_rebuilt, cfg_emptiedBy]
  unfold hardens
  rw [hrec]
  constructor
  · rintro ⟨h, h'⟩
    exact ⟨hfault (.inl h) ▸ h, h'⟩
  · rintro ⟨h, h'⟩
    exact ⟨(hfault (.inr h)).symm ▸ h, h'⟩

/-- The step that applies a commit. -/
def committed (s : State) (tag : Byte) (new : ConfigSet) : State :=
  State.closeAdditions s (((unbuffered s).applyCommit new).reply tag 0x13#8 .ok [0#8])

end Rebuild

end Sys2Proof.Machine
end

section
/-! PROOFS. EDIT_COMMIT in all its cases (O33). -/

namespace Sys2Proof.Machine

set_option Elab.async false

namespace Rebuild

open Acts Ending Modes Relays Causes Probes Parked Commits Samples Maintenance Deliver Requests

variable {s t : State} {tag : Byte} {c : Ch} {g : Gid} {buf : ConfigSet}

/-! ### The cases of the request (R189) -/

theorem serveEditCommit_badLength {body : List Byte} (h : body ≠ []) :
    serveEditCommit tag body s = s.reply tag 0x13#8 .badLength [] := if_pos h

theorem serveEditCommit_busy (h : s.cfg.pendingCommit ≠ none) : serveEditCommit tag [] s = s.reply tag 0x13#8 .busy [] := by
  unfold serveEditCommit
  rw [if_neg (fun h => h rfl), if_pos (Option.isSome_iff_ne_none.mpr h)]
  rfl

theorem serveEditCommit_noSession (hp : s.cfg.pendingCommit = none) (hb : s.cfg.buffer = none) :
    serveEditCommit tag [] s = s.reply tag 0x13#8 .noSession [] := by
  unfold serveEditCommit
  rw [if_neg (fun h => h rfl), hp, hb]
  rfl

theorem serveEditCommit_invalid {f : CheckFail} (hp : s.cfg.pendingCommit = none) (hb : s.cfg.buffer = some buf)
    (hf : buf.check = some f) : serveEditCommit tag [] s =
      s.reply tag 0x13#8 .invalidConfig [BitVec.ofNat 8 f.cls.code, BitVec.ofNat 8 f.index, BitVec.ofNat 8 f.number] := by
  unfold serveEditCommit
  rw [if_neg (fun h => h rfl), hp, hb]
  dsimp only
  rw [hf]
  rfl

theorem serveEditCommit_checked (hp : s.cfg.pendingCommit = none) (hb : s.cfg.buffer = some buf) (hf : buf.check = none) :
    serveEditCommit tag [] s =
      if buf.st ≠ s.cfg.running.st ∧ s.sup.mode.takesStructure = false then s.reply tag 0x13#8 .wrongMode []
      else s.takeCommit tag buf := by
  unfold serveEditCommit
  rw [if_neg (fun h => h rfl), hp, hb]
  dsimp only
  rw [hf]
  rfl

/-- The modes in which a commit is applied at once (R190, R191). -/
def appliesIn (s : State) (buf : ConfigSet) : Prop :=
  s.sup.mode.takesStructure = true ∨ (s.sup.mode = .clearing ∧ buf.st = s.cfg.running.st)

theorem not_runs_of_applies (h : appliesIn s buf) : s.sup.mode.runs = false := by
  rcases h with h | ⟨h, -⟩
  · rcases mode_of_takesStructure h with hm | hm | hm <;> rw [hm] <;> rfl
  · rw [h]; rfl

theorem not_normal_of_applies (h : appliesIn s buf) : s.sup.mode ≠ .normal := fun hm => by
  have := not_runs_of_applies h
  rw [hm] at this
  exact absurd this (by decide)

/-- A commit that is applied (R190). -/
theorem exec_applied (h : s.takes tag []) (hp : s.cfg.pendingCommit = none) (hb : s.cfg.buffer = some buf)
    (hf : buf.check = none) (hm : appliesIn s buf) : exec (.editCommit tag []) s = .next (committed s tag buf) := by
  have hguard : ¬(buf.st ≠ s.cfg.running.st ∧ s.sup.mode.takesStructure = false) := by
    rintro ⟨hne, hno⟩
    rcases hm with hm | ⟨-, he⟩
    · rw [hm] at hno; exact absurd hno nofun
    · exact hne he
  have hserve : serveEditCommit tag [] s.reserve = ((unbuffered s).applyCommit buf).reply tag 0x13#8 .ok [0#8] := by
    rw [serveEditCommit_checked (s := s.reserve) hp hb hf]
    refine (if_neg hguard).trans (if_neg ?_)
    rintro ⟨-, hr⟩
    exact absurd ((not_runs_of_applies hm).symm.trans hr) nofun
  have hexec : exec (.editCommit tag []) s = .next (s.direct tag [] (serveEditCommit tag [])) := rfl
  have hmode : (unbuffered s).sup.mode ≠ .normal := not_normal_of_applies hm
  rw [hexec, Laws.direct_of_takes h, hserve, (applied_ends (before := s) (new := buf) hmode hp tag 0x13#8 .ok [0#8]).1]
  rfl

/-- What every applied commit leaves (R110, R190). -/
theorem committed_spec (hp : s.cfg.pendingCommit = none) (hm : s.sup.mode ≠ .normal) :
    (committed s tag buf).cfg = { running := buf, buffer := none, pendingCommit := none, committed := true } ∧
    (committed s tag buf).flt.pendingSet.commitApplied = true ∧ (committed s tag buf).wearJudged ∧
    State.answers s (committed s tag buf) tag 0x13#8 .ok := by
  obtain ⟨hfinish, hcfg, happlied, hworn⟩ := applied_ends (before := s) (new := buf) (s := unbuffered s) hm hp tag 0x13#8 .ok [0#8]
  have hacts : Acts (fun _ => True) inner s.reserve ((unbuffered s).applyCommit buf) :=
    (one (.cfg _ (by decide) rfl)).trans (acts_applyCommit buf)
  have hanswers := answers_finish (s := s) (tag := tag) (st := .ok) (b := [0#8]) (code := 0x13#8) hacts (by decide)
  rw [hfinish] at hanswers
  have hcfg' : (committed s tag buf).cfg = ((unbuffered s).applyCommit buf).cfg := closeAdditions_cfg _ _
  refine ⟨?_, ?_, ?_, hanswers⟩
  · rw [hcfg', hcfg, (unbuffered_frame s).2.2.2.2.2]
    dsimp only
    rw [hp]
  · exact (congrArg PendingSet.commitApplied (closeAdditions_pendingSet _ _)).trans happlied
  · unfold committed
    refine wearJudged_of_kept (s := (unbuffered s).applyCommit buf) hworn (closeAdditions_cfg _ _) ?_ ?_ fun e _ => ?_
    · funext c
      exact congrArg ChanRun.opCount (closeAdditions_chan _ _ c)
    · rw [closeAdditions_entries]
      exact le_refl _
    · rw [closeAdditions_entries]
      exact ⟨fun h _ => h, fun h => h⟩

/-! ### A structural commit -/

theorem structural_unbuffered (h : buf.st ≠ s.cfg.running.st) : buf.st ≠ (unbuffered s).cfg.running.st := h

/-- A channel with a standing relay fault that the commit makes a GREEN one leaves DARK, latched (R109, R159). -/
theorem committed_struck (hst : buf.st ≠ s.cfg.running.st) (ht : s.waitingSupply = false ∨ s.sup.mode = .dark)
    (hf : lasting (s.chan c).fault) (hb : (s.chanRec c).aspect ≠ some .green)
    (hg : (buf.st.channels.get c).aspect = some .green) :
    (committed s tag buf).sup.mode = .dark ∧ (committed s tag buf).sup.latched = true := by
  have hstruck : struck (followedBy (unbuffered s) buf) :=
    struck_followedBy (s := unbuffered s) (structural_unbuffered hst) ht (hardens_iff.mpr ⟨hf, hb, hg⟩)
  have hrest : rested (followedBy (unbuffered s) buf) := by
    refine ⟨by rw [hstruck.1]; rfl, fun hs => ?_⟩
    obtain ⟨-, -, -, hl⟩ := hs
    rw [hstruck.2] at hl
    exact absurd hl nofun
  obtain ⟨-, hsteers⟩ := scheduleAtCommit_rested (G := fun _ => True) hrest
  have hmode : (followedBy (unbuffered s) buf).scheduleAtCommit.sup.mode = .dark := hsteers.1.trans hstruck.1
  have heq : (unbuffered s).applyCommit buf = (followedBy (unbuffered s) buf).scheduleAtCommit := by
    rw [applyCommit_eq, retakeActive_of_mode _ (by rw [hmode]; decide)]
  have hsup : (committed s tag buf).sup = (followedBy (unbuffered s) buf).scheduleAtCommit.sup := by
    rw [← heq]; exact closeAdditions_sup _ _
  rw [hsup]
  exact ⟨hmode, hsteers.2.2.trans hstruck.2⟩

/-- One that makes none a GREEN one, and ends no scheduled FLASH, keeps the cabinet and begins the records anew (R14). -/
theorem committed_anew (hm : s.sup.mode.takesStructure = true) (hst : buf.st ≠ s.cfg.running.st)
    (hsoft : ∀ c, lasting (s.chan c).fault → (s.chanRec c).aspect ≠ some .green →
      (buf.st.channels.get c).aspect ≠ some .green)
    (hsched : ¬(s.sup.mode = .flash ∧ s.sup.reason = some .hostRequest ∧ s.sup.latched = false)) :
    steers s (committed s tag buf) ∧ (∀ g, groupAnew (unbuffered s) (committed s tag buf) g) ∧
      (∀ c, chanAnew (unbuffered s) (committed s tag buf) c) ∧
      (committed s tag buf).cbt = (emptiedBy (unbuffered s) buf).cbt ∧ quietFor ended (committed s tag buf) := by
  have hst' := structural_unbuffered hst
  have hsoftens : softens (unbuffered s) buf := fun c hc => by
    obtain ⟨hf, hb, hg⟩ := hardens_iff.mp hc
    exact hsoft c hf hb hg
  have hsteers : steers (unbuffered s) (followedBy (unbuffered s) buf) := sup_followedBy hst' hsoftens
  have hrest : rested (followedBy (unbuffered s) buf) := rested_of_steers hsteers hsched hm
  obtain ⟨hacts, hend⟩ := scheduleAtCommit_rested (G := fun _ => True) hrest
  have hmode : (followedBy (unbuffered s) buf).scheduleAtCommit.sup.mode ≠ .normal := fun hn => by
    have := hrest.1
    rw [← hend.1, hn] at this
    exact absurd this (by decide)
  have heq : (unbuffered s).applyCommit buf = (followedBy (unbuffered s) buf).scheduleAtCommit := by
    rw [applyCommit_eq, retakeActive_of_mode _ hmode]
  have hleaves : leaves (followedBy (unbuffered s) buf) (committed s tag buf) := by
    unfold committed
    rw [heq]
    exact leaves_closed s (leaves_of_acts hacts) tag 0x13#8 .ok [0#8]
  have hsup : (committed s tag buf).sup = (followedBy (unbuffered s) buf).scheduleAtCommit.sup := by
    rw [← heq]; exact closeAdditions_sup _ _
  have hentries : (committed s tag buf).flt.entries = (followedBy (unbuffered s) buf).scheduleAtCommit.flt.entries := by
    rw [← heq]; exact closeAdditions_entries _ _
  refine ⟨steers_trans (steers_trans hsteers hend) (steers_of_sup hsup), fun g => groupAnew_of hleaves (group_followedBy hst' hsoftens g),
    fun c => chanAnew_of hleaves (chan_followedBy hst' hsoftens c), hleaves.2.2.2.2.2.trans (cbt_followedBy hst' hsoftens),
    quietFor_of_flt hentries (ended_acts hacts (quiet_followedBy hst' hsoftens))⟩

end Rebuild

open Rebuild Requests

/-- Settles O33: the refusals in their order, a commit that waits, and one that is applied, whose records are followed
through the steps of its application. -/
theorem editCommitAppliesPendsOrRefuses : Obligations.EditCommitAppliesPendsOrRefuses := by
  unfold Obligations.EditCommitAppliesPendsOrRefuses
  intro s tag body h
  refine ⟨fun hb => reads h rfl (by decide) (serveEditCommit_badLength hb), ?_, ?_, ?_⟩
  · rintro rfl hp
    exact reads h rfl (by decide) (serveEditCommit_busy (s := s.reserve) hp)
  · rintro rfl hp hb
    exact reads h rfl (by decide) (serveEditCommit_noSession (s := s.reserve) hp hb)
  · rintro buf rfl hp hb
    have hchecked (hc : buf.check = none) := serveEditCommit_checked (s := s.reserve) (tag := tag) hp hb hc
    have hstructure (hm : s.sup.mode = .unconfigured ∨ s.sup.mode = .flash ∨ s.sup.mode = .dark) :
        s.sup.mode.takesStructure = true := by rcases hm with hm | hm | hm <;> rw [hm] <;> rfl
    refine ⟨fun f hf => reads h rfl (by decide) (serveEditCommit_invalid (s := s.reserve) hp hb hf), ?_, ?_, ?_, ?_⟩
    · intro hc hst hu hf hd
      refine reads h rfl (by decide) ((hchecked hc).trans (if_pos ⟨hst, Bool.eq_false_iff.mpr fun ht => ?_⟩))
      rcases mode_of_takesStructure ht with hm | hm | hm
      · exact hu hm
      · exact hf hm
      · exact hd hm
    · intro hc hst hr
      refine answers h rfl (by decide)
        (t := s.onCfg fun c => { c with buffer := none, pendingCommit := some buf.tm })
        ((hchecked hc).trans ((if_neg fun hg => hg.1 hst).trans (if_pos ⟨hst, hr⟩))) ⟨h.1.1, fun hd => ?_⟩ rfl
      have hd' : s.sup.mode.drains = true := hd
      cases hm : s.sup.mode <;> rw [hm] at hr hd' <;> simp [Mode.runs, Mode.drains] at hr hd'
    · intro hc hm
      have happly : appliesIn s buf := by
        rcases hm with hm | hm | hm | hm
        · exact .inl (hstructure (.inl hm))
        · exact .inl (hstructure (.inr (.inl hm)))
        · exact .inl (hstructure (.inr (.inr hm)))
        · exact .inr hm
      exact ⟨_, exec_applied h hp hb hc happly, committed_spec hp (not_normal_of_applies happly)⟩
    · intro hc hst hm
      have hexec := exec_applied h hp hb hc (.inl (hstructure hm))
      refine ⟨?_, fun hsoft hsched => ?_⟩
      · rintro ⟨c, hf, hb', hg⟩ ht
        exact ⟨_, hexec, committed_struck hst ht hf hb' hg⟩
      · obtain ⟨⟨hmode, hreason, hlatched⟩, hgroups, hchans, hcbt, hquiet⟩ :=
          committed_anew (tag := tag) (hstructure hm) hst hsoft hsched
        obtain ⟨hcable, hresult, hrest⟩ := fields_of_cbt (s := unbuffered s) hcbt
        refine ⟨_, hexec, hmode, hreason, hlatched, fun g => fields_of_groupAnew (s := unbuffered s) (hgroups g), fun c => ?_, hresult, ?_⟩
        · obtain ⟨h1, h2, h3, h4, h5, h6, h7, h8, h9, h10, h11⟩ := fields_of_chanAnew (s := unbuffered s) (hchans c)
          exact ⟨h1, h2, h3, h4, h5, h6, h7, h8, h9, h10, h11, hcable c⟩
        · obtain ⟨r1, r2, r3, r4, r5, r6, r7, r8⟩ := hrest
          exact ⟨r1, r2, r3, r4, r5, r6, r7, r8, hquiet⟩

end Sys2Proof.Machine
end


section

/-! PROOFS. Two statements about an applied commit (O53, O60) say that the wear of every channel is judged in the state it
leaves. A pull-in that is counted within the same step takes the operation count to at most 2^32 - 1. Where the count and
the threshold stand above that, the commit makes RELAY_WEAR ACTIVE and the pull-in takes the count below the threshold
again. -/

namespace Sys2Proof.Machine

set_option Elab.async false

namespace Worn

/-- One above the largest operation count that a pull-in leaves. -/
def beyond : Nat := 4294967296

/-- Timing records whose threshold for CH1 lies above what a pull-in leaves, with one plan that has an entry. -/
def records : Timing :=
  { Timing.empty with
    settings := Timing.empty.settings.put 0 { ChanSettings.empty with wear := beyond }
    plans := Timing.empty.plans.put 0 ⟨600, 0, 10, .shortest, [⟨0, 600, 50, false, false⟩]⟩ }

/-- Two traffic groups in conflict, with no red heads, and CH1 the RED of the first. -/
def site : ConfigSet :=
  { st :=
      { Structural.empty with
        groups := (Structural.empty.groups.put 0 ⟨some .traffic, [], [], []⟩).put 1 ⟨some .traffic, [], [], []⟩
        channels := Structural.empty.channels.put 0 ⟨some 0, some .red, .led, 1⟩
        conflicts := (Structural.empty.conflicts.put 0 [1]).put 1 [0] }
    tm := records }

/-- G1 stands in RED_AMBER and is inhibited by the commit, which turns it back and so starts a relay whose terminal carries
FULL already. -/
def standing (m : Mode) : State :=
  { State.reset with
    cfg := { running := site, buffer := none, pendingCommit := some records, committed := true }
    seq :=
      { Seq.reset with
        groups := Seq.reset.groups.put 0 { GroupRun.reset with colour := .redAmber }
        active := some 0, changePoint := true, tickOpen := true }
    out :=
      { Out.reset with
        chans := Out.reset.chans.put 0 { ChanRun.reset with proof := .opened, indication := .full, opCount := beyond }
        contactor := { Contactor.reset with proof := .closed } }
    sup := { Sup.reset with mode := m } }

/-- RELAY_WEAR stands for CH1 though its count is below its threshold. -/
def misjudged (t : State) : Bool :=
  decide ((t.chan 0).opCount < (t.settings 0).wear) &&
    t.flt.entries.any fun e => e.kind == .relayWear && e.subject == .channel 0 && e.active

theorem not_wearJudged_of_misjudged {t : State} (h : misjudged t = true) : ¬ t.wearJudged := by
  intro hw
  obtain ⟨hlow, hon⟩ := Bool.and_eq_true_iff.mp h
  obtain ⟨e, he, hk⟩ := List.any_eq_true.mp hon
  simp only [Bool.and_eq_true, beq_iff_eq] at hk
  obtain ⟨⟨hkind, hsub⟩, hact⟩ := hk
  have hoff := (hw 0 _ rfl).2 (fun hworn => absurd (of_decide_eq_true hlow) (Nat.not_lt.mpr hworn.2)) e he hkind hsub
  exact absurd hact (by simp [hoff])

/-- The command leaves a state in which the wear of CH1 is misjudged. -/
def misjudges (c : Instr) (s : State) : Bool :=
  match exec c s with
  | .next t => misjudged t
  | _ => false

theorem not_commits_of_misjudges {c : Instr} {s u t : State} {tm : Timing} (h : misjudges c s = true)
    (ht : exec c s = .next t) : ¬ u.commits t tm := by
  unfold misjudges at h
  rw [ht] at h
  exact fun hc => not_wearJudged_of_misjudged h hc.2.2.2.2.2.1

theorem changePoint_misjudges : misjudges .changePoint (standing .normal) = true := by decide +kernel

theorem startupRedEnd_misjudges : misjudges .startupRedEnd (standing .startupRed) = true := by decide +kernel

theorem selection_standing (m : Mode) : ((standing m).selectionUnder records).action = .plan 0 := by
  show (records.select none false Date.epoch 0).action = .plan 0
  decide +kernel

theorem betweenSteps_standing {m : Mode} (hm : m.drains = false) : (standing m).betweenSteps :=
  ⟨rfl, fun h => absurd h (ne_true_of_eq_false hm)⟩

end Worn

/-- Refutes O53: at a change point that takes a commit, the wear of CH1 is judged before the pull-in that lowers its count
below the threshold. -/
theorem not_cycleStartsAndChangePoints : ¬ Obligations.CycleStartsAndChangePoints := by
  unfold Obligations.CycleStartsAndChangePoints
  rintro ⟨_, _, _, h⟩
  obtain ⟨hplan, _⟩ := h (Worn.standing .normal) Worn.records (Worn.betweenSteps_standing rfl) rfl rfl rfl
    (by decide +kernel)
  obtain ⟨t, ht, hcommits, _⟩ := hplan 0 (Worn.selection_standing _)
  exact Worn.not_commits_of_misjudges Worn.changePoint_misjudges ht hcommits

/-- Refutes O60: the same at the entry to NORMAL that takes a commit. -/
theorem not_startupRecoveryAndSupply : ¬ Obligations.StartupRecoveryAndSupply := by
  unfold Obligations.StartupRecoveryAndSupply
  rintro ⟨h, _⟩
  obtain ⟨_, _, hred, _⟩ := h (Worn.standing .startupRed) Worn.records (Worn.betweenSteps_standing rfl) rfl
  obtain ⟨hplan, _⟩ := hred rfl rfl (by decide +kernel) rfl
  obtain ⟨t, ht, hcommits, _⟩ := hplan 0 (Worn.selection_standing _)
  exact Worn.not_commits_of_misjudges Worn.startupRedEnd_misjudges ht hcommits

end Sys2Proof.Machine
end


section

/-! PROOFS. One statement about every step (O6) says that a command that leaves FLASHING brings back the verdict that its
channel had saved when the step began. In FLASH with a timing commit still pending, which no step leaves behind (R191), a
LAMP_RELEARN writes the saved verdict, and the end of the same step applies the commit, whose evaluation ends the scheduled
FLASH, and with it the FLASHING. -/

namespace Sys2Proof.Machine

set_option Elab.async false

namespace Recalled

/-- One traffic group without red heads, whose amber is CH1. -/
def site : ConfigSet :=
  { st :=
      { Structural.empty with
        groups := Structural.empty.groups.put 0 ⟨some .traffic, [], [], []⟩
        channels := Structural.empty.channels.put 0 ⟨some 0, some .amber, .led, 1⟩ }
    tm :=
      { Timing.empty with
        groupTimings := Timing.empty.groupTimings.put 0 { Timing.empty.groupTimings.get 0 with redMin := 0 } } }

/-- A scheduled FLASH: CH1 flashes with the verdict GOOD saved, the records in force are pending once more, and a LAMP_RELEARN
of CH1 waits. -/
def standing : State :=
  { State.reset with
    pending := [.lampRelearn 1 [1]]
    cfg := { running := site, buffer := none, pendingCommit := some site.tm, committed := true }
    seq := { Seq.reset with groups := Seq.reset.groups.put 0 { GroupRun.reset with colour := .flashAmber } }
    out := { Out.reset with chans := Out.reset.chans.put 0 { ChanRun.reset with command := .flashing } }
    lmp := State.reset.lmp.put 0 { LampRec.reset with verdict := .held, saved := some .good }
    sch := { State.reset.sch with action := some .flash }
    sup := { Sup.reset with mode := .flash, reason := some .hostRequest } }

theorem followsColours_standing : standing.followsColours := by
  unfold State.followsColours
  decide +kernel

/-- Red health, inhibition, observed green and grace are what the records and the channels give. -/
theorem groups_standing (g : Gid) : (standing.group g).observedGreen = standing.showsGreen g ∧
    (standing.group g).redHealth = standing.redHealthOf g ∧ (standing.group g).inhibited = standing.inhibitedBy g ∧
    (standing.sup.grace.get g ≠ .idle ↔ standing.graceRuns g = true) := by
  revert g
  decide +kernel

theorem channels_standing (c : Ch) :
    ((standing.chan c).steadySince ≠ none ↔ (standing.chan c).command = .on ∧ (standing.chan c).proof = .closed) ∧
    ((standing.lamp c).leak ≠ none ↔ standing.leakRuns c = true) ∧
    ((standing.lamp c).verdict = .held ↔ (standing.chan c).command = .flashing) ∧
    ((standing.lamp c).saved ≠ none ↔ (standing.lamp c).verdict = .held) ∧
    ((standing.chan c).command ≠ .on ∨ (standing.chan c).proof ≠ .closed ∨ (standing.lamp c).maintenance = true →
      (standing.lamp c).set = none ∧ (standing.lamp c).run = none ∧
        ((standing.lamp c).learn = .unlearned ∨ (standing.lamp c).learn = .learning 0 ∨ (standing.lamp c).learn = .learned)) := by
  revert c
  decide +kernel

theorem handedOn_standing : standing.handedOn :=
  ⟨by decide +kernel, groups_standing, by decide +kernel, channels_standing⟩

/-- The records in force stand, and CH1 has left FLASHING with another verdict than GOOD. -/
def forgets (t : State) : Bool :=
  decide (t.cfg.running = standing.cfg.running) && decide ((t.chan 0).command ≠ .flashing) &&
    decide ((t.lamp 0).verdict ≠ .good)

/-- A step forgets the verdict. -/
def forgetsNext (o : Host.Outcome State Fault Refusal) : Bool :=
  match o with
  | .next t => forgets t
  | _ => false

theorem step_forgets : forgetsNext (step standing) = true := by decide +kernel

theorem exists_forgotten : ∃ t, step standing = .next t ∧ forgets t = true := by
  have h := step_forgets
  cases ho : step standing with
  | next t => rw [ho] at h; exact ⟨t, rfl, h⟩
  | _ => rw [ho] at h; exact absurd h nofun

theorem not_handsOver_of_forgets {t : State} (h : forgets t = true) : ¬ standing.handsOver t := by
  simp only [forgets, Bool.and_eq_true, decide_eq_true_eq] at h
  obtain ⟨⟨hcfg, hoff⟩, hverdict⟩ := h
  rintro ⟨-, -, -, -, hflash⟩
  have hback : some (t.lamp 0).verdict = (standing.lamp 0).saved := (hflash hcfg 0).2 (by decide +kernel) hoff
  have hsaved : (standing.lamp 0).saved = some .good := by decide +kernel
  exact hverdict (Option.some.inj (hback.trans hsaved))

end Recalled

/-- Refutes O6: a LAMP_RELEARN in FLASH writes the saved verdict of a FLASHING channel, and a pending commit, applied at the
end of the same step, ends the FLASHING with it. -/
theorem not_commandsFollowColours : ¬ Obligations.CommandsFollowColours := by
  unfold Obligations.CommandsFollowColours
  rintro ⟨-, h⟩
  obtain ⟨t, ht, hforgets⟩ := Recalled.exists_forgotten
  obtain ⟨-, hover⟩ := h Recalled.standing t Recalled.followsColours_standing Recalled.handedOn_standing ht
  exact Recalled.not_handsOver_of_forgets hforgets hover

end Sys2Proof.Machine
end
